-- ==== Sys2Proof/Word.lean ====
section
/-! DEFINITION. Word.lean: the word types of the module (R9). -/

namespace Sys2Proof

/-- One byte, the smallest addressable unit (R9). -/
abbrev Byte := BitVec 8

/-- A 32-bit register, a scalar register k0 to k31, an instruction word (R112, R116, R470). -/
abbrev Word := BitVec 32

/-- A 64-bit value: addresses, tags, patterns, fingerprints (R9, R260, R395). -/
abbrev DWord := BitVec 64

end Sys2Proof
end

