-- ==== Sys2Proof/Config.lean ====
section
/-! DEFINITION. Config.lean: what a part fixes at the factory or by its firmware, and the free values. None has a body. -/

namespace Sys2Proof.Config

/-- The n-th free value of a run: every value the manual leaves open is a part of it. -/
opaque freeWord : Nat → DWord

/-- The bytes of a free line or record, by the free-value counter and the byte index. -/
opaque freeByte : Nat → Nat → Byte

/-- The grade in one-time-programmable storage (R4): 0 grade A, 1 grade B, any other value grade C. -/
opaque gradeCode : BitVec 2

/-- The order in which the factory chose the cores of this part: by this value, the lower index first among equals (R3). Any choice of
enabled, spare and off cores is such an order. -/
opaque coreOrder : Nat → Nat

/-- How many good spares beyond 32 the part has (R3), taken modulo what its grade leaves room for. -/
opaque moreSpares : Nat

/-- SILICON_STEP (R414, R498). -/
opaque siliconStep : Byte

/-- The module serial number (R414). -/
opaque serial : DWord

/-- FW_BUILD, the build number of the firmware shipped (R414). -/
opaque fwBuild : DWord

/-- The reserved bits of a register after module reset on this silicon step, by register key (R476). -/
opaque reservedReset : Nat → Word

/-- Certificates and digests of the module (R520, R534): 0 DEVICE_CERT, 1 ATTEST_CERT, 2 PRODUCT_CA_CERT, 4 DEVICE_KEY_ID,
5 PRODUCT_CA_KEY_ID, 6 DEVICE_ROOT_DIGEST, 7 FIRMWARE_ROOT_DIGEST, 8 CORD_ROOT_DIGEST, 9 the IMAGE_DIGEST of the firmware shipped in slot A. -/
opaque keyBytes : Nat → List Byte

/-- The modulus of the attestation key (R520). -/
opaque attestModulus : Nat

/-- The private exponent of the attestation key, which only the root of trust reads (R520, R521). -/
opaque attestExponent : Nat

/-- The contents of the FRU store (R559), by byte offset. -/
opaque fruByte : Nat → Byte

/-- ENABLED_CORES by grade (R3). -/
def enabledCores : Nat := if gradeCode = 0#2 then 9088 else if gradeCode = 1#2 then 8960 else 8704

/-- Good spares of the part: 32 at least, and at most every core that is not enabled (R3). -/
def spareCores : Nat := 32 + moreSpares % (9216 - enabledCores - 31)

/-- The place of a physical core in the order of the part: how many of the 9,216 come before it (R3). -/
def coreRank (c : Nat) : Nat :=
  ((List.range 9216).filter fun d => coreOrder d < coreOrder c || (coreOrder d = coreOrder c && d < c)).length

/-- GRADE as ID_VERSION reports it: 1 A, 2 B, 3 C (R498). -/
def grade : Nat := if gradeCode = 0#2 then 1 else if gradeCode = 1#2 then 2 else 3

/-- ORDERING_CODE, the first character first (R3, R414). -/
def orderingCode : List Byte :=
  let mid : List Byte :=
    if gradeCode = 0#2 then [0x41, 0x39, 0x30, 0x38, 0x38]
    else if gradeCode = 1#2 then [0x42, 0x38, 0x39, 0x36, 0x30] else [0x43, 0x38, 0x37, 0x30, 0x34]
  [0x4C, 0x58, 0x39, 0x36, 0x2D] ++ mid ++ [0x2D, 0x4C]

end Sys2Proof.Config
end

