-- ==== Sys2Proof/Machine/Base.lean ====
section
/-! DEFINITION. Machine/Base.lean: sparse tables and byte memories in one canonical form, and byte order (R9). -/

namespace Sys2Proof.Machine

/-- A sparse table: (key, value) pairs, keys strictly rising. A key that is not listed has its owner's reset entry. -/
abbrev Tbl (α : Type) := List (Nat × α)

/-- The entry of a key, if it is listed. -/
def Tbl.at {α : Type} : Tbl α → Nat → Option α
  | [], _ => none
  | (k, v) :: t, i => if k == i then some v else Tbl.at t i

/-- Writes the entry of a key, keeping the keys strictly rising. -/
def Tbl.put {α : Type} : Tbl α → Nat → α → Tbl α
  | [], i, v => [(i, v)]
  | (k, w) :: t, i, v =>
    if i < k then (i, v) :: (k, w) :: t
    else if k == i then (i, v) :: t
    else (k, w) :: Tbl.put t i v

/-- Removes a key. -/
def Tbl.del {α : Type} (t : Tbl α) (i : Nat) : Tbl α := t.filter fun p => p.1 != i

/-- A byte memory: (address, byte) pairs (Host.Cell), addresses strictly rising. -/
abbrev Mem := List Host.Cell

/-- What an unlisted address of a memory reads as: a byte, or no value. -/
abbrev Background := Nat → Option Byte

/-- Every unlisted byte reads as zero: a core store the loader has written (R84). -/
def zeroBackground : Background := fun _ => some 0

/-- No unlisted byte has a value: memory nothing has written (R323). -/
def noBackground : Background := fun _ => none

/-- What an unlisted byte of a range reads as once the range carries nothing any more: a free byte; zero before, and elsewhere
(R84, R135). -/
def freeBackground (lo hi : Nat) (free : Option Nat) (rest : Background) : Background := fun a =>
  match free with
  | some n => if lo ≤ a && a < hi then some (Config.freeByte n a) else rest a
  | none => rest a

/-- The byte at an address: the listed one, else the background. -/
def Mem.get (bg : Background) (m : Mem) (a : Nat) : Option Byte :=
  match Tbl.at m a with
  | some b => some b
  | none => bg a

/-- The cells of a byte string laid at an address, leaving out bytes equal to the background. -/
def Mem.cellsOf (bg : Background) : Nat → List Byte → Mem
  | _, [] => []
  | a, b :: bs => if bg a = some b then Mem.cellsOf bg (a + 1) bs else (a, b) :: Mem.cellsOf bg (a + 1) bs

/-- Writes a byte string at an address, keeping the canonical form. -/
def Mem.write (bg : Background) (m : Mem) (a : Nat) (bs : List Byte) : Mem :=
  m.filter (fun c => c.1 < a) ++ Mem.cellsOf bg a bs ++ m.filter (fun c => a + bs.length ≤ c.1)

/-- Removes every listed byte of a range: it reads as the background again. -/
def Mem.clear (m : Mem) (a n : Nat) : Mem := m.filter fun c => c.1 < a || a + n ≤ c.1

/-- Reads n bytes from an address; none if any of them has no value. -/
def Mem.read (bg : Background) (m : Mem) (a : Nat) : Nat → Option (List Byte)
  | 0 => some []
  | n + 1 =>
    match Mem.get bg m a, Mem.read bg m (a + 1) n with
    | some b, some bs => some (b :: bs)
    | _, _ => none

/-- The addresses of a list of cells rise strictly, starting above a bound. -/
def Mem.sortedFrom : Nat → Mem → Bool
  | _, [] => true
  | lo, (a, _) :: t => decide (lo ≤ a) && Mem.sortedFrom (a + 1) t

/-- The canonical form of a memory over a background: addresses strictly rising, no entry equal to what the unlisted
address reads as. -/
def Mem.wf (bg : Background) (m : Mem) : Bool :=
  Mem.sortedFrom 0 m && m.all fun c => decide (bg c.1 ≠ some c.2)

/-- The little-endian number of a byte string (R9). -/
def leNat : List Byte → Nat
  | [] => 0
  | b :: bs => b.toNat + 256 * leNat bs

/-- The first n bytes of a number, little-endian (R9). -/
def leBytes : Nat → Nat → List Byte
  | 0, _ => []
  | n + 1, v => BitVec.ofNat 8 (v % 256) :: leBytes n (v / 256)

/-- n zero bytes. -/
def zeros (n : Nat) : List Byte := List.replicate n 0

/-- The bytes [from, from + len) of a byte string. -/
def slice (bs : List Byte) (start len : Nat) : List Byte := (bs.drop start).take len

/-- The little-endian field of len bytes at an offset of a byte string. -/
def fieldAt (bs : List Byte) (start len : Nat) : Nat := leNat (slice bs start len)

/-- Pads a byte string with zeros to a multiple of n bytes. -/
def padTo (n : Nat) (bs : List Byte) : List Byte := bs ++ zeros ((n - bs.length % n) % n)

/-- A bit of a natural number, as a natural number. -/
def bitAt (v i : Nat) : Nat := v / 2 ^ i % 2

/-- The field [hi:lo] of a number, both ends included (R9). -/
def bitsAt (v hi lo : Nat) : Nat := v / 2 ^ lo % 2 ^ (hi + 1 - lo)

/-- The number held by a two's-complement field of n bits. -/
def signed (n v : Nat) : Int := if v % 2 ^ n < 2 ^ (n - 1) then (v % 2 ^ n : Nat) else ((v % 2 ^ n : Nat) : Int) - (2 ^ n : Nat)

/-- A signed number as the two's-complement field of n bits. -/
def toField (n : Nat) (x : Int) : Nat := (x % ((2 ^ n : Nat) : Int)).toNat

/-- A counter that saturates at a limit. -/
def satInc (limit v : Nat) : Nat := if v < limit then v + 1 else limit

/-- The smallest multiple of n at or above v. -/
def roundUp (n v : Nat) : Nat := (v + n - 1) / n * n

/-- Truth as a number, for flag bits. -/
def bitOf (b : Bool) : Nat := if b then 1 else 0

/-- One management log record (R567). -/
def logRecord (kind : Nat) (persistent : Bool) (boots seq time : Nat) (data : List Byte) : List Byte :=
  leBytes 1 kind ++ leBytes 1 (bitOf persistent) ++ leBytes 2 boots ++ leBytes 4 seq ++ leBytes 8 time ++
    (data ++ zeros (16 - data.length)).take 16

/-- The records of a power-up (R567, R599): BOOT of image A, MAIN rails enabled, EVENT MAIN_CHANGE. -/
def powerUpLog : List (List Byte) :=
  [logRecord 0x01 true 1 1 0 [], logRecord 0x08 true 1 2 0 [1], logRecord 0x04 false 1 3 0 [0x80]]

end Sys2Proof.Machine
end

