-- ==== Sys2Proof/Machine/Msg.lean ====
section
/-! DEFINITION. Machine/Msg.lean: the messages that units exchange, and the data that commands carry in from outside. -/

namespace Sys2Proof.Machine

/-- A page of a register block: value, SET, CLEAR, TOGGLE (R473). -/
inductive Page where
  | value
  | set
  | clear
  | toggle
  deriving DecidableEq, Repr

/-- Message kinds of R234. -/
inductive MsgKind where
  | binary
  | relaxation
  | categorical
  | exchange
  deriving DecidableEq, Repr

/-- A state, exchange-result or prologue message: the header of R234 and the payload of R236. -/
structure StateMsg where
  configTag : Nat
  epoch : Nat
  phase : Nat
  kind : MsgKind
  prologue : Bool
  empty : Bool
  runGen : Nat
  keyBase : Nat
  srcPart : Nat
  srcVarBase : Nat
  destBlock : Nat
  replica : Nat
  newRung : Nat
  destPart : Nat
  destSlot : Nat
  destModule : Nat
  member : List Nat      -- local indices of the members at the sender, ascending (MEMBER)
  vals : List Int        -- by rank: binary +1 or -1; relaxation change or value; categorical state
  flip : List Bool       -- by rank: FLIP of binary members (R236)
  deriving DecidableEq, Repr

/-- A broadcast vector with its sender's sweep clock and run generation (R248). -/
structure BcastMsg where
  slot : Nat
  replica : Nat
  block : Nat            -- the receiving block of the chain (R247)
  epoch : Nat
  phase : Nat
  runGen : Nat
  data : BitVec 512
  deriving DecidableEq, Repr

/-- What a partial carries: a signed integer, or a compensated pair of FP32 patterns (R202). -/
inductive PartialVal where
  | int (v : Int)
  | pair (s c : Word)
  deriving DecidableEq, Repr

/-- A partial on its way to a leaf (R127, R196). Tree 16 is the exchange tree (R159). -/
structure PartialMsg where
  module : Nat
  slot : Nat
  configTag : Nat        -- checked on exchange partials between parts (R164)
  replica : Nat
  tree : Nat
  epoch : Nat
  leaf : Nat
  block : Nat
  cluster : Nat
  runGen : Nat
  val : PartialVal
  floatSat : Bool
  deriving DecidableEq, Repr

/-- A group value V(6, g) or a cluster's integer sum on its way to the root (R211, R212). -/
structure GroupMsg where
  module : Nat
  slot : Nat
  replica : Nat
  tree : Nat
  epoch : Nat
  group : Nat
  block : Nat            -- the writing block-replica's block; for an integer sum, not read
  part : Nat
  cluster : Nat
  runGen : Nat
  val : PartialVal
  leafTop : Nat
  floatSat : Bool
  deriving DecidableEq, Repr

/-- A close token, with the cluster that sends it (R212). -/
structure CloseMsg where
  module : Nat
  slot : Nat
  replica : Nat
  tree : Nat
  epoch : Nat
  part : Nat
  cluster : Nat
  blockCount : Nat
  closed : Nat
  runGen : Nat
  deriving DecidableEq, Repr

/-- A replica's exchange energy E_q on its way to the root of replica 0's exchange tree (R239). -/
structure EnergyMsg where
  slot : Nat
  replica : Nat
  epoch : Nat
  runGen : Nat
  s : Word
  c : Word
  deriving DecidableEq, Repr

/-- Who waits at a general sync object: a core of this module in an epoch, a host order, or a unit of another module. -/
inductive Waiter where
  | core (core : Nat) (epoch : Nat)
  | order (id : Nat)
  | remote (module tag epoch : Nat)
  deriving DecidableEq, Repr

/-- A signal to a general sync object (R244, R245). -/
structure SyncSignal where
  object : Nat           -- hall address
  source : Nat := 65536  -- issuing core; 9,216 + k the sync unit of cluster k; 65,536 any other unit (R285)
  count : Nat
  epoch : Nat
  runGen : Nat
  slot : Nat             -- issuer's slot; 0xFE host or remote
  deriving DecidableEq, Repr

/-- A waiter registration (R246). -/
structure WaitReg where
  object : Nat
  epoch : Nat
  runGen : Nat
  slot : Nat
  waiter : Waiter
  deriving DecidableEq, Repr

/-- Operations of the fabric (R359). -/
inductive RemoteOp where
  | read
  | write
  | add
  | maxu
  | maxs
  | cas
  | bulkRead
  | bulkWrite
  | signal
  | waitReg
  deriving DecidableEq, Repr

/-- STATUS of a response (R361). -/
inductive RStatus where
  | ok
  | refused (detail : Nat)
  | poisoned
  | fenced
  | unreachable (detail : Nat)
  deriving DecidableEq, Repr

/-- A remote request (R360), with the data lines of a BULK_WRITE. -/
structure Request where
  op : RemoteOp
  address : Nat          -- hall address
  operandA : Nat
  operandB : Nat
  srcModule : Nat
  tag : Nat
  linesM1 : Nat
  runGen : Nat
  epoch : Nat
  data : List Byte
  deriving DecidableEq, Repr

/-- A response (R361), with the data lines of a BULK_READ. -/
structure Response where
  status : RStatus
  value : Nat
  address : Nat
  respModule : Nat
  tag : Nat
  destModule : Nat
  data : List Byte
  deriving DecidableEq, Repr

/-- Lock-step message bodies of R271. -/
structure LockMsg where
  slot : Nat
  digest : List Byte
  value : Nat
  epoch : Nat
  replica : Nat
  phase : Nat
  cause : Nat
  deriving DecidableEq, Repr

/-- What a message between units or modules holds. -/
inductive Msg where
  | state (m : StateMsg)
  | bcast (m : BcastMsg)
  | part (m : PartialMsg)
  | group (m : GroupMsg)
  | close (m : CloseMsg)
  | energy (m : EnergyMsg)
  | freeze (slot module : Nat) (hard : Bool)
  | freezeReply (slot module part highest : Nat)
  | limit (slot module epochLimit : Nat)
  | drained (slot module part : Nat)
  | fault (slot module status : Nat)
  | ckptDone (slot module part epoch : Nat)
  | ckptCommit (slot module epoch : Nat)
  | hello (port : Nat) (m : LockMsg)
  | fp (port : Nat) (m : LockMsg)
  | halt (port : Nat) (m : LockMsg)
  | lsEnd (port : Nat) (m : LockMsg)
  | lockOut (kind port : Nat) (m : LockMsg)   -- a lock-step message this module sends (LS_KIND of R271)
  | signal (m : SyncSignal)
  | waitReg (m : WaitReg)
  | notice (w : Waiter) (object generation : Nat)
  | fencedNotice (cluster core slot : Nat)
  | request (r : Request)
  | response (r : Response)
  | broadcast (port : Nat) (r : Request) (hops : Nat)    -- arriving; port 12 is this module's own (R366)
  | sieve (core var state : Nat)
  deriving DecidableEq, Repr

/-- What the check bits of a flit say at a router (R287). -/
inductive FlitCheck where
  | good
  | corrected
  | badData
  | badControl
  deriving DecidableEq, Repr

/-- A packet in the mesh: the head control word of R286 and the check outcome of each of its flits. -/
structure Packet where
  vc : Nat
  destCluster : Nat
  destPort : Nat
  poison : Bool
  flits : List FlitCheck
  payload : Option Msg
  deriving DecidableEq, Repr

/-- A packet in an input buffer: whether its flits have been checked there, and whether it holds the reserved flit of its channel (R287, R289). -/
structure HeldPacket where
  pkt : Packet
  checked : Bool
  reserved : Bool
  deriving DecidableEq, Repr

/-- Traffic that meets a fenced core's router (R297, R298). -/
inductive ColanderItem where
  | passing (m : BcastMsg)
  | request (r : Request)
  | stateMsg (m : StateMsg) (fromCluster : Nat)
  | vector (m : BcastMsg) (fromCluster : Nat)
  | sieveResult
  | reductionReply
  | partlyDelivered
  deriving DecidableEq, Repr

/-- What a slot of a data frame holds, by its tag (R342). -/
inductive SlotTag where
  | idle
  | data
  | tail
  | poisonData
  | poisonTail
  | link
  | neighbour
  | unused
  | head (vc : Nat)
  | single (vc : Nat)
  deriving DecidableEq, Repr

/-- A link slot (R346). -/
structure LinkSlot where
  ack : Option Nat
  nak : Option Nat
  replay : Option Nat
  poolRet : Nat
  vc1Ret : Nat
  vc0Ret : Nat
  deriving DecidableEq, Repr

/-- One slot of a data frame: its tag, and what its 64 bytes hold: a link slot, or the flit of a packet at an index, with the hop field
and the destination of its head. -/
structure FlitSlot where
  tag : SlotTag
  link : Option LinkSlot
  msg : Option Msg
  index : Nat
  hops : Nat
  destModule : Nat
  deriving DecidableEq, Repr

/-- A data frame as its decoder delivers it: the slots, the symbols corrected in each codeword, and the codewords that could not be
corrected (R341, R343). -/
structure DataFrame where
  slots : List FlitSlot
  corrected : List Nat
  bad : List Nat
  deriving DecidableEq, Repr

/-- A packet in a fabric station: its virtual channel, flits, hop field, destination, whether its data is poisoned, whether its
room is in the shared pool (R350), the port it arrived on, none for one of this module (R351, R354), and what it holds (R349). -/
structure FabricPacket where
  vc : Nat
  flits : Nat
  hops : Nat
  destModule : Nat
  poison : Bool
  pooled : Bool
  arrival : Option Nat
  msg : Msg
  deriving DecidableEq, Repr

/-- An alignment frame (R344). -/
structure AlignFrame where
  link : LinkSlot
  lanes : Nat
  width : Nat
  port : Nat
  moduleId : Nat
  nextFrame : Nat
  deriving DecidableEq, Repr

/-- A certificate of a cord's chain as its DER gives it: the signed body, the public key, keyUsage digitalSignature, the subject's
serialNumber, and the issuer's signature (R376, R522). -/
structure CordCert where
  body : List Byte
  modulus : Nat
  exponent : Nat
  digitalSignature : Bool
  subject : List Byte
  signature : List Byte
  deriving DecidableEq, Repr

/-- A cord end's answer to a CHALLENGE: its certificate chain, the end's own first, its signature, and the 64-byte end record (R376). -/
structure CordAnswer where
  chain : List CordCert
  signature : List Byte
  record : List Byte
  deriving DecidableEq, Repr

/-- The result that arrives for a module read of host memory: data, an error completion, or the completion timeout (R387, R399). -/
inductive ReadResult where
  | data (bytes : List Byte)
  | error
  | timeout
  deriving DecidableEq, Repr

/-- A request at the debug port (R535). -/
inductive DebugReq where
  | halt (target : Nat)
  | step (target : Nat)
  | read (target address : Nat)
  | write (target address : Nat) (value : Byte)
  deriving DecidableEq, Repr

/-- What a FLIT-free access of BAR4 or an SMBus read answered last (R394, R559). -/
inductive Reply where
  | none
  | data (bytes : List Byte)
  | poisonedData (n : Nat)
  | unsupported
  | abort
  | written
  | nack
  deriving DecidableEq, Repr

/-- The outcome of a self-test, a calibration or a BIST (R440, R444): whether the unit passed, the result word of the
unit, and whether VSAG_WARN or a core-voltage change met the measurement. -/
structure TestOutcome where
  pass : Bool
  value : Nat
  disturbed : Bool
  deriving DecidableEq, Repr

/-- The register spaces a REGISTER_WRITE reaches: BAR0 of the host, BAR2, the management BAR0 (R388, R558). -/
inductive RegSpace where
  | bar0
  | bar2
  | mgmt
  deriving DecidableEq, Repr

/-- What the mask ROM finds at a cold start (R527): the verification causes of image A and image B (0 good). -/
structure BootOutcome where
  causeA : Nat
  causeB : Nat
  deriving DecidableEq, Repr

/-- What start-up step 3 finds (R599): the cores that fail CORE_BIST, the LANE_OK masks below 0xFF, and whether CP and PHY
verify. -/
structure BistOutcome where
  failed : List Nat
  lanes : List (Nat × BitVec 8)
  fwGood : Bool
  deriving DecidableEq, Repr

/-- What the management controller samples each millisecond (R563) that no other command brings in. -/
structure TelemetryIn where
  mainMv : Nat
  auxMv : Nat
  vcoreMv : Nat
  inlet : Int
  outlet : Int
  tj : List Int
  deriving DecidableEq, Repr

/-- One block of a source pair: 128 consecutive raw samples, sample 0 first (R504, R505). -/
structure RawBlock where
  samples : List Byte
  deriving DecidableEq, Repr

end Sys2Proof.Machine
end

