-- ==== Sys2Proof/Syntax.lean ====
section
/-! DEFINITION. Syntax.lean: one constructor for every row of the table of operations and events. -/

namespace Sys2Proof

open Machine

/-- A command: a host command or management order the arbiter dispatched (`id` names it), a stage-program instruction a
core issues, a message that arrives, a register write, an event at a pin or a sensor, or a step a unit takes on its own.
Operands that nature supplies (readings, outcomes, data from outside) are operands of the command that brings them in. -/
inductive Instr where
  /-- NOP (R409). Host command that does nothing and completes when it is dispatched. -/
  | nop (id : Nat)
  /-- IDENTIFY (R414). Host command that writes the 128-byte identify record to host memory. -/
  | identify (id : Nat)
  /-- GET_STATUS (R415). Host command that returns at once the state of one slot or of the module. -/
  | getStatus (id : Nat)
  /-- JOURNAL_QUERY (R416). Host command that copies journal entries from FIRST_SEQ upward to host memory. -/
  | journalQuery (id : Nat)
  /-- FILL (R417). Host command that writes a 64-bit pattern into every word of a range, counting as a first write. -/
  | fill (id : Nat)
  /-- COPY (R418). Host command that copies a range between host and module memory or within module memory. -/
  | copy (id : Nat)
  /-- SCRUB_DECLARE (R419). Host command that adds or removes a scrub range in every station that holds a line of it. -/
  | scrubDeclare (id : Nat)
  /-- MODEL_CHECK (R69). Host command that validates an image in order and reports its fit class without touching a slot. -/
  | modelCheck (id : Nat)
  /-- MODEL_LOAD (R420). Host command that validates an image, places its block-replicas on free cores and makes the slot LOADED. -/
  | modelLoad (id : Nat)
  /-- MODEL_UNLOAD (R422). Host command that frees the slot's cores, slices, fold area and handles and leaves it EMPTY. -/
  | modelUnload (id : Nat)
  /-- SLOT_CONFIG (R423). Host command that reads a configuration block and stages the items whose PRESENT bits are set. -/
  | slotConfig (id : Nat)
  /-- SLOT_START (R424). Host command that puts staged settings in force, forms the settings segment and arms the launch objects. -/
  | slotStart (id : Nat)
  /-- SLOT_STOP (R425). Host command that begins a drain or a HARD stop of a running slot. -/
  | slotStop (id : Nat)
  /-- SLOT_SAVE (R459). Host command that writes the context of a stopped slot, header last. -/
  | slotSave (id : Nat)
  /-- SLOT_RESTORE (R460). Host command that checks a context in five steps and restores it, leaving the slot LOADED. -/
  | slotRestore (id : Nat)
  /-- SLOT_DISABLE (R427). Host command that stops a slot if needed and makes it DISABLED, aborting its commands in flight. -/
  | slotDisable (id : Nat)
  /-- SLOT_ENABLE (R428). Host command that returns a DISABLED slot to FAULTED, LOADED or STOPPED. -/
  | slotEnable (id : Nat)
  /-- SAMPLE_READ (R430). Host command that copies sample records of one capture to host memory. -/
  | sampleRead (id : Nat)
  /-- STATS_READ (R432). Host command that copies one statistics record to host memory. -/
  | statsRead (id : Nat)
  /-- RESULT_SEAL (R433). Host command that forms the seal record of a stopped slot and optionally has it signed. -/
  | resultSeal (id : Nat)
  /-- SYNC_ALLOC (R434). Host command that binds a handle and optionally allocates a general sync object. -/
  | syncAlloc (id : Nat)
  /-- SYNC_FREE (R435). Host command that unbinds a handle and frees the object, aborting host waits on it. -/
  | syncFree (id : Nat)
  /-- SYNC_SIGNAL (R436). Host command that performs a remote ADD signal on a PLAIN sync object. -/
  | syncSignal (id : Nat)
  /-- SYNC_WAIT (R436). Host command that registers as a waiter on a PLAIN object and completes at its next fire. -/
  | syncWait (id : Nat)
  /-- ENTROPY_GET (R437). Host command that requests conditioned entropy bytes into host memory. -/
  | entropyGet (id : Nat)
  /-- SEED_FROM_ENTROPY (R437). Host command that requests a 32-byte seed from conditioned entropy for a slot. -/
  | seedFromEntropy (id : Nat)
  /-- SELFTEST (R438). Host command that runs a self-test on a unit, deferring or forcing it when it is intrusive. -/
  | selftest (id : Nat) (outcome : TestOutcome)
  /-- CALIBRATE (R438). Host command that calibrates a PHY or lane, deferring or forcing it when it is intrusive. -/
  | calibrate (id : Nat) (outcome : TestOutcome)
  /-- FABRIC_CONFIG (R441). Host command that sets the module ID, port enables and timeouts, optionally waiting for ports to settle. -/
  | fabricConfig (id : Nat)
  /-- ROUTE_LOAD (R442). Host command that loads the routing table into every copy while holding fabric injections. -/
  | routeLoad (id : Nat)
  /-- PORT_STATE (R443). Host command that queries, enables, disables or retrains one fabric port. -/
  | portState (id : Nat)
  /-- CORE_FENCE (R444). Host command that fences a core with castling, or with LIFT runs BIST to return it to SPARE. -/
  | coreFence (id : Nat) (outcome : TestOutcome)
  /-- CORE_CASTLE (R445). Host command that moves a core's block-replicas onto a spare from the last checkpoint and fences it. -/
  | coreCastle (id : Nat)
  /-- LOCKSTEP_BEGIN (R270). Host command that sends HELLO to a partner module and waits to compare HELLOs. -/
  | lockstepBegin (id : Nat)
  /-- LOCKSTEP_END (R446). Host command that sends END and ends lock-step for the slot. -/
  | lockstepEnd (id : Nat)
  /-- COUNTER_CONFIG (R447). Host command that sets an event, clears, freezes or runs the counters of a unit. -/
  | counterConfig (id : Nat)
  /-- TAG_CONFIG (R447). Host command that sets the tagging rate and slot. -/
  | tagConfig (id : Nat)
  /-- ATTEST (R533). Host command that writes a signed attestation report carrying the nonce. -/
  | attest (id : Nat)
  /-- KEY_INFO (R534). Host command that writes a certificate, chain or key record. -/
  | keyInfo (id : Nat)
  /-- MG_TELEMETRY (R563). Management command that writes the latest 256-byte telemetry record. -/
  | mgTelemetry (id : Nat)
  /-- MG_POWER_CAP (R548). Management command that sets or removes the management power cap. -/
  | mgPowerCap (id : Nat)
  /-- MG_FENCE (R572). Management command that fences a core as CORE_FENCE does, with precedence over host packets. -/
  | mgFence (id : Nat) (outcome : TestOutcome)
  /-- MG_CORD_INFO (R565). Management command that writes cord status and end records of all twelve ports. -/
  | mgCordInfo (id : Nat)
  /-- MG_FW_STAGE (R569). Management command that erases or programs a chunk of the idle firmware image slot and verifies it on LAST. -/
  | mgFwStage (id : Nat)
  /-- MG_FW_ACTIVATE (R570). Management command that marks the staged image TRIAL and performs a module reset. -/
  | mgFwActivate (id : Nat)
  /-- MG_RESET (R571). Management command that performs a warm or module reset, optionally aligned. -/
  | mgReset (id : Nat)
  /-- MG_LOG_READ (R568). Management command that copies management log records from FIRST_SEQ upward. -/
  | mgLogRead (id : Nat)
  /-- MG_SELFTEST (R572). Management command that runs a self-test or calibration under the rules of SELFTEST and CALIBRATE. -/
  | mgSelftest (id : Nat) (outcome : TestOutcome)
  /-- INSTR_NOP (R119). Stage-program instruction that does nothing. -/
  | instrNop (core : Nat)
  /-- END (R119). Stage-program instruction that ends the phase program. -/
  | endPhase (core : Nat)
  /-- JMP (R119). Stage-program instruction that jumps by a signed offset. -/
  | jmp (core : Nat) (off : BitVec 24)
  /-- BZ (R119). Stage-program instruction that branches if a register is zero. -/
  | bz (core : Nat) (a : BitVec 5) (off : BitVec 19)
  /-- BNZ (R119). Stage-program instruction that branches if a register is nonzero. -/
  | bnz (core : Nat) (a : BitVec 5) (off : BitVec 19)
  /-- BLT (R119). Stage-program instruction that branches on a signed less-than. -/
  | blt (core : Nat) (a : BitVec 5) (b : BitVec 5) (off : BitVec 14)
  /-- LOOP (R119). Stage-program instruction that decrements a register and branches while it is nonzero. -/
  | loop (core : Nat) (a : BitVec 5) (off : BitVec 19)
  /-- ADD (R120). Stage-program scalar addition modulo 2^32. -/
  | add (core : Nat) (a : BitVec 5) (b : BitVec 5) (c : BitVec 5)
  /-- SUB (R120). Stage-program scalar subtraction modulo 2^32. -/
  | sub (core : Nat) (a : BitVec 5) (b : BitVec 5) (c : BitVec 5)
  /-- AND (R120). Stage-program scalar bitwise AND. -/
  | and (core : Nat) (a : BitVec 5) (b : BitVec 5) (c : BitVec 5)
  /-- OR (R120). Stage-program scalar bitwise OR. -/
  | or (core : Nat) (a : BitVec 5) (b : BitVec 5) (c : BitVec 5)
  /-- XOR (R120). Stage-program scalar bitwise XOR. -/
  | xor (core : Nat) (a : BitVec 5) (b : BitVec 5) (c : BitVec 5)
  /-- SHL (R120). Stage-program scalar shift left. -/
  | shl (core : Nat) (a : BitVec 5) (b : BitVec 5) (c : BitVec 5)
  /-- SHR (R120). Stage-program scalar logical shift right. -/
  | shr (core : Nat) (a : BitVec 5) (b : BitVec 5) (c : BitVec 5)
  /-- SRA (R120). Stage-program scalar arithmetic shift right. -/
  | sra (core : Nat) (a : BitVec 5) (b : BitVec 5) (c : BitVec 5)
  /-- ADDI (R120). Stage-program scalar addition of a sign-extended immediate. -/
  | addi (core : Nat) (a : BitVec 5) (b : BitVec 5) (imm : BitVec 14)
  /-- MOVI (R120). Stage-program load of a sign-extended 19-bit immediate. -/
  | movi (core : Nat) (a : BitVec 5) (imm : BitVec 19)
  /-- MOVHI (R120). Stage-program load of the upper 16 bits of a register. -/
  | movhi (core : Nat) (a : BitVec 5) (imm : BitVec 16)
  /-- MVS (R121). Stage-program matrix-vector product of a dense coupling tile with states into an accumulator row. -/
  | mvs (core : Nat) (acc : BitVec 3) (b : BitVec 5) (row : BitVec 3)
  /-- MVW (R121). Stage-program 8x8 matrix-vector product of vector registers into an accumulator row. -/
  | mvw (core : Nat) (acc : BitVec 3) (b : BitVec 4) (c : BitVec 4) (row : BitVec 3) (n : BitVec 3)
  /-- MOP (R121). Stage-program outer product accumulated into an accumulator tile. -/
  | mop (core : Nat) (acc : BitVec 3) (b : BitVec 4) (c : BitVec 4) (n : BitVec 3) (m : BitVec 3)
  /-- ACLR (R121). Stage-program clear of an accumulator tile. -/
  | aclr (core : Nat) (acc : BitVec 3)
  /-- FDP (R121). Stage-program dense push of the increments of one column group. -/
  | fdp (core : Nat) (a : BitVec 5)
  /-- FINCA (R121). Stage-program push of the dense increments of every changed variable. -/
  | finca (core : Nat) (denseOff : Bool)
  /-- LDF (R121). Stage-program read of a field saturated to 32 bits. -/
  | ldf (core : Nat) (a : BitVec 5) (b : BitVec 5)
  /-- UPDC (R122). Stage-program Gibbs update of every binary variable of the phase's colour. -/
  | updc (core : Nat)
  /-- UPDM (R122). Stage-program Gibbs update of the masked variables of the phase's colour. -/
  | updm (core : Nat) (a : BitVec 5) (b : BitVec 4) (n : BitVec 3)
  /-- RLXC (R151). Stage-program relaxation step of every variable of the block. -/
  | rlxc (core : Nat)
  /-- DRAW (R122). Stage-program consumption of one stream draw into a register. -/
  | draw (core : Nat) (a : BitVec 5) (b : BitVec 5)
  /-- MASK (R181). Stage-program formation of a Bernoulli mask qword from two draws. -/
  | mask (core : Nat) (a : BitVec 4) (b : BitVec 5) (c : BitVec 5) (n : BitVec 3)
  /-- SIEVEC (R122). Stage-program handing of the colour's categorical variables to the cluster sieve. -/
  | sievec (core : Nat)
  /-- LDK (R125). Stage-program 32-bit load from the core store. -/
  | ldk (core : Nat) (a : BitVec 5) (b : BitVec 5) (imm : BitVec 14)
  /-- STK (R125). Stage-program 32-bit store to the writable core store. -/
  | stk (core : Nat) (a : BitVec 5) (b : BitVec 5) (imm : BitVec 14)
  /-- LDW (R125). Stage-program 64-byte load from the core store. -/
  | ldw (core : Nat) (a : BitVec 4) (b : BitVec 5) (imm : BitVec 14)
  /-- STW (R125). Stage-program 64-byte store to the writable core store. -/
  | stw (core : Nat) (a : BitVec 4) (b : BitVec 5) (imm : BitVec 14)
  /-- LDSL (R124). Stage-program 64-byte load from the core's program window in the slices. -/
  | ldsl (core : Nat) (a : BitVec 4) (b : BitVec 5) (imm : BitVec 14)
  /-- STSL (R124). Stage-program 64-byte store to the core's program window in the slices. -/
  | stsl (core : Nat) (a : BitVec 4) (b : BitVec 5) (imm : BitVec 14)
  /-- WGET (R125). Stage-program move of a vector word to a scalar register. -/
  | wget (core : Nat) (a : BitVec 5) (b : BitVec 4) (n : BitVec 4)
  /-- WPUT (R125). Stage-program move of a scalar register into a vector word. -/
  | wput (core : Nat) (a : BitVec 4) (b : BitVec 5) (n : BitVec 4)
  /-- ACCST (R125). Stage-program store of an accumulator tile to the core store. -/
  | accst (core : Nat) (acc : BitVec 3) (b : BitVec 5)
  /-- SMSG (R233). Stage-program send of one state message to every destination block-replica listing the phase's colour. -/
  | smsg (core : Nat)
  /-- BCST (R126). Stage-program send of a vector to the next core of the broadcast chain, waiting while its buffer is full. -/
  | bcst (core : Nat) (a : BitVec 4)
  /-- BRCV (R248). Stage-program wait for the next broadcast vector of the current phase, optionally forwarding it. -/
  | brcv (core : Nat) (a : BitVec 4) (pass : Bool)
  /-- SIG (R244). Stage-program signal of a count to the sync object named by a handle. -/
  | sig (core : Nat) (a : BitVec 5) (count : BitVec 9)
  /-- WAIT (R244). Stage-program wait until the sync object named by a handle has fired. -/
  | wait (core : Nat) (a : BitVec 5)
  /-- PDONE (R126). Stage-program signal of phase completion, which may close the epoch and count toward launches. -/
  | pdone (core : Nat)
  /-- REDI (R127). Stage-program send of a 32-bit integer partial to a tree leaf. -/
  | redi (core : Nat) (a : BitVec 5) (b : BitVec 5) (c : BitVec 5)
  /-- REDF (R127). Stage-program send of a compensated float pair to a tree leaf. -/
  | redf (core : Nat) (a : BitVec 5) (b : BitVec 5) (c : BitVec 4) (n : BitVec 4)
  /-- REDA (R127). Stage-program send of the 64 accumulator values as integer partials. -/
  | reda (core : Nat) (acc : BitVec 3) (b : BitVec 5) (c : BitVec 5)
  /-- FPR (R263). Stage-program addition of the colour's fingerprint terms to the phase fingerprint. -/
  | fpr (core : Nat)
  /-- STATE_MESSAGE (R227). Arrival of a state, exchange-result or prologue message at a launch object, counted toward launch. -/
  | stateMessage (m : StateMsg)
  /-- BROADCAST_VECTOR (R248). Arrival of a broadcast vector at a core, held for a matching BRCV. -/
  | broadcastVector (m : BcastMsg)
  /-- SIEVE_REQUEST (R187). The sieve serves one queued categorical request and returns the drawn state. -/
  | sieveRequest (cluster : Nat)
  /-- REDUCTION_PARTIAL (R211). Arrival of a partial at a reduction node, added or held in an open group. -/
  | reductionPartial (m : PartialMsg)
  /-- GROUP_VALUE (R213). Arrival of a group value or integer sum at the tree's root cluster. -/
  | groupValue (m : GroupMsg)
  /-- CLOSE_TOKEN (R213). Arrival of a close token at the root, which may complete the tree result. -/
  | closeToken (m : CloseMsg)
  /-- EXCHANGE_ENERGY (R239). Arrival of a replica's exchange energy at the root of replica 0's exchange tree. -/
  | exchangeEnergy (m : EnergyMsg)
  /-- FREEZE (R241). Arrival of FREEZE sets FROZEN in the slot's launch objects and replies with the highest launched epoch. -/
  | freeze (slot : Nat) (module : Nat) (hard : Bool)
  /-- FREEZE_REPLY (R241). Arrival of a freeze reply at part 0, which sends LIMIT once all have replied. -/
  | freezeReply (slot : Nat) (module : Nat) (part : Nat) (highest : Nat)
  /-- LIMIT (R241). Arrival of LIMIT clears FROZEN and sets EPOCH_LIMIT. -/
  | limit (slot : Nat) (module : Nat) (epochLimit : Nat)
  /-- DRAINED (R241). Arrival of DRAINED at part 0; when all parts report, the slot becomes STOPPED and the stop completes. -/
  | drained (slot : Nat) (module : Nat) (part : Nat)
  /-- FAULT_NOTICE (R450). Arrival of a FAULT notice freezes the local part and makes its slot FAULTED. -/
  | faultNotice (slot : Nat) (module : Nat) (status : Nat)
  /-- CKPT_DONE (R590). Arrival of a part's checkpoint report at part 0, which commits when all parts reported. -/
  | ckptDone (slot : Nat) (module : Nat) (part : Nat) (epoch : Nat)
  /-- CKPT_COMMIT (R590). Arrival of the commit order sets COMMITTED on the part's checkpoint copy. -/
  | ckptCommit (slot : Nat) (module : Nat) (epoch : Nat)
  /-- HELLO (R270). Arrival of a partner's HELLO completes LOCKSTEP_BEGIN by comparing digests and epochs. -/
  | hello (port : Nat) (m : LockMsg)
  /-- FP (R272). Arrival of a partner's phase fingerprint, compared with the module's own. -/
  | fp (port : Nat) (m : LockMsg)
  /-- HALT (R273). Arrival of HALT freezes the slot and makes it FAULTED. -/
  | halt (port : Nat) (m : LockMsg)
  /-- LS_END (R275). Arrival of a lock-step END message ends the launch gate. -/
  | lsEnd (port : Nat) (m : LockMsg)
  /-- SYNC_OBJECT_SIGNAL (R245). A signal reaches a general sync object, which may fire, notify waiters and signal its target. -/
  | syncObjectSignal (m : SyncSignal)
  /-- WAITER_REGISTRATION (R246). A waiter registration reaches a sync object, waiting in the crossbar while it is full. -/
  | waiterRegistration (m : WaitReg)
  /-- WAITER_NOTICE (R246). A flag message notifies a waiter that its object fired, completing WAIT or SYNC_WAIT. -/
  | waiterNotice (w : Waiter) (object : Nat) (generation : Nat)
  /-- COLANDER_PACKET (R297). A fenced core's router forwards through-traffic and answers traffic addressed to the core FENCED. -/
  | colanderPacket (core : Nat) (item : ColanderItem)
  /-- FENCED_NOTICE (R237). A FENCED notice reaches the sending cluster's agent and the message is discarded. -/
  | fencedNotice (cluster : Nat) (core : Nat) (slot : Nat)
  /-- ROUTER_PACKET (R287). A mesh or core router admits and forwards a packet, correcting or poisoning its flits. -/
  | routerPacket (cluster : Nat) (input : Nat) (pkt : Packet)
  /-- CORE_HANDSHAKE (R587). A core without handshake progress across 10 watchdog ticks is fenced and castled. -/
  | coreHandshake (core : Nat)
  /-- ROUTER_HANDSHAKE (R586). A router, crossbar or reduction node without handshake progress across 10 ticks is a fatal error. -/
  | routerHandshake (cluster : Nat) (part : Nat)
  /-- AGENT_TICK_TIMEOUT (R25). An agent that acknowledges none of 10 ticks is treated as a failed mesh router. -/
  | agentTickTimeout (cluster : Nat)
  /-- WATCHDOG_TICK (R25). Every 100 us the host station sends a WATCHDOG flit to every cluster's agent. -/
  | watchdogTick
  /-- MEMORY_READ (R313). A memory station serves a line read with ECC correction or poisoning. -/
  | memoryRead (address : Nat)
  /-- MEMORY_WRITE (R324). A memory station serves a write, merging partial units unit by unit. -/
  | memoryWrite (address : Nat) (bytes : List Byte)
  /-- SCRUB_READ (R328). The scrubber reads the next line of its ranges in an idle controller beat. -/
  | scrubRead (station : Nat)
  /-- ARBITER_PASS (R403). The arbiter snapshots waiting packets, orders and changes, journals them and dispatches. -/
  | arbiterPass
  /-- DEFERRED_TEST_RUN (R439). A pending test runs as soon as nothing makes it intrusive. -/
  | deferredTestRun (outcome : TestOutcome)
  /-- SQ_TAIL (R391). Doorbell write of a new submission tail, held until earlier posted writes are performed. -/
  | sqTail (queue : Nat) (v : Word)
  /-- CQ_HEAD (R391). Doorbell write consuming status entries up to an index. -/
  | cqHead (queue : Nat) (v : Word)
  /-- RUN (R398). Write of Q_RUN that starts or stops taking packets from a queue. -/
  | run (queue : Nat) (page : Page) (v : Word)
  /-- WIN_OPEN (R398). Write of WIN_CTRL that opens or closes the BAR4 window. -/
  | winOpen (page : Page) (v : Word)
  /-- CFG_UPDATE (R479). Strobe write that copies one domain instance's shadows to live copies or records a refusal. -/
  | cfgUpdate (v : Word)
  /-- MBX_SEL (R489). Write of the mailbox selector and index, which clears VALID. -/
  | mbxSel (page : Page) (v : Word)
  /-- CAPTURE (R490). Write of MBX_CTRL CAPTURE that starts a capture of the named value. -/
  | capture (v : Word)
  /-- MAILBOX_CAPTURE_DONE (R490). A capture completes, setting VALID and advancing GEN, or fails with ERR. -/
  | mailboxCaptureDone
  /-- IND_DATA_READ (R495). Read of IND_DATA that reads the indirect register at IND_ADDR. -/
  | indDataRead
  /-- IND_DATA_WRITE (R495). Write of IND_DATA that writes the indirect register under WRITE_OP. -/
  | indDataWrite (v : Word)
  /-- IND_NO_ANSWER (R495). An indirect access without answer within 50 us fails with LAST_ERR 3. -/
  | indNoAnswer (write : Bool)
  /-- SUP_ACCESS_TIMEOUT (R472). A supply block access without answer within 100 us returns all ones or is discarded. -/
  | supAccessTimeout (write : Bool)
  /-- TAKE (R487). Write of TAKE that takes a free lock register with the host's tag. -/
  | take (lock : Nat) (v : Word)
  /-- RELEASE (R487). Write of RELEASE that frees a lock the host holds with that tag. -/
  | release (lock : Nat) (v : Word)
  /-- DEBUG_LOCK (R535). Setting DEBUG_LOCK closes the debug port until module reset. -/
  | debugLock (page : Page)
  /-- TEST_LOCK (R536). Setting TEST_LOCK closes reserved-bit test controls, ENT_RAW and test modes. -/
  | testLock (page : Page)
  /-- COUNTER_LOCK (R484). Setting COUNTER_LOCK locks the RWL counter fields. -/
  | counterLock (page : Page)
  /-- ENTROPY_LOCK (R484). Setting ENTROPY_LOCK locks the RWL entropy fields. -/
  | entropyLock (page : Page)
  /-- SUPPLY_LOCK (R484). Setting SUPPLY_LOCK locks the RWL supply fields. -/
  | supplyLock (page : Page)
  /-- CORD_LOCK (R484). Setting CORD_LOCK locks CORD_POLICY of every port. -/
  | cordLock (page : Page)
  /-- PORT_LOCK (R484). Setting PORT_LOCK locks PORT_CTRL of every port. -/
  | portLock (page : Page)
  /-- CORE_LOCK (R484). Setting CORE_LOCK locks LANE_DISABLE of every core. -/
  | coreLock (page : Page)
  /-- WINDOW_LOCK (R484). Setting WINDOW_LOCK locks the window base and module registers. -/
  | windowLock (page : Page)
  /-- QUEUE_LOCK (R484). Setting QUEUE_LOCK locks PRIVILEGED and the slot masks of every queue. -/
  | queueLock (page : Page)
  /-- IRQ_ENABLE (R497). Write of IRQ_ENABLE, which sends a message for an enabled bit already set. -/
  | irqEnable (page : Page) (v : Word)
  /-- HOLD (R517). Write of ENT_CTRL HOLD that stops the entropy sources or starts a new round. -/
  | hold (page : Page) (v : Word)
  /-- CLEAR_ALL (R579). Write of CLEAR_ALL that clears every counter of every unit. -/
  | clearAll (page : Page) (v : Word)
  /-- FREEZE_ALL (R581). Write of FREEZE_ALL that sends the freeze to every counter unit. -/
  | freezeAll (page : Page) (v : Word)
  /-- TAG_RUN (R579). Write of TAG_RUN that starts or stops tagging. -/
  | tagRun (page : Page) (v : Word)
  /-- RB_RUN (R579). Write of RB_RUN that starts or stops the exact record buffer. -/
  | rbRun (page : Page) (v : Word)
  /-- MG_RING_RUN (R558). Write of MG_RING_CTRL RUN that reads ring bases and starts or stops the management ring. -/
  | mgRingRun (v : Word)
  /-- MG_SQ_TAIL (R556). Management doorbell write of a new submission tail. -/
  | mgSqTail (v : Word)
  /-- MG_CQ_HEAD (R556). Management doorbell write consuming status entries. -/
  | mgCqHead (v : Word)
  /-- REGISTER_WRITE (R473). Write through a value or alias page of a register without a row of its own. -/
  | registerWrite (space : RegSpace) (offset : Nat) (v : Word)
  /-- BAR4_READ (R394). Host read through the BAR4 window into the hall address space. -/
  | bar4Read (offset : Nat) (len : Nat)
  /-- BAR4_WRITE (R393). Host write through the BAR4 window, cut at line boundaries. -/
  | bar4Write (offset : Nat) (bytes : List Byte) (ep : Bool)
  /-- BAR4_TIMEOUT (R394). A BAR4 access without response within 4 ms completes Completer Abort. -/
  | bar4Timeout (tag : Nat)
  /-- BAR4_RESIZE (R398). A resize of BAR4 that clears WIN_OPEN when WIN_BASE does not fit the new size. -/
  | bar4Resize (log2 : Nat)
  /-- SMBUS_READ (R559). SMBus read of FRU bytes from the current offset. -/
  | smbusRead (len : Nat)
  /-- SMBUS_OFFSET_WRITE (R559). SMBus one-byte write that sets the FRU read offset. -/
  | smbusOffsetWrite (v : Byte)
  /-- DEBUG_REQUEST (R535). A debug port request, served while open and refused and logged once locked. -/
  | debugRequest (r : DebugReq)
  /-- FLR (R408). Function level reset of the host function resets the host interface only. -/
  | flr
  /-- MGMT_PERST_N (R557). Reset of the management endpoint, by its pin or its FLR. -/
  | mgmtPerstN (flr : Bool) (level : Bool)
  /-- WARM_RESET (R605). PERST_N driven low while MAIN_54V is present starts a warm reset. -/
  | warmReset
  /-- PERST_N_RELEASE (R598). Rising edge of PERST_N releases the host function and starts PCIe link training. -/
  | perstNRelease
  /-- ALIGNED_RELEASE (R607). At reference edge 2,048 after the PERST_N edge every crossing FIFO is set to a fixed fill and released. -/
  | alignedRelease
  /-- AUX_3V3_VALID (R599). AUX_3V3 becoming valid starts a cold start, mask ROM boot and MGMT_READY. -/
  | aux3v3Valid (boot : BootOutcome)
  /-- AUX_3V3_LOSS (R547). Loss of AUX_3V3 stops the supervisor and switches every MAIN_54V rail off. -/
  | aux3v3Loss
  /-- MAIN_54V_QUALIFY (R599). MAIN_54V qualifies, rails come up, cores run BIST and CP and PHY are fetched. -/
  | main54vQualify (bist : BistOutcome)
  /-- MEMORY_TRAINING_DONE (R599). The HBM and Larder stations finish training and the journal, error log and tag ring are written. -/
  | memoryTrainingDone (failed : List Nat)
  /-- TRIAL_TIMEOUT (R528). A TRIAL image without HOST_READY within its limit is reverted by a module reset. -/
  | trialTimeout
  /-- VSAG_WARN (R545). MAIN_54V below WARN_LEVEL for 20 us asserts VSAG_WARN and its reports. -/
  | vsagWarn
  /-- VSAG_WARN_DEASSERT (R543). MAIN_54V back above WARN_LEVEL plus 1 V for 1 ms deasserts VSAG_WARN. -/
  | vsagWarnDeassert
  /-- VSAG_RESET (R545). MAIN_54V below RESET_LEVEL for 2 us starts a supply reset. -/
  | vsagReset
  /-- VCORE_LOW (R544). VCORE below 0.55 V at any die for 1 us starts a supply reset. -/
  | vcoreLow
  /-- MAIN_54V_HIGH (R544). MAIN_54V above 63 V for 2 us starts a supply reset. -/
  | main54vHigh
  /-- THERMAL_TRIP (R550). Tj at or above 110 C for 1 ms starts a supply reset. -/
  | thermalTrip
  /-- THERMAL_CRIT (R550). Tj at or above 105 C sets the THERMAL limit to 0.62 V at once. -/
  | thermalCrit
  /-- POWER_MEASUREMENT (R549). Every 10 us input power is measured, P100 formed and the CAP and rise rules applied. -/
  | powerMeasurement (mW : Nat)
  /-- CAP_BOUNDARY (R549). At each 1 ms boundary P1 is formed and the CAP limit stepped. -/
  | capBoundary
  /-- THERMAL_BOUNDARY (R550). At each 1 ms boundary the THERMAL limit is stepped by the hottest Tj. -/
  | thermalBoundary (tj : List Int)
  /-- LOCAL_COUNTER_COPY (R584). Every 1 us the module controller chip refreshes CP firmware's copy of the local counter. -/
  | localCounterCopy
  /-- TELEMETRY_SAMPLE (R563). Every 1 ms the management controller samples telemetry and sets MG_EVENT bits. -/
  | telemetrySample (sample : TelemetryIn)
  /-- CORD_PRESENT (R336). A cord seated in an enabled port starts authentication. -/
  | cordPresent (port : Nat) (kind : Nat)
  /-- CORD_REMOVED (R385). Removal of a cord takes the port to NO_CORD with the losses of going DOWN. -/
  | cordRemoved (port : Nat)
  /-- CORD_ANSWER (R376). The cord end's answer is verified and the port goes to TRAINING or DOWN. -/
  | cordAnswer (port : Nat) (answer : CordAnswer)
  /-- CORD_NO_ANSWER (R376). No complete answer within 150 ms puts the port DOWN with AUTH_FAIL. -/
  | cordNoAnswer (port : Nat)
  /-- LANES_TRAINED (R336). Lane training ends, the width is chosen and the lanes are aligned. -/
  | lanesTrained (port : Nat) (lanes : Nat)
  /-- TRAIN_FAIL (R336). No lane trains within 100 ms, putting the port DOWN. -/
  | trainFail (port : Nat)
  /-- ALIGNMENT_FRAME (R344). Receipt of an alignment frame carrying the peer's ID, width and link slot; may bring the port UP. -/
  | alignmentFrame (port : Nat) (frame : AlignFrame)
  /-- DATA_FRAME (R347). Receipt of a data frame, accepted in order or discarded with a NAK, with its link slots acted on. -/
  | dataFrame (port : Nat) (frame : DataFrame)
  /-- NAK_REPEAT (R347). NAK(N) is sent again after 1,024 data frames without REPLAY(N). -/
  | nakRepeat (port : Nat)
  /-- FRAME_SEND (R340). A port sends the frame of its next frame position, data or alignment. -/
  | frameSend (port : Nat)
  /-- LANE_LOCK_LOSS (R338). A lane in use loses lock and the port enters RETRAINING. -/
  | laneLockLoss (port : Nat) (lane : Nat)
  /-- RETRAIN_DONE (R338). A retraining port returns UP and resumes with a replay. -/
  | retrainDone (port : Nat) (lanes : Nat)
  /-- RETRAIN_FAIL (R339). A retraining that fails puts the port DOWN with the losses of R339. -/
  | retrainFail (port : Nat)
  /-- PEER_DISABLED (R339). The peer disables its end and the port goes DOWN. -/
  | peerDisabled (port : Nat)
  /-- PACKET_ROUTE (R354). A fabric station looks up a packet's destination and sends, delivers or drops it. -/
  | packetRoute (port : Nat) (destModule : Nat) (hops : Nat) (poison : Bool) (m : Msg)
  /-- BROADCAST_RECEIVE (R366). A broadcast is applied locally and forwarded on the ports of its mask. -/
  | broadcastReceive (port : Nat) (r : Request) (hops : Nat)
  /-- REMOTE_READ (R359). Remote READ of a 64-bit word at its target. -/
  | remoteRead (r : Request)
  /-- REMOTE_WRITE (R359). Remote WRITE of a 64-bit word at its target. -/
  | remoteWrite (r : Request)
  /-- REMOTE_ADD (R359). Remote ADD of a word, or a signal on a PLAIN sync object. -/
  | remoteAdd (r : Request)
  /-- REMOTE_MAXU (R359). Remote unsigned maximum of a word. -/
  | remoteMaxu (r : Request)
  /-- REMOTE_MAXS (R359). Remote signed maximum of a word. -/
  | remoteMaxs (r : Request)
  /-- REMOTE_CAS (R359). Remote compare-and-swap of a word. -/
  | remoteCas (r : Request)
  /-- REMOTE_BULK_READ (R359). Remote read of up to 64 whole lines. -/
  | remoteBulkRead (r : Request)
  /-- REMOTE_BULK_WRITE (R359). Remote write of up to 64 whole lines. -/
  | remoteBulkWrite (r : Request)
  /-- REMOTE_SIGNAL (R359). Remote SIGNAL on a general sync object. -/
  | remoteSignal (r : Request)
  /-- REMOTE_WAIT_REG (R359). Remote waiter registration on a general sync object. -/
  | remoteWaitReg (r : Request)
  /-- REMOTE_RESPONSE (R365). A response returns to the exit station and completes the request's tracker entry. -/
  | remoteResponse (r : Response)
  /-- REQUEST_TIMEOUT (R365). A request without response in time completes UNREACHABLE detail 4. -/
  | requestTimeout (tag : Nat)
  /-- REMOTE_FENCE (R364). FENCE by an issuing unit waits until its earlier requests have responses or timed out. -/
  | remoteFence (unit : Nat)
  /-- CORD_RECORD_POLL (R380). Once per lit hour the end record is read and a new wear state logged and signalled. -/
  | cordRecordPoll (port : Nat) (record : List Byte)
  /-- VCORD_OVERCURRENT (R618). An overcurrent switches off one socket's VCORD and logs LINK_LOSS. -/
  | vcordOvercurrent (port : Nat)
  /-- ENTROPY_STARTUP_ROUND (R509). A start-up round of 8 blocks per pair ends, releasing the source or counting a failure. -/
  | entropyStartupRound (blocks : List (List RawBlock))
  /-- ENTROPY_BLOCK (R510). A block completes after release and is tested, conditioned into the pool or discarded. -/
  | entropyBlock (pair : Nat) (block : RawBlock)
  /-- ENTROPY_SERVE (R512). Held outputs are given to the next waiting consumer in priority order. -/
  | entropyServe
  /-- SIGNATURE_DONE (R531). The root of trust finishes an RSA signature and returns it across the shared mailbox, completing the waiting RESULT_SEAL with SIGN or ATTEST. -/
  | signatureDone (signature : List Byte)
  /-- HOST_MEMORY_COMPLETION (R399). A completion, error completion or completion timeout arrives for a module read of host memory, such as a packet fetch, a COPY from host or a management ring fetch. -/
  | hostMemoryCompletion (tag : Nat) (r : ReadResult)
  /-- VCORE_RAMP_DONE (R541). VCORE, moving at 5 mV per microsecond, reaches the applied target and RAMPING clears. -/
  | vcoreRampDone
  /-- D3HOT_TRANSITION (R386). The host moves the function between D0 and D3hot, after which it answers configuration requests only while the data plane runs on. -/
  | d3hotTransition (d3hot : Bool)
  /-- MANAGEMENT_LOCK_ACCESS (R487). Management software takes or frees a lock register, and freeing a lock 16 to 31 sets LOCK_FREE. -/
  | managementLockAccess (lock : Nat) (tag : Nat) (release : Bool)
  /-- HOST_LINK_CHANGE (R600). The host PCIe link finishes training or goes down, which changes HOST_LINK and whether configuration space and the BARs answer. -/
  | hostLinkChange (speed : Nat) (width : Nat) (flit : Bool)
  deriving DecidableEq, Repr

end Sys2Proof
end

