-- ==== Sys2Proof/Decode.lean ====
section
/-! DEFINITION. Decode.lean: the words of the command table, and the words of stage programs (R116 to R127). -/

namespace Sys2Proof

open Machine

/-- No row of the command table gives bits: no word spells a command. -/
def decodeTableWord (_nbits _w : Nat) : Option Instr := none

/-! ### Stage-program words (R116, R117) -/

/-- Format R: OP, A, B, C, X (R116). -/
def wordR (op : BitVec 8) (a b c : BitVec 5) (x : BitVec 9) : Word := op ++ a ++ b ++ c ++ x

/-- Format I: OP, A, B, IMM14 (R116). -/
def wordI (op : BitVec 8) (a b : BitVec 5) (i : BitVec 14) : Word := op ++ a ++ b ++ i

/-- Format L: OP, A, IMM19 (R116). -/
def wordL (op : BitVec 8) (a : BitVec 5) (i : BitVec 19) : Word := op ++ a ++ i

/-- Formats J and N: OP and 24 bits (R116). -/
def wordJ (op : BitVec 8) (i : BitVec 24) : Word := op ++ i

/-- A vector register in a five-bit field: the top bit is zero (R117). -/
def vecField (v : BitVec 4) : BitVec 5 := 0#1 ++ v

/-- An accumulator in a five-bit field: the top two bits are zero (R117). -/
def accField (a : BitVec 3) : BitVec 5 := 0#2 ++ a

/-- One bit of an instruction as a field. -/
def flagField (n : Nat) (b : Bool) : BitVec n := if b then 1 else 0

/-- The word of a stage-program instruction (R119 to R127); none for a command that no stage program holds. -/
def encodeStage : Instr → Option Word
  | .instrNop _ => some (wordJ 0x00 0)
  | .endPhase _ => some (wordJ 0x01 0)
  | .jmp _ off => some (wordJ 0x02 off)
  | .bz _ a off => some (wordL 0x03 a off)
  | .bnz _ a off => some (wordL 0x04 a off)
  | .blt _ a b off => some (wordI 0x05 a b off)
  | .loop _ a off => some (wordL 0x06 a off)
  | .add _ a b c => some (wordR 0x10 a b c 0)
  | .sub _ a b c => some (wordR 0x11 a b c 0)
  | .and _ a b c => some (wordR 0x12 a b c 0)
  | .or _ a b c => some (wordR 0x13 a b c 0)
  | .xor _ a b c => some (wordR 0x14 a b c 0)
  | .shl _ a b c => some (wordR 0x15 a b c 0)
  | .shr _ a b c => some (wordR 0x16 a b c 0)
  | .sra _ a b c => some (wordR 0x17 a b c 0)
  | .addi _ a b i => some (wordI 0x18 a b i)
  | .movi _ a i => some (wordL 0x19 a i)
  | .movhi _ a i => some (wordL 0x1A a (0#3 ++ i))
  | .mvs _ acc b row => some (wordR 0x20 (accField acc) b 0 (0#6 ++ row))
  | .mvw _ acc b c row n => some (wordR 0x21 (accField acc) (vecField b) (vecField c) (0#3 ++ n ++ row))
  | .mop _ acc b c n m => some (wordR 0x22 (accField acc) (vecField b) (vecField c) (0#3 ++ m ++ n))
  | .aclr _ acc => some (wordR 0x23 (accField acc) 0 0 0)
  | .fdp _ a => some (wordR 0x24 a 0 0 0)
  | .finca _ d => some (wordR 0x25 0 0 0 (flagField 9 d))
  | .ldf _ a b => some (wordR 0x26 a b 0 0)
  | .updc _ => some (wordJ 0x30 0)
  | .updm _ a b n => some (wordR 0x31 a (vecField b) 0 (0#6 ++ n))
  | .rlxc _ => some (wordJ 0x40 0)
  | .draw _ a b => some (wordR 0x50 a b 0 0)
  | .mask _ a b c n => some (wordR 0x51 (vecField a) b c (0#6 ++ n))
  | .sievec _ => some (wordJ 0x52 0)
  | .ldk _ a b i => some (wordI 0x60 a b i)
  | .stk _ a b i => some (wordI 0x61 a b i)
  | .ldw _ a b i => some (wordI 0x62 (vecField a) b i)
  | .stw _ a b i => some (wordI 0x63 (vecField a) b i)
  | .ldsl _ a b i => some (wordI 0x64 (vecField a) b i)
  | .stsl _ a b i => some (wordI 0x65 (vecField a) b i)
  | .wget _ a b n => some (wordR 0x66 a (vecField b) 0 (0#5 ++ n))
  | .wput _ a b n => some (wordR 0x67 (vecField a) b 0 (0#5 ++ n))
  | .accst _ acc b => some (wordR 0x68 (accField acc) b 0 0)
  | .smsg _ => some (wordJ 0x70 0)
  | .bcst _ a => some (wordR 0x71 (vecField a) 0 0 0)
  | .brcv _ a p => some (wordR 0x72 (vecField a) 0 0 (flagField 9 p))
  | .sig _ a n => some (wordR 0x80 a 0 0 n)
  | .wait _ a => some (wordR 0x81 a 0 0 0)
  | .pdone _ => some (wordJ 0x82 0)
  | .redi _ a b c => some (wordR 0x90 a b c 0)
  | .redf _ a b c n => some (wordR 0x91 a b (vecField c) (0#5 ++ n))
  | .reda _ acc b c => some (wordR 0x92 (accField acc) b c 0)
  | .fpr _ => some (wordJ 0xA0 0)
  | _ => none

/-- The OP column of the instruction tables (R119 to R127); none for a command that no stage program holds. -/
def stageOpcode : Instr → Option Byte
  | .instrNop _ => some 0x00
  | .endPhase _ => some 0x01
  | .jmp _ _ => some 0x02
  | .bz _ _ _ => some 0x03
  | .bnz _ _ _ => some 0x04
  | .blt _ _ _ _ => some 0x05
  | .loop _ _ _ => some 0x06
  | .add _ _ _ _ => some 0x10
  | .sub _ _ _ _ => some 0x11
  | .and _ _ _ _ => some 0x12
  | .or _ _ _ _ => some 0x13
  | .xor _ _ _ _ => some 0x14
  | .shl _ _ _ _ => some 0x15
  | .shr _ _ _ _ => some 0x16
  | .sra _ _ _ _ => some 0x17
  | .addi _ _ _ _ => some 0x18
  | .movi _ _ _ => some 0x19
  | .movhi _ _ _ => some 0x1A
  | .mvs _ _ _ _ => some 0x20
  | .mvw _ _ _ _ _ _ => some 0x21
  | .mop _ _ _ _ _ _ => some 0x22
  | .aclr _ _ => some 0x23
  | .fdp _ _ => some 0x24
  | .finca _ _ => some 0x25
  | .ldf _ _ _ => some 0x26
  | .updc _ => some 0x30
  | .updm _ _ _ _ => some 0x31
  | .rlxc _ => some 0x40
  | .draw _ _ _ => some 0x50
  | .mask _ _ _ _ _ => some 0x51
  | .sievec _ => some 0x52
  | .ldk _ _ _ _ => some 0x60
  | .stk _ _ _ _ => some 0x61
  | .ldw _ _ _ _ => some 0x62
  | .stw _ _ _ _ => some 0x63
  | .ldsl _ _ _ _ => some 0x64
  | .stsl _ _ _ _ => some 0x65
  | .wget _ _ _ _ => some 0x66
  | .wput _ _ _ _ => some 0x67
  | .accst _ _ _ => some 0x68
  | .smsg _ => some 0x70
  | .bcst _ _ => some 0x71
  | .brcv _ _ _ => some 0x72
  | .sig _ _ _ => some 0x80
  | .wait _ _ => some 0x81
  | .pdone _ => some 0x82
  | .redi _ _ _ _ => some 0x90
  | .redf _ _ _ _ _ => some 0x91
  | .reda _ _ _ _ => some 0x92
  | .fpr _ => some 0xA0
  | _ => none

/-- Field A, bits [23:19]. -/
def fieldA (w : Word) : BitVec 5 := w.extractLsb' 19 5
/-- Field B, bits [18:14]. -/
def fieldB (w : Word) : BitVec 5 := w.extractLsb' 14 5
/-- Field C, bits [13:9]. -/
def fieldC (w : Word) : BitVec 5 := w.extractLsb' 9 5
/-- Field A of a vector register. -/
def vecA (w : Word) : BitVec 4 := w.extractLsb' 19 4
/-- Field B of a vector register. -/
def vecB (w : Word) : BitVec 4 := w.extractLsb' 14 4
/-- Field C of a vector register. -/
def vecC (w : Word) : BitVec 4 := w.extractLsb' 9 4
/-- Field A of an accumulator. -/
def accA (w : Word) : BitVec 3 := w.extractLsb' 19 3
/-- IMM14, bits [13:0]. -/
def imm14 (w : Word) : BitVec 14 := w.extractLsb' 0 14
/-- IMM19, bits [18:0]. -/
def imm19 (w : Word) : BitVec 19 := w.extractLsb' 0 19
/-- X bits [2:0]. -/
def xLow3 (w : Word) : BitVec 3 := w.extractLsb' 0 3
/-- X bits [5:3]. -/
def xMid3 (w : Word) : BitVec 3 := w.extractLsb' 3 3
/-- X bits [3:0]. -/
def xLow4 (w : Word) : BitVec 4 := w.extractLsb' 0 4

/-- The instruction an opcode and its fields name, before the unused bits are checked (R119 to R127). -/
def readStage (core : Nat) (w : Word) : Option Instr :=
  match (w.extractLsb' 24 8).toNat with
  | 0x00 => some (.instrNop core)
  | 0x01 => some (.endPhase core)
  | 0x02 => some (.jmp core (w.extractLsb' 0 24))
  | 0x03 => some (.bz core (fieldA w) (imm19 w))
  | 0x04 => some (.bnz core (fieldA w) (imm19 w))
  | 0x05 => some (.blt core (fieldA w) (fieldB w) (imm14 w))
  | 0x06 => some (.loop core (fieldA w) (imm19 w))
  | 0x10 => some (.add core (fieldA w) (fieldB w) (fieldC w))
  | 0x11 => some (.sub core (fieldA w) (fieldB w) (fieldC w))
  | 0x12 => some (.and core (fieldA w) (fieldB w) (fieldC w))
  | 0x13 => some (.or core (fieldA w) (fieldB w) (fieldC w))
  | 0x14 => some (.xor core (fieldA w) (fieldB w) (fieldC w))
  | 0x15 => some (.shl core (fieldA w) (fieldB w) (fieldC w))
  | 0x16 => some (.shr core (fieldA w) (fieldB w) (fieldC w))
  | 0x17 => some (.sra core (fieldA w) (fieldB w) (fieldC w))
  | 0x18 => some (.addi core (fieldA w) (fieldB w) (imm14 w))
  | 0x19 => some (.movi core (fieldA w) (imm19 w))
  | 0x1A => some (.movhi core (fieldA w) (w.extractLsb' 0 16))
  | 0x20 => some (.mvs core (accA w) (fieldB w) (xLow3 w))
  | 0x21 => some (.mvw core (accA w) (vecB w) (vecC w) (xLow3 w) (xMid3 w))
  | 0x22 => some (.mop core (accA w) (vecB w) (vecC w) (xLow3 w) (xMid3 w))
  | 0x23 => some (.aclr core (accA w))
  | 0x24 => some (.fdp core (fieldA w))
  | 0x25 => some (.finca core (w.getLsbD 0))
  | 0x26 => some (.ldf core (fieldA w) (fieldB w))
  | 0x30 => some (.updc core)
  | 0x31 => some (.updm core (fieldA w) (vecB w) (xLow3 w))
  | 0x40 => some (.rlxc core)
  | 0x50 => some (.draw core (fieldA w) (fieldB w))
  | 0x51 => some (.mask core (vecA w) (fieldB w) (fieldC w) (xLow3 w))
  | 0x52 => some (.sievec core)
  | 0x60 => some (.ldk core (fieldA w) (fieldB w) (imm14 w))
  | 0x61 => some (.stk core (fieldA w) (fieldB w) (imm14 w))
  | 0x62 => some (.ldw core (vecA w) (fieldB w) (imm14 w))
  | 0x63 => some (.stw core (vecA w) (fieldB w) (imm14 w))
  | 0x64 => some (.ldsl core (vecA w) (fieldB w) (imm14 w))
  | 0x65 => some (.stsl core (vecA w) (fieldB w) (imm14 w))
  | 0x66 => some (.wget core (fieldA w) (vecB w) (xLow4 w))
  | 0x67 => some (.wput core (vecA w) (fieldB w) (xLow4 w))
  | 0x68 => some (.accst core (accA w) (fieldB w))
  | 0x70 => some (.smsg core)
  | 0x71 => some (.bcst core (vecA w))
  | 0x72 => some (.brcv core (vecA w) (w.getLsbD 0))
  | 0x80 => some (.sig core (fieldA w) (w.extractLsb' 0 9))
  | 0x81 => some (.wait core (fieldA w))
  | 0x82 => some (.pdone core)
  | 0x90 => some (.redi core (fieldA w) (fieldB w) (fieldC w))
  | 0x91 => some (.redf core (fieldA w) (fieldB w) (vecC w) (xLow4 w))
  | 0x92 => some (.reda core (accA w) (fieldB w) (fieldC w))
  | 0xA0 => some (.fpr core)
  | _ => none

/-- The instruction of a stage-program word; none for an opcode that is not listed or a word that breaks R117 (R139). -/
def decodeStage (core : Nat) (w : Word) : Option Instr :=
  match readStage core w with
  | some i => if encodeStage i = some w then some i else none
  | none => none

end Sys2Proof
end

