-- ==== Sys2Proof/Machine/Flags.lean ====
section
/-! DEFINITION. Machine/Flags.lean: saturation, rounding, the logistic and weight tables, the float path and its overflow. -/

namespace Sys2Proof.Machine

/-! ### Saturation and rounding -/

/-- Clamps to a range. -/
def clampInt (lo hi x : Int) : Int := if x < lo then lo else if hi < x then hi else x

/-- A sum saturated to signed 32 bits (R88, R89). -/
def sat32 (x : Int) : Int := clampInt (-(2 ^ 31)) (2 ^ 31 - 1) x

/-- Whether saturating to signed 32 bits clips. -/
def clips32 (x : Int) : Bool := sat32 x ≠ x

/-- P / 2^k rounded to nearest, ties to even (R11, R96, R151). -/
def rhe (p : Int) (k : Nat) : Int :=
  if k = 0 then p
  else
    let q := p / (2 ^ k : Nat)
    let r := p - q * (2 ^ k : Nat)
    if (2 ^ (k - 1) : Nat) < r ∨ (r = (2 ^ (k - 1) : Nat) ∧ q % 2 = 1) then q + 1 else q

/-- N / D rounded to nearest, ties to even, for D > 0 (R145). -/
def rheDiv (n : Int) (d : Nat) : Int :=
  let q := n / (d : Int)
  let r := n - q * (d : Int)
  if (d : Int) < 2 * r ∨ (2 * r = (d : Int) ∧ q % 2 = 1) then q + 1 else q

/-- The logistic argument Z of R93 from beta B, field h and block exponent x. -/
def logisticArg (b : Nat) (h : Int) (x : Int) : Int :=
  let p := 2 * (b : Int) * h
  let z := if 0 ≤ x then p * (2 ^ x.toNat : Nat) else rhe p (-x).toNat
  clampInt (-4096) 4096 z

/-! ### The logistic and weight tables (R94, R186) -/

/-- Fractional bits of the fixed-point exponential. -/
def expBits : Nat := 160

/-- Sums 1 / (i! 256^i) from term i on, in fixed point. -/
def expTaylor : Nat → Nat → Nat → Nat
  | 0, _, _ => 0
  | n + 1, i, t => t + expTaylor n (i + 1) (t / (256 * (i + 1)))

/-- e^(-1/256) in fixed point. -/
def expBase : Nat := 2 ^ (2 * expBits) / expTaylor 32 0 (2 ^ expBits)

/-- Multiplies the powers of base that the bits of m select. -/
def expPow : Nat → Nat → Nat → Nat → Nat
  | 0, _, _, acc => acc
  | n + 1, m, p, acc =>
    expPow n (m / 2) (p * p / 2 ^ expBits) (if m % 2 = 1 then acc * p / 2 ^ expBits else acc)

/-- e^(-m/256) in fixed point, for m below 2^14. -/
def expNeg (m : Nat) : Nat := expPow 14 m expBase (2 ^ expBits)

/-- round(2^24 / (1 + e^(-m/256))) for m at or above 0 (R94). -/
def logisticPos (m : Nat) : Nat :=
  let den := 2 ^ expBits + expNeg m
  min ((2 * (2 ^ 24 * 2 ^ expBits) + den) / (2 * den)) (2 ^ 24 - 1)

/-- LOGISTIC[n], n from 0 to 8,192 (R94). -/
def logistic (n : Nat) : Nat :=
  if 4096 ≤ n then logisticPos (n - 4096) else max 1 (2 ^ 24 - logisticPos (4096 - n))

/-- WEIGHT(n) (R186). -/
def weight (n : Nat) : Nat :=
  if 4436 < n then 0 else (2 ^ 24 * expNeg n + 2 ^ (expBits - 1)) / 2 ^ expBits

/-! ### The float path (R200 to R203)

A finite binary32 value is held as its exact multiple of 2^-149. -/

/-- The magnitude of a binary32 pattern, in units of 2^-149. -/
def f32Mag (w : Nat) : Nat :=
  let e := bitsAt w 30 23
  if e = 0 then bitsAt w 22 0 else (2 ^ 23 + bitsAt w 22 0) * 2 ^ (e - 1)

/-- The value of a binary32 pattern, in units of 2^-149; minus zero reads as plus zero (R200). -/
def f32Val (w : Nat) : Int := if bitAt w 31 = 1 then -(f32Mag w : Int) else f32Mag w

/-- Whether a pattern is a NaN. -/
def f32IsNan (w : Nat) : Bool := bitsAt w 30 23 = 255 && bitsAt w 22 0 ≠ 0

/-- Whether a pattern is an infinity. -/
def f32IsInf (w : Nat) : Bool := bitsAt w 30 23 = 255 && bitsAt w 22 0 = 0

/-- MAX, the largest finite value, in units of 2^-149 (R200). -/
def f32Max : Int := ((2 ^ 24 - 1) * 2 ^ 253 : Nat)

/-- A magnitude rounded to binary32, to nearest with ties to even. -/
def rnMag (n : Nat) : Nat :=
  if n < 2 ^ 24 then n
  else
    let k := n.log2 - 23
    let q := n / 2 ^ k
    let r := n % 2 ^ k
    (if 2 ^ (k - 1) < r ∨ (r = 2 ^ (k - 1) ∧ q % 2 = 1) then q + 1 else q) * 2 ^ k

/-- RN of an exact value; a result of 2^128 or more stands for infinity (R200). -/
def rn (x : Int) : Int := if x < 0 then -(rnMag x.natAbs : Int) else rnMag x.natAbs

/-- The pattern of a representable value. -/
def f32Pack (x : Int) : Word :=
  let n := x.natAbs
  let m := if n < 2 ^ 23 then n else (n.log2 - 22) * 2 ^ 23 + (n / 2 ^ (n.log2 - 23) - 2 ^ 23)
  BitVec.ofNat 32 (m + if x < 0 then 2 ^ 31 else 0)

/-- two_sum of R201: the pair and the overflow flag. -/
def twoSum (a b : Int) : (Int × Int) × Bool :=
  let x := a + b
  let s := rn x
  if (2 ^ 277 : Nat) ≤ s.natAbs then ((if x < 0 then -f32Max else f32Max, 0), true) else ((s, x - s), false)

/-- norm of R201. -/
def normPair (p : Int × Int) : (Int × Int) × Bool := twoSum p.1 p.2

/-- node of R201. -/
def nodePair (p q : Int × Int) : (Int × Int) × Bool :=
  let r1 := twoSum p.1 q.1
  let t := rn (rn (p.2 + q.2) + r1.1.2)
  let r2 := twoSum r1.1.1 t
  (r2.1, r1.2 || r2.2)

/-- An integer as the pair (RN(v), v - RN(v)) before norm (R202). -/
def intPair (v : Int) : Int × Int :=
  let x := v * (2 ^ 149 : Nat)
  (rn x, x - rn x)

/-- A word of a REDF pair: an infinity is replaced by MAX of the same sign (R202). The flag says that it was. -/
def redfWord (w : Word) : Int × Bool :=
  if f32IsInf w.toNat then (if bitAt w.toNat 31 = 1 then -f32Max else f32Max, true) else (f32Val w.toNat, false)

/-- The stored form of a pair. -/
def packPair (p : Int × Int) : Word × Word := (f32Pack p.1, f32Pack p.2)

/-- The pair a stored form holds. -/
def unpackPair (p : Word × Word) : Int × Int := (f32Val p.1.toNat, f32Val p.2.toNat)

/-- A sum saturated to signed 64 bits (R208). -/
def sat64 (x : Int) : Int := clampInt (-(2 ^ 63)) (2 ^ 63 - 1) x

end Sys2Proof.Machine
end

