-- ==== Sys2Proof/Machine/Sha.lean ====
section
/-! DEFINITION. Machine/Sha.lean: SHA-256, which the digests of images, settings, packets and seals use (R68, R266). -/

namespace Sys2Proof.Machine

/-- Addition modulo 2^32. -/
def add32 (a b : Nat) : Nat := (a + b) % 2 ^ 32
/-- Rotation right of a 32-bit word. -/
def rotr32 (x n : Nat) : Nat := x / 2 ^ n + x % 2 ^ n * 2 ^ (32 - n)

/-- Whether a number has no divisor among those listed. -/
def indivisible (n : Nat) (ds : List Nat) : Bool := ds.all fun d => n % d ≠ 0

/-- The primes below 320 in ascending order: the first 64 give the round constants. -/
def shaPrimes : List Nat :=
  ((List.range 312).filter fun n => 2 ≤ n && indivisible n ((List.range 18).filter fun d => 2 ≤ d && d < n && d * d ≤ n))

/-- The largest r below 2^(bits) with r^k at most n. -/
def rootFloor (k n : Nat) : Nat → Nat → Nat
  | 0, r => r
  | b + 1, r => rootFloor k n b (if (r + 2 ^ b) ^ k ≤ n then r + 2 ^ b else r)

/-- The first 32 bits of the fractional part of the cube root of each prime. -/
def shaK : List Nat := (shaPrimes.take 64).map fun p => rootFloor 3 (p * 2 ^ 96) 36 0 % 2 ^ 32

/-- The first 32 bits of the fractional part of the square root of each of the first eight primes. -/
def shaInit : List Nat := (shaPrimes.take 8).map fun p => rootFloor 2 (p * 2 ^ 64) 36 0 % 2 ^ 32

/-- A big-endian 32-bit word of four bytes. -/
def beWord : List Byte → Nat := fun bs => bs.foldl (fun v b => v * 256 + b.toNat) 0

/-- The words of a block, in order. -/
def blockWords : Nat → List Byte → List Nat
  | 0, _ => []
  | n + 1, bs => beWord (bs.take 4) :: blockWords n (bs.drop 4)

/-- Extends the schedule: the last 16 words are kept newest first. -/
def shaSchedule : Nat → List Nat → List Nat
  | 0, _ => []
  | n + 1, w =>
    match w with
    | [w1, w2, w3, w4, w5, w6, w7, w8, w9, w10, w11, w12, w13, w14, w15, w16] =>
      let s0 := Nat.xor (Nat.xor (rotr32 w15 7) (rotr32 w15 18)) (w15 / 8)
      let s1 := Nat.xor (Nat.xor (rotr32 w2 17) (rotr32 w2 19)) (w2 / 1024)
      let x := (w16 + s0 + w7 + s1) % 2 ^ 32
      x :: shaSchedule n [x, w1, w2, w3, w4, w5, w6, w7, w8, w9, w10, w11, w12, w13, w14, w15]
    | _ => []

/-- The rounds over pairs of round constant and schedule word. -/
def shaRounds : List (Nat × Nat) → Nat → Nat → Nat → Nat → Nat → Nat → Nat → Nat → List Nat
  | [], a, b, c, d, e, f, g, h => [a, b, c, d, e, f, g, h]
  | (k, w) :: t, a, b, c, d, e, f, g, h =>
    let s1 := Nat.xor (Nat.xor (rotr32 e 6) (rotr32 e 11)) (rotr32 e 25)
    let ch := Nat.xor (Nat.land e f) (Nat.land (2 ^ 32 - 1 - e) g)
    let t1 := h + s1 + ch + k + w
    let s0 := Nat.xor (Nat.xor (rotr32 a 2) (rotr32 a 13)) (rotr32 a 22)
    let maj := Nat.xor (Nat.xor (Nat.land a b) (Nat.land a c)) (Nat.land b c)
    shaRounds t ((t1 + s0 + maj) % 2 ^ 32) a b c ((d + t1) % 2 ^ 32) e f g

/-- One block of 64 bytes. -/
def shaBlock (h : List Nat) (b : List Byte) : List Nat :=
  let w := blockWords 16 b
  let ws := w ++ shaSchedule 48 w.reverse
  match h with
  | [h0, h1, h2, h3, h4, h5, h6, h7] =>
    List.zipWith add32 h (shaRounds (shaK.zip ws) h0 h1 h2 h3 h4 h5 h6 h7)
  | _ => h

/-- The blocks of a padded message, given their number. -/
def shaBlocks : Nat → List Byte → List Nat → List Nat
  | 0, _, h => h
  | n + 1, bs, h => shaBlocks n (bs.drop 64) (shaBlock h (bs.take 64))

/-- The message with its padding: 0x80, zeros, and the bit length big-endian. -/
def shaPad (bs : List Byte) : List Byte :=
  let n := bs.length
  bs ++ [0x80] ++ zeros ((119 - n % 64) % 64) ++ (leBytes 8 (8 * n)).reverse

/-- SHA-256 of a byte string: 32 bytes. -/
def sha256 (bs : List Byte) : List Byte :=
  let p := shaPad bs
  (shaBlocks (p.length / 64) p shaInit).flatMap fun w => (leBytes 4 w).reverse

end Sys2Proof.Machine
end

