-- ==== Sys2Proof/Machine/Gipol.lean ====
section
/-! DEFINITION. Machine/Gipol.lean: Gipol-128 streams, jumps, seeds, masks (R166 to R183). -/

namespace Sys2Proof.Machine

/-- FEEDBACK, the low part of P (R166). -/
def gipolFeedback : Nat := 0x28000005

/-- One step: S times x^32 modulo P (R166). -/
def gipolStep (s : Nat) : Nat :=
  let t := s / 2 ^ 96
  Nat.xor (Nat.xor (Nat.xor (Nat.xor (s % 2 ^ 96 * 2 ^ 32) (t * 2 ^ 29)) (t * 2 ^ 27)) (t * 4)) t

/-- The scrambler (R168). -/
def gipolOutput (s : Nat) : Nat := Nat.xor (s / 2 ^ 64) (s % 2 ^ 64) * 0xB5A7C3D19E4F6A2B % 2 ^ 64 / 2 ^ 32

/-- Multiplication in the field, bit i of b from the top down (R170). -/
def gfMulLoop (a b : Nat) : Nat → Nat → Nat
  | 0, r => r
  | i + 1, r =>
    let d := r % 2 ^ 127 * 2
    let d := if 2 ^ 127 ≤ r then Nat.xor d gipolFeedback else d
    gfMulLoop a b i (if bitAt b i = 1 then Nat.xor d a else d)

/-- gf_mul of R170. -/
def gfMul (a b : Nat) : Nat := gfMulLoop a b 128 0

/-- Jumps by n steps with the power PW[i] at hand (R170). -/
def gipolJumpLoop : Nat → Nat → Nat → Nat → Nat
  | 0, _, _, s => s
  | k + 1, n, pw, s => gipolJumpLoop k (n / 2) (gfMul pw pw) (if n % 2 = 1 then gfMul s pw else s)

/-- jump of R170: n is taken modulo 2^128. -/
def gipolJump (s n : Nat) : Nat := gipolJumpLoop 128 n (2 ^ 32) s

/-- The base state of a seed (R172). -/
def gipolBase (seed : List Byte) : Nat :=
  let h := sha256 ([0x47, 0x49, 0x50, 0x4F, 0x4C, 0x31, 0x32, 0x38] ++ seed)
  let lo := leNat (h.take 16)
  let hi := leNat (h.drop 16)
  if lo ≠ 0 then lo else if hi ≠ 0 then hi else 1

/-- The output number of draw d of variable v in replica q at epoch e (R175). -/
def outputNumber (q v e draws d : Nat) : Nat := q * 2 ^ 96 + v * 2 ^ 64 + e * draws + d

/-- The state of draw 0 of an epoch for a variable (R178). -/
def streamState (seed : List Byte) (q v e draws : Nat) : Nat := gipolJump (gipolBase seed) (outputNumber q v e draws 0)

/-- A stream moved past n draws (R97). -/
def gipolSkip : Nat → Nat → Nat
  | 0, s => s
  | n + 1, s => gipolSkip n (gipolStep s)

/-- expand of R181. -/
def maskExpand (key b : Nat) : Nat :=
  let z := (key + (b + 1) * 0x6A5D39E2B4C1F087) % 2 ^ 64
  let z := Nat.xor z (z / 2 ^ 29) * 0x8F3A5C71E29B46D5 % 2 ^ 64
  let z := Nat.xor z (z / 2 ^ 26) * 0xB74E19A36CD2F58B % 2 ^ 64
  Nat.xor z (z / 2 ^ 33)

/-- The mask of key and probability p, bits 0 to 15 of p from the least significant upward (R181). -/
def maskBits (key p : Nat) : Nat :=
  (List.range 16).foldl (fun m b =>
    if bitAt p b = 1 then Nat.lor m (maskExpand key b) else Nat.land m (maskExpand key b)) 0

end Sys2Proof.Machine
end

