-- ==== Sys2Proof/Machine/Types.lean ====
section
/-! DEFINITION. Machine/Types.lean: the records State is made of: images, cores, slots, orders, clusters, ports. -/

namespace Sys2Proof.Machine

/-! ### Models and settings -/

/-- One curve: LINEAR or STEP, and its knots (epoch, value), epochs strictly ascending (R144, R145). -/
structure Curve where
  linear : Bool
  knots : List (Nat × Int)
  deriving DecidableEq, Repr

/-- RELAX_CONSTANTS of a curve set (R146). -/
structure RelaxConst where
  dt : Nat
  a0 : Nat
  c : Nat
  interval : Nat
  deriving DecidableEq, Repr

/-- A curve set: the items that are present (R146). -/
structure CurveSet where
  beta : Option Curve
  noise : Option Curve
  pump : Option Curve
  ladder : Option (List Nat)
  relax : Option RelaxConst
  deriving DecidableEq, Repr

/-- An edge record (R59). -/
structure Edge where
  neighbour : Nat
  weight : Int
  index : Nat
  deriving DecidableEq, Repr

/-- A categorical variable's record with its unary table (R61, R46). -/
structure CatVar where
  var : Nat
  states : Nat
  unary : List Int
  deriving DecidableEq, Repr

/-- A factor with its table, row k of VAR_A at entry k * K_b (R62). -/
structure Factor where
  a : Nat
  b : Nat
  kb : Nat
  table : List Int
  deriving DecidableEq, Repr

/-- What the loader reads of one block (R57 to R62, R67). `blob` is the coupling blob's nonzero bytes (R58). -/
structure Block where
  varBase : Nat
  varCount : Nat
  exponent : Int
  program : Nat
  categorical : Bool
  noDense : Bool
  edgeFirst : Nat
  edges : List Edge
  blob : Mem
  colours : List Nat
  init : List Byte
  deriving DecidableEq, Repr

/-- A validated image as the loader holds it (R53 to R68). Other parts of a split model are held the same way (R231). -/
structure Image where
  address : Nat
  size : Nat
  relax : Bool
  syncDynamics : Bool
  layered : Bool
  categorical : Bool
  foreign : Bool
  partIndex : Nat
  partCount : Nat
  modelVariables : Nat
  partVariables : Nat
  colourCount : Nat
  draws : Nat
  blocks : List Block
  cats : List CatVar
  factors : List Factor
  programs : List (List Word)
  curves : CurveSet
  programDigest : List Byte
  initDigest : List Byte
  modelDigest : List Byte
  imageDigest : List Byte
  deriving DecidableEq, Repr

/-- An entry of the part map: module, slot and the image of a part, as far as the loader read it (R421, R231). -/
structure Part where
  module : Nat
  slot : Nat
  address : Nat
  image : Option Image
  deriving DecidableEq, Repr

/-! ### Cores -/

/-- What a physical core is (R105 STATE, R3): OFF, SPARE, enabled (IDLE, HELD or ACTIVE), FENCED. -/
inductive CoreKind where
  | off
  | spare
  | enabled
  | fenced
  deriving DecidableEq, Repr

/-- What an issued instruction waits for (R130): nothing, sieve results, a broadcast vector, a sync object, another module's answer to a
signal. -/
inductive CoreWait where
  | none
  | sieve (left : Nat)
  | brcv
  | sync
  | signal
  deriving DecidableEq, Repr

/-- A phase a core is running for one member (R114, R118, R131, R132). -/
structure Run where
  epoch : Nat
  phase : Nat
  member : Nat
  pc : Nat
  stage : Nat
  fprDone : Bool
  smsgDone : Bool
  pdone : Bool
  pushed : List Nat       -- column groups pushed in this phase
  queued : Bool           -- owed increments of a fold member queued (R134)
  retired : Nat           -- instructions retired by this member in this phase (BUDGET, R142)
  wait : CoreWait
  deriving DecidableEq, Repr

/-- A block-replica on a core (R72, R74): its replica and block, its own 64 KiB store (R80; unlisted bytes are zero, R84),
the draws each local index consumed in this epoch (R97), the partner states kept beside the factor tables (R238), the last
epoch it closed, and whether it faulted in the phase under way (R134). -/
structure Member where
  replica : Nat
  block : Nat
  store : Mem
  used : Tbl Nat
  partners : Tbl Nat
  old : Tbl Int           -- x-hat or categorical state at the launch of the phase, of variables that moved (R91, R153, R187)
  energySent : Option Nat -- last exchange epoch whose energy contribution was sent (R159)
  scratchFree : Option Nat -- what 0xE000 to 0xF7FF hold where no store wrote since: zero, or free bytes (R84, R135)
  stagingFree : Option Nat -- what 0xF800 to 0xFFFF hold: zero, or free bytes once SMSG or BCST wrote them (R84, R123)
  closed : Option Nat
  faulted : Bool
  deriving DecidableEq, Repr

/-- A launch object (R225). `done` is the last phase whose PDONE retired (R222). -/
structure Launch where
  inNeed : List Nat
  pro : Nat
  nextEpoch : Nat
  nextPhase : Nat
  armed : Bool
  frozen : Bool
  start : Bool
  runGen : Nat
  count : Tbl Nat         -- counter (b, c) at key 16 b + c
  done : Option (Nat × Nat)
  launched : Option (Nat × Nat)
  deriving DecidableEq, Repr

/-- A physical core (R78, R112, R105 to R108, R141, R303, R573, R582). -/
structure Core where
  kind : CoreKind
  slot : Option Nat
  castledIn : Bool
  members : List Member
  storeWritten : Bool
  store : Mem
  storeFree : Option Nat × Option Nat -- its SCRATCH and staging area as they stood (R123, R135)
  instrs : Tbl Word       -- instruction store: nonzero words by index, 0 to 2,047 (R78, R136, R137)
  window : Mem
  windowFree : Option Nat -- what the program window holds where no store wrote since: zero, or free bytes (R124, R135)
  launch : Launch
  run : Option Run
  k : Tbl Word
  w : Tbl (BitVec 512)
  acc : Tbl Int
  parked : List StateMsg
  held : List StateMsg
  outbox : List StateMsg
  vectors : List BcastMsg
  pfCode : Nat
  pfPc : Nat
  pfMember : Nat
  drawOverrun : Bool
  faultSlot : Option Nat             -- the slot whose fault PFAULT and DRAW_OVERRUN record (R105, R141)
  tableParity : Bool
  laneOk : BitVec 8
  colander : Bool
  lastPhase : Nat                    -- colour phase last launched (R108)
  lastMember : Nat                   -- position of the member last run since placement (R106)
  fencedAnswers : Nat
  retired : Nat
  wasted : Nat
  front : Nat
  back : Nat
  lfsr : Word
  quietTicks : Nat
  deriving DecidableEq, Repr

/-! ### Clusters -/

/-- A request waiting in a sieve: the core, member and local index, and the draw handed over (R190). -/
structure SieveReq where
  core : Nat
  member : Nat
  index : Nat
  draw : Word
  deriving DecidableEq, Repr

/-- An open group of a float tree at a cluster's nodes (R211): leaf pairs by leaf index. -/
structure OpenGroup where
  slot : Nat
  replica : Nat
  tree : Nat
  epoch : Nat
  group : Nat
  block : Nat
  runGen : Nat
  leaves : List (Nat × (Word × Word))
  floatSat : Bool
  deriving DecidableEq, Repr

/-- A cluster's integer sum of one tree (R211). -/
structure IntSum where
  slot : Nat
  replica : Nat
  tree : Nat
  epoch : Nat
  runGen : Nat
  sum : Int
  leafTop : Nat
  deriving DecidableEq, Repr

/-- A general sync object (R243) with its registered waiters (R246). -/
structure SyncObj where
  mode : Nat               -- 1 PLAIN, 2 EPOCH
  owner : Nat
  waitersNeed : Nat
  threshold : Nat
  generation : Nat
  count0 : Nat
  count1 : Nat
  waited0 : Nat
  waited1 : Nat
  bankEpoch : Nat
  target : Nat
  waiting : List Waiter
  crossbar : List Waiter
  deriving DecidableEq, Repr

/-- A cluster: sieve, reduction nodes, general sync objects, mesh router, reliability agent, slices, counters. -/
structure Cluster where
  sieveQueue : List SieveReq         -- at most 64, the one served first (R190)
  sieveWait : List SieveReq          -- requests of cores that found the queue full, in arrival order (R190)
  sieveParity : Bool
  sieveOut : Bool
  sieveServed : Nat
  groups : List OpenGroup
  sums : List IntSum
  spillLarder : Bool
  spillSlice : Bool
  combined : Nat
  objects : Tbl SyncObj    -- key: object number 64 to 127
  overcount : Bool
  poolPeak : Nat
  corrected : Nat
  poisoned : Nat
  inputs : Tbl (List HeldPacket) -- router input buffers, key: input port 0 north, 1 east, 2 south, 3 west, 4 local
  higherRun : Tbl Nat      -- by output: consecutive packets of higher channels sent while a lower one waits (R290)
  turns : Tbl Nat          -- by 4 times the output plus the channel: the input served last (R290)
  crossed : List Msg       -- messages that left the mesh here and stand before their target (R289)
  sliceSlot : Tbl Nat      -- slices 0 to 27 assigned to a slot (R280)
  counters : Tbl Nat
  running : Bool
  parityFrozen : Bool
  missedAcks : Nat         -- consecutive ticks that the agent did not acknowledge (R25)
  routerQuiet : Nat        -- consecutive ticks without handshake progress of the mesh router, the crossbar, the nodes (R25)
  crossbarQuiet : Nat
  nodesQuiet : Nat
  sieveTestPass : Bool
  placed : Bool                      -- a block-replica was placed here: program windows written with zeros (R124)
  retiredSlices : List Nat           -- slices CP firmware retired until module reset (R587)
  tagHeld : List (List Byte)
  deriving DecidableEq, Repr

/-! ### Slots -/

/-- Slot states (R413). -/
inductive SlotState where
  | empty
  | loaded
  | running
  | stopping
  | stopped
  | faulted
  | disabled
  deriving DecidableEq, Repr

/-- Fit classes that a loaded slot can have (R415). -/
inductive FitClass where
  | fit
  | spill
  | fold
  deriving DecidableEq, Repr

/-- Settings that SLOT_CONFIG stages (R423, R452). -/
structure Staged where
  seed : Option (List Byte)
  curves : Option CurveSet
  ladderSet : Bool
  runs : Option Nat
  sieve : Option (Nat × Nat)
  treeMask : Option Nat
  capture : Option (Nat × Nat × Nat × Nat × Nat) -- first, step, count, sample address, statistics address
  deriving DecidableEq, Repr

/-- What a SLOT_START put in force from its first epoch on: RUNS, EXCHANGE_INTERVAL and the configuration tag (R164, R452). -/
structure Settings where
  first : Nat
  runs : Nat
  interval : Nat
  tag : Nat
  deriving DecidableEq, Repr

/-- A stop under way (R241, R425, R427). -/
structure Drain where
  hard : Bool
  disable : Bool
  named : Nat                      -- stop epoch named, 0 for none
  replies : List (Nat × Nat)       -- (part, highest launched epoch)
  limitSet : Bool
  reported : List Nat              -- parts that reported DRAINED
  orders : List Nat                -- ids of the orders that complete with it
  disableOrder : Option Nat
  aborted : Bool                   -- its ordering command was ABORTED by R467: DRAIN_END records the end
  engine : Bool                    -- ordered by the module (epoch limit R176, FORCE R438)
  deriving DecidableEq, Repr

/-- A tree result being formed at the root (R213, R216). Tree 16 is the exchange tree. -/
structure TreeForm where
  replica : Nat
  tree : Nat
  epoch : Nat
  sum : Int
  groups : List (Nat × (Word × Word))
  writers : List (Nat × Nat × Nat)  -- (group, part, block) that wrote it (R210)
  leafTop : Nat
  anyLeaf : Bool
  floatSat : Bool
  closes : List (Nat × Nat × Nat)   -- (part, blockCount, closed) tokens
  result : Option (List Byte)       -- the 16-byte record, once complete
  deriving DecidableEq, Repr

/-- A phase fingerprint sum of one replica (R261, R263). -/
structure PhaseFp where
  replica : Nat
  epoch : Nat
  phase : Nat
  sum : Nat
  blocks : Nat                      -- block-replicas that completed the phase
  deriving DecidableEq, Repr

/-- A checkpoint being collected (R588): resume epoch, and the state records written so far by (replica, block). -/
structure CkptBuild where
  resume : Nat
  records : List ((Nat × Nat) × (List Byte × Nat))
  deriving DecidableEq, Repr

/-- Lock-step of a slot (R270 to R275). -/
structure LockStep where
  partner : Nat
  port : Nat
  order : Option Nat                 -- LOCKSTEP_BEGIN waiting for the partner's HELLO
  active : Bool
  ownHello : List Byte × Nat         -- PROVENANCE_DIGEST and next epoch this module sent
  partnerHello : Option (List Byte × Nat)
  partnerSlot : Nat                  -- SLOT of the partner's HELLO (R271)
  mine : List (Nat × Nat × Nat × Nat)   -- (replica, epoch, phase, value) sent and not yet compared
  theirs : List (Nat × Nat × Nat × Nat)
  matched : List (Nat × Nat × Nat × Nat)
  report : Option (Nat × Nat × Nat × Nat × Nat × Nat) -- epoch, phase, replica, cause, own, partner's fingerprint
  deriving DecidableEq, Repr

/-- A chain slot (R16, R413, R449). -/
structure Slot where
  state : SlotState
  image : Option Image
  parts : List Part
  replicas : Nat
  runs : Nat
  settings : List Settings           -- of every start since MODEL_LOAD or SLOT_RESTORE, newest first
  results : Nat
  fit : FitClass
  fitFlags : Nat
  foldFactor : Nat
  rate : Nat
  groups : Nat
  tableSizes : List Nat              -- bytes of the table of every factor (R73, R624)
  edgesAt : Nat                      -- local address of the image's EDGES section (R59, R82)
  foldBase : Nat                     -- fold area: first byte and length in FOLD_POOL (R322)
  foldLen : Nat
  seed : Option (List Byte)
  started : Bool
  startPoint : Bool                  -- the next SLOT_START is a start point (R223)
  curves : CurveSet
  staged : Staged
  topk : Nat
  nucleus : Nat
  treeMask : Nat
  rootSeed : Nat                     -- the firmware's choice of root clusters (R213)
  capFirst : Nat
  capStep : Nat
  capCount : Nat
  sampleAddr : Nat
  statsAddr : Nat
  resume : Nat                       -- epoch of the next SLOT_START
  epochLimit : Nat
  runGen : Nat
  completed : Option Nat
  lastCapture : Option Nat
  capWritten : List (Nat × Nat × Nat) -- (capture epoch, replica, block) written (R250)
  rungs : List Nat
  exchHist : List (Nat × List Nat × List (Nat × Nat)) -- exchange epoch, rungs during it, counts after it, oldest first
  exch : List (Nat × Nat)
  energies : List (Nat × Nat × Word × Word) -- part 0: (epoch, replica, s, c) at replica 0's root; other parts: exchange results that came
  segment : Option (List Byte)
  curveDigest : List Byte
  configTag : Nat
  trees : List TreeForm
  treeSatFrom : Option Nat           -- lowest epoch of a tree result with FLOAT_SAT since MODEL_LOAD (R217)
  statSat : List (Nat × Nat)         -- (epoch, SAT flags at its close)
  fps : List PhaseFp
  lastFp : List (Nat × Nat × Nat × Nat) -- (replica, epoch, phase, value) last completed
  fpE : List (Nat × Nat × Nat)       -- (replica, epoch, FP_E)
  ckptFilled : List (Nat × Nat)      -- line ranges of the CHECKPOINT area that FILL covered (R321)
  ckptReady : Bool
  ckptCopy : Nat                     -- which copy holds the newest committed checkpoint
  ckptBuilds : List CkptBuild
  ckptPending : Option Nat           -- resume epoch written whole, not yet committed
  ckptDone : List (Nat × Nat)        -- at part 0: (part, resume epoch) reported
  ckptCommitted : Option Nat
  drain : Option Drain
  faultStatus : Nat
  faultEpoch : Nat
  disabledFaulted : Bool             -- SLOT_ENABLE returns it to FAULTED (R428)
  handles : Tbl Nat                  -- slot sync handles (R243)
  lock : Option LockStep
  waitingStart : Option Nat          -- SLOT_START order waiting for a deferred test (R424)
  deriving DecidableEq, Repr

/-! ### Orders, journal and queues -/

/-- An order the arbiter or the management controller took and that has not completed (R403, R464). `source` is the queue,
0x80 for management. `generation` is the queue's strobe count when it was taken (R398). -/
structure Order where
  id : Nat
  seq : Nat
  source : Nat
  generation : Nat
  packet : BitVec 512
  started : Bool
  acceptTime : Nat
  statusDue : Bool
  deriving DecidableEq, Repr

/-- A slot change that the arbiter's next snapshot notes (R465). -/
structure NotedChange where
  opcode : Nat
  target : Nat
  status : Nat
  detail : Nat
  result : Nat                       -- status-entry bytes 31 to 20
  deriving DecidableEq, Repr

/-- A deferred test or calibration (R439). -/
structure PendingTest where
  calibrate : Bool
  code : Nat
  unit : Nat
  seq : Nat
  deriving DecidableEq, Repr

/-- A test or calibration that runs now and whose outcome is still to come (R440), or waits for a FORCE stop. -/
structure RunningTest where
  order : Nat
  calibrate : Bool
  code : Nat
  unit : Nat
  slots : List Nat                   -- slots FORCE stops first
  deriving DecidableEq, Repr

/-- What a module read of host memory, or of the management host's memory, is for (R399). -/
inductive HostRead where
  | packet (queue index : Nat)
  | mgmtPacket (index : Nat)
  | copy (order : Nat)
  | stage (order : Nat)
  deriving DecidableEq, Repr

/-- Where the bytes of a transfer come from or go to: a pattern (FILL), host memory, a hall address. -/
inductive Place where
  | pattern (p : Nat)
  | host (a : Nat)
  | hall (a : Nat)
  deriving DecidableEq, Repr

/-- A FILL or COPY that waits for host memory or another module (R417, R418): what has been moved, and the chunk in hand. -/
structure Transfer where
  order : Nat
  src : Place
  dst : Place
  length : Nat
  moved : Nat
  data : Option (List Byte)
  deriving DecidableEq, Repr

/-- The command arbiter and the journal (R403, R462). -/
structure Arbiter where
  nextId : Nat
  newest : Nat
  orders : List Order
  mgmt : List Order                  -- management orders waiting for a pass, in arrival order
  noted : List NotedChange
  tests : List PendingTest
  runningTests : List RunningTest
  reads : List (Nat × HostRead)      -- outstanding module reads of host memory, by tag
  readsHeld : List HostRead          -- reads of the host's memory that wait for a tracker, oldest first (R406)
  nextRead : Nat
  transfers : List Transfer
  remote : List (Nat × Mem)          -- bytes of other modules read for an open order, by hall address (R231, R423)
  deriving DecidableEq, Repr

/-- What a submission queue holds beside its registers (R390, R391, R397, R398). -/
structure Queue where
  sqTail : Nat
  cqHead : Nat
  sqHead : Nat
  cqTail : Nat
  err : Nat
  run : Bool
  fetchNext : Nat                    -- next ring index to fetch
  fetched : List (BitVec 512)
  reserved : Nat
  writes : Nat
  generation : Nat
  parityStop : Bool
  deriving DecidableEq, Repr

/-! ### Stations, ports and remote requests -/

/-- A memory station (R332): 0 to 5 HBM, 8 and 9 Larder. -/
structure MemStation where
  refreshMult : Nat
  selfRefresh : Bool
  trained : Bool
  corrected : Nat
  uncorrectable : Nat
  inUse : Nat                        -- tracker entries held, all pools (R331)
  inFirmware : Nat                   -- of them, entries reserved for CP firmware and the loader
  inEngine : Nat                     -- of them, entries reserved for the reliability engine
  peak : Nat
  ranges : List (Nat × Nat)          -- entries: local address, length (R325)
  scrubUncorr : Nat
  lapRefi : Nat
  laps : Nat
  pointer : Option Nat               -- next line of the lap under way
  lapRanges : List (Nat × Nat)       -- ranges that take part in this lap (R329)
  errLast : Option (Nat × Nat)       -- last uncorrectable line and its flags (R333)
  deriving DecidableEq, Repr

/-- Port states (R337). -/
inductive PortState where
  | disabled
  | noCord
  | authenticating
  | training
  | up
  | retraining
  | down
  deriving DecidableEq, Repr

/-- Where a cord exchange stands (R376). -/
inductive CordStep where
  | idle
  | nonceWait
  | challenged
  | policyWait
  deriving DecidableEq, Repr

/-- A fabric port and its station (R334 to R372, R376 to R384, R618). -/
structure Port where
  state : PortState
  downReason : Nat
  lanesOk : Nat
  lanesUsed : Nat
  width : Nat
  peerPort : Nat
  peerId : Nat
  aligned : Bool
  lanesOut : Nat                      -- lanes a LANE_MARGIN or SERDES_LANE took out
  widen : Bool                        -- the training under way may choose a wider width than the present one (R338)
  cordPresent : Bool
  cordKind : Nat
  cordAuth : Bool
  cordCause : Nat
  cordWear : Nat
  cordPct : Nat
  cordRecord : Option (List Byte)
  cordStep : CordStep
  nonce : List Byte
  vcordOff : Bool
  position : Nat
  txNext : Nat
  txAck : Nat
  replayBuf : List (Nat × List FlitSlot)
  replayFrom : Option Nat
  replaySend : List (List FlitSlot)
  txQueue : List FabricPacket         -- packets that wait for the port, oldest first
  txRest : List FlitSlot              -- flits of the packet under way
  higherRun : Nat                     -- consecutive packets of higher channels (R351)
  served : Tbl Nat                    -- by channel: the source served last, 12 for this module (R351)
  sentAlign : Option AlignFrame       -- the last alignment frame on the wire
  sentData : Option (Nat × List FlitSlot) -- the last data frame on the wire, with its number
  rxNext : Nat
  rxNak : Option Nat
  rxNakDue : Bool
  rxNakCount : Nat
  rxHigh : Nat                        -- next frame number never accepted before
  rxHead : Option FabricPacket        -- the packet whose flits arrive now
  rxBuf : List FabricPacket           -- the receive buffer (R350)
  nakRun : Nat                        -- NAKs that arrived for the same frame number
  nakFrame : Nat
  creditPool : Nat
  creditVc1 : Nat
  creditVc0 : Nat
  seenPool : Nat                      -- the peer's cumulative returns seen last (R346)
  seenVc1 : Nat
  seenVc0 : Nat
  retPool : Nat                       -- own cumulative returns (R346)
  retVc1 : Nat
  retVc0 : Nat
  linkDue : Nat                       -- data frames since the last LINK slot
  cwCorrected : Nat
  framesUncorr : Nat
  replayed : Nat
  retrains : Nat
  downs : Nat
  inUse : Nat
  peak : Nat
  hopLimit : Nat
  routeErr : Nat
  poisonHead : Nat
  late : Nat
  sent : Nat
  accepted : Nat
  replayTotal : Nat
  flitsSent : Nat
  replayTimes : List Nat              -- data frames sent when each recent replayed frame left (R348)
  laneSym : Tbl Nat
  laneUncorr : Tbl Nat
  laneSince : Tbl Nat                 -- uncorrectable codewords since the last training (R338)
  laneEye : Tbl Nat
  laneLocked : Nat
  counters : Tbl Nat
  running : Bool
  parityFrozen : Bool
  deriving DecidableEq, Repr

/-- An outstanding remote request of an exit station (R365): the tracker entry and the order or unit it belongs to, the port it left
through (R339), whether the entry is a reserved one, and the request itself while it still waits for an entry (R331, R368); its tag is then 65,536 or more. -/
structure Tracker where
  tag : Nat
  port : Nat
  address : Nat
  op : RemoteOp
  order : Option Nat
  core : Option (Nat × Nat)          -- core and epoch of a SIG that waits for the response (R244)
  unit : Nat
  via : Nat
  reserved : Bool
  held : Option Request
  deriving DecidableEq, Repr

/-- An outstanding BAR4 access that left the module (R394). -/
structure Bar4Access where
  tag : Nat
  write : Bool
  address : Nat
  length : Nat
  deriving DecidableEq, Repr

/-! ### Entropy, identity, management -/

/-- Source states (R511). -/
inductive EntState where
  | stopped
  | startup
  | released
  | fault
  deriving DecidableEq, Repr

/-- A consumer waiting for conditioned entropy (R512). -/
inductive EntReq where
  | salt (order : Nat)
  | nonce (port : Nat)
  | get (order need : Nat) (got : List Byte)  -- bytes still to come, and those given already
  | seed (order : Nat)
  deriving DecidableEq, Repr

/-- The entropy source (R504 to R519). -/
structure Entropy where
  state : EntState
  consec : Nat
  pool : List (List Byte)
  rot : List EntReq
  host : List EntReq
  pairsOk : Nat
  failsStartup : Nat
  failsRct : Nat
  failsApt : Nat
  discards : Tbl Nat                 -- consecutive discarded blocks by pair (R510)
  rawSamples : Nat
  conditioned : Nat
  discarded : Nat
  delivered : Nat
  parityStop : Bool
  post : Bool                        -- a start-up round has passed since the sources started (R509, R510)
  deriving DecidableEq, Repr

/-- One of the two firmware image slots (R525, R526). -/
structure FwImage where
  valid : Bool
  confirmed : Bool
  trial : Bool
  security : Nat
  results : Nat
  build : Nat
  digest : List Byte
  cause : Nat
  staging : Bool
  deriving DecidableEq, Repr

/-- A signing request at the root of trust (R531). -/
structure SignReq where
  order : Nat
  attest : Bool
  salt : Option (List Byte)
  deriving DecidableEq, Repr

/-- The root of trust and the firmware store (R520 to R537, R569). -/
structure RootOfTrust where
  imageA : FwImage
  imageB : FwImage
  runningB : Bool
  recovery : Bool
  otpVersion : Nat
  bootVerified : Bool
  signing : List SignReq
  stageOpen : Bool
  stageRanges : List (Nat × Nat)
  stageReady : Bool
  store : Mem                        -- the image slot that does not run, by offset, as far as staging programmed it (R569)
  debugHalted : List Nat
  debugMem : Tbl (List (Nat × Byte))
  deriving DecidableEq, Repr

/-- The management controller (R555 to R572). -/
structure Mgmt where
  sqBase : Nat
  cqBase : Nat
  sizeLog2 : Nat
  run : Bool
  sqTail : Nat
  cqHead : Nat
  sqHead : Nat
  cqTail : Nat
  fetchNext : Nat
  err : Nat
  ringSq : Nat                       -- bases and size read when RUN was set (R558)
  ringCq : Nat
  ringLog2 : Nat
  generation : Nat
  events : Nat
  enable : Nat
  msix : List Nat
  alone : List Order                 -- orders answered alone, not yet answered (R34)
  fetched : List (BitVec 512)
  log : List (List Byte)             -- oldest first
  persistent : List (List Byte)
  logSeq : Nat
  auxBoots : Nat
  counter : Nat
  counterCopy : Nat
  telemetry : List Byte
  seenReady : Nat
  seenFatal : Nat
  seenFault : Nat
  seenPort : Nat
  countReady : Nat
  countFatal : Nat
  countFault : Nat
  countPort : Nat
  fruOffset : Nat
  dest : Mem                         -- the management host's memory as the module wrote it
  deriving DecidableEq, Repr

/-- The supply supervisor (R541 to R554). -/
structure Supply where
  warn : Bool
  capMv : Nat
  thermalMv : Nat
  appliedMv : Nat
  ramping : Bool
  safeDefaults : Bool
  capUnmet : Bool
  thermalCrit : Bool
  throttling : Bool
  mainOk : Bool
  mgmtCapW : Nat
  samples : List Nat                 -- last ten 10 us measurements, mW, newest first
  sumMw : Nat
  sumCount : Nat
  p100 : Nat
  p1 : Nat
  lowRun : Nat                       -- consecutive boundaries below 98 % of the cap
  coolRun : Nat
  sinceCut : Nat                     -- measurements since the last P100 cut
  mainMv : Nat
  auxMv : Nat
  vcoreMv : Nat
  tj : List Int
  inlet : Int
  outlet : Int
  warns : Nat
  limited : Nat
  deriving DecidableEq, Repr

/-! ### The platform: supplies, resets, link -/

/-- How far a start-up or a reset has come (R599, R605 to R607): the rails are off; a warm reset waits for the rising edge of PERST_N; the
compute dies run step 3; the memories train; all is done but PERST_N or the aligned release; the module takes commands. -/
inductive Boot where
  | off
  | held
  | bist
  | training
  | holdPerst
  | ready
  deriving DecidableEq, Repr

/-- The fields of Device Control and Device Control 2 that change what the module does (R386, R387): payload and read request sizes in bytes,
10-bit tags as requester, the completion timeout range and its disable setting. -/
structure PcieControl where
  maxPayload : Nat
  maxRead : Nat
  tenBitTags : Bool
  timeoutRange : Nat
  timeoutOff : Bool
  deriving DecidableEq, Repr

/-- Supplies, pins, resets and the host link (R386, R598 to R608). -/
structure Platform where
  aux : Bool
  mgmtReady : Bool
  main : Bool
  rails : Bool
  boot : Boot
  perstHigh : Bool
  mgmtPerstHigh : Bool
  vsagLow : Bool
  lastReset : Nat
  alignedStart : Bool
  alignedWait : Bool                 -- an aligned start was asked for and is still to come (R607)
  alignedEdge : Bool                 -- its PERST_N edge has come
  fifoFill : Nat                     -- fill of every crossing FIFO at an aligned release (R607)
  everTrained : Bool
  hbmTrained : Bool
  larderTrained : Bool
  fatal : Bool
  linkSpeed : Nat
  linkWidth : Nat
  linkFlit : Bool
  d3hot : Bool
  bar4Log2 : Nat                     -- BAR4 size: 36 is 64 GiB (R388)
  pcie : PcieControl                 -- what the host programmed (R386, R387)
  deriving DecidableEq, Repr

/-! ### The host's register file -/

/-- Registers of BAR0 and of the indirect space that software writes. `file` holds shadows and plain fields by offset (BAR0)
or by IND_ADDR (class 1 and above); an unlisted key reads its reset value. `live` holds the live copies of buffered
registers by the same key (R477). -/
structure Regs where
  file : Tbl Word
  live : Tbl Word
  pendingCfg : List (Nat × Nat)      -- (domain, instance) with a shadow write since its last applied strobe
  reject : Word
  rejects : Nat
  parityStatus : Nat
  parityWhere : Word
  irqStatus : Nat
  secLock : Nat
  lockWrites : Nat
  locks : Tbl (Nat × Nat)            -- lock registers: owner, tag (R487)
  mbxData : List Word
  mbxValid : Bool
  mbxBusy : Bool
  mbxErr : Nat
  mbxGen : Nat
  indErrors : Nat
  indLastErr : Nat
  indErr : Bool
  indData : Word                     -- what the last IND_DATA read returned
  reservedTouched : Bool             -- a reserved bit was written with another value (R476)
  winOpen : Bool
  winParityStop : Bool
  deriving DecidableEq, Repr

/-- Counter control, tagging and the exact record buffer (R576 to R584). -/
structure Perf where
  freezeAll : Bool
  tagRun : Bool
  rbRun : Bool
  hostCounters : Tbl Nat
  hostRunning : Bool
  hostParity : Bool
  tagParity : Bool
  tagSeq : Nat
  tagged : Nat
  tagWritten : Nat
  tagDropped : Nat
  records : List (List Byte)         -- exact record buffer, newest first, at most 4,096
  rbWritten : Nat
  rbMissed : Nat
  deriving DecidableEq, Repr

/-- What the module reports through AER (R399). -/
inductive AerError where
  | unsupportedRequest
  | completerAbort
  | poisonedTlp
  | completionTimeout
  | errorCompletion
  deriving DecidableEq, Repr

/-- The host station and the error log (R407, R502, R596). -/
structure HostStation where
  inUse : Nat
  peak : Nat
  bar4Ur : Nat
  bar4Ca : Nat
  bar4Poison : Nat
  bar4EpIn : Nat
  bar4Open : List Bar4Access
  doorbells : List (Nat × Bool × Nat)  -- doorbells held behind posted writes (R392): queue, tail or head, value
  mem : Mem                          -- host memory as the module wrote it
  msix : List Nat                    -- MSI-X vectors sent, newest first
  aer : List AerError                -- errors reported through AER, newest first (R399)
  msixPend : List Nat                -- vectors masked in the MSI-X table that wait as pending (R402)
  errNewest : Nat
  errFatalSeq : Option Nat
  errCorrected : Nat
  errContained : Nat
  errFatal : Nat
  errFirst : List (Nat × Nat)        -- (code, unit key) whose corrections were logged, with their counts
  deriving DecidableEq, Repr

/-- A FENCE under way: its unit, the tags of the requests it waits for, and the unit's earlier broadcasts (R364). -/
structure Fence where
  unit : Nat
  tags : List Nat
  broadcasts : List Request
  deriving DecidableEq, Repr

/-- The fabric of the module (R352, R353, R365). -/
structure Fabric where
  moduleId : Nat
  groupRoute : Tbl Nat
  memberRoute : Tbl Nat
  bcastMask : Tbl Nat
  trackers : List Tracker
  nextTag : Nat                      -- requests that waited for a tracker so far
  waitUp : List Nat                  -- FABRIC_CONFIG orders that wait for ports to settle
  portOrders : List (Nat × Nat)      -- (order, port) PORT_STATE orders that wait
  fences : List Fence                -- FENCEs under way (R364)
  deriving DecidableEq, Repr

/-- A physical upset of a stored word. No command of the table makes one: they stand for nature, and a unit that uses the
word finds them (R583 to R587). -/
inductive Upset where
  | line (address : Nat)             -- uncorrectable line
  | lineSymbol (address : Nat)       -- errors confined to one symbol
  | lineMis (address : Nat) (bytes : List Byte) -- an error that equals a single-symbol error of the codeword of these bytes (R314)
  | larderWord (address : Nat)       -- a word of a Larder line that SECDED corrects (R316)
  | linkError (address : Nat)        -- an error of the Larder's link that the link corrects at the next access of the line (R316)
  | coreWord (core offset : Nat) (correctable : Bool)
  | instrWord (core index : Nat) (correctable : Bool)
  | sliceWord (address : Nat) (correctable : Bool)
  | logistic (core : Nat)
  | weight (cluster : Nat)
  | cfgShadow (domain inst : Nat)
  | cfgLive (domain inst : Nat)
  deriving DecidableEq, Repr

end Sys2Proof.Machine
end

