-- ==== Sys2Proof/Machine/State.lean ====
section
/-! DEFINITION. Machine/State.lean: the state of the module, its faults and refusals, and the state after reset. -/

namespace Sys2Proof.Machine

/-- Faults that stop the machine: none. The manual gives every command of the table an effect, and a command that names a unit the module
does not have reaches nothing (log 10). -/
inductive Fault where
  deriving DecidableEq, Repr

/-- Refusals of the machine, by name. -/
inductive Refusal where
  /-- Raised by an arm of the dispatch that has no meaning yet. Safe: the machine stops. -/
  | notModelled (mnemonic : String)
  /-- Raised by a DEBUG_REQUEST that steps a control processor whose instruction set the manual does not give (R535).
  Safe: the machine stops. -/
  | debugStep
  deriving DecidableEq, Repr

/-- No curve set loaded. -/
def noCurves : CurveSet :=
  { beta := none, noise := none, pump := none, ladder := none, relax := none }

/-- No setting staged (R423). -/
def noStaged : Staged :=
  { seed := none, curves := none, ladderSet := false, runs := none, sieve := none, treeMask := none, capture := none }

/-- An EMPTY slot (R413, R449). -/
def Slot.empty : Slot :=
  { state := .empty, image := none, parts := [], replicas := 0, runs := 0, settings := [], results := 0, fit := .fit,
    fitFlags := 0, foldFactor := 0, rate := 0, groups := 0, tableSizes := [], edgesAt := 0, foldBase := 0, foldLen := 0, seed := none,
    started := false, startPoint := false, curves := noCurves, staged := noStaged, topk := 0, nucleus := 0,
    treeMask := 0, rootSeed := 0, capFirst := 0, capStep := 0, capCount := 0, sampleAddr := 0, statsAddr := 0,
    resume := 0, epochLimit := 0, runGen := 0, completed := none, lastCapture := none, capWritten := [], rungs := [],
    exchHist := [], exch := [], energies := [], segment := none, curveDigest := [], configTag := 0, trees := [],
    treeSatFrom := none, statSat := [], fps := [], lastFp := [], fpE := [], ckptFilled := [], ckptReady := false,
    ckptCopy := 0, ckptBuilds := [], ckptPending := none, ckptDone := [], ckptCommitted := none, drain := none,
    faultStatus := 0, faultEpoch := 0, disabledFaulted := false, handles := [], lock := none, waitingStart := none }

/-- A launch object of a core no slot holds (R225). -/
def Launch.idle : Launch :=
  { inNeed := [], pro := 0, nextEpoch := 0, nextPhase := 0, armed := false, frozen := false, start := false,
    runGen := 0, count := [], done := none, launched := none }

/-- A core of a kind that holds no work: registers zero, every lane good (R105 to R108, R141). -/
def Core.idle (kind : CoreKind) : Core :=
  { kind := kind, slot := none, castledIn := false, members := [], storeWritten := false, store := [], storeFree := (none, none), instrs := [], window := [],
    windowFree := none, launch := Launch.idle, run := none, k := [], w := [], acc := [], parked := [], held := [], outbox := [],
    vectors := [], pfCode := 0, pfPc := 0, pfMember := 0, drawOverrun := false, faultSlot := none,
    tableParity := false, laneOk := 0xFF, colander := false, lastPhase := 0, lastMember := 0, fencedAnswers := 0, retired := 0, wasted := 0,
    front := 0, back := 0, lfsr := 0, quietTicks := 0 }

/-- A cluster after module reset: sieve in use, no object bound, counters running (R193, R252, R301, R576). -/
def Cluster.idle : Cluster :=
  { sieveQueue := [], sieveWait := [], sieveParity := false, sieveOut := false, sieveServed := 0, groups := [], sums := [],
    spillLarder := false, spillSlice := false, combined := 0, objects := [], overcount := false,
    poolPeak := 0, corrected := 0, poisoned := 0, inputs := [], higherRun := [], turns := [], crossed := [], sliceSlot := [], counters := [],
    running := true, parityFrozen := false, missedAcks := 0, routerQuiet := 0, crossbarQuiet := 0,
    nodesQuiet := 0, sieveTestPass := false,
    placed := false, retiredSlices := [], tagHeld := [] }

/-- A submission queue after module reset (R391, R398). -/
def Queue.idle : Queue :=
  { sqTail := 0, cqHead := 0, sqHead := 0, cqTail := 0, err := 0, run := false, fetchNext := 0, fetched := [],
    reserved := 0, writes := 0, generation := 0, parityStop := false }

/-- The arbiter before its first order (R403, R462). -/
def Arbiter.idle : Arbiter :=
  { nextId := 0, newest := 0, orders := [], mgmt := [], noted := [], tests := [], runningTests := [], reads := [],
    readsHeld := [], nextRead := 0, transfers := [], remote := [] }

/-- A memory station trained and with no scrub range (R332). -/
def MemStation.idle : MemStation :=
  { refreshMult := 0, selfRefresh := false, trained := true, corrected := 0, uncorrectable := 0, inUse := 0, inFirmware := 0, inEngine := 0,
    peak := 0, ranges := [], scrubUncorr := 0, lapRefi := 0, laps := 0, pointer := none, lapRanges := [],
    errLast := none }

/-- A fabric port after module reset: DISABLED, no cord (R337, R352). -/
def Port.idle : Port :=
  { state := .disabled, downReason := 0, lanesOk := 0, lanesUsed := 0, width := 0, peerPort := 0, peerId := 0,
    aligned := false, lanesOut := 0, widen := true, cordPresent := false, cordKind := 0, cordAuth := false, cordCause := 0,
    cordWear := 3, cordPct := 0, cordRecord := none, cordStep := .idle, nonce := [], vcordOff := false,
    position := 0, txNext := 0, txAck := 0, replayBuf := [], replayFrom := none, replaySend := [], txQueue := [],
    txRest := [], higherRun := 0, served := [], sentAlign := none, sentData := none, rxNext := 0, rxNak := none, rxNakDue := false,
    rxNakCount := 0, rxHigh := 0, rxHead := none, rxBuf := [], nakRun := 0, nakFrame := 0, creditPool := 0,
    creditVc1 := 0, creditVc0 := 0, seenPool := 0, seenVc1 := 0, seenVc0 := 0, retPool := 0, retVc1 := 0,
    retVc0 := 0, linkDue := 0, cwCorrected := 0, framesUncorr := 0, replayed := 0, retrains := 0, downs := 0,
    inUse := 0, peak := 0, hopLimit := 0, routeErr := 0, poisonHead := 0, late := 0, sent := 0, accepted := 0,
    replayTotal := 0, flitsSent := 0, replayTimes := [], laneSym := [], laneUncorr := [], laneSince := [],
    laneEye := [], laneLocked := 0, counters := [], running := true, parityFrozen := false }

/-- The entropy source in STARTUP (R511, R601). -/
def Entropy.startup : Entropy :=
  { state := .startup, consec := 0, pool := [], rot := [], host := [], pairsOk := 0, failsStartup := 0,
    failsRct := 0, failsApt := 0, discards := [], rawSamples := 0, conditioned := 0, discarded := 0, delivered := 0,
    parityStop := false, post := false }

/-- An image slot of the firmware store that holds no image (R525). -/
def noImage : FwImage :=
  { valid := false, confirmed := false, trial := false, security := 0, results := 0, build := 0, digest := [],
    cause := 0, staging := false }

/-- The root of trust after a cold start from image A (R527). -/
def RootOfTrust.booted : RootOfTrust :=
  {
    imageA := { noImage with valid := true, confirmed := true, results := 0x00010000, build := Config.fwBuild.toNat, digest := Config.keyBytes 9 },
    imageB := noImage, runningB := false, recovery := false, otpVersion := 0, bootVerified := true, signing := [],
    stageOpen := false, stageRanges := [], stageReady := false, store := [], debugHalted := [], debugMem := [] }

/-- The management controller after a power-up: its ring stopped, every event enabled, the BOOT, MAIN and EVENT records logged at counter 0,
MAIN_CHANGE set, and HOST_READY to be seen at the next sample (R556, R558, R562, R564, R599). -/
def Mgmt.idle : Mgmt :=
  { sqBase := 0, cqBase := 0, sizeLog2 := 4, run := false, sqTail := 0, cqHead := 0, sqHead := 0, cqTail := 0,
    fetchNext := 0, err := 0, ringSq := 0, ringCq := 0, ringLog2 := 0, generation := 0, events := 0x80,
    enable := 0x3FF, msix := [], alone := [], fetched := [], log := powerUpLog, persistent := powerUpLog.take 2,
    logSeq := 3, auxBoots := 1, counter := 0, counterCopy := 0, telemetry := [], seenReady := 0, seenFatal := 0,
    seenFault := 0, seenPort := 0, countReady := 1, countFatal := 0, countFault := 0, countPort := 0, fruOffset := 0,
    dest := [] }

/-- The supply supervisor after power-up: HOST limit 0.75 V in force (R541, R549, R601). -/
def Supply.idle : Supply :=
  { warn := false, capMv := 850, thermalMv := 850, appliedMv := 750, ramping := false, safeDefaults := false,
    capUnmet := false, thermalCrit := false, throttling := false, mainOk := true, mgmtCapW := 0, samples := [],
    sumMw := 0, sumCount := 0, p100 := 0, p1 := 0, lowRun := 0, coolRun := 0, sinceCut := 0, mainMv := 0, auxMv := 0,
    vcoreMv := 750, tj := [0, 0, 0, 0], inlet := 0, outlet := 0, warns := 0, limited := 0 }

/-- Class code of the function: processing accelerator (R386). -/
def classCode : Nat := 0x120000

/-- Device Control and Device Control 2 before the host programs them. PRESUMED (log 91): the reset values of the PCI Express Base
Specification, and 10-bit tags, which the function supports as requester. -/
def PcieControl.reset : PcieControl :=
  { maxPayload := 128, maxRead := 512, tenBitTags := true, timeoutRange := 0, timeoutOff := false }

/-- The platform after a cold start with the host link up (R599 to R601). -/
def Platform.up : Platform :=
  { aux := true, mgmtReady := true, main := true, rails := true, boot := .ready, perstHigh := true,
    mgmtPerstHigh := true, vsagLow := false, lastReset := 0, alignedStart := false, alignedWait := false,
    alignedEdge := false, fifoFill := 0, everTrained := true, hbmTrained := true, larderTrained := true,
    fatal := false, linkSpeed := 6, linkWidth := 16, linkFlit := true, d3hot := false, bar4Log2 := 36, pcie := PcieControl.reset }

/-- The register file after module reset: nothing written (R471). -/
def Regs.reset : Regs :=
  { file := [], live := [], pendingCfg := [], reject := 0, rejects := 0, parityStatus := 0, parityWhere := 0,
    irqStatus := 0, secLock := 0, lockWrites := 0, locks := [], mbxData := [], mbxValid := false, mbxBusy := false,
    mbxErr := 0, mbxGen := 0, indErrors := 0, indLastErr := 0, indErr := false, indData := 0,
    reservedTouched := false, winOpen := false, winParityStop := false }

/-- Counter control after module reset: RB_RUN set (R579, R601). -/
def Perf.reset : Perf :=
  { freezeAll := false, tagRun := false, rbRun := true, hostCounters := [], hostRunning := true, hostParity := false,
    tagParity := false, tagSeq := 0, tagged := 0, tagWritten := 0, tagDropped := 0, records := [], rbWritten := 0,
    rbMissed := 0 }

/-- The host station after module reset (R407). -/
def HostStation.idle : HostStation :=
  { inUse := 0, peak := 0, bar4Ur := 0, bar4Ca := 0, bar4Poison := 0, bar4EpIn := 0, bar4Open := [], doorbells := [],
    mem := [], msix := [], aer := [], msixPend := [], errNewest := 0, errFatalSeq := none, errCorrected := 0, errContained := 0,
    errFatal := 0, errFirst := [] }

/-- The fabric tables after module reset: module ID 0, every routing entry invalid (R352). -/
def Fabric.idle : Fabric :=
  { moduleId := 0, groupRoute := [], memberRoute := [], bcastMask := [], trackers := [], nextTag := 0, waitUp := [],
    portOrders := [], fences := [] }

/-- The module: its commands in waiting, and all it holds. Tables are sparse: an entry that is not listed is the unit as
module reset leaves it. -/
structure State where
  pending : List Instr
  free : Nat
  platform : Platform
  supply : Supply
  entropy : Entropy
  regs : Regs
  queues : Tbl Queue
  arbiter : Arbiter
  slots : Tbl Slot
  cores : Tbl Core
  clusters : Tbl Cluster
  mem : Mem
  stations : Tbl MemStation
  ports : Tbl Port
  fabric : Fabric
  rot : RootOfTrust
  mgmt : Mgmt
  perf : Perf
  host : HostStation
  net : List Msg
  upsets : List Upset
  reply : Reply
  deriving DecidableEq, Repr

/-- The module right after a power-up (R601): HOST_READY, all slots EMPTY, entropy in STARTUP, module ID 0x0000, every port
DISABLED, locks clear, memory unwritten, no command waiting. -/
def State.reset : State :=
  { pending := [], free := 0, platform := Platform.up, supply := Supply.idle, entropy := Entropy.startup,
    regs := Regs.reset, queues := [], arbiter := Arbiter.idle, slots := [], cores := [], clusters := [], mem := [],
    stations := [], ports := [], fabric := Fabric.idle, rot := RootOfTrust.booted, mgmt := Mgmt.idle, perf := Perf.reset,
    host := HostStation.idle, net := [], upsets := [], reply := .none }

end Sys2Proof.Machine
end

