-- ==== Sys2Proof/Machine/Ops.lean ====
section
/-! DEFINITION. Machine/Ops.lean: the named operations over units, memory, interrupts, logs and the journal. -/

namespace Sys2Proof.Machine

/-- The outcome of a command. -/
abbrev Out := Host.Outcome State Fault Refusal

/-- A command of a unit that exists. One that names a unit the module does not have reaches nothing, and nothing changes: no core, cluster,
station, queue, port or lock register beyond those of R18, R28, R278 and R398 can act. DEDUCED (log 10). -/
def unit (ok : Bool) (s : State) (r : Out) : Out := if ok then r else .next s

/-! ### Units -/

/-- What a physical core is on this part: the first ENABLED_CORES of its order are enabled, the next are its good spares, and the rest are
off (R3, R105). -/
def coreKindAtReset (c : Nat) : CoreKind :=
  if Config.coreRank c < Config.enabledCores then .enabled
  else if Config.coreRank c < Config.enabledCores + Config.spareCores then .spare else .off

/-- A physical core. -/
def State.core (s : State) (c : Nat) : Core := (s.cores.at c).getD (Core.idle (coreKindAtReset c))
/-- Replaces a core. -/
def State.setCore (s : State) (c : Nat) (x : Core) : State := { s with cores := s.cores.put c x }
/-- Changes a core. -/
def State.modCore (s : State) (c : Nat) (f : Core → Core) : State := s.setCore c (f (s.core c))
/-- A cluster. -/
def State.cluster (s : State) (k : Nat) : Cluster := (s.clusters.at k).getD Cluster.idle
/-- Replaces a cluster. -/
def State.setCluster (s : State) (k : Nat) (x : Cluster) : State := { s with clusters := s.clusters.put k x }
/-- Changes a cluster. -/
def State.modCluster (s : State) (k : Nat) (f : Cluster → Cluster) : State := s.setCluster k (f (s.cluster k))
/-- A slot. -/
def State.slot (s : State) (n : Nat) : Slot := (s.slots.at n).getD Slot.empty
/-- Replaces a slot. -/
def State.setSlot (s : State) (n : Nat) (x : Slot) : State := { s with slots := s.slots.put n x }
/-- Changes a slot. -/
def State.modSlot (s : State) (n : Nat) (f : Slot → Slot) : State := s.setSlot n (f (s.slot n))
/-- A submission queue. -/
def State.queue (s : State) (n : Nat) : Queue := (s.queues.at n).getD Queue.idle
/-- Replaces a queue. -/
def State.setQueue (s : State) (n : Nat) (x : Queue) : State := { s with queues := s.queues.put n x }
/-- Changes a queue. -/
def State.modQueue (s : State) (n : Nat) (f : Queue → Queue) : State := s.setQueue n (f (s.queue n))
/-- A fabric port. -/
def State.port (s : State) (n : Nat) : Port := (s.ports.at n).getD Port.idle
/-- Replaces a port. -/
def State.setPort (s : State) (n : Nat) (x : Port) : State := { s with ports := s.ports.put n x }
/-- Changes a port. -/
def State.modPort (s : State) (n : Nat) (f : Port → Port) : State := s.setPort n (f (s.port n))
/-- A memory station: 0 to 5 HBM, 8 and 9 Larder (R332). -/
def State.station (s : State) (n : Nat) : MemStation := (s.stations.at n).getD MemStation.idle
/-- Replaces a memory station. -/
def State.setStation (s : State) (n : Nat) (x : MemStation) : State := { s with stations := s.stations.put n x }
/-- Changes a memory station. -/
def State.modStation (s : State) (n : Nat) (f : MemStation → MemStation) : State := s.setStation n (f (s.station n))

/-- Sends a message between units or modules. -/
def State.send (s : State) (m : Msg) : State := { s with net := s.net ++ [m] }

/-- The message a unit receives leaves the network; a message that no unit of this module sent came from outside. -/
def State.arrive (s : State) (m : Msg) : State := { s with net := s.net.erase m }

/-- The next free value, and the state that has used it. -/
def State.nextFree (s : State) : DWord × State := (Config.freeWord s.free, { s with free := s.free + 1 })

/-- One element of a list that the manual lets the module choose freely (R37). -/
def pick {α : Type} (w : DWord) (l : List α) : Option α := l[w.toNat % max l.length 1]?

/-- Grid column of a physical core (R18). -/
def gridX (c : Nat) : Nat := c % 96
/-- Grid row of a physical core (R18). -/
def gridY (c : Nat) : Nat := c / 96
/-- The cluster of a physical core (R18). -/
def clusterOf (c : Nat) : Nat := 12 * (gridY c / 8) + gridX c / 8
/-- The number of a core within its cluster (R18). -/
def coreInCluster (c : Nat) : Nat := 8 * (gridY c % 8) + gridX c % 8
/-- The physical index of core n of a cluster (R18). -/
def coreAt (cluster n : Nat) : Nat := 96 * (8 * (cluster / 12) + n / 8) + 8 * (cluster % 12) + n % 8

/-- The running firmware image, and the other one (R525). -/
def RootOfTrust.running (r : RootOfTrust) : FwImage := if r.runningB then r.imageB else r.imageA
/-- The image that does not run. -/
def RootOfTrust.other (r : RootOfTrust) : FwImage := if r.runningB then r.imageA else r.imageB

/-- Writable shadow or plain register by key; an unlisted key reads the value given (R471). -/
def State.regOr (s : State) (key : Nat) (reset : Nat) : Nat :=
  match s.regs.file.at key with
  | some w => w.toNat
  | none => reset

/-- The live copy of a buffered register (R477). -/
def State.liveOr (s : State) (key : Nat) (reset : Nat) : Nat :=
  match s.regs.live.at key with
  | some w => w.toNat
  | none => reset

/-! ### The local address space (R305, R317) -/

/-- What lies at a local address. -/
inductive Region where
  | hbm
  | journal
  | errorLog
  | tagRing
  | firmware
  | checkpoint (slot : Nat)
  | foldPool
  | general
  | slice (cluster slice : Nat)
  | store (core : Nat)
  | sync (cluster object : Nat)
  | outside
  deriving DecidableEq, Repr

/-- First local address of the Larder (R305). -/
def larderBase : Nat := 0x010000000000
/-- First local address of the slices (R305). -/
def sliceBase : Nat := 0x020000000000
/-- First local address of the core stores (R305). -/
def storeBase : Nat := 0x030000000000
/-- First local address of the sync objects (R305). -/
def syncBase : Nat := 0x040000000000

/-- The region of a local address (R305, R317). -/
def regionOf (a : Nat) : Region :=
  if a < 0x004800000000 then .hbm
  else if a < 0x010000000000 then .outside
  else if a < 0x010004000000 then .journal
  else if a < 0x010005000000 then .errorLog
  else if a < 0x010007000000 then .tagRing
  else if a < 0x010010000000 then .firmware
  else if a < 0x010100000000 then .checkpoint ((a - 0x010010000000) / 0x5000000)
  else if a < 0x010800000000 then .foldPool
  else if a < 0x018000000000 then .general
  else if a < 0x020000000000 then .outside
  else if a < 0x020024000000 then .slice ((a - sliceBase) / 0x400000) ((a - sliceBase) % 0x400000 / 0x20000)
  else if a < 0x030000000000 then .outside
  else if a < 0x030024000000 then .store ((a - storeBase) / 0x10000)
  else if a < 0x040000000000 then .outside
  else if a < 0x040000480000 then .sync ((a - syncBase) / 0x8000) ((a - syncBase) % 0x8000 / 0x100)
  else .outside

/-- Whether a region lies in HBM or the Larder, where the protection unit is a line (R323). -/
def Region.lined : Region → Bool
  | .slice _ _ | .store _ | .sync _ _ | .outside => false
  | _ => true

/-- What an unlisted byte of the module's memory reads as: zero in the regions the module writes in full before it takes
commands (R320), no value elsewhere (R323). -/
def memBackground : Background := fun a =>
  if 0x010000000000 ≤ a && a < 0x010007000000 then some 0 else none

/-- Writes bytes at a local address. -/
def State.poke (s : State) (a : Nat) (bs : List Byte) : State := { s with mem := Mem.write memBackground s.mem a bs }

/-- Writes whole protection units: upsets there go, no merge is made (R324). -/
def State.putWhole (s : State) (a : Nat) (bs : List Byte) : State :=
  let s := { s with upsets := s.upsets.filter fun u => match u with
    | .line x | .lineSymbol x | .lineMis x _ | .larderWord x => !(a ≤ x && x < a + bs.length)
    | .sliceWord x _ => !(a ≤ x && x < a + bs.length)
    | _ => true }
  s.poke a bs

/-- Writes bytes into host memory (R400). -/
def State.hostWrite (s : State) (a : Nat) (bs : List Byte) : State :=
  { s with host := { s.host with mem := Mem.write noBackground s.host.mem a bs } }

/-- Writes bytes into the memory of the management controller's PCIe host (R556). -/
def State.mgmtWrite (s : State) (a : Nat) (bs : List Byte) : State :=
  { s with mgmt := { s.mgmt with dest := Mem.write noBackground s.mgmt.dest a bs } }

/-- The memory station of a line and its stack address (R308, R309): 0 to 5 HBM, 8 and 9 Larder. -/
def stationOf (a : Nat) : Nat := if a < larderBase then a / 4096 % 6 else 8 + (a - larderBase) / 4096 % 2

/-- The address of a line inside its station (R308, R309). -/
def stackAddress (a : Nat) : Nat :=
  if a < larderBase then a / 4096 / 6 * 4096 + a % 4096
  else (a - larderBase) / 4096 / 2 * 4096 + (a - larderBase) % 4096

/-- The channel and the pseudo-channel of an HBM line (R308). -/
def hbmChannel (a : Nat) : Nat × Nat := (a / 64 % 64 / 2, a / 64 % 2)

/-- The LPDDR5X channel of a Larder line (R309). -/
def larderChannel (a : Nat) : Nat := (a - larderBase) / 64 % 4

/-- The packages that a Larder station serves (R309). -/
def larderPackages (station : Nat) : List Nat := (List.range 4).map fun i => 4 * station + i

/-! ### Interrupts (R402, R496, R497) -/

/-- Sends an MSI-X message, or leaves it pending while its vector is masked in the MSI-X table (R402). -/
def State.sendMsix (s : State) (v : Nat) : State :=
  if s.regOr (0x0E000C + 16 * v) 1 % 2 = 1 then
    if v ∈ s.host.msixPend then s else { s with host := { s.host with msixPend := v :: s.host.msixPend } }
  else { s with host := { s.host with msix := v :: s.host.msix } }

/-- The MSI-X vector of an event: byte n mod 4 of IRQ_VECTOR n div 4 (R496). -/
def State.irqVector (s : State) (n : Nat) : Nat := bitsAt (s.regOr (0x020010 + 4 * (n / 4)) 0) (8 * (n % 4) + 5) (8 * (n % 4))

/-- An event of IRQ_STATUS: its bit sets, and a message is sent when an enabled bit goes from 0 to 1 (R497). -/
def State.raise (s : State) (n : Nat) : State :=
  if bitAt s.regs.irqStatus n = 1 then s
  else
    let s' := { s with regs := { s.regs with irqStatus := s.regs.irqStatus + 2 ^ n } }
    if bitAt (s.regOr 0x020004 0) n = 1 then s'.sendMsix (s.irqVector n) else s'

/-- Sets bits of MG_EVENT; vector 1 is sent when an enabled bit goes from 0 to 1 (R562). -/
def State.mgEvent (s : State) (n : Nat) : State :=
  if bitAt s.mgmt.events n = 1 then s
  else
    let m := { s.mgmt with events := s.mgmt.events + 2 ^ n }
    { s with mgmt := if bitAt m.enable n = 1 then { m with msix := 1 :: m.msix } else m }

/-! ### The management log (R567, R568) -/

/-- Writes a management log record: the ring of 16,384, and the persistent ring of 65,536 where the kind says so (R568). -/
def State.mgLog (s : State) (kind : Nat) (persistent : Bool) (data : List Byte) : State :=
  let m := s.mgmt
  let r := logRecord kind persistent m.auxBoots (m.logSeq + 1) m.counter data
  let keep := fun (n : Nat) (l : List (List Byte)) => l.drop (l.length - n)
  { s with mgmt := { m with
      logSeq := m.logSeq + 1
      log := keep 16384 (m.log ++ [r])
      persistent := if persistent then keep 65536 (m.persistent ++ [r]) else m.persistent } }

/-- An event of MG_EVENT with its EVENT record (R562, R567). -/
def State.mgRaise (s : State) (n : Nat) : State :=
  if bitAt s.mgmt.events n = 1 then s else (s.mgEvent n).mgLog 0x04 false (leBytes 2 (2 ^ n))

/-! ### The error log (R585, R596) -/

/-- Error classes (R585), with the test record of R439. -/
inductive ErrClass where
  | corrected
  | contained
  | fatal
  | test
  deriving DecidableEq, Repr

/-- What an error-log entry says (R596). -/
structure ErrEntry where
  cls : ErrClass
  code : Nat
  action : Nat := 0
  unitKind : Nat
  unit : Nat
  slot : Nat := 0xFF
  replica : Nat := 0xFFFF
  phase : Nat := 0
  epoch : Nat := 2 ^ 64 - 1
  info : Nat := 0
  address : Nat := 0
  seq : Nat := 0
  deriving DecidableEq, Repr

/-- The code of a class (R596). -/
def ErrClass.code : ErrClass → Nat
  | .corrected => 1
  | .contained => 2
  | .fatal => 3
  | .test => 4

/-- The 64 bytes of an error-log entry (R596). -/
def ErrEntry.bytes (e : ErrEntry) (n : Nat) : List Byte :=
  leBytes 8 n ++ leBytes 1 e.cls.code ++ leBytes 1 e.action ++ leBytes 2 e.code ++ leBytes 1 e.unitKind ++
    leBytes 1 (e.phase % 16) ++ leBytes 1 e.slot ++ zeros 1 ++ leBytes 2 e.replica ++ zeros 2 ++ leBytes 4 e.unit ++
    leBytes 8 e.info ++ leBytes 8 e.epoch ++ leBytes 8 e.address ++ leBytes 8 e.seq ++ zeros 8

/-- Writes an error-log entry: the ring, the summary counters, the ERROR_LOG event, and the fatal pointer and count
(R502, R564, R585, R596). -/
def State.logError (s : State) (e : ErrEntry) : State :=
  let n := s.host.errNewest + 1
  let s := s.putWhole (0x010004000000 + 64 * ((n - 1) % 2 ^ 18)) (e.bytes n)
  let h := { s.host with errNewest := n }
  let h := match e.cls with
    | .corrected => { h with errCorrected := satInc (2 ^ 32 - 1) h.errCorrected }
    | .contained => { h with errContained := satInc (2 ^ 32 - 1) h.errContained }
    | .fatal => { h with errFatal := satInc (2 ^ 32 - 1) h.errFatal, errFatalSeq := some n }
    | .test => h
  let s := { s with host := h }
  let s := if e.cls = .fatal then { s with mgmt := { s.mgmt with countFatal := s.mgmt.countFatal + 1 } } else s
  s.raise 4

/-- A contained error of a unit. -/
def State.contained (s : State) (code unitKind u : Nat) : State :=
  s.logError { cls := .contained, code := code, unitKind := unitKind, unit := u }

/-- A corrected error: logged on the unit's first correction after module reset and each time its count reaches a power
of two (R585). -/
def State.correctedError (s : State) (code unitKind u : Nat) (address : Nat := 0) : State :=
  let key := (code * 16 + unitKind) * 2 ^ 20 + u
  let n := (match s.host.errFirst.find? (fun p => p.1 = key) with | some p => p.2 | none => 0) + 1
  let s := { s with host := { s.host with errFirst := (key, n) :: s.host.errFirst.filter (fun p => p.1 ≠ key) } }
  if n = 2 ^ n.log2 then
    s.logError { cls := .corrected, code := code, unitKind := unitKind, unit := u, address := address }
  else s

/-! ### Parity of live copies (R483) -/

/-- A live mismatch of a domain instance is reported: the status bit, the first instance, the error log, the event. -/
def State.parityReport (s : State) (domain inst : Nat) : State :=
  let r := s.regs
  let first := bitAt r.parityWhere.toNat 31 = 0
  let r := { r with
    parityStatus := Nat.lor r.parityStatus (2 ^ domain)
    parityWhere := if first then BitVec.ofNat 32 (2 ^ 31 + domain * 2 ^ 16 + inst) else r.parityWhere }
  (({ s with regs := r }).logError { cls := .contained, code := 0x0008, unitKind := 9, unit := inst, info := domain }).raise 5

/-- Whether a live copy of a domain instance fails its parity check. -/
def State.liveBad (s : State) (domain inst : Nat) : Bool := s.upsets.contains (.cfgLive domain inst)

/-! ### Counters of clusters and stations (R575, R576) -/

/-- Counter units: cluster k is unit k, station n is unit 0x100 + n (R577). -/
def evselKey (u n : Nat) : Nat :=
  if u < 0x100 then 0x74000000 + u * 0x1000 + 0x100 + 4 * n else 0x78000000 + (u - 0x100) * 0x1000 + 0x100 + 4 * n

/-- Whether a unit counts now (R576). -/
def State.unitRuns (s : State) (u : Nat) : Bool :=
  !s.perf.freezeAll &&
    (if u < 0x100 then (s.cluster u).running && !(s.cluster u).parityFrozen
     else if u = 0x10F then s.perf.hostRunning && !s.perf.hostParity
     else (s.port (u - 0x100)).running && !(s.port (u - 0x100)).parityFrozen)

/-- Adds to every counter whose live event select names the event, modulo 2^48 (R575). -/
def addCounts (live : Nat → Nat) (code n : Nat) (t : Tbl Nat) : Tbl Nat :=
  (List.range 16).foldl (fun t i => if live i % 2 ^ 16 = code then t.put i (((t.at i).getD 0 + n) % 2 ^ 48) else t) t

/-- The live event selects of a unit that counts are checked when they are used; on a mismatch the unit freezes (R483, R577). -/
def State.checkCounters (s : State) (u : Nat) : State :=
  if s.unitRuns u && s.liveBad 8 u then
    let s := if u < 0x100 then s.modCluster u fun c => { c with parityFrozen := true }
      else if u = 0x10F then { s with perf := { s.perf with hostParity := true } }
      else s.modPort (u - 0x100) fun p => { p with parityFrozen := true }
    s.parityReport 8 u
  else s

/-- The tag control is checked when it is used (R483, R577). -/
def State.checkTag (s : State) : State :=
  if s.liveBad 8 0x200 && !s.perf.tagParity then
    ({ s with perf := { s.perf with tagParity := true } }).parityReport 8 0x200
  else s

/-- An event of a unit: its counters set to the event count it (R575, R576). -/
def State.count (s : State) (u code n : Nat) : State :=
  let s := s.checkCounters u
  if s.unitRuns u then
    let live := fun i => s.liveOr (evselKey u i) 0
    if u < 0x100 then s.modCluster u fun c => { c with counters := addCounts live code n c.counters }
    else if u = 0x10F then { s with perf := { s.perf with hostCounters := addCounts live code n s.perf.hostCounters } }
    else s.modPort (u - 0x100) fun p => { p with counters := addCounts live code n p.counters }
  else s

/-! ### Orders, the journal and completions (R396 to R401, R462 to R464, R584) -/

/-- A field of len bytes at a byte of a packet (R395). -/
def pktField (p : BitVec 512) (start len : Nat) : Nat := p.toNat / 2 ^ (8 * start) % 2 ^ (8 * len)

/-- The 64 bytes of a packet. -/
def pktBytes (p : BitVec 512) : List Byte := leBytes 64 p.toNat

/-- A parameter field of an order's packet. -/
def Order.field (o : Order) (start len : Nat) : Nat := pktField o.packet start len
/-- OPCODE (R395). -/
def Order.opcode (o : Order) : Nat := o.field 0 1
/-- FLAGS (R395). -/
def Order.flags (o : Order) : Nat := o.field 1 1
/-- TARGET (R395). -/
def Order.target (o : Order) : Nat := o.field 2 2
/-- HOST_TAG (R395). -/
def Order.tag (o : Order) : Nat := o.field 8 8

/-- How a command ends: its status, detail byte 17, detail bytes 19 to 18, and result bytes 31 to 20 (R396, R412). -/
structure Ending where
  status : Nat
  d17 : Nat := 0
  d18 : Nat := 0
  result : Nat := 0
  deriving DecidableEq, Repr

/-- Local address of the journal entry of a sequence (R462). -/
def journalAddr (seq : Nat) : Nat := 0x010000000000 + 64 * ((seq - 1) % 2 ^ 20)

/-- A journal entry (R463). `digest` is PARAM_DIGEST. -/
def journalEntry (seq tag opcode flags target source accept state status detail result : Nat) (digest : List Byte) : List Byte :=
  leBytes 8 seq ++ leBytes 8 tag ++ leBytes 1 opcode ++ leBytes 1 flags ++ leBytes 2 target ++ leBytes 1 source ++
    leBytes 1 accept ++ leBytes 1 state ++ leBytes 1 status ++ leBytes 3 detail ++ zeros 1 ++ leBytes 12 result ++
    (digest ++ zeros 16).take 16 ++ zeros 8

/-- The status entry of a completed packet (R396). -/
def statusEntry (o : Order) (e : Ending) : List Byte :=
  leBytes 8 o.seq ++ leBytes 8 o.tag ++ leBytes 1 e.status ++ leBytes 1 e.d17 ++ leBytes 2 e.d18 ++ leBytes 12 e.result

/-- Key of a queue's register (R398). -/
def queueKey (q off : Nat) : Nat := 0x030000 + 0x40 * q + off

/-- A 64-bit live ring address of a queue (R398). -/
def State.queueAddr (s : State) (q off : Nat) : Nat :=
  s.liveOr (queueKey q off) 0 + 2 ^ 32 * s.liveOr (queueKey q (off + 4)) 0

/-- Live Q_CTRL of a queue; queue 0 resets to PRIVILEGED (R398). -/
def State.queueCtrl (s : State) (q : Nat) : Nat := s.liveOr (queueKey q 0x18) (if q = 0 then 0x0144000F else 0x0044000F)

/-- The number of packets of a queue's submission ring (R390). -/
def State.sqSize (s : State) (q : Nat) : Nat := 2 ^ bitsAt (s.queueCtrl q) 23 20
/-- The number of entries of a queue's status ring (R390). -/
def State.cqSize (s : State) (q : Nat) : Nat := 2 ^ bitsAt (s.queueCtrl q) 19 16

/-- Writes the shadow of a queue (R401). -/
def State.writeShadow (s : State) (q : Nat) : State :=
  let x := s.queue q
  let w := (x.writes + 1) % 2 ^ 32
  let v := w * 2 ^ 32 + x.err * 2 ^ 28 + x.cqTail * 2 ^ 16 + x.sqHead
  (s.setQueue q { x with writes := w }).hostWrite (s.queueAddr q 0x10) (leBytes 8 v)

/-- A nonzero ERR of a queue clears RUN, writes the shadow and raises the queue's interrupt (R398, R400). -/
def State.queueError (s : State) (q err : Nat) : State :=
  let s := (s.modQueue q fun x => { x with err := err, run := false }).writeShadow q
  if bitAt (s.queueCtrl q) 4 = 1 then s.sendMsix (bitsAt (s.queueCtrl q) 13 8) else s

/-- Writes the status entry of a host packet into its queue's status ring, then the shadow, then the interrupt (R400). -/
def State.hostStatus (s : State) (o : Order) (e : Ending) : State :=
  let q := o.source
  let x := s.queue q
  if o.statusDue && o.generation = x.generation then
    let s := s.hostWrite (s.queueAddr q 8 + 32 * x.cqTail) (statusEntry o e)
    let s := s.setQueue q { x with cqTail := (x.cqTail + 1) % s.cqSize q, reserved := x.reserved - 1 }
    let s := s.writeShadow q
    if bitAt (s.queueCtrl q) 4 = 1 && bitAt o.flags 1 = 0 then s.sendMsix (bitsAt (s.queueCtrl q) 13 8) else s
  else s

/-- Writes the status entry of a management packet and its interrupt (R556). -/
def State.mgmtStatus (s : State) (o : Order) (e : Ending) : State :=
  let m := s.mgmt
  if o.statusDue && o.generation = m.generation then
    let s := s.mgmtWrite (m.ringCq + 32 * m.cqTail) (statusEntry o e)
    { s with mgmt := { s.mgmt with
        cqTail := (m.cqTail + 1) % 2 ^ m.ringLog2
        msix := if bitAt o.flags 1 = 0 then 0 :: m.msix else m.msix } }
  else s

/-- An entry of the exact record buffer (R584). -/
def recordEntry (o : Order) (e : Ending) (now : Nat) : List Byte :=
  leBytes 1 1 ++ leBytes 1 o.opcode ++ leBytes 1 o.source ++ leBytes 1 e.status ++ zeros 8 ++
    leBytes 4 (min (now - o.acceptTime) (2 ^ 32 - 1)) ++ leBytes 8 o.acceptTime ++ leBytes 8 o.seq

/-- RECORD_BUFFER_ENTRY: a completing host command is stamped into the exact record buffer while RB_RUN is set (R584). -/
def State.recordCommand (s : State) (o : Order) (e : Ending) : State :=
  let p := s.perf
  if p.rbRun then
    { s with perf := { p with records := (recordEntry o e s.mgmt.counterCopy :: p.records).take 4096
                              rbWritten := p.rbWritten + 1 } }
  else { s with perf := { p with rbMissed := p.rbMissed + 1 } }

/-- Bytes 0 to 15 of the SHA-256 of packet bytes 16 to 63, as an entry already in the journal holds them. -/
def State.heldDigest (s : State) (seq : Nat) : List Byte :=
  ((Mem.read memBackground s.mem (journalAddr seq + 40) 16).getD (zeros 16))

/-- Completes an order: the journal entry is rewritten COMPLETE with its ACCEPT (R464), then the management log (R567), the
status entry (R396), the record buffer (R584) and the list of open orders. -/
def State.finish (s : State) (o : Order) (e : Ending) (accept : Nat := 1) : State :=
  let s := if o.seq = 0 then s else
    s.putWhole (journalAddr o.seq) (journalEntry o.seq o.tag o.opcode o.flags o.target o.source accept 1 e.status
      (e.d17 + 256 * e.d18) e.result (s.heldDigest o.seq))
  let s := if o.source = 0x80 then
      (s.mgLog 0x05 false (leBytes 1 o.opcode ++ leBytes 1 e.status ++ leBytes 3 (e.d17 + 256 * e.d18) ++ zeros 3 ++ leBytes 8 o.seq)).mgmtStatus o e
    else (s.hostStatus o e).recordCommand o e
  { s with
    arbiter := { s.arbiter with orders := s.arbiter.orders.filter fun x => x.id ≠ o.id }
    mgmt := { s.mgmt with alone := s.mgmt.alone.filter fun x => x.id ≠ o.id } }

/-- Completes the open order of an id, if it is still open. -/
def State.finishId (s : State) (id : Nat) (e : Ending) : State :=
  match s.arbiter.orders.find? fun o => o.id = id with
  | some o => s.finish o e
  | none => s

/-- Notes a slot change for the arbiter's next snapshot (R465). -/
def State.note (s : State) (c : NotedChange) : State :=
  { s with arbiter := { s.arbiter with noted := s.arbiter.noted ++ [c] } }

/-! ### Status codes (R410) -/

/-- OK with result bytes. -/
def Ending.ok (result : Nat := 0) : Ending := { status := 0, result := result }
/-- BUSY. -/
def Ending.busy : Ending := { status := 0x02 }
/-- DEFERRED. -/
def Ending.deferred : Ending := { status := 0x03 }
/-- ABORTED. -/
def Ending.aborted (d17 : Nat := 0) : Ending := { status := 0x05, d17 := d17 }
/-- BAD_PARAM with the packet byte offset of the failing field (R412). -/
def Ending.badParam (offset : Nat) : Ending := { status := 0x11, d17 := offset }
/-- BAD_STATE with the slot state code, or 0xFF when no slot is named (R412). -/
def Ending.badState (code : Nat := 0xFF) : Ending := { status := 0x12, d17 := code }
/-- LOCKED. -/
def Ending.locked : Ending := { status := 0x13 }
/-- MEM_ERROR with the remote STATUS and DETAIL, 0 if local (R412). -/
def Ending.memError (rstatus rdetail : Nat := 0) : Ending := { status := 0x31, d17 := rstatus, d18 := rdetail }

/-- Slot state codes (R413). -/
def SlotState.code : SlotState → Nat
  | .empty => 0
  | .loaded => 1
  | .running => 2
  | .stopping => 3
  | .stopped => 4
  | .faulted => 5
  | .disabled => 6

end Sys2Proof.Machine
end

