-- ==== Sys2Proof/Machine/Operands.lean ====
section
/-! DEFINITION. Machine/Operands.lean: the register files and the core-store layout that stage instructions read and write. -/

namespace Sys2Proof.Machine

/-! ### Register files (R112, R113) -/

/-- A scalar register; k0 reads as zero (R113). -/
def Core.kreg (c : Core) (r : BitVec 5) : Word := if r = 0#5 then 0 else (c.k.at r.toNat).getD 0
/-- Writes a scalar register; a write to k0 is discarded (R113). -/
def Core.setK (c : Core) (r : BitVec 5) (v : Word) : Core :=
  if r = 0#5 then c else { c with k := if v = 0#32 then c.k.del r.toNat else c.k.put r.toNat v }
/-- A vector register (R112). -/
def Core.wreg (c : Core) (r : BitVec 4) : BitVec 512 := (c.w.at r.toNat).getD 0
/-- Writes a vector register. -/
def Core.setW (c : Core) (r : BitVec 4) (v : BitVec 512) : Core :=
  { c with w := if v = 0#512 then c.w.del r.toNat else c.w.put r.toNat v }
/-- Element [r][c] of an accumulator (R112). -/
def Core.accreg (c : Core) (a : BitVec 3) (row col : Nat) : Int := (c.acc.at (64 * a.toNat + 8 * row + col)).getD 0
/-- Writes an element of an accumulator. -/
def Core.setAcc (c : Core) (a : BitVec 3) (row col : Nat) (v : Int) : Core :=
  let key := 64 * a.toNat + 8 * row + col
  { c with acc := if v = 0 then c.acc.del key else c.acc.put key v }
/-- Byte b of a vector as a signed number. -/
def vecByte (w : BitVec 512) (b : Nat) : Int := signed 8 (w.toNat / 2 ^ (8 * b) % 256)
/-- Word n of a vector (R112). -/
def vecWord (w : BitVec 512) (n : Nat) : Word := BitVec.ofNat 32 (w.toNat / 2 ^ (32 * n))
/-- A vector with word n replaced. -/
def setVecWord (w : BitVec 512) (n : Nat) (v : Word) : BitVec 512 :=
  BitVec.ofNat 512 (w.toNat - (vecWord w n).toNat * 2 ^ (32 * n) + v.toNat * 2 ^ (32 * n))
/-- Qword n of a vector (R112). -/
def vecQword (w : BitVec 512) (n : Nat) : Nat := w.toNat / 2 ^ (64 * n) % 2 ^ 64
/-- A vector with qword n replaced. -/
def setVecQword (w : BitVec 512) (n v : Nat) : BitVec 512 :=
  BitVec.ofNat 512 (w.toNat - vecQword w n * 2 ^ (64 * n) + v % 2 ^ 64 * 2 ^ (64 * n))
/-- The 64 bytes of a vector. -/
def vecBytes (w : BitVec 512) : List Byte := leBytes 64 w.toNat
/-- The vector of 64 bytes. -/
def bytesVec (bs : List Byte) : BitVec 512 := BitVec.ofNat 512 (leNat bs)

/-! ### The core store of the block-replica that stands in the core (R80 to R82) -/

/-- What a byte of a block-replica's store reads as where nothing wrote it since the loader: zero (R84), but a free byte in SCRATCH
once a phase has ended on the core (R135), and in the staging area once SMSG or BCST has written it (R123, log 79). -/
def storeBackground (scratch staging : Option Nat) : Background :=
  freeBackground 0xE000 0xF800 scratch (freeBackground 0xF800 0x10000 staging zeroBackground)
/-- What an unlisted byte of a block-replica's store reads as. -/
def Member.bg (m : Member) : Background := storeBackground m.scratchFree m.stagingFree
/-- A byte of the core store; the loader has written every one (R84). -/
def Member.byte (m : Member) (a : Nat) : Nat := ((Mem.get m.bg m.store a).getD 0).toNat
/-- A little-endian number of n bytes of the core store. -/
def Member.num (m : Member) (a n : Nat) : Nat :=
  leNat ((List.range n).map fun i => (Mem.get m.bg m.store (a + i)).getD 0)
/-- The bytes of a range of the core store. -/
def Member.bytes (m : Member) (a n : Nat) : List Byte :=
  (List.range n).map fun i => (Mem.get m.bg m.store (a + i)).getD 0
/-- Writes bytes of the core store. -/
def Member.put (m : Member) (a : Nat) (bs : List Byte) : Member := { m with store := Mem.write m.bg m.store a bs }
/-- SCRATCH carries nothing on: its bytes are free from here on (R135). -/
def Member.forgetScratch (m : Member) (free : Nat) : Member :=
  { m with store := Mem.clear m.store 0xE000 0x1800, scratchFree := some free }
/-- SMSG or BCST has written the message staging area, whose layout the manual does not give (R123, log 79). -/
def Member.stage (m : Member) (free : Nat) : Member :=
  { m with store := Mem.clear m.store 0xF800 0x800, stagingFree := some free }

/-- First byte of the block descriptor (R81). -/
def descriptorBase : Nat := 0xDA80
/-- VAR_BASE of the block (R82). -/
def Member.varBase (m : Member) : Nat := m.num 0xDA80 4
/-- VAR_COUNT of the block (R82). -/
def Member.varCount (m : Member) : Nat := m.num 0xDA84 2
/-- EXPONENT of the block (R82). -/
def Member.exponent (m : Member) : Int := signed 8 (m.byte 0xDA86)
/-- KIND: 0 binary, 1 categorical, 2 relaxation (R82). -/
def Member.kind (m : Member) : Nat := m.byte 0xDA94
/-- SAT flags of the block-replica (R82, R102). -/
def Member.sat (m : Member) : Nat := m.byte 0xDA95
/-- Sets a saturation flag (R102). -/
def Member.setSat (m : Member) (bit : Nat) : Member :=
  if bitAt m.sat bit = 1 then m else m.put 0xDA95 (leBytes 1 (m.sat + 2 ^ bit))
/-- Sets a saturation flag when a condition holds. -/
def Member.satIf (m : Member) (bit : Nat) (b : Bool) : Member := if b then m.setSat bit else m

/-- The colour of a local index (R60, R81). -/
def Member.colour (m : Member) (i : Nat) : Nat := let b := m.byte (0xDA00 + i / 2); if i % 2 = 0 then b % 16 else b / 16
/-- The bias of a local index (R81). -/
def Member.bias (m : Member) (i : Nat) : Int := signed 8 (m.byte (0xD800 + i))
/-- The dense coupling J_ij (R58, R80). -/
def Member.dense (m : Member) (i j : Nat) : Int :=
  let b := m.byte (128 * i + j / 2)
  signed 4 (if j % 2 = 0 then b % 16 else b / 16)
/-- The 40-bit field sum of a local index (R81, R89). -/
def Member.field (m : Member) (i : Nat) : Int := signed 40 (m.num (0xD000 + 4 * i) 4 + 2 ^ 32 * m.byte (0xD900 + i))
/-- Writes the 40-bit field sum. -/
def Member.setField (m : Member) (i : Nat) (h : Int) : Member :=
  let v := toField 40 h
  (m.put (0xD000 + 4 * i) (leBytes 4 v)).put (0xD900 + i) (leBytes 1 (v / 2 ^ 32))
/-- Adds an increment to a field (R89, R91). -/
def Member.addField (m : Member) (i : Nat) (d : Int) : Member := if d = 0 then m else m.setField i (m.field i + d)
/-- A field read: saturated to 32 bits, setting FIELD_SAT when it clips (R89). -/
def Member.readField (m : Member) (i : Nat) : Int × Member := (sat32 (m.field i), m.satIf 0 (clips32 (m.field i)))

/-- A bit of a bit string in the core store. -/
def Member.bit (m : Member) (base i : Nat) : Bool := bitAt (m.byte (base + i / 8)) (i % 8) = 1
/-- Writes a bit of a bit string in the core store. -/
def Member.setBit (m : Member) (base i : Nat) (b : Bool) : Member :=
  let v := m.byte (base + i / 8)
  let v' := v - bitAt v (i % 8) * 2 ^ (i % 8) + bitOf b * 2 ^ (i % 8)
  if v = v' then m else m.put (base + i / 8) (leBytes 1 v')
/-- The FLIP bit of a local index (R81). -/
def Member.flip (m : Member) (i : Nat) : Bool := m.bit 0xDAC0 i
/-- Writes a FLIP bit. -/
def Member.setFlip (m : Member) (i : Nat) (b : Bool) : Member := m.setBit 0xDAC0 i b
/-- Clears every FLIP bit: step 1 of R98. -/
def Member.clearFlip (m : Member) : Member := m.put 0xDAC0 (zeros 32)
/-- The state bit of a binary variable (R81). -/
def Member.spinBit (m : Member) (i : Nat) : Bool := m.bit 0xD400 i
/-- The state of a binary variable as +1 or -1. -/
def Member.spin (m : Member) (i : Nat) : Int := if m.spinBit i then 1 else -1
/-- The state of a categorical variable (R81). -/
def Member.catState (m : Member) (i : Nat) : Nat := m.num (0xD400 + 2 * i) 2
/-- The stand-in x of a relaxation variable (R81). -/
def Member.relaxX (m : Member) (i : Nat) : Int := signed 16 (m.num (0xD400 + 4 * i) 2)
/-- The momentum y of a relaxation variable (R81). -/
def Member.relaxY (m : Member) (i : Nat) : Int := signed 16 (m.num (0xD402 + 4 * i) 2)
/-- The signed Q1.6 value of bits [15:8] of x (R90). -/
def Member.xhat (m : Member) (i : Nat) : Int := m.relaxX i / 256
/-- The value a neighbour's field reads: the spin, or x-hat (R90). -/
def Member.value (m : Member) (i : Nat) : Int := if m.kind = 2 then m.xhat i else m.spin i

/-- The local indices of the block. -/
def Member.locals (m : Member) : List Nat := List.range m.varCount
/-- The local indices of a colour, ascending (R101). -/
def Member.ofColour (m : Member) (c : Nat) : List Nat := m.locals.filter fun i => m.colour i = c
/-- The local indices whose FLIP bit is set. -/
def Member.changed (m : Member) : List Nat := m.locals.filter fun i => m.flip i

/-- The stream state of a local index (R80). -/
def Member.stream (m : Member) (i : Nat) : Nat := m.num (0xC000 + 16 * i) 16
/-- Writes a stream state. -/
def Member.setStream (m : Member) (i st : Nat) : Member := m.put (0xC000 + 16 * i) (leBytes 16 st)
/-- The next draw of a local index, which consumes one of the D draws of the epoch; none when they are used up (R97). -/
def Member.draw (m : Member) (draws i : Nat) : Option (Word × Member) :=
  let u := (m.used.at i).getD 0
  if draws ≤ u then none
  else
    let st := m.stream i
    some (BitVec.ofNat 32 (gipolOutput st), { (m.setStream i (gipolStep st)) with used := m.used.put i (u + 1) })
/-- At the end of an epoch every stream steps past the draws the epoch did not use (R97). -/
def Member.endDraws (m : Member) (draws : Nat) : Member :=
  { (m.locals.foldl (fun m i => m.setStream i (gipolSkip (draws - (m.used.at i).getD 0) (m.stream i))) m) with used := [] }

/-! ### Couplings (R91, R121) -/

/-- The increment that variable j's change brings to a coupling of weight 1: 2s for a spin that flipped, b - a for x-hat.
`old` is the x-hat before the step. -/
def Member.increment (m : Member) (old : Nat → Int) (j : Nat) : Int :=
  if m.kind = 2 then m.xhat j - old j else 2 * m.spin j

/-- Adds the dense increments of one changed variable to every field of the block (R91). -/
def Member.pushColumn (m : Member) (d : Int) (j : Nat) : Member :=
  m.locals.foldl (fun m i => m.addField i (m.dense i j * d)) m

/-- Whether a column group holds a FLIP bit (R132). -/
def Member.groupFlipped (m : Member) (h : Nat) : Bool := (List.range 8).any fun t => 8 * h + t < m.varCount && m.flip (8 * h + t)

/-- Row tiles of a column group that hold a nonzero coupling (R121). -/
def Member.rowTiles (m : Member) (h : Nat) : Nat :=
  ((List.range 32).filter fun g =>
    (List.range 8).any fun r => (List.range 8).any fun c => m.dense (8 * g + r) (8 * h + c) ≠ 0).length

/-! ### Operand checks (R123, R124, R128) -/

/-- Sign extension of an immediate to 32 bits. -/
def ext32 {n : Nat} (i : BitVec n) : Word := i.signExtend 32

/-- The signed value of an offset. -/
def offInt {n : Nat} (i : BitVec n) : Int := i.toInt

/-- kB + IMM14 as a core-store byte offset (R123): the register is read as a signed number. -/
def storeAddr (k : Word) (imm : BitVec 14) : Int := k.toInt + imm.toInt

/-- The fault code of a core-store access, by the order of R128: range, alignment, then the writable range for a store. -/
def storeFault (a : Int) (align len : Nat) (store : Bool) : Option Nat :=
  if a < 0 ∨ 0xFFFF < a then some 0x05
  else if a % (align : Int) ≠ 0 then some 0x03
  else if store ∧ (a < 0xE000 ∨ 0xF800 < a + len) then some 0x02
  else none

/-- The fault code of a program-window access: range, then alignment (R124, R128). -/
def windowFault (a : Int) : Option Nat :=
  if a < 0 ∨ 4032 < a then some 0x04 else if a % 64 ≠ 0 then some 0x03 else none

/-- Bytes of the core store as a stage program loads them: SLOT and SPILL_BASE of the descriptor read zero (R82). -/
def Member.loadBytes (m : Member) (a n : Nat) : List Byte :=
  (List.range n).map fun i =>
    let p := a + i
    if p = descriptorBase + 22 || (descriptorBase + 24 ≤ p && p < descriptorBase + 32) then 0
    else (Mem.get m.bg m.store p).getD 0

end Sys2Proof.Machine
end

