-- ==== Sys2Proof/Machine/Model.lean ====
section
/-! DEFINITION. Machine/Model.lean: curves and beta, the parts of an image, and what the loader writes into a core store. -/

namespace Sys2Proof.Machine

/-! ### Curves (R145, R156) -/

/-- The value between two knots, or past them: the knots at hand are those from the last one at or before t (R145). -/
def curveFrom (linear : Bool) (t : Nat) : List (Nat × Int) → Int
  | [] => 0
  | [(_, v)] => v
  | (e, v) :: (e', v') :: rest =>
    if t ≤ e then v
    else if e' ≤ t then curveFrom linear t ((e', v') :: rest)
    else if linear then v + rheDiv ((v' - v) * ((t : Int) - (e : Int))) (e' - e)
    else v

/-- curve_value of R145. -/
def Curve.value (c : Curve) (t : Nat) : Int := curveFrom c.linear t c.knots

/-- The value of a curve at an epoch; a curve that is absent reads zero and no start is allowed without it (R65). -/
def curveAt (c : Option Curve) (t : Nat) : Int := match c with | some c => c.value t | none => 0

/-- The rung of a replica; no replica launches an epoch before the exchange that precedes it is settled (R158, R161). -/
def Slot.rung (x : Slot) (q : Nat) : Nat := (x.rungs[q]?).getD q

/-- B, the beta of a replica at an epoch (R156), also the sieve's temperature factor (R185). -/
def Slot.beta (x : Slot) (q t : Nat) : Nat :=
  let l := match x.curves.ladder with | some l => (l[x.rung q]?).getD 0x4000 | none => 0x4000
  min 65535 (rhe (curveAt x.curves.beta t * (l : Int)) 14).toNat

/-- EXCHANGE_INTERVAL in force (R146); zero without relaxation constants. -/
def Slot.interval (x : Slot) : Nat := match x.curves.relax with | some r => r.interval | none => 0

/-- The settings in force during an epoch: those of the last start at or before it (R452). -/
def Slot.inForce (x : Slot) (t : Nat) : Settings :=
  (x.settings.find? fun r => r.first ≤ t).getD { first := 0, runs := x.runs, interval := x.interval, tag := x.configTag }

/-- Whether an exchange follows an epoch, by the EXCHANGE_INTERVAL in force during it (R148, R158, R227). -/
def Slot.exchangeEpoch (x : Slot) (t : Nat) : Bool := (x.inForce t).interval ≠ 0 && (t + 1) % (x.inForce t).interval = 0

/-- Whether a member ran during an epoch: replicas at or above the RUNS of that epoch did not (R423). -/
def Slot.ranAt (x : Slot) (t : Nat) (m : Member) : Bool := decide (m.replica < (x.inForce t).runs)

/-! ### Sweep clock (R221) -/

/-- The successor of a sweep clock value of C colours; epochs wrap modulo 2^64. -/
def sweepSucc (colours : Nat) (t : Nat × Nat) : Nat × Nat :=
  if t.2 + 1 < colours then (t.1, t.2 + 1) else ((t.1 + 1) % 2 ^ 64, 0)

/-- pred(e, c). -/
def sweepPred (colours : Nat) (t : Nat × Nat) : Nat × Nat :=
  if t.2 = 0 then ((t.1 + 2 ^ 64 - 1) % 2 ^ 64, colours - 1) else (t.1, t.2 - 1)

/-- The number of sweep clock values from one to another, modulo the wrap of epochs (R224). -/
def sweepGap (colours : Nat) (a b : Nat × Nat) : Nat :=
  (b.1 * colours + b.2 + 2 ^ 64 * colours - (a.1 * colours + a.2)) % (2 ^ 64 * colours)

/-! ### Parts of an image -/

/-- KIND of a block (R82). -/
def Image.kindOf (g : Image) (b : Block) : Nat := if g.relax then 2 else if b.categorical then 1 else 0

/-- Bytes of a state record by kind (R67). -/
def recordSize (kind : Nat) : Nat := if kind = 0 then 32 else if kind = 1 then 512 else 1024

/-- The index and block that own a variable of this part. -/
def Image.owner (g : Image) (v : Nat) : Option (Nat × Block) :=
  (((List.range g.blocks.length).zip g.blocks).find? fun p => p.2.varBase ≤ v && v < p.2.varBase + p.2.varCount)

/-- The initial state record of a block (R67). -/
def Image.initRecord (g : Image) (b : Block) : List Byte :=
  if b.init = [] then zeros (recordSize (g.kindOf b)) else b.init

/-- The value a neighbour's field reads from a state record: the spin, or x-hat (R90). -/
def recordValue (kind : Nat) (rec : List Byte) (i : Nat) : Int :=
  if kind = 2 then signed 16 (fieldAt rec (4 * i) 2) / 256
  else if bitAt (fieldAt rec (i / 8) 1) (i % 8) = 1 then 1 else -1

/-- The value of a variable of this part, given every block's record; none for a foreign variable. -/
def Image.varValue (g : Image) (recs : Nat → List Byte) (v : Nat) : Option Int :=
  (g.owner v).map fun p => recordValue (g.kindOf p.2) (recs p.1) (v - p.2.varBase)

/-- J_ij of a block's coupling blob (R58). -/
def Block.coupling (b : Block) (i j : Nat) : Int :=
  let v := ((Mem.get zeroBackground b.blob (128 * i + j / 2)).getD 0).toNat
  signed 4 (if j % 2 = 0 then v % 16 else v / 16)

/-- b_i of a block's coupling blob (R58). -/
def Block.biasOf (b : Block) (i : Nat) : Int := signed 8 ((Mem.get zeroBackground b.blob (32768 + i)).getD 0).toNat

/-- The field of a local index from all its terms; a foreign term waits for the prologue (R90, R92, R165). -/
def Image.fieldSum (g : Image) (b : Block) (own : List Byte) (recs : Nat → List Byte) (i : Nat) : Int :=
  let kind := g.kindOf b
  let dense := (List.range b.varCount).foldl (fun a j => a + b.coupling i j * recordValue kind own j) 0
  let edges := b.edges.foldl (fun a e => if e.index = i then a + e.weight * ((g.varValue recs e.neighbour).getD 0) else a) 0
  dense + edges + b.biasOf i * (if kind = 2 then 64 else 1)

/-- Inserts into an ascending list without repeats. -/
def insertAsc (v : Nat) : List Nat → List Nat
  | [] => [v]
  | w :: t => if v < w then v :: w :: t else if v = w then w :: t else w :: insertAsc v t

/-- The distinct neighbour IDs of a block, ascending: an ID's rank is its neighbour key (R83). -/
def Block.neighbours (b : Block) : List Nat := b.edges.foldl (fun l e => insertAsc e.neighbour l) []

/-- The rank of a value in an ascending list. -/
def rankOf (v : Nat) (l : List Nat) : Nat := (l.takeWhile fun w => w < v).length

/-- A compact edge entry (R83). -/
def Block.compactEntry (b : Block) (e : Edge) : Nat := toField 8 e.weight * 2 ^ 24 + e.index * 2 ^ 16 + rankOf e.neighbour b.neighbours

/-- Inserts a compact entry by neighbour key, then local index (R83). -/
def insertEntry (v : Nat) : List Nat → List Nat
  | [] => [v]
  | w :: t =>
    let key := fun x => x % 2 ^ 16 * 256 + x / 2 ^ 16 % 256
    if key v < key w then v :: w :: t else w :: insertEntry v t

/-- The EDGES region: compact forms of the first 4,096 records in image order, sorted (R83). -/
def Block.edgeEntries (b : Block) : List Nat := (b.edges.take 4096).foldl (fun l e => insertEntry (b.compactEntry e) l) []

/-- Bytes of the nibbles of a list of colours (R60). -/
def nibbleBytes : Nat → List Nat → List Byte
  | 0, _ => []
  | n + 1, l => BitVec.ofNat 8 ((l[0]?).getD 0 + 16 * (l[1]?).getD 0) :: nibbleBytes n (l.drop 2)

/-- The block descriptor (R82). -/
def Image.descriptor (g : Image) (b : Block) (slot q index spillBase sat : Nat) : List Byte :=
  leBytes 4 b.varBase ++ leBytes 2 b.varCount ++ leBytes 1 (toField 8 b.exponent) ++ leBytes 1 b.program ++
    leBytes 4 index ++ leBytes 2 q ++ leBytes 2 (min b.edges.length 4096) ++ leBytes 4 (b.edges.length - 4096) ++
    leBytes 1 (g.kindOf b) ++ leBytes 1 sat ++ leBytes 1 slot ++ zeros 1 ++ leBytes 8 spillBase

/-- The streams of a block: draw 0 of the start epoch for each variable; zero while no seed is set (R178). -/
def Image.streamBytes (g : Image) (b : Block) (seed : Option (List Byte)) (q e0 : Nat) : List Byte :=
  match seed with
  | none => []
  | some sd => (List.range b.varCount).flatMap fun i => leBytes 16 (streamState sd q (b.varBase + i) e0 g.draws)

/-- The core store the loader writes for a block-replica: couplings, edges, streams, fields, states, biases, colours and
descriptor; everything else zero (R80 to R84, R92, R178). -/
def Image.buildStore (g : Image) (slot q index spillBase sat : Nat) (b : Block) (recs : Nat → List Byte)
    (seed : Option (List Byte)) (e0 : Nat) : Mem :=
  let own := recs index
  let fields := (List.range b.varCount).map fun i => toField 40 (g.fieldSum b own recs i)
  let w := fun (m : Mem) (a : Nat) (bs : List Byte) => Mem.write zeroBackground m a bs
  let m := b.blob.filter fun c => c.1 < 32768
  let m := w m 0x8000 (b.edgeEntries.flatMap (leBytes 4))
  let m := w m 0xC000 (g.streamBytes b seed q e0)
  let m := w m 0xD000 (fields.flatMap (leBytes 4))
  let m := w m 0xD400 (own.take 1024)
  let m := w m 0xD800 ((b.blob.filter fun c => 32768 ≤ c.1).foldl (fun l c => l.set (c.1 - 32768) c.2) (zeros 256))
  let m := w m 0xD900 (fields.map fun v => BitVec.ofNat 8 (v / 2 ^ 32))
  let m := w m 0xDA00 (nibbleBytes 128 b.colours)
  w m 0xDA80 (g.descriptor b slot q index spillBase sat)

/-- The state record a block-replica holds now, in the layout of R67. -/
def Member.record (m : Member) : List Byte := m.bytes 0xD400 (recordSize m.kind)

/-! ### Members toward a neighbour block (R230, R231) -/

/-- The variables of block a that have an edge to a variable of block b, or a factor with one, as local indices (R230). -/
def Image.membersToward (g : Image) (a : Block) (lo count : Nat) : List Nat :=
  (List.range a.varCount).filter fun i =>
    let v := a.varBase + i
    a.edges.any (fun e => e.index = i && lo ≤ e.neighbour && e.neighbour < lo + count) ||
      g.factors.any fun f => (f.a = v && lo ≤ f.b && f.b < lo + count) || (f.b = v && lo ≤ f.a && f.a < lo + count)

/-- A destination of a block's state messages: part, block index, its first variable and number of variables. -/
structure Destination where
  part : Nat
  block : Nat
  lo : Nat
  count : Nat
  deriving DecidableEq, Repr

/-- The other blocks, of this part and of the others, that a block has members toward: its route records (R231). -/
def Image.routes (g : Image) (parts : List Part) (a : Block) : List (Destination × List Nat) :=
  let of := fun (p : Nat) (bs : List Block) => ((List.range bs.length).zip bs).filterMap fun q =>
    if q.2.varBase = a.varBase then none
    else
      let ms := g.membersToward a q.2.varBase q.2.varCount
      if ms = [] then none else some ({ part := p, block := q.1, lo := q.2.varBase, count := q.2.varCount }, ms)
  of g.partIndex g.blocks ++
    ((List.range parts.length).zip parts).flatMap fun q =>
      if q.1 = g.partIndex then [] else match q.2.image with | some h => of q.1 h.blocks | none => []

/-- KEY_BASE of the messages to a block: the rank of the first member among that block's neighbours, by the mirror (R230). -/
def keyBase (dest : Block) (first : Nat) : Nat := rankOf first dest.neighbours

end Sys2Proof.Machine
end

