-- ==== Sys2Proof/Machine/Launch.lean ====
section
/-! DEFINITION. Machine/Launch.lean: slots and their parts, slot faults, launch objects, state messages and phase launches. -/

namespace Sys2Proof.Machine

/-! ### Slots, parts and the directory -/

/-- A slot that is RUNNING or STOPPING. -/
def Slot.active (x : Slot) : Bool := x.state = .running || x.state = .stopping

/-- The number of parts of the slot's model (R53). -/
def Slot.partCount (x : Slot) : Nat := match x.image with | some g => g.partCount | none => 1
/-- PART_INDEX of the slot's image (R53). -/
def Slot.partIndex (x : Slot) : Nat := match x.image with | some g => g.partIndex | none => 0
/-- COLOUR_COUNT of the slot's image (R53). -/
def Slot.colours (x : Slot) : Nat := match x.image with | some g => g.colourCount | none => 1
/-- D of the slot's image (R66). -/
def Slot.draws (x : Slot) : Nat := match x.image with | some g => g.draws | none => 1
/-- A block of the slot's image. -/
def Slot.block (x : Slot) (b : Nat) : Option Block := match x.image with | some g => g.blocks[b]? | none => none
/-- The program a block-replica runs (R82, R137). -/
def Slot.program (x : Slot) (b : Nat) : List Word :=
  match x.image, x.block b with | some g, some k => (g.programs[k.program]?).getD [] | _, _ => []

/-- The words of a program of the slot's image. -/
def Slot.words (x : Slot) (p : Nat) : List Word := match x.image with | some g => (g.programs[p]?).getD [] | none => []

/-- The programs of a group, each once, in ascending program index (R137). -/
def Slot.groupPrograms (x : Slot) (members : List Member) : List Nat :=
  members.foldl (fun l m => match x.block m.block with | some k => insertAsc k.program l | none => l) []

/-- Whether an instruction store of 2,048 words holds all programs of a group (R137). -/
def Slot.storeHolds (x : Slot) (members : List Member) : Bool :=
  decide (((x.groupPrograms members).flatMap x.words).length ≤ 2048)

/-- An instruction store that holds some words from word 0 on, and zeros beyond (R136). -/
def instrStore (ws : List Word) : Tbl Word := ((List.range ws.length).zip ws).filter fun p => p.2 ≠ 0#32

/-- The instruction store of a core as the loader writes it for a group: each distinct program once, in ascending program index; where
they exceed 8,192 bytes, the program of the member in the core (R136, R137). -/
def Slot.instrsFor (x : Slot) (members : List Member) (member : Nat) : Tbl Word :=
  if x.storeHolds members then instrStore ((x.groupPrograms members).flatMap x.words)
  else instrStore (match members[member]? with | some m => x.program m.block | none => [])

/-- The word of the instruction store at which a member's program starts (R137). -/
def Slot.programBase (x : Slot) (members : List Member) (m : Member) : Nat :=
  match x.block m.block with
  | some k => if x.storeHolds members then (((x.groupPrograms members).filter fun p => p < k.program).flatMap x.words).length else 0
  | none => 0

/-- A word of a core's instruction store; one that is not listed is zero (R136). -/
def Core.instr (c : Core) (i : Nat) : Word := (c.instrs.at i).getD 0#32

/-- The (module, slot) of every part of a slot's model; a model of one part is this slot alone (R421). -/
def State.partSlots (s : State) (n : Nat) : List (Nat × Nat) :=
  let x := s.slot n
  if x.parts = [] then [(s.fabric.moduleId, n)] else x.parts.map fun p => (p.module, p.slot)

/-- Sends one message to every part of a slot's model. -/
def State.toParts (s : State) (n : Nat) (mk : Nat → Nat → Msg) : State :=
  (s.partSlots n).foldl (fun s p => s.send (mk p.1 p.2)) s

/-- The (module, slot) of part 0. -/
def State.partZero (s : State) (n : Nat) : Nat × Nat := ((s.partSlots n)[0]?).getD (s.fabric.moduleId, n)

/-- The physical cores a slot holds. -/
def State.slotCores (s : State) (n : Nat) : List Nat := (s.cores.filter fun p => p.2.slot = some n).map fun p => p.1

/-- Changes every core a slot holds. -/
def State.modSlotCores (s : State) (n : Nat) (f : Core → Core) : State :=
  { s with cores := s.cores.map fun p => if p.2.slot = some n then (p.1, f p.2) else p }

/-- The position of a block-replica in a core's fold group. -/
def Core.memberIndex (c : Core) (q b : Nat) : Option Nat :=
  let i := c.members.findIdx fun m => m.replica = q && m.block = b
  if i < c.members.length then some i else none

/-- The block directory (R232): the core and fold member that hold a block-replica of a slot. -/
def State.directory (s : State) (n q b : Nat) : Option (Nat × Nat) :=
  match s.cores.find? fun p => p.2.slot = some n && (p.2.memberIndex q b).isSome with
  | some p => (p.2.memberIndex q b).map fun i => (p.1, i)
  | none => none

/-- Changes one member of a core's fold group. -/
def Core.modMember (c : Core) (i : Nat) (f : Member → Member) : Core := { c with members := c.members.modify i f }

/-- The member that stands in a core: the one that runs, else the one last run, the first before any has run (R74, R85, R106). -/
def Core.standing (c : Core) : Option Member := match c.run with | some r => c.members[r.member]? | none => c.members[c.lastMember]?

/-- The store of a core whose block-replicas leave it: the words as they stood in its standing member (R85). -/
def Core.keepStore (c : Core) : Core :=
  match c.standing with
  | some m => { c with store := m.store, storeFree := (m.scratchFree, m.stagingFree), storeWritten := true }
  | none => c

/-- A phase has ended on a core: SCRATCH of its block-replicas and its program window carry nothing on (R135). -/
def Core.forgetScratch (c : Core) (free : Nat) : Core :=
  { c with members := c.members.map fun m => m.forgetScratch free, window := [], windowFree := some free }

/-- Changes the launch object of a core. -/
def Core.modLaunch (c : Core) (f : Launch → Launch) : Core := { c with launch := f c.launch }

/-- FREEZE's effect on a slot's launch objects (R241). -/
def State.freezeSlot (s : State) (n : Nat) : State := s.modSlotCores n fun c => c.modLaunch fun l => { l with frozen := true }
/-- LIMIT's effect on a slot's launch objects (R241). -/
def State.thawSlot (s : State) (n : Nat) : State := s.modSlotCores n fun c => c.modLaunch fun l => { l with frozen := false }
/-- ARMED clears when a slot becomes STOPPED, FAULTED, DISABLED or EMPTY (R229). -/
def State.disarmSlot (s : State) (n : Nat) : State := s.modSlotCores n fun c => c.modLaunch fun l => { l with armed := false }

/-- The highest epoch that any block-replica of the slot has launched; the resume epoch when none has (R241). -/
def State.highestLaunched (s : State) (n : Nat) : Option Nat :=
  s.cores.foldl (fun a p =>
    if p.2.slot = some n then
      match p.2.launch.launched, a with
      | some t, some h => some (max t.1 h)
      | some t, none => some t.1
      | none, _ => a
    else a) none

/-- COMPLETED_EPOCH: the highest epoch closed by every block-replica of the slot on this module (R253). -/
def State.completedEpoch (s : State) (n : Nat) : Option Nat := (s.slot n).completed

/-- The lowest of the last epochs closed by the block-replicas that run; none when one has closed none (R253). -/
def State.closedByAll (s : State) (n : Nat) : Option Nat :=
  let runs := (s.slot n).runs
  let ms := (s.cores.filter fun p => p.2.slot = some n).flatMap fun p => p.2.members.filter fun m => m.replica < runs
  match ms with
  | [] => none
  | m :: rest =>
    rest.foldl (fun a m => match a, m.closed with | some x, some y => some (min x y) | _, _ => none) m.closed

/-! ### Slot faults (R450, R625) -/

/-- SLOT_FAULT: a RUNNING or STOPPING slot becomes FAULTED. Its launch objects freeze and disarm, the fault is noted for the
journal, a drain under way ends as R427 and R450 say, and the other parts are told (R229, R450, R465). -/
def State.slotFault (s : State) (n status epoch : Nat) (notify : Bool := true) : State :=
  let x := s.slot n
  if x.active then
    let s := (s.freezeSlot n).disarmSlot n
    let disabling := match x.drain with | some d => d.disableOrder | none => none
    let s := s.setSlot n { x with
      state := if disabling.isSome then .disabled else .faulted
      disabledFaulted := disabling.isSome
      faultStatus := status, faultEpoch := epoch, drain := none, ckptBuilds := [] }
    let s := s.note { opcode := 0xC0, target := n, status := status, detail := 0, result := epoch }
    let s := match x.drain with
      | some d => d.orders.foldl (fun s id => s.finishId id (Ending.aborted)) s
      | none => s
    let s := match disabling with
      | some id => s.finishId id { status := 0, d17 := 3 }
      | none => s
    if notify then
      ((s.partSlots n).filter fun p => p ≠ (s.fabric.moduleId, n)).foldl (fun s p => s.send (.fault p.2 p.1 status)) s
    else s
  else s

/-- The epoch a slot works in, for a fault entry: the highest launched, else its resume epoch. -/
def State.slotEpoch (s : State) (n : Nat) : Nat := (s.highestLaunched n).getD (s.slot n).resume

/-! ### Inputs a launch needs (R223, R226) -/

/-- Whether one of the colours of the members of a route is c. -/
def routeHasColour (a : Block) (ms : List Nat) (c : Nat) : Bool := ms.any fun i => (a.colours[i]?).getD 0 = c

/-- IN[c] of a block: block-replicas outside its fold group with a member of colour c toward it (R223). -/
def Image.inputsNeeded (g : Image) (parts : List Part) (group : List Nat) (b : Nat) (k : Block) (c : Nat) : Nat :=
  let of := fun (own : Bool) (bs : List Block) =>
    ((List.range bs.length).zip bs).filter fun q =>
      !(own && (q.1 = b || group.contains q.1)) && routeHasColour q.2 (g.membersToward q.2 k.varBase k.varCount) c
  (of true g.blocks).length +
    (((List.range parts.length).zip parts).map fun q =>
      if q.1 = g.partIndex then 0
      else match q.2.image with
        | some h => (((List.range h.blocks.length).zip h.blocks).filter fun r =>
            routeHasColour r.2 (h.membersToward r.2 k.varBase k.varCount) c).length
        | none => 0).sum

/-- PRO of a block: block-replicas of other parts with foreign edges or factors to it (R223). -/
def Image.prologueNeeded (g : Image) (parts : List Part) (k : Block) : Nat :=
  (((List.range parts.length).zip parts).map fun q =>
    if q.1 = g.partIndex then 0
    else match q.2.image with
      | some h => (h.blocks.filter fun r => h.membersToward r k.varBase k.varCount ≠ []).length
      | none => 0).sum

/-- IN[c] of the members of a fold group that a test picks: the sum over them, from the images alone (R223, R226). -/
def Slot.inputsOf (x : Slot) (members : List Member) (pick : Member → Bool) (c : Nat) : Nat :=
  match x.image with
  | none => 0
  | some g => ((members.filter pick).map fun m => match g.blocks[m.block]? with
      | some k => g.inputsNeeded x.parts ((members.filter fun o => o.replica = m.replica).map fun o => o.block) m.block k c
      | none => 0).sum

/-- IN and PRO of a fold group: sums over its members, from the images alone (R223, R226). -/
def Slot.launchNeeds (x : Slot) (members : List Member) : List Nat × Nat :=
  match x.image with
  | none => ([], 0)
  | some g =>
    ((List.range g.colourCount).map (x.inputsOf members fun _ => true),
     (members.map fun m => match g.blocks[m.block]? with | some k => g.prologueNeeded x.parts k | none => 0).sum)

/-! ### State messages at the receiver (R238) -/

/-- The value a message carries for rank t. -/
def StateMsg.val (m : StateMsg) (t : Nat) : Int := (m.vals[t]?).getD 0

/-- The edge weights of a block toward rank t of a message: by neighbour key in the EDGES region, by neighbour ID among the
spilled records (R238). -/
def Block.edgesFor (b : Block) (m : StateMsg) (t : Nat) : List Edge :=
  let v := m.srcVarBase + (m.member[t]?).getD 0
  ((b.edges.take 4096).filter fun e => rankOf e.neighbour b.neighbours = m.keyBase + t) ++
    (b.edges.drop 4096).filter fun e => e.neighbour = v

/-- The value of a boundary neighbour as the member last took it, in 16 bits. DESIGN CHOICE (log 95): a neighbour of another part, whose initial
state the loader does not read, contributes 0 until the prologue brings its state (R92). -/
def Member.boundary (m : Member) (v : Nat) : Int := match m.partners.at v with | some w => signed 16 w | none => 0

/-- Applies one rank of a state message to a member (R238); a prologue sets the boundary value and completes the fields
(R92, R165). `foreign` says that the sender lies in another part. -/
def Member.applyRank (m : Member) (b : Block) (msg : StateMsg) (foreign : Bool) (t : Nat) : Member :=
  let v := msg.srcVarBase + (msg.member[t]?).getD 0
  let x := msg.val t
  let addAll := fun (m : Member) (d : Int) => (b.edgesFor msg t).foldl (fun m e => m.addField e.index (e.weight * d)) m
  match msg.kind with
  | .categorical => { m with partners := m.partners.put v x.toNat }
  | .exchange => m
  | .binary =>
    if msg.prologue then
      let m := addAll m (x - m.boundary v)
      { m with partners := m.partners.put v (toField 16 x) }
    else if (msg.flip[t]?).getD false then
      let m := addAll m (2 * x)
      if foreign then { m with partners := m.partners.put v (toField 16 x) } else m
    else m
  | .relaxation =>
    if msg.prologue then
      let m := addAll m (x - m.boundary v)
      { m with partners := m.partners.put v (toField 16 x) }
    else
      let m := addAll m x
      if foreign then { m with partners := m.partners.put v (toField 16 (m.boundary v + x)) } else m

/-- Applies a state message to a member: every rank in turn (R238). -/
def Member.applyMsg (m : Member) (b : Block) (msg : StateMsg) (foreign : Bool) : Member :=
  if msg.empty then m
  else (List.range msg.member.length).foldl (fun m t => m.applyRank b msg foreign t) m

/-- Step 6 of R98: applies the held messages of a sweep clock value to the members they name and lets them go. -/
def Core.applyHeld (c : Core) (x : Slot) (t : Nat × Nat) : Core :=
  let now := c.held.filter fun m => m.epoch = t.1 && m.phase = t.2
  let c := { c with held := c.held.filter fun m => !(m.epoch = t.1 && m.phase = t.2) }
  now.foldl (fun c msg =>
    match c.memberIndex msg.replica msg.destBlock, x.block msg.destBlock with
    | some i, some b => c.modMember i fun m => m.applyMsg b msg (msg.srcPart ≠ x.partIndex)
    | _, _ => c) c

/-! ### Exchange energies (R159) -/

/-- H_blk of a member: the sum of s_i (h_i + b_i) over its variables (R159). -/
def Member.energySum (m : Member) : Int := m.locals.foldl (fun a i => a + m.spin i * (m.field i + m.bias i)) 0

/-- x * 2^k in units of 2^-149, rounded to nearest even where the units do not hold it. -/
def scaleUnits (x : Int) (k : Int) : Int :=
  let e := k + 149
  if 0 ≤ e then x * (2 ^ e.toNat : Nat) else rhe x (-e).toNat

/-- The pair of a contribution before norm: RN(H 2^(e-1)) and the remainder rounded the same way (R159). The flag says that
the conversion overflowed. -/
def energyPair (h : Int) (k : Int) : (Int × Int) × Bool :=
  let x := scaleUnits h k
  let s := rn x
  if (2 ^ 277 : Nat) ≤ s.natAbs then ((if x < 0 then -f32Max else f32Max, 0), true)
  else ((s, rn (x - s)), false)

/-- The contribution of a member: its leaf pair after norm, with the overflow of the conversion or of norm (R159, R202). -/
def Member.contribution (m : Member) : (Int × Int) × Bool :=
  let p := energyPair m.energySum (m.exponent - 1)
  let q := normPair p.1
  (q.1, p.2 || q.2)

/-! ### Phase launches (R98, R114, R227) -/

/-- The scalar registers at launch (R114). -/
def launchRegs (x : Slot) (m : Member) (t : Nat × Nat) : Tbl Word :=
  let put := fun (k : Tbl Word) (i v : Nat) => if v % 2 ^ 32 = 0 then k else k.put i (BitVec.ofNat 32 v)
  let k := put [] 1 t.2
  let k := put k 2 (t.1 % 2 ^ 32)
  let k := put k 3 (t.1 / 2 ^ 32)
  let k := put k 4 x.colours
  let k := put k 6 m.varCount
  let k := put k 7 m.varBase
  let k := put k 8 m.replica
  let k := put k 9 x.draws
  put k 10 m.block

/-- Launches a member of a core's fold group: its program is copied in where the instruction store does not hold all of the group
(R137), FLIP clears, the registers of R114 are set, everything else is zero. -/
def Core.launchMember (c : Core) (x : Slot) (t : Nat × Nat) (i : Nat) : Core :=
  match c.members[i]? with
  | none => { c with run := none }
  | some m =>
    { (c.modMember i fun m => { m.clearFlip with old := [] }) with
      instrs := if x.storeHolds c.members then c.instrs else x.instrsFor c.members i
      lastMember := i, lastPhase := t.2, k := launchRegs x m t, w := [], acc := [], front := c.front, retired := (c.retired + 4) % 2 ^ 48
      run := some { epoch := t.1, phase := t.2, member := i, pc := 0, stage := 2, fprDone := false, smsgDone := false,
                    pdone := false, pushed := [], queued := false, retired := 0, wait := .none } }

/-- The next member at or after position i that runs: replicas at or above RUNS do not (R423, R134). -/
def Core.nextMember (c : Core) (x : Slot) (i : Nat) : Option Nat :=
  (List.range c.members.length).find? fun j =>
    i ≤ j && match c.members[j]? with | some m => m.replica < x.runs | none => false

/-- Counter (b, c) of a launch object (R225). -/
def Launch.counter (l : Launch) (t : Nat × Nat) : Nat := (l.count.at (16 * (t.1 % 2) + t.2)).getD 0

/-- Sets counter (b, c) of a launch object. -/
def Launch.setCounter (l : Launch) (t : Nat × Nat) (v : Nat) : Launch :=
  let k := 16 * (t.1 % 2) + t.2
  { l with count := if v = 0 then l.count.del k else l.count.put k v }

/-- The exchange results tagged t that count toward a launch: one for each member that ran at t (R161, R223, R239). -/
def Slot.exchangeNeed (x : Slot) (members : List Member) (t : Nat × Nat) : Nat :=
  if t.2 + 1 = x.colours && x.exchangeEpoch t.1 then (members.filter (x.ranAt t.1)).length else 0

/-- The state messages tagged t that a launch counts: IN, less what belongs to members that did not run at t, which nothing is sent for
(R223, R227, R423). DEDUCED (log 81). -/
def Launch.inputs (l : Launch) (x : Slot) (members : List Member) (t : Nat × Nat) : Nat :=
  if members.all (x.ranAt t.1) then (l.inNeed[t.2]?).getD 0 else x.inputsOf members (x.ranAt t.1) t.2

/-- The inputs tagged t that the launch after t needs, own completion apart (R223, R227). -/
def Launch.need (l : Launch) (x : Slot) (members : List Member) (t : Nat × Nat) : Nat :=
  if l.start then l.pro else l.inputs x members t + x.exchangeNeed members t

/-- Whether a slot's next checkpoint epoch must wait for a checkpoint not yet committed (R590). -/
def Slot.checkpointGate (x : Slot) (e : Nat) : Bool :=
  e % 64 = 0 && ((match x.ckptPending with | some r => r < e | none => false) || x.ckptBuilds.any fun b => b.resume < e)

/-- Whether lock-step holds the launch of t back: a phase earlier than pred(t), from the epoch both modules began at, is still uncompared
for a replica (R270, R272). -/
def Slot.lockGate (x : Slot) (t : Nat × Nat) : Bool :=
  match x.lock with
  | none => false
  | some k =>
    let q := sweepPred x.colours (sweepPred x.colours t)
    let base := match k.partnerHello with | some h => h.2 | none => 0
    let before := fun (a b : Nat × Nat) => a.1 < b.1 || (a.1 = b.1 && a.2 < b.2)
    k.active && base ≤ t.1 && 2 ≤ (t.1 - base) * x.colours + t.2 &&
      !(List.range x.runs).all fun r => k.matched.any fun m => m.1 = r && !before (m.2.1, m.2.2.1) q

/-- Whether a launch object's launch condition holds (R227). -/
def Launch.ready (l : Launch) (x : Slot) (members : List Member) : Bool :=
  let t := (l.nextEpoch, l.nextPhase)
  let p := sweepPred x.colours t
  let hard := match x.drain with | some d => d.hard | none => false
  l.armed && !hard && !x.lockGate t && !(t.2 = 0 && (x.epochLimit ≤ t.1 || l.frozen || x.checkpointGate t.1)) &&
    (l.start || l.done = some p) && l.need x members p ≤ l.counter p

/-- The partial of a member's exchange energy, on its way to the root of its exchange tree (R159, R211). -/
def energyPartial (s : State) (c n : Nat) (x : Slot) (m : Member) (e : Nat) : Msg :=
  let p := m.contribution
  let w := packPair p.1
  let z := s.partZero n
  .part { module := z.1, slot := z.2, configTag := x.configTag, replica := m.replica, tree := 16, epoch := e, leaf := m.varBase, block := m.block, cluster := clusterOf c,
          runGen := x.runGen, val := .pair w.1 w.2, floatSat := p.2 }

/-- Overflows of exchange contributions of epoch e count among the flags at the close of e (R102, R217, R431, R588). -/
def Slot.lateSat (x : Slot) (e : Nat) (ms : List Member) : Slot :=
  if ms = [] then x
  else
    let hit := fun (k : Nat × Nat) => ms.any fun m => m.replica = k.1 && m.block = k.2
    let put := fun (p : (Nat × Nat) × (List Byte × Nat)) => if hit p.1 then (p.1, (p.2.1, Nat.lor p.2.2 16)) else p
    { x with
      statSat := x.statSat.map fun p => if p.1 = e then (p.1, Nat.lor p.2 16) else p
      ckptBuilds := x.ckptBuilds.map fun k => if k.resume = e + 1 then { k with records := k.records.map put } else k }

/-- Once step 6 of an exchange epoch's last phase is done, every member sends its energy contribution (R159). The cluster
sends the exchange tree's close token of a replica when all its block-replicas there have (R212). -/
def State.sendEnergies (s : State) (c : Nat) : State :=
  let co := s.core c
  match co.slot, co.launch.done with
  | some n, some t =>
    let x := s.slot n
    let isDue := fun (m : Member) => x.ranAt t.1 m && m.energySent ≠ some t.1
    if t.2 + 1 = x.colours && x.exchangeEpoch t.1 && x.active && !co.launch.start && co.members.any isDue &&
        co.launch.inputs x co.members t ≤ co.launch.counter t then
      let co := co.applyHeld x t
      let due := co.members.filter isDue
      let s := due.foldl (fun s m => s.send (energyPartial s c n x m t.1)) s
      let sent := fun (m : Member) => if isDue m then { (m.satIf 4 m.contribution.2) with energySent := some t.1 } else m
      let co := { co with members := co.members.map sent }
      let s := (s.setCore c co).modSlot n fun x => x.lateSat t.1 (due.filter fun m => m.contribution.2)
      let k := clusterOf c
      let reps := (due.map fun m => m.replica).foldl (fun l q => insertAsc q l) []
      reps.foldl (fun s q =>
        let here := (s.cores.filter fun p => p.2.slot = some n && clusterOf p.1 = k).flatMap fun p =>
          p.2.members.filter fun m => m.replica = q
        if here.all fun m => m.energySent = some t.1 then
          s.send (.close { module := (s.partZero n).1, slot := (s.partZero n).2, replica := q, tree := 16, epoch := t.1, part := x.partIndex, cluster := k,
                           blockCount := match x.image with | some g => g.blocks.length | none => 0,
                           closed := here.length, runGen := x.runGen })
        else s) s
    else s
  | _, _ => s

/-- PHASE_LAUNCH: try_launch of R227. A core that holds a slot and is between phases launches its next phase when the
condition holds: the counter clears, NEXT advances, step 6 applies the held increments, the first member starts. -/
def State.tryLaunch (s : State) (c : Nat) : State :=
  let s := s.sendEnergies c
  let co := s.core c
  match co.slot, co.run with
  | some n, none =>
    let x := s.slot n
    let l := co.launch
    match if co.kind = .enabled && l.ready x co.members then co.nextMember x 0 else none with
    | some first =>
      let t := (l.nextEpoch, l.nextPhase)
      let p := sweepPred x.colours t
      let nx := sweepSucc x.colours t
      let l := { (l.setCounter p 0) with start := false, nextEpoch := nx.1, nextPhase := nx.2, launched := some t }
      let co := ({ co with launch := l }).applyHeld x p
      (s.setCore c (co.launchMember x t first)).count (clusterOf c) 0x0004 1
    | none => s
  | _, _ => s

/-- A window or overcount fault of a launch object: OVERCOUNT, a contained error naming the tag, and the slot FAULTED
(R228, R596). -/
def State.overcount (s : State) (c n q b : Nat) (t : Nat × Nat) : State :=
  let k := clusterOf c
  let s := s.modCluster k fun x => { x with overcount := true }
  let s := s.logError { cls := .contained, code := 0x000D, action := 3, unitKind := 2, unit := k, slot := n, replica := q,
                        phase := t.2, epoch := t.1, info := b }
  s.slotFault n 0x3A t.1

/-- on_input of R227 at a launch object that has accepted a message of the current run generation: the window check, the
count, the overcount check, and the launch. A message before the object is armed is held in the router port (R229). A core none of whose
members runs launches nothing: what reaches it of its last epoch is applied as it comes (R98, R423). DEDUCED (log 81). -/
def State.onInput (s : State) (c n : Nat) (m : StateMsg) : State :=
  let co := s.core c
  let x := s.slot n
  let l := co.launch
  let t := (m.epoch, m.phase)
  if !l.armed then s.setCore c { co with parked := co.parked ++ [m] }
  else if !l.start && (co.nextMember x 0).isNone && co.run.isNone then
    if m.kind = .exchange then s else s.setCore c (({ co with held := co.held ++ [m] }).applyHeld x t)
  else if x.colours < sweepGap x.colours (sweepPred x.colours (l.nextEpoch, l.nextPhase)) t then
    s.overcount c n m.replica m.destBlock t
  else
    let l' := l.setCounter t (l.counter t + 1)
    let s := s.setCore c { co with launch := l', held := if m.kind = .exchange then co.held else co.held ++ [m] }
    let first := t = sweepPred x.colours (l.nextEpoch, l.nextPhase)
    let need := if first then l.need x co.members t else l.inputs x co.members t + x.exchangeNeed co.members t
    if need < l'.counter t then s.overcount c n m.replica m.destBlock t else s.tryLaunch c

/-- Every core of a slot evaluates its launch condition. -/
def State.tryLaunchSlot (s : State) (n : Nat) : State := (s.slotCores n).foldl (fun s c => s.tryLaunch c) s

end Sys2Proof.Machine
end

