-- ==== Sys2Proof/Machine/MemOps.lean ====
section
/-! DEFINITION. Machine/MemOps.lean: reads and writes of the local address space by protection unit, and fatal errors. -/

namespace Sys2Proof.Machine

/-! ### Fatal errors (R586) -/

/-- One slot at a fatal error: it freezes and becomes FAULTED with status INTERNAL; EMPTY, FAULTED and DISABLED slots keep
their state (R586, R625). -/
def State.fatalSlot (s : State) (n : Nat) : State :=
  let x := s.slot n
  if x.active then s.slotFault n 0x3F (s.slotEpoch n)
  else if x.state = .loaded || x.state = .stopped then
    let s := (s.freezeSlot n).disarmSlot n
    (s.setSlot n { x with state := .faulted, faultStatus := 0x3F, faultEpoch := s.slotEpoch n }).note
      { opcode := 0xC0, target := n, status := 0x3F, detail := 0, result := s.slotEpoch n }
  else s

/-- FATAL_ERROR: the error is logged, every slot freezes and becomes FAULTED, and the host station serves only three
commands from then on (R586). -/
def State.fatalError (s : State) (code unitKind u : Nat) : State :=
  let s := s.logError { cls := .fatal, code := code, action := 4, unitKind := unitKind, unit := u }
  let s := (List.range 48).foldl (fun s n => s.fatalSlot n) s
  { s with platform := { s.platform with fatal := true } }

/-! ### Bytes where they lie -/

/-- What an unlisted byte of the store of a core with no block-replica reads as: no value until a loader has written it, then what it
stood at (R84, R323). -/
def Core.storeBg (c : Core) : Background := if c.storeWritten then storeBackground c.storeFree.1 c.storeFree.2 else noBackground

/-- What an unlisted byte of a core's program window reads as: no value before its cluster was placed on, zero from then on, and a
free byte once a phase has ended on the core (R124, R135). -/
def Core.windowBg (c : Core) (placed : Bool) : Background :=
  if placed then freeBackground 0 4096 c.windowFree zeroBackground else noBackground

/-- The byte of a core store as its window shows it; none for a word nothing has written (R84, R85, R323). -/
def Core.storeByte (c : Core) (a : Nat) : Option Byte :=
  match c.standing with
  | some m => Mem.get m.bg m.store a
  | none => Mem.get c.storeBg c.store a

/-- Bytes that placement alone decides and no rule lays out: slices a slot holds, and the post slices of a cluster that has
been placed on (R37, R73, R232). -/
def State.placedByte (s : State) (a : Nat) : Bool :=
  match regionOf a with
  | .slice k n => if n < 28 then ((s.cluster k).sliceSlot.at n).isSome else n < 30 && (s.cluster k).placed
  | _ => false

/-- The byte at a local address of a window that holds bytes; none for one that nothing has written (R323). -/
def State.byteAt (s : State) (a : Nat) : Option Byte :=
  match regionOf a with
  | .slice k n =>
    if n < 30 then Mem.get memBackground s.mem a
    else
      let o := (n - 30) * 0x20000 + a % 0x20000
      Mem.get ((s.core (coreAt k (o / 4096))).windowBg (s.cluster k).placed) (s.core (coreAt k (o / 4096))).window (o % 4096)
  | .store c => (s.core c).storeByte (a % 0x10000)
  | .sync _ _ | .outside => none
  | _ => Mem.get memBackground s.mem a

/-- Bytes of protection of an address: a line in HBM and the Larder, an 8-byte word elsewhere (R323). -/
def unitSize (a : Nat) : Nat := if (regionOf a).lined then 64 else 8

/-- Whether an upset makes a protection unit uncorrectable (R313, R316, R587). -/
def State.upsetAt (s : State) (a : Nat) : Bool :=
  s.upsets.any fun u => match u with
    | .line x => x = a
    | .sliceWord x false => x = a
    | .coreWord c o false => regionOf a = .store c && a % 0x10000 = o
    | _ => false

/-- Whether an upset lies in the protection unit at an address and is corrected when the unit is read: of a Larder line every word on its own
(R313, R314, R316, R587). -/
def Upset.correctable (u : Upset) (a : Nat) : Bool :=
  match u with
  | .lineSymbol x | .lineMis x _ | .linkError x => x = a
  | .larderWord x => x / 64 * 64 = a && 8 ≤ stationOf a && (regionOf a).lined
  | .sliceWord x true => x = a
  | .coreWord c o true => regionOf a = .store c && a % 0x10000 = o
  | _ => false

/-- An upset of a protection unit that is corrected when the unit is read (R313, R316, R587). -/
def State.correctableAt (s : State) (a : Nat) : Option Upset := s.upsets.find? fun u => u.correctable a

/-- CORRECTED_WRITE_BACK: a correction is counted, logged by R585 and written back, which removes the upset (R313, R315). -/
def State.correct (s : State) (a : Nat) (u : Upset) : State :=
  let s := { s with upsets := s.upsets.filter fun v => v ≠ u }
  match regionOf a with
  | .slice k _ =>
    s.correctedError 0x0005 2 k a
  | .store c => s.correctedError 0x0001 1 c a
  | _ =>
    let n := stationOf a
    (s.modStation n fun m => { m with corrected := satInc (2 ^ 16 - 1) m.corrected }).correctedError 0x0006 6 n a

/-- Every correction that a read of a protection unit makes. A line error that equals a single-symbol error of another codeword is corrected to
that one, and the wrong bytes are delivered and written back (R314). -/
def State.correctAll (s : State) (a : Nat) : State :=
  (s.upsets.filter fun u => u.correctable a).foldl (fun s u =>
    match u with
    | .lineMis _ bs => (s.correct a u).poke a (bs.take 64)
    | _ => s.correct a u) s

/-- An uncorrectable line or word met by a reader: counted, recorded and logged; in JOURNAL or ERROR_LOG it is fatal
(R313, R333, R586). `flags`: 1 found by the scrubber, 2 found on a partial-write merge. -/
def State.uncorrectable (s : State) (a flags : Nat) : State :=
  let r := regionOf a
  if r.lined then
    let n := stationOf a
    let s := s.modStation n fun m =>
      { m with uncorrectable := satInc (2 ^ 16 - 1) m.uncorrectable, errLast := some (a, flags) }
    if r = .journal || r = .errorLog then s.fatalError 0x0006 6 n
    else s.logError { cls := .contained, code := 0x0006, unitKind := 6, unit := n, address := a }
  else
    match r with
    | .slice k _ => s.logError { cls := .contained, code := 0x0005, unitKind := 2, unit := k, address := a }
    | .store c => s.logError { cls := .contained, code := 0x0001, unitKind := 1, unit := c, info := 2 ^ 32 - 1, address := a }
    | _ => s

/-- The data of a protection unit, a byte that has no value taking a free one. -/
def State.unitData (s : State) (a n : Nat) : List Byte :=
  (List.range n).map fun i => match s.byteAt (a + i) with | some b => b | none => Config.freeByte s.free i

/-- Reads the protection unit at an aligned address. Unwritten words give undefined data with or without an uncorrectable
error, by a free value (R313, R324); `flags` as for `uncorrectable`. -/
def State.readUnit (s : State) (a : Nat) (flags : Nat := 0) : State × Option (List Byte) :=
  let n := unitSize a
  if s.upsetAt a then (s.uncorrectable a flags, none)
  else
    let s := s.correctAll a
    if (List.range n).all fun i => (s.byteAt (a + i)).isSome then (s, some (s.unitData a n))
    else
      let data := s.unitData a n
      let placed := s.placedByte a
      let w := s.nextFree
      if w.1.getLsbD 0 && !placed then (w.2.uncorrectable a flags, none) else (w.2, some data)

/-! ### Trackers of the memory stations (R28, R331) -/

/-- Whose request takes a tracker entry of a memory station (R331). -/
inductive StationUser where
  | other
  | firmware
  | engine
  deriving DecidableEq, Repr

/-- Tracker entries of a memory station: the shared pool, those reserved for CP firmware and the loader, those reserved for the reliability
engine (R28, R331). -/
def trackerShare (n : Nat) : Nat × Nat × Nat := if n < 6 then (1792, 128, 128) else (768, 128, 128)

/-- A request takes an entry: of the shared pool, or, where that is empty, of its user's reserve; none where its pool is empty (R331). -/
def MemStation.take (m : MemStation) (n : Nat) (u : StationUser) : Option MemStation :=
  let c := trackerShare n
  let t := { m with inUse := m.inUse + 1, peak := max m.peak (m.inUse + 1) }
  if m.inUse - m.inFirmware - m.inEngine < c.1 then some t
  else match u with
    | .other => none
    | .firmware => if m.inFirmware < c.2.1 then some { t with inFirmware := m.inFirmware + 1 } else none
    | .engine => if m.inEngine < c.2.2 then some { t with inEngine := m.inEngine + 1 } else none

/-- Whether a station admits a request for a line; one that it does not admit waits in the station's input buffer (R331). -/
def State.stationAdmits (s : State) (a : Nat) (u : StationUser) : Bool := ((s.station (stationOf a)).take (stationOf a) u).isSome

/-- A request at a memory station holds one tracker entry until its response leaves. The response leaves in the same step, so what stays is
PEAK (R331, R332). DESIGN CHOICE (log 90). -/
def State.tracked (s : State) (a : Nat) : State :=
  let n := stationOf a
  let m := s.station n
  if (regionOf a).lined && m.peak ≤ m.inUse then s.setStation n { m with peak := m.inUse + 1 } else s

/-- Reads n bytes unit by unit; none when a unit is uncorrectable. Every unit is decoded, also after one that is (R313). -/
def State.readUnits (s : State) (flags : Nat) : Nat → Nat → State × Option (List Byte)
  | _, 0 => (s, some [])
  | a, k + 1 =>
    match (s.tracked a).readUnit a flags with
    | (s, none) => ((s.readUnits flags (a + unitSize a) k).1, none)
    | (s, some bs) =>
      match s.readUnits flags (a + unitSize a) k with
      | (s, some t) => (s, some (bs ++ t))
      | (s, none) => (s, none)

/-- Reads len bytes from a local address (R306, R324). -/
def State.readLocal (s : State) (a len : Nat) : State × Option (List Byte) :=
  let u := unitSize a
  let first := a / u * u
  match s.readUnits 0 first (roundUp u (a + len - first) / u) with
  | (s, some bs) => (s, some (slice bs (a - first) len))
  | (s, none) => (s, none)

/-- Replaces bytes of a free core's store or of a program window, or of the module's memory. -/
def State.setBytes (s : State) (a : Nat) (bs : List Byte) : State :=
  match regionOf a with
  | .store c => s.modCore c fun x =>
      { x with store := Mem.write x.storeBg x.store (a % 0x10000) bs }
  | .slice k n =>
    if n < 30 then s.poke a bs
    else
      let o := (n - 30) * 0x20000 + a % 0x20000
      s.modCore (coreAt k (o / 4096)) fun x =>
        { x with window := Mem.write (x.windowBg (s.cluster k).placed) x.window (o % 4096) bs }
  | _ => s.poke a bs

/-- The loader has written a core's store and its instruction store: no flipped bit of them is left (R79, R84). -/
def State.loaderWrote (s : State) (c : Nat) : State :=
  { s with upsets := s.upsets.filter fun u => match u with
      | .coreWord d _ _ | .instrWord d _ _ => decide (d ≠ c)
      | _ => true }

/-- A write clears the upsets of the unit it covers. -/
def State.clearUpset (s : State) (a : Nat) : State :=
  { s with upsets := s.upsets.filter fun u => match u with
      | .line x | .lineSymbol x | .lineMis x _ => x ≠ a
      | .larderWord x => x / 64 * 64 ≠ a
      | .sliceWord x _ => x ≠ a
      | .coreWord c o _ => !(regionOf a = .store c && a % 0x10000 = o)
      | _ => true }

/-- A link error of the Larder that a write meets: the link corrects it and it counts as CORRECTED (R316). -/
def State.linkFixed (s : State) (a : Nat) : State := if .linkError a ∈ s.upsets then s.correct a (.linkError a) else s

/-- Writes part or all of one protection unit: a part reads, merges and writes; an uncorrectable read leaves the unit as it
was and logs a contained error (R324). The flag says that the unit was written. -/
def State.writeUnit (s : State) (unitAddr off : Nat) (bs : List Byte) : State × Bool :=
  let n := unitSize unitAddr
  let s := s.linkFixed unitAddr
  if off = 0 && bs.length = n then ((s.clearUpset unitAddr).setBytes unitAddr bs, true)
  else
    match s.readUnit unitAddr 2 with
    | (s, some old) => (s.setBytes unitAddr (old.take off ++ bs ++ old.drop (off + bs.length)), true)
    | (s, none) => (s, false)

/-- Writes bytes unit by unit, at most fuel units; every unit that can be written is (R324). -/
def State.writeUnits (s : State) : Nat → Nat → List Byte → State × Bool
  | 0, _, _ => (s, true)
  | k + 1, a, bs =>
    if bs = [] then (s, true)
    else
      let u := unitSize a
      let off := a % u
      let r := (s.tracked a).writeUnit (a - off) off (bs.take (u - off))
      let t := r.1.writeUnits k (a - off + u) (bs.drop (u - off))
      (t.1, r.2 && t.2)

/-- Writes bytes at a local address of memory, slices or a free core store (R324). -/
def State.writeLocal (s : State) (a : Nat) (bs : List Byte) : State × Bool := s.writeUnits (bs.length + 1) a bs

/-! ### Hall addresses (R9, R306) -/

/-- The module ID of a hall address. -/
def hallModule (a : Nat) : Nat := a / 2 ^ 48
/-- The local address of a hall address. -/
def hallLocal (a : Nat) : Nat := a % 2 ^ 48
/-- The hall address of a local address of this module. -/
def State.hallOf (s : State) (a : Nat) : Nat := s.fabric.moduleId * 2 ^ 48 + a

/-- First and last region of a range lie in one window of R305. -/
def oneWindow (a len : Nat) : Bool :=
  let w := fun r => match r with
    | .hbm => 0 | .slice _ _ => 2 | .store _ => 3 | .sync _ _ => 4 | .outside => 5 | _ => 1
  len ≠ 0 && regionOf a ≠ .outside && w (regionOf a) = w (regionOf (a + len - 1)) && regionOf (a + len - 1) ≠ .outside

/-- Whether a range lies in HBM or in the Larder's GENERAL region. -/
def inData (a len : Nat) : Bool :=
  len ≠ 0 && ((regionOf a = .hbm && regionOf (a + len - 1) = .hbm) || (regionOf a = .general && regionOf (a + len - 1) = .general))

/-- Whether a slot that is not EMPTY holds a core (R85). -/
def State.coreHeld (s : State) (c : Nat) : Bool := (s.core c).slot.isSome

end Sys2Proof.Machine
end

