-- ==== Sys2Proof/Machine/Reduce.lean ====
section
/-! DEFINITION. Machine/Reduce.lean: the canonical tree, open groups, tree results and the exchange decision (R196 to R216,
R158 to R161). -/

namespace Sys2Proof.Machine

/-! ### The canonical tree (R203 to R206) -/

/-- The top value of a tree of k levels over the pairs listed by slot, the overflow flag, and the nodes evaluated. A subtree
that received nothing is left out, which changes no bit (R203, R206). DESIGN CHOICE (log 84): a node with one empty side is such an
omitted node and counts as no evaluation (R220). -/
def treeEval : Nat → List (Nat × (Int × Int)) → Option (Int × Int) × Bool × Nat
  | 0, l => (match l with | p :: _ => some p.2 | [] => none, false, 0)
  | k + 1, l =>
    if l = [] then (none, false, 0)
    else
      let a := treeEval k (l.filter fun p => p.1 < 2 ^ k)
      let b := treeEval k ((l.filter fun p => 2 ^ k ≤ p.1).map fun p => (p.1 - 2 ^ k, p.2))
      match a.1, b.1 with
      | some x, some y =>
        let r := nodePair x y
        (some r.1, r.2 || a.2.1 || b.2.1, a.2.2 + b.2.2 + 1)
      | some x, none => (some x, a.2)
      | none, y => (y, b.2)

/-- A tree's result: its passes of 2^k slots chained in ascending order (R205). -/
def chainPasses (k : Nat) (l : List (Nat × (Int × Int))) : Option (Int × Int) × Bool × Nat :=
  let passes := (l.map fun p => p.1 / 2 ^ k).foldl (fun a p => insertAsc p a) []
  passes.foldl (fun a p =>
    let t := treeEval k ((l.filter fun q => q.1 / 2 ^ k = p).map fun q => (q.1 % 2 ^ k, q.2))
    match a.1, t.1 with
    | some x, some y =>
      let r := nodePair x y
      (some r.1, r.2 || a.2.1 || t.2.1, a.2.2 + t.2.2 + 1)
    | none, y => (y, t.2)
    | x, none => (x, a.2)) (none, false, 0)

/-! ### Roots and forms (R213, R216) -/

/-- The root cluster of a replica's tree, as the firmware chose it when the slot was loaded (R213). -/
def Slot.rootCluster (x : Slot) (q t : Nat) : Nat := (Config.freeByte x.rootSeed (17 * q + t)).toNat % 144

/-- An empty form of a tree result. -/
def newForm (q t e : Nat) : TreeForm :=
  { replica := q, tree := t, epoch := e, sum := 0, groups := [], writers := [], leafTop := 0, anyLeaf := false,
    floatSat := false, closes := [], result := none }

/-- Nodes of k levels over distinct slots that have every slot below them present: a root evaluates such a node as soon as it can (R213). -/
def fullNodes : Nat → List Nat → Nat
  | 0, _ => 0
  | k + 1, l =>
    if l = [] then 0
    else fullNodes k (l.filter fun p => p < 2 ^ k) + fullNodes k ((l.filter fun p => 2 ^ k ≤ p).map fun p => p - 2 ^ k) +
      bitOf (l.length = 2 ^ (k + 1))

/-- Nodes that the root of a tree has evaluated on the groups, or the leaves of an exchange tree, that have arrived (R211, R213). -/
def TreeForm.evaluated (f : TreeForm) : Nat :=
  let k := if f.tree = 16 then 24 else 18
  let slots := f.groups.map fun g => g.1
  ((slots.map fun p => p / 2 ^ k).foldl (fun a p => insertAsc p a) []).foldl (fun a p =>
    a + fullNodes k ((slots.filter fun q => q / 2 ^ k = p).map fun q => q % 2 ^ k)) 0

/-- Changes the form of a tree result, opening it if it is not there. -/
def Slot.modForm (x : Slot) (q t e : Nat) (f : TreeForm → TreeForm) : Slot :=
  let is := fun (r : TreeForm) => r.replica = q && r.tree = t && r.epoch = e
  if x.trees.any is then { x with trees := x.trees.map fun r => if is r then f r else r }
  else { x with trees := x.trees ++ [f (newForm q t e)] }

/-- Nodes evaluated so far for a tree result (R213). -/
def Slot.evaluatedOf (x : Slot) (q t e : Nat) : Nat :=
  match x.trees.find? fun f => f.replica = q && f.tree = t && f.epoch = e with | some f => f.evaluated | none => 0

/-- Whether the close tokens of every part add up to its BLOCK_COUNT (R213). -/
def TreeForm.closed (f : TreeForm) (parts : Nat) : Bool :=
  (List.range parts).all fun p =>
    match f.closes.find? fun c => c.1 = p with
    | some c => ((f.closes.filter fun d => d.1 = p).map fun d => d.2.2).sum = c.2.1
    | none => false

/-- The float value of a tree: groups of 64 leaves below 2^18 per pass, or the leaves of the exchange tree (R204, R205, R211). -/
def TreeForm.float (f : TreeForm) : (Int × Int) × Bool × Nat :=
  let r := chainPasses (if f.tree = 16 then 24 else 18) (f.groups.map fun g => (g.1, unpackPair g.2))
  ((r.1).getD (0, 0), r.2)

/-- The 16-byte record of a tree result and whether it has FLOAT_SAT (R208, R216). -/
def TreeForm.record (f : TreeForm) : List Byte × Bool :=
  if f.tree < 8 then
    let v := sat64 f.sum
    (leBytes 8 (toField 64 v) ++ leBytes 4 f.leafTop ++ leBytes 1 f.tree ++
      leBytes 1 (bitOf (v ≠ f.sum) + 8 * bitOf (!f.anyLeaf)) ++ zeros 2, false)
  else
    let r := f.float
    let w := packPair r.1
    let sat := r.2.1 || f.floatSat
    (leBytes 4 w.1.toNat ++ leBytes 4 w.2.toNat ++ leBytes 4 f.leafTop ++ leBytes 1 f.tree ++
      leBytes 1 (2 * bitOf sat + 4 * bitOf (decide (2 ^ 24 ≤ f.leafTop)) + 8 * bitOf (!f.anyLeaf)) ++ zeros 2, sat)

/-- Trees 0 to 15 in use, by TREE_MASK (R197). -/
def Slot.treesInUse (x : Slot) : List Nat := (List.range 16).filter fun t => bitAt x.treeMask t = 1

/-! ### Partials at a cluster's nodes (R210, R211) -/

/-- A leaf collision: a contained error of the detecting cluster, and the slot FAULTED (R210, R596, R625). -/
def State.leafCollision (s : State) (k n q tree e group : Nat) : State :=
  let s := s.logError { cls := .contained, code := 0x000C, action := 3, unitKind := 2, unit := k, slot := n, replica := q,
                        epoch := e, info := (if tree = 16 then 0xFF else tree) + 256 * group }
  s.slotFault n 0x39 e

/-- Whether a cluster has a free slice: not a post slice, not assigned, not retired (R211, R232, R587). -/
def Cluster.freeSlice (c : Cluster) : Bool :=
  (List.range 28).any fun i => (c.sliceSlot.at i).isNone && !c.retiredSlices.contains i

/-- Open groups past 128, or pending group values at a root, wait in slices, else in the fold area (R211, R213, R219). DESIGN CHOICE
(log 85): every group value and every exchange leaf pair counts as having waited when it arrives at a root, and a slice that is free takes
what waits, however much it is. -/
def Cluster.spill (c : Cluster) : Cluster := if c.freeSlice then { c with spillSlice := true } else { c with spillLarder := true }

/-- A contained CONFIG_TAG error of a message whose tag differs from the slot's, and the slot FAULTED (R164, R596). -/
def State.tagFault (s : State) (k n q e received : Nat) : State :=
  let own := ((s.slot n).inForce e).tag
  let s := s.logError { cls := .contained, code := 0x000E, action := 3, unitKind := 2, unit := k, slot := n, replica := q,
                        epoch := e, info := received + 2 ^ 32 * own }
  s.slotFault n 0x3B e

/-- A partial of an integer tree at its cluster: added into the cluster's sum (R208, R211). DESIGN CHOICE (log 84): the first one, which
opens the sum, counts as an addition too (R220). -/
def Cluster.addInt (c : Cluster) (m : PartialMsg) (v : Int) : Cluster :=
  let is := fun (r : IntSum) => r.slot = m.slot && r.replica = m.replica && r.tree = m.tree && r.epoch = m.epoch
  let c := { c with combined := (c.combined + 1) % 2 ^ 32 }
  if c.sums.any is then
    { c with sums := c.sums.map fun r => if is r then { r with sum := r.sum + v, leafTop := max r.leafTop m.leaf } else r }
  else
    { c with sums := c.sums ++ [{ slot := m.slot, replica := m.replica, tree := m.tree, epoch := m.epoch, runGen := m.runGen,
                                  sum := v, leafTop := m.leaf }] }

/-- A leaf pair of a float tree at its cluster: the open group it lies in; none on a leaf collision (R210, R211). -/
def Cluster.addLeaf (c : Cluster) (m : PartialMsg) (p : Word × Word) : Option Cluster :=
  let g := m.leaf / 64
  let is := fun (r : OpenGroup) =>
    r.slot = m.slot && r.replica = m.replica && r.tree = m.tree && r.epoch = m.epoch && r.group = g
  match c.groups.find? is with
  | some r =>
    if decide (r.block ≠ m.block) || r.leaves.any (fun l => decide (l.1 = m.leaf)) then none
    else
      let put := fun (r : OpenGroup) =>
        if is r then { r with leaves := r.leaves ++ [(m.leaf, p)], floatSat := r.floatSat || m.floatSat } else r
      some { c with groups := c.groups.map put }
  | none =>
    let c := if c.groups.length < 128 then c else c.spill
    some { c with groups := c.groups ++ [{ slot := m.slot, replica := m.replica, tree := m.tree, epoch := m.epoch, group := g,
                                           block := m.block, runGen := m.runGen, leaves := [(m.leaf, p)],
                                           floatSat := m.floatSat }] }

/-- Counts evaluations and additions of a cluster's nodes (R220). -/
def Cluster.combines (c : Cluster) (n : Nat) : Cluster := { c with combined := (c.combined + n) % 2 ^ 32, nodesQuiet := 0 }

/-- A leaf pair of an exchange tree at its root (R211). -/
def TreeForm.addExchange (f : TreeForm) (m : PartialMsg) (p : Word × Word) : TreeForm :=
  { f with groups := f.groups ++ [(m.leaf, p)], leafTop := max f.leafTop m.leaf, anyLeaf := true,
           floatSat := f.floatSat || m.floatSat }

/-- A partial arrives at its reduction node, or an exchange partial at its root. A stale run generation or a slot that no
longer runs its epoch discards it (R235); a foreign configuration tag on an exchange partial faults the slot (R164). -/
def State.partialArrive (s : State) (m : PartialMsg) : State :=
  let n := m.slot
  let x := s.slot n
  if m.module ≠ s.fabric.moduleId || m.runGen ≠ x.runGen || !x.active then s
  else if m.tree = 16 && m.configTag ≠ (x.inForce m.epoch).tag then
    s.tagFault (x.rootCluster m.replica 16) n m.replica m.epoch m.configTag
  else
    match m.val with
    | .int v => s.modCluster m.cluster fun c => (c.addInt m v).combines 0
    | .pair a b =>
      if m.tree = 16 then
        let y := x.modForm m.replica 16 m.epoch fun f => f.addExchange m (a, b)
        (s.setSlot n y).modCluster (x.rootCluster m.replica 16) fun c =>
          c.spill.combines (y.evaluatedOf m.replica 16 m.epoch - x.evaluatedOf m.replica 16 m.epoch)
      else
        match (s.cluster m.cluster).addLeaf m (a, b) with
        | some c => s.setCluster m.cluster (c.combines 0)
        | none => s.leafCollision m.cluster n m.replica m.tree m.epoch (m.leaf / 64)

/-! ### A cluster closes an epoch (R211, R212) -/

/-- The block-replicas of a (slot, replica) that a cluster holds. -/
def State.clusterMembers (s : State) (k n q : Nat) : List Member :=
  (s.cores.filter fun p => p.2.slot = some n && clusterOf p.1 = k).flatMap fun p => p.2.members.filter fun m => m.replica = q

/-- A block-replica closes an epoch: the nodes of its cluster evaluate levels 1 to 6 of the groups it wrote and send the values to the
root (R211). -/
def State.groupsClose (s : State) (k n q b e : Nat) : State :=
  let x := s.slot n
  let z := s.partZero n
  let c := s.cluster k
  let is := fun (r : OpenGroup) => r.slot = n && r.replica = q && r.epoch = e && r.block = b && r.runGen = x.runGen
  let value := fun (r : OpenGroup) => treeEval 6 (r.leaves.map fun l => (l.1 % 64, unpackPair l.2))
  let mine := c.groups.filter is
  let s := s.setCluster k ({ c with groups := c.groups.filter fun r => !is r }.combines (mine.map fun r => (value r).2.2).sum)
  mine.foldl (fun s r =>
    let v := value r
    let w := packPair (v.1.getD (0, 0))
    s.send (.group { module := z.1, slot := z.2, replica := q, tree := r.tree, epoch := e, group := r.group, block := b,
                     part := x.partIndex, cluster := k, runGen := x.runGen, val := .pair w.1 w.2,
                     leafTop := r.leaves.foldl (fun a l => max a l.1) 0, floatSat := r.floatSat || v.2.1 })) s

/-- What a cluster sends when it closes an epoch for a (slot, replica), after the group values of its block-replicas: its integer sums, then
one close token per tree in use (R211, R212). -/
def State.clusterClose (s : State) (k n q e : Nat) : State :=
  let x := s.slot n
  let z := s.partZero n
  let c := s.cluster k
  let sums := c.sums.filter fun r => r.slot = n && r.replica = q && r.epoch = e && r.runGen = x.runGen
  let s := s.setCluster k { c with
    groups := c.groups.filter fun r => !(r.slot = n && r.replica = q && r.epoch = e)
    sums := c.sums.filter fun r => !(r.slot = n && r.replica = q && r.epoch = e) }
  let s := sums.foldl (fun s r =>
    s.send (.group { module := z.1, slot := z.2, replica := q, tree := r.tree, epoch := e, group := 0, block := 0,
                     part := x.partIndex, cluster := k, runGen := x.runGen, val := .int r.sum, leafTop := r.leafTop,
                     floatSat := false })) s
  let here := (s.clusterMembers k n q).length
  x.treesInUse.foldl (fun s t =>
    s.send (.close { module := z.1, slot := z.2, replica := q, tree := t, epoch := e, part := x.partIndex, cluster := k,
                     blockCount := match x.image with | some g => g.blocks.length | none => 0,
                     closed := here, runGen := x.runGen })) s

/-- Whether every block-replica of a (slot, replica) in a cluster has closed an epoch (R212). -/
def State.clusterClosed (s : State) (k n q e : Nat) : Bool :=
  (s.clusterMembers k n q).all fun m => match m.closed with | some c => e ≤ c | none => false

/-! ### Exchange (R158 to R162) -/

/-- The rung table that was in force during an epoch, as far as the history reaches (R162). -/
def Slot.rungsAt (x : Slot) (e : Nat) : List Nat :=
  match x.exchHist.find? fun h => e ≤ h.1 with | some h => h.2.1 | none => x.rungs

/-- The exchange counts as they stand once every exchange up to an epoch is done (R162). -/
def Slot.exchAt (x : Slot) (e : Nat) : List (Nat × Nat) :=
  match (x.exchHist.filter fun h => h.1 ≤ e).getLast? with | some h => h.2.2 | none => []

/-- The counts of rung pairs after one exchange: every tried pair attempted, the accepted ones accepted (R162). DESIGN CHOICE (log 86):
the 32-bit counts wrap. -/
def bumpExchange (replicas : Nat) (old : List (Nat × Nat)) (tried accepted : List Nat) : List (Nat × Nat) :=
  (List.range replicas).map fun r =>
    let c := (old[r]?).getD (0, 0)
    ((c.1 + bitOf (tried.contains r)) % 2 ^ 32, (c.2 + bitOf (accepted.contains r)) % 2 ^ 32)

/-- The rung pairs (r, r + 1) that the exchange after epoch t tries (R158). -/
def Slot.triedPairs (x : Slot) (t : Nat) : List Nat :=
  (List.range ((x.inForce t).runs - 1)).filter fun r => r % 2 = (t + 1) / (x.inForce t).interval % 2

/-- The replica on a rung. -/
def Slot.onRung (x : Slot) (r : Nat) : Nat := ((List.range x.runs).find? fun q => x.rung q = r).getD 0

/-- E_q of a replica after an epoch, in units of 2^-149 (R159). -/
def Slot.energyOf (x : Slot) (t q : Nat) : Int :=
  match x.energies.find? fun e => e.1 = t && e.2.1 = q with
  | some e => f32Val e.2.2.1.toNat + f32Val e.2.2.2.toNat
  | none => 0

/-- Whether the pair (r, r + 1) trades rungs after epoch t: the Barker decision of R160. -/
def Slot.trades (x : Slot) (t r : Nat) : Bool :=
  let a := x.onRung r
  let b := x.onRung (r + 1)
  let z := clampInt (-4096) 4096
    (rhe (((x.beta a t : Int) - (x.beta b t : Int)) * (x.energyOf t b - x.energyOf t a)) 149)
  let o := gipolOutput (streamState (x.seed.getD []) r 0xFFFFFFFF t x.draws)
  decide (o / 256 < logistic (z + 4096).toNat)

/-- The blocks of every part of a slot's model: (part, module, slot, block count) (R421). -/
def State.partBlocks (s : State) (n : Nat) : List (Nat × Nat × Nat × Nat) :=
  let x := s.slot n
  let own := match x.image with | some g => g.blocks.length | none => 0
  let ps := s.partSlots n
  ((List.range ps.length).zip ps).map fun p =>
    (p.1, p.2.1, p.2.2,
      if p.1 = x.partIndex then own
      else match x.parts[p.1]? with
        | some y => match y.image with | some h => h.blocks.length | none => 0
        | none => 0)

/-- An exchange result tagged (t, C - 1) to a block-replica (R234, R239). -/
def exchangeResult (x : Slot) (t q : Nat) (p : Nat × Nat × Nat × Nat) (b : Nat) : Msg :=
  .state { configTag := x.configTag, epoch := t, phase := x.colours - 1, kind := .exchange, prologue := false, empty := true,
           runGen := x.runGen, keyBase := 0, srcPart := x.partIndex, srcVarBase := 0, destBlock := b, replica := q,
           newRung := x.rung q, destPart := p.1, destSlot := p.2.2.1, destModule := p.2.1, member := [], vals := [], flip := [] }

/-- EXCHANGE_DECISION: all tried pairs decide on the rung table of epoch t and apply together; an exchange result goes to
every block-replica of the slot in every part (R158 to R161, R239). -/
def State.exchangeDecide (s : State) (n t : Nat) : State :=
  let x := s.slot n
  if (List.range x.runs).all fun q => x.energies.any fun e => e.1 = t && e.2.1 = q then
    let tried := x.triedPairs t
    let acc := tried.filter fun r => x.trades t r
    let counts := bumpExchange x.replicas x.exch tried acc
    let rungs := (List.range x.replicas).map fun q =>
      let r := x.rung q
      if acc.contains r then r + 1 else if r ≠ 0 && acc.contains (r - 1) then r - 1 else r
    let x' := { x with rungs := rungs, exch := counts, exchHist := x.exchHist ++ [(t, x.rungs, counts)],
                       energies := x.energies.filter fun e => e.1 ≠ t }
    let s := s.setSlot n x'
    (s.partBlocks n).foldl (fun s p =>
      (List.range x.runs).foldl (fun s q =>
        (List.range p.2.2.2).foldl (fun s b => s.send (exchangeResult x' t q p b)) s) s) s
  else s

/-- At a part other than part 0, an exchange result brings its replica's new rung and lets the part keep the counts (R162). -/
def Slot.takeRung (x : Slot) (t q newRung : Nat) : Slot :=
  if x.partIndex = 0 || x.energies.any (fun e => e.1 = t && e.2.1 = q) then x
  else
    let x := if x.exchHist.any (fun h => h.1 = t) then x
      else
        let c := bumpExchange x.replicas x.exch (x.triedPairs t) []
        { x with exch := c, exchHist := x.exchHist ++ [(t, x.rungs, c)] }
    let old := x.rung q
    let c := if newRung = old + 1 then bumpExchange x.replicas x.exch [] [old] else x.exch
    { x with
      energies := x.energies ++ [(t, q, 0, 0)], exch := c
      exchHist := x.exchHist.map fun h => if h.1 = t then (h.1, h.2.1, c) else h
      rungs := (List.range x.replicas).map fun r => if r = q then newRung else x.rung r }

/-- Whether the exchange after an epoch is settled on this part, or the epoch has none. -/
def Slot.exchangeSettled (x : Slot) (t : Nat) : Bool :=
  !x.exchangeEpoch t ||
    (if x.partIndex = 0 then x.exchHist.any fun h => h.1 = t
     else (List.range x.runs).all fun q => x.energies.any fun e => e.1 = t && e.2.1 = q)

end Sys2Proof.Machine
end

