-- ==== Sys2Proof/Machine/Close.lean ====
section
/-! DEFINITION. Machine/Close.lean: what closing an epoch brings about: captures, statistics, fingerprints, checkpoints, drains,
rollbacks (R241, R249 to R253, R260 to R264, R272, R273, R425, R429, R431, R588 to R591). -/

namespace Sys2Proof.Machine

/-! ### Small parts -/

/-- The members of a slot: core, position and member. -/
def State.slotMembers (s : State) (n : Nat) : List (Nat × Nat × Member) :=
  (s.cores.filter fun p => p.2.slot = some n).flatMap fun p =>
    ((List.range p.2.members.length).zip p.2.members).map fun m => (p.1, m.1, m.2)

/-- The number of blocks of the slot's image. -/
def Slot.blockCount (x : Slot) : Nat := match x.image with | some g => g.blocks.length | none => 0

/-- The OR of the saturation flags of a slot's block-replicas (R103). -/
def State.memberSat (s : State) (n : Nat) : Nat := (s.slotMembers n).foldl (fun a m => Nat.lor a m.2.2.sat) 0

/-- The slot's saturation flags now (R103, R217). -/
def State.slotSat (s : State) (n : Nat) : Nat :=
  Nat.lor (s.memberSat n) (if (s.slot n).treeSatFrom.isSome then 16 else 0)

/-! ### Fingerprints (R260 to R263) -/

/-- fp_mix of R260. -/
def fpMix (v w : Nat) : Nat :=
  let z := (v * 2 ^ 32 + w + 0x3C6EF372FE94F82B) % 2 ^ 64
  let z := Nat.xor z (z / 2 ^ 31) * 0xD6E8FEB86659FD93 % 2 ^ 64
  let z := Nat.xor z (z / 2 ^ 28) * 0xA0F3A5C38E1B5D67 % 2 ^ 64
  Nat.xor z (z / 2 ^ 32)

/-- The state word of a local index (R260). -/
def Member.stateWord (m : Member) (i : Nat) : Nat :=
  if m.kind = 2 then toField 16 (m.relaxY i) * 2 ^ 16 + toField 16 (m.relaxX i)
  else if m.kind = 1 then m.catState i else bitOf (m.spinBit i)

/-- The sum of the fingerprint terms of some local indices (R261). -/
def Member.fpSum (m : Member) (is : List Nat) : Nat :=
  is.foldl (fun a i => (a + fpMix (m.varBase + i) (m.stateWord i)) % 2 ^ 64) 0

/-- Changes the phase fingerprint sum of a replica, opening it if it is not there (R263). -/
def Slot.modFp (x : Slot) (q e c : Nat) (f : PhaseFp → PhaseFp) : Slot :=
  let is := fun (r : PhaseFp) => r.replica = q && r.epoch = e && r.phase = c
  let put := fun (r : PhaseFp) => if is r then f r else r
  if x.fps.any is then { x with fps := x.fps.map put }
  else { x with fps := x.fps ++ [f { replica := q, epoch := e, phase := c, sum := 0, blocks := 0 }] }

/-! ### Lock-step (R272, R273, R275) -/

/-- A lock-step halt: HALT to the partner, the report, a contained error, and the slot FAULTED; only the first of a lock-step (R273, R274,
R596). -/
def State.lockHalt (s : State) (n cause : Nat) (at_ : Nat × Nat × Nat) (own partner : Nat) (tell : Bool) : State :=
  let x := s.slot n
  match x.lock.filter fun k => k.report.isNone with
  | none => s
  | some k =>
    let s := if tell then
        s.send (.lockOut 3 k.port { slot := n, digest := zeros 32, value := 0, epoch := 0, replica := 0, phase := 0, cause := cause })
      else s
    let s := s.setSlot n { x with lock := some { k with report := some (at_.1, at_.2.1, at_.2.2, cause, own, partner) } }
    let s := s.note { opcode := 0xC3, target := n, status := 0, detail := 0, result := at_.1 }
    let s := s.logError { cls := .contained, code := 0x0014, action := 3, unitKind := 4, unit := k.port, slot := n,
                          replica := at_.2.2, phase := at_.2.1, epoch := at_.1 }
    s.slotFault n 0x36 at_.1

/-- A matched value of lock-step, while it is still held: the current and the previous epoch (R263, R275). -/
def keepMatched (l : List (Nat × Nat × Nat × Nat)) (q e : Nat) : List (Nat × Nat × Nat × Nat) :=
  l.filter fun m => m.1 ≠ q || e ≤ m.2.1 + 1

/-- Compares the values of both modules for one (replica, epoch, phase), if both are there (R272, R273). -/
def State.lockCompare (s : State) (n q e c : Nat) : State :=
  let x := s.slot n
  match x.lock with
  | none => s
  | some k =>
    let is := fun (m : Nat × Nat × Nat × Nat) => m.1 = q && m.2.1 = e && m.2.2.1 = c
    match k.mine.find? is, k.theirs.find? is with
    | some a, some b =>
      if a.2.2.2 = b.2.2.2 then
        let k := { k with mine := k.mine.filter (fun m => !is m), theirs := k.theirs.filter (fun m => !is m),
                          matched := keepMatched k.matched q e ++ [a] }
        (s.setSlot n { x with lock := some k }).tryLaunchSlot n
      else s.lockHalt n 3 (e, c, q) a.2.2.2 b.2.2.2 true
    | _, _ => s

/-- An own phase fingerprint that is complete: sent to the partner and compared; a re-run phase is checked against the value
matched before (R272, R275). -/
def State.lockFp (s : State) (n q e c v : Nat) : State :=
  let x := s.slot n
  match x.lock with
  | none => s
  | some k =>
    if !k.active then s
    else
      match k.matched.find? fun m => m.1 = q && m.2.1 = e && m.2.2.1 = c with
      | some m => if m.2.2.2 = v then s else s.lockHalt n 5 (e, c, q) v m.2.2.2 true
      | none =>
        if k.matched.any fun m => m.1 = q && (e < m.2.1 || (e = m.2.1 && c < m.2.2.1)) then s
        else
          let s := s.send (.lockOut 2 k.port { slot := n, digest := zeros 32, value := v, epoch := e, replica := q, phase := c, cause := 0 })
          (s.setSlot n { x with lock := some { k with mine := k.mine ++ [(q, e, c, v)] } }).lockCompare n q e c

/-- A block-replica completed a phase: when all of the part have, the phase fingerprint is complete, and with the last phase
the epoch fingerprint; only the current and the previous epoch of a replica are kept (R263). -/
def State.fpComplete (s : State) (n q e c : Nat) : State :=
  let x := (s.slot n).modFp q e c fun r => { r with blocks := r.blocks + 1 }
  match x.fps.find? fun r => r.replica = q && r.epoch = e && r.phase = c with
  | none => s.setSlot n x
  | some r =>
    if r.blocks < x.blockCount then s.setSlot n x
    else
      let total := ((x.fps.filter fun f => f.replica = q && f.epoch = e).map fun f => f.sum).sum % 2 ^ 64
      let x := { x with
        lastFp := (x.lastFp.filter fun f => f.1 ≠ q) ++ [(q, e, c, r.sum)]
        fps := x.fps.filter fun f => f.replica ≠ q || e ≤ f.epoch + 1
        fpE := if c + 1 = x.colours then (x.fpE.filter fun f => !(f.1 = q && f.2.1 = e)) ++ [(q, e, total)] else x.fpE }
      (s.setSlot n x).lockFp n q e c r.sum

/-! ### Captures and statistics (R249 to R251, R429, R431) -/

/-- The index of the capture at an epoch (R423). -/
def Slot.captureIndex (x : Slot) (e : Nat) : Option Nat :=
  if x.capFirst ≤ e && (e - x.capFirst) % x.capStep = 0 && (e - x.capFirst) / x.capStep < x.capCount then
    some ((e - x.capFirst) / x.capStep)
  else none

/-- Bits of an element of a sample record (R429). -/
def Image.elementBits (g : Image) : Nat := if g.categorical then 16 else 1

/-- S_rec (R429). -/
def Image.sampleSize (g : Image) : Nat := roundUp 64 ((g.partVariables * g.elementBits + 7) / 8)

/-- S_stat (R431). -/
def Slot.statSize (x : Slot) : Nat := roundUp 64 (64 + 328 * x.replicas)

/-- P of local index 0 of a block (R429). -/
def Image.elementBase (g : Image) (b : Nat) : Nat := ((g.blocks.take b).map fun k => k.varCount).sum

/-- The element of a local index in a capture (R154, R429). -/
def Member.element (m : Member) (i : Nat) : Nat :=
  if m.kind = 2 then bitOf (decide (0 ≤ m.relaxX i)) else if m.kind = 1 then m.catState i else bitOf (m.spinBit i)

/-- Bits laid into bytes from a bit position on. -/
def packBits (old : Nat) (at_ : Nat) (bits : List Nat) : Nat :=
  ((List.range bits.length).zip bits).foldl (fun v p => v - bitAt v (at_ + p.1) * 2 ^ (at_ + p.1) + p.2 * 2 ^ (at_ + p.1)) old

/-- CAPTURE_WRITE: a block-replica writes its states into the sample region (R250, R429). A shared byte is merged; an
uncorrectable read of it faults the slot MEM_ERROR (R587). The block-replica of the part's last variables also writes the rest of
the record, with zeros: the module writes whole records, and a capture does not depend on what the region held. DEDUCED (log 47) from
R255 and R429. -/
def State.captureWrite (s : State) (n : Nat) (m : Member) (k e : Nat) : State :=
  let x := s.slot n
  match x.image with
  | none => s
  | some g =>
    let base := hallLocal x.sampleAddr + (k * x.replicas + m.replica) * g.sampleSize
    let p := g.elementBase m.block
    let els := m.locals.map m.element
    let last := decide (p + m.varCount = g.partVariables)
    let done := fun (s : State) => s.modSlot n fun x =>
      { x with capWritten := (x.capWritten.filter fun w => w ≠ (e, m.replica, m.block)) ++ [(e, m.replica, m.block)] }
    if g.categorical then
      let bs := els.flatMap (leBytes 2)
      done (s.writeLocal (base + 2 * p) (bs ++ if last then zeros (g.sampleSize - 2 * p - bs.length) else [])).1
    else
      let a := base + p / 8
      let len := (p % 8 + m.varCount + 7) / 8
      let rest := if last then List.replicate (8 * len - p % 8 - m.varCount) 0 else []
      match s.readLocal a len with
      | (s, some old) =>
        done (s.writeLocal a (leBytes len (packBits (leNat old) (p % 8) (els ++ rest)) ++
          if last then zeros (g.sampleSize - p / 8 - len) else [])).1
      | (s, none) => s.slotFault n 0x31 e

/-- The 320-byte entry of a replica in a statistics record (R431). DESIGN CHOICE (log 87): a part other than part 0, which forms no tree
result (R213), writes zeros in their places. -/
def Slot.replicaStats (x : Slot) (q e : Nat) : List Byte :=
  if x.runs ≤ q then zeros 320
  else
    ((List.range 16).flatMap fun t =>
      match x.trees.find? fun f => f.replica = q && f.tree = t && f.epoch = e with
      | some f => f.result.getD (zeros 16)
      | none => zeros 16) ++
    leBytes 8 (match x.fpE.find? fun f => f.1 = q && f.2.1 = e with | some f => f.2.2 | none => 0) ++
    leBytes 2 (((x.rungsAt e)[q]?).getD q) ++ zeros 54

/-- A statistics record (R431). -/
def State.statsRecord (s : State) (n k e : Nat) : List Byte :=
  let x := s.slot n
  let idle := (s.slotMembers n).foldl (fun a m => if x.runs ≤ m.2.2.replica then Nat.lor a m.2.2.sat else a) 0
  let closed := match x.statSat.find? fun p => p.1 = e with | some p => p.2 | none => 0
  let tree := match x.treeSatFrom with | some f => if f ≤ e then 16 else 0 | none => 0
  let ex := x.exchAt e
  padTo 64 (leBytes 4 1 ++ leBytes 4 k ++ leBytes 8 e ++ leBytes 1 (Nat.lor (Nat.lor idle closed) tree) ++ zeros 1 ++
    leBytes 2 x.runs ++ leBytes 2 x.replicas ++ leBytes 2 x.treeMask ++ zeros 40 ++
    (List.range x.replicas).flatMap (fun q => x.replicaStats q e) ++
    (List.range x.replicas).flatMap fun r =>
      let c := (ex[r]?).getD (0, 0)
      if r + 1 = x.replicas then zeros 8 else leBytes 4 c.1 ++ leBytes 4 c.2)

/-- Whether every block-replica wrote a capture and every statistic of its epoch that this part holds is formed (R251). -/
def Slot.captureReady (x : Slot) (e : Nat) : Bool :=
  (List.range x.runs).all fun q =>
    ((List.range x.blockCount).all fun b => x.capWritten.contains (e, q, b)) &&
      (x.fpE.any fun f => f.1 = q && f.2.1 = e) && x.exchangeSettled e &&
      (x.partIndex ≠ 0 || x.treesInUse.all fun t =>
        x.trees.any fun f => f.replica = q && f.tree = t && f.epoch = e && f.result.isSome)

/-- CAPTURE_PUBLISH: the statistics record of every capture that is ready is written, header last, and LAST_CAPTURE reports
it; results and flags kept for it go (R216, R251, R431). A slot that is faulted or stops hard publishes nothing (R425, R450). -/
def State.publish (s : State) (n : Nat) : State :=
  let x := s.slot n
  let hard := match x.drain with | some d => d.hard | none => false
  if !x.active || hard then s
  else
    let epochs := x.capWritten.foldl (fun l w => insertAsc w.1 l) []
    (epochs.filter x.captureReady).foldl (fun s e =>
      match (s.slot n).captureIndex e with
      | none => s
      | some k =>
        let s := (s.writeLocal (hallLocal x.statsAddr + k * x.statSize) (s.statsRecord n k e)).1
        s.modSlot n fun x => { x with
          lastCapture := some (match x.lastCapture with | some l => max l e | none => e)
          capWritten := x.capWritten.filter fun w => w.1 ≠ e
          statSat := x.statSat.filter fun w => w.1 ≠ e
          trees := x.trees.filter fun f => f.epoch ≠ e || f.result.isNone }) s

/-! ### Checkpoints (R588 to R590) -/

/-- The sections of a context or checkpoint (R458). `rec` gives the state record and SAT byte of (replica, block). -/
def Slot.contextBody (x : Slot) (rungs : List Nat) (exch : List (Nat × Nat)) (rec : Nat → Nat → List Byte × Nat) : List Byte :=
  let qs := List.range x.replicas
  let bs := List.range x.blockCount
  padTo 64 (x.segment.getD []) ++ padTo 64 (qs.flatMap fun q => leBytes 2 ((rungs[q]?).getD q)) ++
    padTo 64 (qs.flatMap fun r =>
      let c := (exch[r]?).getD (0, 0)
      if r + 1 = x.replicas then zeros 8 else leBytes 4 c.1 ++ leBytes 4 c.2) ++
    padTo 64 (qs.flatMap fun q => bs.flatMap fun b => leBytes 1 (rec q b).2) ++
    padTo 64 (qs.flatMap fun q => bs.flatMap fun b => (rec q b).1)

/-- The record and SAT byte of a block-replica as it stands. -/
def State.recordOf (s : State) (n q b : Nat) : List Byte × Nat :=
  match s.directory n q b with
  | some p => match (s.core p.1).members[p.2]? with | some m => (m.record, m.sat) | none => ([], 0)
  | none => ([], 0)

/-- First byte of a copy of a slot's CHECKPOINT area (R317, R589). -/
def ckptBase (n copy : Nat) : Nat := 0x010010000000 + 0x5000000 * n + 0x2800000 * copy

/-- The 64 KiB header of a checkpoint copy (R589). -/
def ckptHeader (r runGen : Nat) (body : List Byte) : List Byte :=
  leBytes 4 1 ++ zeros 4 ++ leBytes 8 r ++ leBytes 2 runGen ++ zeros 2 ++ leBytes 4 body.length ++ zeros 8 ++ sha256 body ++
    zeros 65472

/-- Sets COMMITTED on the copy that holds checkpoint r; the newest committed checkpoint is now that one (R590). -/
def State.commit (s : State) (n r : Nat) : State :=
  let x := s.slot n
  if x.ckptPending = some r then
    let copy := 1 - x.ckptCopy
    let s := s.poke (ckptBase n copy + 18) (leBytes 1 1)
    s.setSlot n { x with ckptCommitted := some r, ckptCopy := copy, ckptPending := none }
  else s

/-- Writes a checkpoint whole into the copy that does not hold the newest committed one: FORMAT zero, the body, the header
last (R589). A part of a split model reports it to part 0; a single part commits it (R590). -/
def State.writeCheckpoint (s : State) (n r : Nat) (body : List Byte) (alone : Bool) : State :=
  let x := s.slot n
  let a := ckptBase n (1 - x.ckptCopy)
  let s := ((s.putWhole a (zeros 64)).putWhole (a + 65536) body).putWhole a (ckptHeader r x.runGen body)
  let s := s.modSlot n fun x => { x with ckptPending := some r }
  if alone || x.partCount = 1 then s.commit n r
  else s.send (.ckptDone (s.partZero n).2 (s.partZero n).1 x.partIndex r)

/-- A checkpoint of a slot that stands still: the start states, or the restored states (R588). -/
def State.checkpointNow (s : State) (n r : Nat) (alone : Bool) : State :=
  let x := s.slot n
  s.writeCheckpoint n r (x.contextBody x.rungs x.exch (s.recordOf n)) alone

/-- Whether the close of epoch e writes a checkpoint with resume epoch e + 1 (R588). -/
def Slot.checkpointDue (x : Slot) (e : Nat) : Bool := (e + 1) % 64 = 0 || e + 1 = x.epochLimit

/-- A block-replica's record for the checkpoint of resume epoch r (R588). -/
def Slot.collect (x : Slot) (r q b : Nat) (rec : List Byte × Nat) : Slot :=
  let has := x.ckptBuilds.any fun k => k.resume = r
  let put := fun (k : CkptBuild) =>
    if k.resume = r && !k.records.any (fun p => p.1 = (q, b)) then { k with records := k.records ++ [((q, b), rec)] } else k
  if x.ckptCommitted = some r || x.ckptPending = some r then x
  else if has then { x with ckptBuilds := x.ckptBuilds.map put }
  else { x with ckptBuilds := x.ckptBuilds ++ [{ resume := r, records := [((q, b), rec)] }] }

/-- Whether a checkpoint has the records of every block-replica that runs, and the exchange before it is settled (R588). -/
def Slot.checkpointWhole (x : Slot) (k : CkptBuild) : Bool :=
  k.records.length = x.runs * x.blockCount && (k.resume = 0 || x.exchangeSettled (k.resume - 1))

/-- Writes the oldest checkpoint under way once it is whole and the one before it is committed (R588 to R590). -/
def State.checkpointWrite (s : State) (n : Nat) : State :=
  let x := s.slot n
  match x.ckptBuilds with
  | [] => s
  | k :: rest =>
    if x.ckptPending.isNone && x.checkpointWhole k then
      let rec' := fun q b => match k.records.find? fun p => p.1 = (q, b) with | some p => p.2 | none => s.recordOf n q b
      let body := x.contextBody (x.rungsAt k.resume) (x.exchAt (k.resume - 1)) rec'
      (s.setSlot n { x with ckptBuilds := rest }).writeCheckpoint n k.resume body false
    else s

/-! ### Starting points and rollback (R178, R226, R591, R626) -/

/-- The partner states of a block's factors whose partners lie in other blocks of this part (R73, R238). -/
def Image.partnersOf (g : Image) (index : Nat) (b : Block) (recs : Nat → List Byte) : Tbl Nat :=
  let stateOf := fun v => match g.owner v with
    | some p => if p.1 = index then none else some (fieldAt (recs p.1) (2 * (v - p.2.varBase)) 2)
    | none => none
  let inB := fun v => b.varBase ≤ v && v < b.varBase + b.varCount
  g.factors.foldl (fun t f =>
    let t := if inB f.a then match stateOf f.b with | some k => Tbl.put t f.b k | none => t else t
    if inB f.b then match stateOf f.a with | some k => Tbl.put t f.a k | none => t else t) []

/-- A block-replica built from state records at resume epoch r: store, streams, fields and partner states; SCRATCH zero (R80 to R84, R92,
R178). -/
def Slot.buildMember (x : Slot) (n : Nat) (g : Image) (r q b spillBase : Nat) (rec : Nat → Nat → List Byte × Nat) : Member :=
  match g.blocks[b]? with
  | none => { replica := q, block := b, store := [], used := [], partners := [], old := [], energySent := none,
              scratchFree := none, stagingFree := none, closed := none, faulted := false }
  | some k =>
    let recs := fun j => (rec q j).1
    { replica := q, block := b, store := g.buildStore n q b spillBase (rec q b).2 k recs x.seed r, used := [],
      partners := g.partnersOf b k recs, old := [], energySent := none, scratchFree := none, stagingFree := none,
      closed := if r = 0 then none else some (r - 1), faulted := false }

/-- The launch object of a fold group at a start point: no phase has been launched since (R225, R226, R229, R253). -/
def Slot.startLaunch (x : Slot) (members : List Member) (r : Nat) (armed frozen : Bool) : Launch :=
  let need := x.launchNeeds members
  { inNeed := need.1, pro := need.2, nextEpoch := r, nextPhase := 0, armed := armed, frozen := frozen, start := true,
    runGen := x.runGen, count := [], done := none, launched := none }

/-- A core whose members are rebuilt at resume epoch r (R591, R626). -/
def Slot.rebuildCore (x : Slot) (n : Nat) (g : Image) (r : Nat) (rec : Nat → Nat → List Byte × Nat) (armed frozen : Bool)
    (co : Core) : Core :=
  let ms := co.members.map fun m => x.buildMember n g r m.replica m.block (m.num 0xDA98 8) rec
  { co with members := ms, instrs := x.instrsFor ms 0, lastMember := 0, launch := x.startLaunch ms r armed frozen, run := none, parked := [],
            held := [], outbox := [], vectors := [] }

/-- The prologue messages of a part: for every replica, the states of all variables toward other parts, tagged with the value
before the start (R165, R224). -/
def State.prologue (s : State) (n r : Nat) : State :=
  let x := s.slot n
  match x.image with
  | none => s
  | some g =>
    let t := sweepPred x.colours (r, 0)
    (s.slotMembers n).foldl (fun s e =>
      let m := e.2.2
      match g.blocks[m.block]? with
      | none => s
      | some k =>
        ((g.routes x.parts k).filter fun d => d.1.part ≠ g.partIndex).foldl (fun s d =>
          match x.parts[d.1.part]? with
          | none => s
          | some p =>
            let dest := match p.image with | some h => h.blocks[d.1.block]? | none => none
            s.send (.state { configTag := x.configTag, epoch := t.1, phase := t.2,
                             kind := if m.kind = 2 then .relaxation else if m.kind = 1 then .categorical else .binary,
                             prologue := true, empty := false, runGen := x.runGen,
                             keyBase := match dest with
                               | some h => if m.kind = 1 then 0 else keyBase h (k.varBase + (d.2[0]?).getD 0)
                               | none => 0,
                             srcPart := g.partIndex, srcVarBase := k.varBase, destBlock := d.1.block, replica := m.replica,
                             newRung := 0, destPart := d.1.part, destSlot := p.slot, destModule := p.module, member := d.2,
                             vals := d.2.map fun i => if m.kind = 1 then (m.catState i : Int) else m.value i,
                             flip := d.2.map fun _ => false })) s) s

/-- At a start point every EPOCH object of a slot takes the start epoch and the run generation, both banks clear (R244). -/
def State.resetEpochObjects (s : State) (n r : Nat) : State :=
  { s with clusters := s.clusters.map fun c => (c.1, { c.2 with objects := c.2.objects.map fun o =>
      if o.2.mode = 2 && o.2.owner = n then
        (o.1, { o.2 with bankEpoch := r, count0 := 0, count1 := 0, waited0 := 0, waited1 := 0, waiting := [], crossbar := [] })
      else o }) }

/-- Epoch fingerprints at a resume epoch, from the states (R261, R263). -/
def State.fpFromStates (s : State) (n r : Nat) : List (Nat × Nat × Nat) :=
  if r = 0 then []
  else (List.range (s.slot n).runs).map fun q =>
    (q, r - 1, (((s.slotMembers n).filter fun m => m.2.2.replica = q).map fun m => m.2.2.fpSum m.2.2.locals).sum % 2 ^ 64)

/-- What a slot forgets when it goes back to resume epoch r: later captures, forms, fingerprints, exchanges (R251, R591). -/
def Slot.goBack (x : Slot) (r : Nat) (rungs : List Nat) (exch : List (Nat × Nat)) : Slot :=
  { x with rungs := rungs, exch := exch, resume := r, completed := if r = 0 then none else some (r - 1)
           exchHist := x.exchHist.filter (fun h => h.1 < r), energies := [], ckptBuilds := [], ckptPending := none
           fps := [], lastFp := [], capWritten := x.capWritten.filter (fun w => w.1 < r)
           treeSatFrom := x.treeSatFrom.filter (fun f => f < r), statSat := x.statSat.filter (fun w => w.1 < r), trees := x.trees.filter (fun f => f.epoch < r)
           runGen := (x.runGen + 1) % 2 ^ 16 }

/-- The sieve's queue takes requests that wait, up to 64 (R190). -/
def Cluster.fillSieve (c : Cluster) : Cluster :=
  let room := 64 - c.sieveQueue.length
  { c with sieveQueue := c.sieveQueue ++ c.sieveWait.take room, sieveWait := c.sieveWait.drop room }

/-- The nodes and the sieve let go of a slot's work of an older run generation (R235). -/
def State.dropWork (s : State) (n : Nat) : State :=
  let mine := s.slotCores n
  { s with clusters := s.clusters.map fun c => (c.1, { c.2 with
      groups := c.2.groups.filter (fun g => g.slot ≠ n), sums := c.2.sums.filter (fun g => g.slot ≠ n)
      sieveQueue := c.2.sieveQueue.filter (fun r => !mine.contains r.core)
      sieveWait := c.2.sieveWait.filter (fun r => !mine.contains r.core) }.fillSieve) }

/-- Sends a slot back to resume epoch r with the state records, rungs and counts given, at the next run generation (R591). -/
def State.restartAt (s : State) (n r : Nat) (rungs : List Nat) (exch : List (Nat × Nat)) (rec : Nat → Nat → List Byte × Nat)
    (armed frozen : Bool) : State :=
  let s := (s.dropWork n).modSlot n fun x => { (x.goBack r rungs exch) with startPoint := true }
  let x := s.slot n
  match x.image with
  | none => s
  | some g =>
    let s := (s.slotCores n).foldl (fun s c => (s.modCore c (x.rebuildCore n g r rec armed frozen)).loaderWrote c) s
    s.modSlot n fun x => { x with fpE := s.fpFromStates n r }

/-- The rungs, counts and records of a checkpoint body (R458). -/
def Slot.parseBody (x : Slot) (g : Image) (body : List Byte) : List Nat × List (Nat × Nat) × (Nat → Nat → List Byte × Nat) :=
  let a := roundUp 64 (16 + fieldAt body 20 4)
  let b := a + roundUp 64 (2 * x.replicas)
  let c := b + roundUp 64 (8 * x.replicas)
  let d := c + roundUp 64 (x.replicas * x.blockCount)
  let sizes := g.blocks.map fun k => recordSize (g.kindOf k)
  ((List.range x.replicas).map fun q => fieldAt body (a + 2 * q) 2,
   (List.range x.replicas).map fun r => (fieldAt body (b + 8 * r) 4, fieldAt body (b + 8 * r + 4) 4),
   fun q k => (slice body (d + q * sizes.sum + (sizes.take k).sum) ((sizes[k]?).getD 0), fieldAt body (c + q * x.blockCount + k) 1))

/-- The newest committed checkpoint: resume epoch, rungs, counts and records; the initial state where the slot has none
(R591, R626). Recovery reads the headers of both copies to choose the newer one; no answer when a header or the body cannot be read (R321). -/
def State.newestCheckpoint (s : State) (n : Nat) :
    State × Option (Nat × List Nat × List (Nat × Nat) × (Nat → Nat → List Byte × Nat)) :=
  let x := s.slot n
  match x.image, x.ckptCommitted with
  | none, _ => (s, none)
  | some g, none =>
    (s, some (0, List.range x.replicas, x.exch, fun _ b =>
      match g.blocks[b]? with | some k => (g.initRecord k, 0) | none => ([], 0)))
  | some g, some r =>
    let a := ckptBase n x.ckptCopy
    match s.readLocal (ckptBase n (1 - x.ckptCopy)) 64 with
    | (s, none) => ((s.readLocal a 64).1, none)
    | (s, some _) =>
      match s.readLocal a 64 with
      | (s, none) => (s, none)
      | (s, some h) =>
        match s.readLocal (a + 65536) (fieldAt h 20 4) with
        | (s, none) => (s, none)
        | (s, some body) => (s, some (r, x.parseBody g body))

/-- ROLLBACK of a slot on this module: the newest committed checkpoint is in force again at the next run generation, and an
active slot runs on from it as from a start point; a copy that cannot be read faults the slot MEM_ERROR (R587, R591). -/
def State.rollback (s : State) (n : Nat) : State :=
  let x := s.slot n
  match s.newestCheckpoint n with
  | (s, none) => s.slotFault n 0x31 (s.slotEpoch n)
  | (s, some c) =>
    let hard := match x.drain with | some d => d.hard | none => false
    let freezing := match x.drain with | some d => !d.limitSet | none => false
    let s := s.restartAt n c.1 c.2.1 c.2.2.1 c.2.2.2 (x.active && !hard) freezing
    if x.active && !hard then
      ((s.resetEpochObjects n c.1).modSlot n fun x => { x with startPoint := false }).prologue n c.1 |>.tryLaunchSlot n
    else s

/-! ### Ending a stop (R241, R425, R427) -/

/-- A stop ends: the slot is STOPPED, or DISABLED where SLOT_DISABLE ordered it, its launch objects disarm, and its orders
complete with the resume epoch (R229, R241, R425, R427). A part whose own module has no order for the stop journals its stop epoch as a
DRAIN_END (R241, R456, R465). DEDUCED (log 82). -/
def State.endStop (s : State) (n : Nat) : State :=
  let x := s.slot n
  match x.drain with
  | none => s
  | some d =>
    let r := if d.hard then x.resume else x.epochLimit
    let s := (s.disarmSlot n).setSlot n { x with
      state := if d.disableOrder.isSome then .disabled else if x.active then .stopped else x.state, disabledFaulted := false, drain := none, resume := r }
    let s := if d.disableOrder.isSome then s.freezeSlot n else s
    let s := if d.aborted || (x.active && !d.engine && d.orders = [] && d.disableOrder.isNone) then
        s.note { opcode := 0xC5, target := n, status := 0, detail := if d.disableOrder.isSome then 6 else 4, result := r }
      else s
    let s := d.orders.foldl (fun s id => s.finishId id (Ending.ok r)) s
    match d.disableOrder with
    | some id => s.finishId id { status := 0, d17 := if d.hard then 2 else 1 }
    | none => s

/-- Whether this part has drained: every block-replica that runs closed the last epoch, and every result and capture of it is
formed (R241). -/
def State.drainedHere (s : State) (n : Nat) : Bool :=
  let x := s.slot n
  let last := x.epochLimit - 1
  ((s.slotMembers n).all fun m => x.runs ≤ m.2.2.replica || match m.2.2.closed with | some c => last ≤ c | none => x.epochLimit = 0) &&
    x.trees.all (fun f => f.result.isSome) && x.capWritten = [] && x.ckptBuilds = [] &&
    (x.epochLimit = 0 || x.exchangeSettled last) &&
    !s.net.any fun m => match m with
      | .part p => p.slot = n && p.runGen = x.runGen
      | .group p => p.slot = n && p.runGen = x.runGen
      | .close p => p.slot = n && p.runGen = x.runGen
      | _ => false

/-- Ends a drain whose checkpoint is committed, once every part has reported DRAINED: part 0 hears it from the parts and tells the others
(R241, R588). DESIGN CHOICE (log 82): it tells them with the same reports. -/
def State.finishDrain (s : State) (n : Nat) : State :=
  let x := s.slot n
  match x.drain with
  | none => s
  | some d =>
    let parts := List.range x.partCount
    if !d.hard && d.limitSet && (parts.all fun p => d.reported.contains p) && x.ckptCommitted = some x.epochLimit then
      let told := if x.partIndex = 0 then ((s.partSlots n).drop 1).foldl (fun s p => parts.foldl (fun s q => s.send (.drained p.2 p.1 q)) s) s
        else s
      told.endStop n
    else s

/-- Reports DRAINED to part 0, once, when this part has drained (R241). -/
def State.checkDrain (s : State) (n : Nat) : State :=
  let x := s.slot n
  match x.drain with
  | none => s
  | some d =>
    if d.hard || !d.limitSet || !s.drainedHere n then s
    else
      let me := x.partIndex
      let msg := Msg.drained (s.partZero n).2 (s.partZero n).1 me
      let s := if d.reported.contains me || (me = 0 && s.net.contains msg) then s
        else if me = 0 then s.send msg
        else (s.setSlot n { x with drain := some { d with reported := me :: d.reported } }).send msg
      s.finishDrain n

/-- A HARD stop on this module once every core of the slot is between phases: the rollback, then STOPPED (R425). A core that
waits in WAIT or BRCV abandons its phase. -/
def State.checkHard (s : State) (n : Nat) : State :=
  let x := s.slot n
  match x.drain with
  | none => s
  | some d =>
    if d.hard && d.limitSet && (s.slotCores n).all (fun c => (s.core c).run.isNone) then
      let s := s.rollback n
      if (s.slot n).active then s.endStop n else s
    else s

/-! ### Epoch limits (R176) and the close of an epoch -/

/-- EPOCH_LIMIT_STOP: a running slot whose block-replicas all reached the epoch limit of its draws stops as by a drain; the
journal notes it (R176, R449). -/
def State.limitStop (s : State) (n : Nat) : State :=
  let x := s.slot n
  if x.state = .running && x.drain.isNone && (match x.completed with | some c => c + 1 = x.epochLimit | none => false) then
    let d : Drain := { hard := false, disable := false, named := 0, replies := [], limitSet := false, reported := [], orders := [],
                       disableOrder := none, aborted := false, engine := true }
    let s := s.setSlot n { x with state := .stopping, drain := some d }
    let s := s.note { opcode := 0xC1, target := n, status := 0, detail := 0, result := x.epochLimit }
    s.toParts n fun m k => .freeze k m false
  else s

/-- Everything that an event may complete for a slot: captures, checkpoints, the end of a drain, the epoch limit. -/
def State.settle (s : State) (n : Nat) : State :=
  ((((s.publish n).checkpointWrite n).tryLaunchSlot n).limitStop n).checkDrain n

/-- COMPLETED_EPOCH follows the slowest block-replica; epoch fingerprints below it are let go (R253, R263). -/
def State.updateCompleted (s : State) (n : Nat) : State :=
  match s.closedByAll n with
  | none => s
  | some c => s.modSlot n fun x => { x with
      completed := some c
      fpE := x.fpE.filter fun f => c ≤ f.2.1 || x.capWritten.any fun w => w.1 = f.2.1 }

/-- Adds a block-replica's flags to those at the close of a capture epoch (R431). -/
def Slot.addFlags (x : Slot) (e sat : Nat) : Slot :=
  let old := match x.statSat.find? fun p => p.1 = e with | some p => p.2 | none => 0
  { x with statSat := (x.statSat.filter fun p => p.1 ≠ e) ++ [(e, Nat.lor old sat)] }

/-- EPOCH_CLOSE: the PDONE of the last phase of epoch e retired for a member: its unused draws pass, its capture and
checkpoint record are written, its cluster closes (R97, R212, R250, R588). -/
def State.epochClose (s : State) (c i e : Nat) : State :=
  let co := s.core c
  match co.slot, co.members[i]? with
  | some n, some m =>
    let x := s.slot n
    let m := { (m.endDraws x.draws) with closed := some e }
    let s := s.setCore c (co.modMember i fun _ => m)
    let s := match x.captureIndex e with
      | some k =>
        (s.modSlot n fun x => x.addFlags e m.sat).captureWrite n m k e
      | none => s
    let s := if x.checkpointDue e then s.modSlot n fun x => x.collect (e + 1) m.replica m.block (m.record, m.sat) else s
    let s := s.groupsClose (clusterOf c) n m.replica m.block e
    let s := if s.clusterClosed (clusterOf c) n m.replica e then s.clusterClose (clusterOf c) n m.replica e else s
    s.updateCompleted n
  | _, _ => s

end Sys2Proof.Machine
end

