-- ==== Sys2Proof/Machine/Place.lean ====
section
/-! DEFINITION. Machine/Place.lean: what a placement takes of a cluster and of FOLD_POOL, at MODEL_LOAD and at castling (R72 to R74,
R82, R124, R280, R322). -/

namespace Sys2Proof.Machine

/-- Bytes of a slice (R280). -/
def sliceSize : Nat := 0x20000

/-- The quotient rounded up. -/
def ceilDiv (a b : Nat) : Nat := (a + b - 1) / b

/-- What a placement needs of one cluster: bytes of fold state, of categorical tables and of spilled edge records (R73). -/
structure ClusterNeed where
  cluster : Nat
  fold : Nat
  tables : Nat
  edges : Nat
  deriving DecidableEq, Repr

/-- Where the three kinds of a cluster go: slices taken by each, or none where the kind lies outside them (R73). -/
structure ClusterFit where
  need : ClusterNeed
  fold : Option Nat
  tables : Option Nat
  edges : Option Nat
  deriving DecidableEq, Repr

/-- Bytes of swap space per member beyond the first (R74). -/
def swapSize (blockFold : Bool) : Nat := if blockFold then 56 * 1024 else 8 * 1024

/-- Bytes of the tables of the blocks that lie in a cluster, each table once (R73). `tableBytes` gives the bytes of factor i. -/
def Image.tableNeed (g : Image) (tableBytes : List Nat) (blocks : List Nat) : Nat :=
  let inB := fun v => blocks.any fun b => match g.blocks[b]? with
    | some k => k.categorical && k.varBase ≤ v && v < k.varBase + k.varCount | none => false
  ((g.cats.filter fun c => inB c.var).map fun c => 4 * c.states).sum +
    (((g.factors.zip tableBytes).filter fun f => inB f.1.a || inB f.1.b).map fun f => f.2).sum

/-- Spilled edge records of a block (R72, R73). -/
def Block.spilled (b : Block) : Nat := b.edges.length - 4096

/-- The distinct blocks of a group. -/
def groupBlocks (g : List (Nat × Nat)) : List Nat := g.foldl (fun l m => insertAsc m.2 l) []

/-- What the groups placed on a cluster need (R73, R74). -/
def Image.clusterNeed (g : Image) (tableBytes : List Nat) (swap : Nat) (k : Nat) (groups : List (List (Nat × Nat))) : ClusterNeed :=
  let blocks := groups.foldl (fun l r => r.foldl (fun l m => insertAsc m.2 l) l) []
  let spilled := fun b => match g.blocks[b]? with | some x => 8 * x.spilled | none => 0
  { cluster := k, fold := (groups.map fun r => (r.length - 1) * swap).sum, tables := g.tableNeed tableBytes blocks,
    edges := (groups.map fun r => ((groupBlocks r).map spilled).sum).sum }

/-- Takes whole slices for a kind if they are free, and says how many are left. -/
def takeSlices (bytes left : Nat) : Option Nat × Nat :=
  let k := ceilDiv bytes sliceSize
  if k ≤ left then (some k, left - k) else (none, left)

/-- The order of R73 over the free slices of a cluster: fold state, tables, edge records. -/
def fitCluster (n : ClusterNeed) (free : Nat) : ClusterFit :=
  let a := takeSlices n.fold free
  let b := takeSlices n.tables a.2
  let c := takeSlices n.edges b.2
  { need := n, fold := a.1, tables := b.1, edges := c.1 }

/-! ### The module's resources -/

/-- Takes n elements of a list, each chosen freely (R37). -/
def State.choose {α : Type} (s : State) : Nat → List α → State × List α
  | 0, _ => (s, [])
  | n + 1, l =>
    let w := s.nextFree
    let i := w.1.toNat % max l.length 1
    match l[i]? with
    | none => (w.2, [])
    | some x => let r := w.2.choose n (l.eraseIdx i); (r.1, x :: r.2)

/-- Slices 0 to 27 of a cluster that no slot holds (R73, R280, R587). -/
def State.freeSlices (s : State) (k : Nat) : List Nat :=
  let c := s.cluster k
  (List.range 28).filter fun n => (c.sliceSlot.at n).isNone && !c.retiredSlices.contains n

/-- First byte and length of FOLD_POOL (R317). -/
def foldPool : Nat × Nat := (0x010100000000, 0x700000000)

/-- The fold areas that slots hold, by first byte. -/
def State.foldAreas (s : State) : List (Nat × Nat) :=
  (s.slots.filter fun p => p.2.foldLen ≠ 0).map fun p => (p.2.foldBase, p.2.foldLen)

/-- Where a fold area of n bytes fits: at the start of the pool or right after another area (R322). -/
def State.foldRoom (s : State) (n : Nat) : Option Nat :=
  let areas := s.foldAreas
  let starts := foldPool.1 :: areas.map fun a => a.1 + a.2
  starts.find? fun b => b + n ≤ foldPool.1 + foldPool.2 && areas.all fun a => b + n ≤ a.1 || a.1 + a.2 ≤ b

/-! ### Spilled edge records (R59, R73, R82) -/

/-- An edge record as an image holds it (R59). -/
def Edge.record (e : Edge) : List Byte := zeros 2 ++ leBytes 1 e.index ++ leBytes 1 (toField 8 e.weight) ++ leBytes 4 e.neighbour

/-- The spilled edge records of a block, in image order (R73, R82). -/
def Block.spillBytes (b : Block) : List Byte := (b.edges.drop 4096).flatMap Edge.record

/-- Where the spilled records of the groups of a cluster lie: core, block, local address and, in slices, their place among the slices
that hold them. `slices` are the local addresses of those slices, empty where the records lie in the image at `edgesAt` (R73, R82).
DESIGN CHOICE (log 80): the records of a cluster follow one another through its slices, core by core. -/
def Image.spillPlaces (g : Image) (edgesAt : Nat) (slices : List Nat) :
    List (Nat × List (Nat × Nat)) → Nat → List ((Nat × Nat) × (Nat × Nat))
  | [], _ => []
  | r :: t, used =>
    let step := fun (a : List ((Nat × Nat) × (Nat × Nat)) × Nat) (b : Nat) =>
      match g.blocks[b]? with
      | none => a
      | some k =>
        if k.spilled = 0 then a
        else if slices = [] then (a.1 ++ [((r.1, b), (edgesAt + 8 * (k.edgeFirst + 4096), 0))], a.2)
        else (a.1 ++ [((r.1, b), ((slices[a.2 / sliceSize]?).getD 0 + a.2 % sliceSize, a.2))], a.2 + 8 * k.spilled)
    let x := (groupBlocks r.2).foldl step ([], used)
    x.1 ++ g.spillPlaces edgesAt slices t x.2

/-- SPILL_BASE of a core and block; 0 where nothing of it is spilled (R82). -/
def spillBase (places : List ((Nat × Nat) × (Nat × Nat))) (core block : Nat) : Nat :=
  match places.find? fun p => p.1 = (core, block) with | some p => p.2.1 | none => 0

/-- Bytes that run on through a list of slices, cut at the end of each. -/
def sliceRuns (slices : List Nat) : Nat → Nat → List Byte → List (Nat × List Byte)
  | 0, _, _ => []
  | k + 1, used, bs =>
    if bs = [] then []
    else
      let room := sliceSize - used % sliceSize
      ((slices[used / sliceSize]?).getD 0 + used % sliceSize, bs.take room) :: sliceRuns slices k (used + room) (bs.drop room)

/-- The loader writes the spilled edge records that lie in slices (R73, R82). -/
def State.writeSpilled (s : State) (g : Image) (slices : List Nat) (places : List ((Nat × Nat) × (Nat × Nat))) : State :=
  if slices = [] then s
  else places.foldl (fun s p =>
    match g.blocks[p.1.2]? with
    | none => s
    | some k => (sliceRuns slices slices.length p.2.2 k.spillBytes).foldl (fun s r => s.putWhole r.1 r.2) s) s

/-! ### A cluster that is placed on -/

/-- Assigns slices of one cluster to a slot, writes its program windows with zeros when it is placed on for the first time, and the
spilled edge records of the groups placed there (R73, R124, R280). Answers where those records lie. -/
def State.placeCluster (s : State) (n : Nat) (g : Image) (edgesAt : Nat) (c : ClusterFit) (groups : List (Nat × List (Nat × Nat))) :
    State × List ((Nat × Nat) × (Nat × Nat)) :=
  let k := c.need.cluster
  let fold := c.fold.getD 0
  let tables := c.tables.getD 0
  let edges := if c.need.edges = 0 then 0 else c.edges.getD 0
  let r := s.choose (fold + tables + edges) (s.freeSlices k)
  let first := !(s.cluster k).placed
  let s := r.1.modCluster k fun x => { x with sliceSlot := r.2.foldl (fun t i => t.put i n) x.sliceSlot, placed := true }
  let s := if first then
      { s with cores := s.cores.map fun p => if clusterOf p.1 = k then (p.1, { p.2 with window := [], windowFree := none }) else p }
    else s
  let slices := (r.2.drop (fold + tables)).map fun i => sliceBase + 0x400000 * k + sliceSize * i
  let places := g.spillPlaces edgesAt slices groups 0
  (s.writeSpilled g slices places, places)

/-- The slices that castling assigns a slot in the cluster of the core its block-replicas move to (R280), and SPILL_BASE of each of them
there. DEDUCED (log 80): the moved group takes what it needs anew, by the order of R73. -/
def State.castleSlices (s : State) (n d : Nat) (members : List Member) : State × List Member :=
  let x := s.slot n
  match x.image with
  | none => (s, members)
  | some g =>
    let k := clusterOf d
    let group := members.map fun m => (m.replica, m.block)
    let need := g.clusterNeed x.tableSizes (swapSize (decide (x.foldFactor ≠ 1 ∧ x.replicas < x.foldFactor))) k [group]
    let r := s.placeCluster n g x.edgesAt (fitCluster need (s.freeSlices k).length) [(d, group)]
    (r.1, members.map fun m => m.put 0xDA98 (leBytes 8 (spillBase r.2 d m.block)))

end Sys2Proof.Machine
end

