-- ==== Sys2Proof/Machine/Sync.lean ====
section
/-! DEFINITION. Machine/Sync.lean: routes and remote requests (R353, R354, R360, R365), general sync objects (R243 to R246). -/

namespace Sys2Proof.Machine

/-! ### Routes (R353, R354) -/

/-- Where a packet for a module goes. -/
inductive Route where
  | deliver
  | via (port : Nat)
  | lost (detail : Nat)
  deriving DecidableEq, Repr

/-- The routing table's answer for a module; `arrival` is the port a transit packet came in on (R354). -/
def State.route (s : State) (d : Nat) (arrival : Option Nat) : Route :=
  let own := s.fabric.moduleId
  if d = own then .deliver
  else
    let e := if d / 256 ≠ own / 256 then (s.fabric.groupRoute.at (d / 256)).getD 0 else (s.fabric.memberRoute.at (d % 256)).getD 0
    let up := fun p => (s.port p).state = .up
    let choose := fun p => if arrival = some p then Route.lost 1 else .via p
    if bitAt e 15 = 0 then .lost 1
    else if up (bitsAt e 3 0) then choose (bitsAt e 3 0)
    else if bitAt e 14 = 1 && up (bitsAt e 7 4) then choose (bitsAt e 7 4)
    else .lost 3

/-- The lowest tracker entry a station does not use (R365). -/
def freeEntry (ts : List Tracker) (port : Nat) : Nat :=
  let used := (ts.filter fun t => t.port = port && t.held.isNone).map fun t => t.tag % 4096
  ((List.range (used.length + 1)).find? fun i => !used.contains i).getD 0

/-- Issuing units (R363): 0 the command processor, 1 the loader, 2 the host station, 3 + k the sync unit of cluster k. -/
def syncUnit (cluster : Nat) : Nat := 3 + cluster

/-- The reliability engine as an issuing unit (R363, R368). -/
def engineUnit : Nat := 147

/-- The pool a request of a unit takes its tracker from: the shared pool of 3,584 (some false); when that is empty, for the command
processor and the loader, 256 reserved entries, and for the reliability engine 256 others (some true); none while it must wait (R331,
R368). -/
def trackerPool (ts : List Tracker) (port unit : Nat) : Option Bool :=
  let used := fun (r engine : Bool) =>
    (ts.filter fun t => t.port = port && t.held.isNone && t.reserved == r && (!r || decide (t.unit = engineUnit) == engine)).length
  if used false false < 3584 then some false
  else if (unit < 2 || unit = engineUnit) && used true (unit = engineUnit) < 256 then some true else none

/-- A request takes an entry of its exit station and leaves on the fabric (R365, R368). -/
def State.takeTracker (s : State) (t : Tracker) (r : Request) (reserved : Bool) : State :=
  let tag := t.port * 4096 + freeEntry s.fabric.trackers t.port
  let f := s.fabric
  let s := { s with fabric := { f with trackers := f.trackers ++ [{ t with tag := tag, via := t.port, reserved := reserved, held := none }] } }
  let s := s.modPort t.port fun x => { x with inUse := x.inUse + 1, peak := max x.peak (x.inUse + 1) }
  s.send (.request { r with tag := tag })

/-- A request at its exit station: it takes an entry, or waits for one (R331, R368). -/
def State.enterStation (s : State) (t : Tracker) (r : Request) : State :=
  match trackerPool s.fabric.trackers t.port t.unit with
  | some k => s.takeTracker t r k
  | none =>
    let f := s.fabric
    { s with fabric := { f with trackers := f.trackers ++ [{ t with tag := 65536 + f.nextTag, held := some r }], nextTag := f.nextTag + 1 } }

/-- The oldest request that waits at a station and may take an entry takes it; a FENCE and the host station follow its tag
(R331, R364, R368). -/
def State.startHeld (s : State) (port : Nat) : State :=
  match s.fabric.trackers.find? fun t => t.port = port && t.held.isSome && (trackerPool s.fabric.trackers port t.unit).isSome with
  | none => s
  | some t =>
    match t.held, trackerPool s.fabric.trackers port t.unit with
    | some r, some k =>
      let tag := port * 4096 + freeEntry s.fabric.trackers port
      let re := fun (n : Nat) => if n = t.tag then tag else n
      let f := s.fabric
      let fences := f.fences.map fun (x : Fence) => { x with tags := x.tags.map re }
      let opened := s.host.bar4Open.map fun (b : Bar4Access) => { b with tag := re b.tag }
      let s := { s with fabric := { f with trackers := f.trackers.erase t, fences := fences }, host := { s.host with bar4Open := opened } }
      s.takeTracker t r k
    | _, _ => s

/-- A general object; a FREE one is not listed (R243). -/
def State.object (s : State) (p : Nat × Nat) : Option SyncObj := (s.cluster p.1).objects.at p.2

/-- The cluster and number of a general object at a local address. -/
def syncAt (a : Nat) : Option (Nat × Nat) :=
  match regionOf a with
  | .sync k o => if 64 ≤ o && a % 0x100 = 0 then some (k, o) else none
  | _ => none

/-- Whether a general object of this module is PLAIN (R243). -/
def State.plainAt (s : State) (a : Nat) : Bool :=
  match syncAt a with
  | some p => (match s.object p with | some o => decide (o.mode = 1) | none => false)
  | none => false

/-- Whether an operation may be broadcast to a local address: a WRITE, an ADD and a SIGNAL, the two last only to a PLAIN object where the
address is one of a sync object (R366). -/
def State.broadcastAllowed (s : State) (op : RemoteOp) (a : Nat) : Bool :=
  match op with
  | .write => true
  | .signal => s.plainAt a
  | .add => (match regionOf a with | .sync _ _ => s.plainAt a | _ => true)
  | _ => false

/-- Sends a request to another module: a tracker entry at the exit station, and the request on the fabric, or a wait for an entry
(R368). Without a route it ends UNREACHABLE at once (R354, R360, R365). A request to module 0xFFFF is a broadcast: it takes no tracker and ends at once
(R366); the model keeps its issuing unit in the tag that it does not use. -/
def State.sendRequest (s : State) (op : RemoteOp) (address a b lines : Nat) (runGen epoch : Nat) (data : List Byte)
    (order : Option Nat) (unit : Nat) (core : Option (Nat × Nat) := none) : State × Option RStatus :=
  let r : Request := { op := op, address := address, operandA := a, operandB := b, srcModule := s.fabric.moduleId, tag := unit,
                       linesM1 := lines, runGen := runGen, epoch := epoch, data := data }
  if hallModule address = 0xFFFF then
    if s.broadcastAllowed op (hallLocal address) then (s.send (.broadcast 12 r 0), some .ok) else (s, some (.refused 6))
  else
    match s.route (hallModule address) none with
    | .deliver => (s, none)
    | .lost d => (s, some (.unreachable d))
    | .via p =>
      if op = .waitReg then (s.send (.request { r with tag := p * 4096 + freeEntry s.fabric.trackers p }), none)
      else
        (s.enterStation { tag := 0, port := p, address := address, op := op, order := order, core := core, unit := unit, via := p, reserved := false,
                          held := none } r,
         none)

/-! ### General sync objects -/

/-- Replaces a general object. -/
def State.setObject (s : State) (p : Nat × Nat) (o : SyncObj) : State :=
  s.modCluster p.1 fun c => { c with objects := c.objects.put p.2 o }

/-- Local address of a general object (R225). -/
def objectAddr (p : Nat × Nat) : Nat := syncBase + 0x8000 * p.1 + 0x100 * p.2

/-- RUN_GEN of an EPOCH object: the run generation of the slot that owns it; a PLAIN object has none (R235, R243). -/
def State.objectGen (s : State) (o : SyncObj) : Nat := if o.mode = 2 then (s.slot o.owner).runGen else 0

/-- The 256 bytes of a general object (R243); a FREE one has OWNER 0xFF and everything else zero. -/
def State.objectBytes (s : State) (o : Option SyncObj) : List Byte :=
  match o with
  | none => zeros 17 ++ leBytes 1 0xFF ++ zeros 238
  | some o =>
    zeros 16 ++ leBytes 1 o.mode ++ leBytes 1 o.owner ++ leBytes 2 (s.objectGen o) ++ leBytes 4 o.waitersNeed ++
      leBytes 4 o.threshold ++ leBytes 4 o.generation ++ leBytes 4 o.count0 ++ leBytes 4 o.count1 ++ leBytes 4 o.waited0 ++
      leBytes 4 o.waited1 ++ leBytes 8 o.bankEpoch ++ leBytes 8 o.target ++ zeros 192

/-- The 256 bytes of a launch object (R225). -/
def Core.launchBytes (c : Core) : List Byte :=
  let l := c.launch
  zeros 16 ++ leBytes 1 3 ++ leBytes 1 (c.slot.getD 0xFF) ++ zeros 30 ++ leBytes 4 l.pro ++ leBytes 2 l.runGen ++
    leBytes 1 (bitOf l.armed + 2 * bitOf l.frozen + 4 * bitOf l.start) ++ leBytes 1 l.nextPhase ++ leBytes 8 l.nextEpoch ++
    ((List.range 16).flatMap fun c => leBytes 4 ((l.inNeed[c]?).getD 0)) ++
    (List.range 32).flatMap fun k => leBytes 4 ((l.count.at k).getD 0)

/-- Signals an object by hall address: a message on this module from a source as `SyncSignal.source` names it, a SIGNAL request to another
(R244, R359). -/
def State.signalTo (s : State) (hall count epoch runGen slot unit source : Nat) : State :=
  if hallModule hall = s.fabric.moduleId then
    s.send (.signal { object := hall, source := source, count := count, epoch := epoch, runGen := runGen, slot := slot })
  else (s.sendRequest .signal hall count 0 0 runGen epoch [] none unit).1

/-- Signals an object once for each of some fires of another (R243, R245). -/
def State.signalFires (s : State) (target epoch runGen slot cluster : Nat) : Nat → State
  | 0 => s
  | k + 1 => (s.signalTo target 1 epoch runGen slot (syncUnit cluster) (9216 + cluster)).signalFires target epoch runGen slot cluster k

/-- Notifies the waiters of a fire (R246). -/
def State.notify (s : State) (hall gen : Nat) (ws : List Waiter) : State :=
  ws.foldl (fun s w => s.send (.notice w hall gen)) s

/-- Notifies the waiters of several fires, each with the generation of its own (R245, R246). -/
def State.notifyAll (s : State) (hall : Nat) (ws : List (Nat × Waiter)) : State := ws.foldl (fun s w => s.send (.notice w.2 hall w.1)) s

/-- OPERAND_A of a WAIT_REG for a SYNC_WAIT: the order, beside the core indices (R360). DESIGN CHOICE (log 27). -/
def hostWaiter (id : Nat) : Nat := 2 ^ 48 + id

/-- The module that a notice to another module's waiter goes to. -/
def Waiter.module : Waiter → Option Nat
  | .remote m _ _ => some m
  | _ => none

/-- A remote waiter as its own module knows it: a SYNC_WAIT or a core (R246, R360). -/
def Waiter.local : Waiter → Waiter
  | .remote _ t e => if 2 ^ 48 ≤ t then .order (t - 2 ^ 48) else .core t e
  | w => w

/-- The epoch a waiter waits for; a SYNC_WAIT waits on PLAIN objects only. -/
def Waiter.epoch : Waiter → Nat
  | .core _ e => e
  | .remote _ _ e => e
  | _ => 0

/-- Waiters that wait in the crossbar take free places (R246). -/
def SyncObj.enroll (o : SyncObj) : SyncObj :=
  let free := 64 - o.waiting.length
  { o with waiting := o.waiting ++ o.crossbar.take free, crossbar := o.crossbar.drop free }

/-- A PLAIN object fires some times: each fire adds 1 to GENERATION and notifies the waiters registered then, and those that wait in the
crossbar take the free places (R245, R246). Answers the waiters, each with its generation. -/
def SyncObj.fires : Nat → SyncObj → SyncObj × List (Nat × Waiter)
  | 0, o => (o, [])
  | k + 1, o =>
    if o.waiting = [] then ({ o with generation := (o.generation + k + 1) % 2 ^ 32 }, [])
    else
      let gen := (o.generation + 1) % 2 ^ 32
      let r := SyncObj.fires k ({ o with generation := gen, waiting := [] }).enroll
      (r.1, o.waiting.map (fun w => (gen, w)) ++ r.2)

/-- Adds to a PLAIN object: it fires once for every THRESHOLD its count reaches (R245). Answers the waiters notified and the number of
fires. -/
def SyncObj.addPlain (o : SyncObj) (n : Nat) : SyncObj × List (Nat × Waiter) × Nat :=
  let c := o.count0 + n
  let k := c / o.threshold
  let r := SyncObj.fires k { o with count0 := if k = 0 then c % 2 ^ 32 else c % o.threshold }
  (r.1, r.2, k)

/-- Count of the bank of an epoch. -/
def SyncObj.bank (o : SyncObj) (e : Nat) : Nat := if e % 2 = 0 then o.count0 else o.count1
/-- Waits completed in the bank of an epoch. -/
def SyncObj.waited (o : SyncObj) (e : Nat) : Nat := if e % 2 = 0 then o.waited0 else o.waited1
/-- Sets the bank of an epoch. -/
def SyncObj.setBank (o : SyncObj) (e count waited : Nat) : SyncObj :=
  if e % 2 = 0 then { o with count0 := count % 2 ^ 32, waited0 := waited % 2 ^ 32 }
  else { o with count1 := count % 2 ^ 32, waited1 := waited % 2 ^ 32 }

/-- Whether the bank of an epoch in the window has fired (R244). -/
def SyncObj.fired (o : SyncObj) (e : Nat) : Bool := o.threshold ≤ o.bank e

/-- Whether an epoch lies in the window (R244). -/
def SyncObj.inWindow (o : SyncObj) (e : Nat) : Bool := e = o.bankEpoch || e = o.bankEpoch + 1

/-- Completes the waits of fired banks and releases banks, at most n times: the loop of R244's last row. Answers the
waiters notified. -/
def SyncObj.release : Nat → SyncObj → SyncObj × List Waiter
  | 0, o => (o, [])
  | n + 1, o =>
    let go := fun (w : Waiter) => o.inWindow w.epoch && o.fired w.epoch
    let done := o.waiting.filter go
    let o := done.foldl (fun o w => o.setBank w.epoch (o.bank w.epoch) (o.waited w.epoch + 1)) o
    let o := ({ o with waiting := o.waiting.filter fun w => !done.contains w }).enroll
    let e := o.bankEpoch
    if o.fired e && o.waitersNeed ≤ o.waited e then
      let r := SyncObj.release n { (o.setBank e 0 0) with bankEpoch := (e + 1) % 2 ^ 64 }
      (r.1, done ++ r.2)
    else if done = [] then (o, [])
    else
      let r := SyncObj.release n o
      (r.1, done ++ r.2)

/-- An EPOCH-mode error of a slot: a contained error and the slot FAULTED (R244, R596, R625). -/
def State.epochObjectFault (s : State) (k n e : Nat) : State :=
  (s.logError { cls := .contained, code := 0x0013, action := 3, unitKind := 2, unit := k, slot := n, epoch := e }).slotFault n 0x3A e

/-- A signal reaches a general object of this module (R235, R244, R245). -/
def State.signalArrive (s : State) (m : SyncSignal) : State :=
  match syncAt (hallLocal m.object) with
  | none => s
  | some p =>
    match s.object p with
    | none => s
    | some o =>
      if o.mode = 1 then
        let r := o.addPlain m.count
        let s := s.setObject p r.1
        let s := s.notifyAll m.object r.2.1
        if o.target = 0 then s else s.signalFires o.target m.epoch m.runGen m.slot p.1 r.2.2
      else if m.runGen ≠ s.objectGen o then s
      else if m.epoch < o.bankEpoch then s.epochObjectFault p.1 o.owner m.epoch
      else if !o.inWindow m.epoch then s.send (.signal m)
      else
        let c := o.bank m.epoch + m.count
        let fires := o.bank m.epoch < o.threshold && o.threshold ≤ c
        let o := o.setBank m.epoch c (o.waited m.epoch)
        let o := if fires then { o with generation := (o.generation + 1) % 2 ^ 32 } else o
        let r := o.release (o.waiting.length + o.crossbar.length + 4)
        let s := (s.setObject p r.1).notify m.object o.generation r.2
        if fires && o.target ≠ 0 then s.signalTo o.target 1 m.epoch m.runGen m.slot (syncUnit p.1) (9216 + p.1) else s

/-- A waiter registration reaches a general object of this module; while the object is full it waits in the crossbar (R244,
R246). -/
def State.waitArrive (s : State) (m : WaitReg) : State :=
  match syncAt (hallLocal m.object) with
  | none => s
  | some p =>
    match s.object p with
    | none => s
    | some o =>
      if o.mode = 2 && m.runGen ≠ s.objectGen o then s
      else if o.mode = 2 && m.epoch < o.bankEpoch then s.epochObjectFault p.1 o.owner m.epoch
      else
        let o := ({ o with crossbar := o.crossbar ++ [m.waiter] }).enroll
        if o.mode = 1 then s.setObject p o
        else
          let r := o.release (o.waiting.length + o.crossbar.length + 4)
          (s.setObject p r.1).notify m.object o.generation r.2

end Sys2Proof.Machine
end

