-- ==== Sys2Proof/Machine/Fence.lean ====
section
/-! DEFINITION. Machine/Fence.lean: fencing and castling of cores, and the recovery of their slots (R587, R592 to R594, R626). -/

namespace Sys2Proof.Machine

/-- Mesh links between two clusters of the 12 by 12 mesh (R18). -/
def meshLinks (a b : Nat) : Nat :=
  let d := fun x y => if x ≤ y then y - x else x - y
  d (a / 12) (b / 12) + d (a % 12) (b % 12)

/-- The candidate of least distance, then of least index. -/
def nearest (cluster : Nat) (cs : List Nat) : Option Nat :=
  cs.foldl (fun a c =>
    match a with
    | none => some c
    | some b => if meshLinks cluster (clusterOf c) < meshLinks cluster (clusterOf b) then some c else a) none

/-- The replacement of a fenced core: a good spare by step 3 of R592, else an IDLE enabled core by the same rule (R594). After
a sieve fault the core's own cluster is out. -/
def State.chooseSpare (s : State) (c : Nat) (sieve : Bool) : Option Nat :=
  let k := clusterOf c
  let ok := fun d => decide (d ≠ c) && !(sieve && clusterOf d = k)
  let all := (List.range 9216).filter ok
  match nearest k (all.filter fun d => (s.core d).kind = .spare) with
  | some d => some d
  | none => nearest k (all.filter fun d => (s.core d).kind = .enabled && (s.core d).slot.isNone)

/-- Steps 1 to 4 of R592 for one core and the spare chosen for it: colander mode, the spare with the slices of its cluster and its
zeroed windows (R124, R280), the directory. Answers the spare and the slot that held the core. The fenced core keeps its counters
(R574), and its store as it stood (R85). -/
def State.castleOnto (s : State) (c : Nat) (spare : Option Nat) : State × Option Nat × Option Nat :=
  let co := s.core c
  let out := { co with kind := .fenced, colander := true, run := none }
  match co.slot with
  | none => (s.setCore c out, none, none)
  | some n =>
    match spare with
    | none => (s.setCore c out, none, some n)
    | some d =>
      let e := s.core d
      let s := s.setCore c { out.keepStore with slot := none, members := [], launch := Launch.idle, parked := [], held := [],
                                                outbox := [], vectors := [], castledIn := false }
      let r := (s.setCore d { e with kind := .enabled, castledIn := e.kind = .spare || e.castledIn, slot := some n,
                                     members := co.members, launch := { co.launch with armed := false },
                                     storeWritten := true }).castleSlices n d co.members
      (r.1.modCore d fun x => { x with members := r.2 }, some d, some n)

/-- Steps 1 to 4 of R592 with the spare of step 3. -/
def State.castle (s : State) (c : Nat) (sieve : Bool) : State × Option Nat × Option Nat := s.castleOnto c (s.chooseSpare c sieve)

/-- A slot that is not active moves its block-replicas without a rollback and keeps its state; they are rebuilt from its newest
committed checkpoint, and its next SLOT_START is a start point (R626). `moved` are the cores they moved to. -/
def State.moveQuiet (s : State) (n : Nat) (moved : List Nat) : State :=
  let x := s.slot n
  match s.newestCheckpoint n, x.image with
  | (s, none), _ => s
  | (s, _), none => s
  | (s, some c), some g =>
    if x.state = .faulted || (x.state = .disabled && x.disabledFaulted) then
      let s := s.modSlot n fun x => { x with startPoint := true, runGen := (x.runGen + 1) % 2 ^ 16 }
      let x := s.slot n
      (moved.filter fun d => (s.core d).slot = some n).foldl (fun s d =>
        (s.modCore d (x.rebuildCore n g c.1 c.2.2.2 false true)).loaderWrote d) s
    else s.restartAt n c.1 c.2.1 c.2.2.1 c.2.2.2 false (x.state = .disabled)

/-- A slot lost a core with no replacement (R594, R626): a NO_SPARE error, and FAULTED with status FENCED where the slot is
RUNNING, STOPPING, LOADED or STOPPED; a DISABLED slot returns as FAULTED. -/
def State.noSpare (s : State) (c n : Nat) : State :=
  let s := s.logError { cls := .contained, code := 0x0012, action := 3, unitKind := 1, unit := c, slot := n, info := 2 ^ 64 - 1 }
  let x := s.slot n
  if x.active then s.slotFault n 0x33 (s.slotEpoch n)
  else if x.state = .loaded || x.state = .stopped then
    let s := (s.freezeSlot n).disarmSlot n
    (s.setSlot n { x with state := .faulted, faultStatus := 0x33, faultEpoch := s.slotEpoch n }).note
      { opcode := 0xC0, target := n, status := 0x33, detail := 0, result := s.slotEpoch n }
  else if x.state = .disabled then s.setSlot n { x with disabledFaulted := true }
  else s

/-- Step 5 of R592 for the slot of cores that were castled: rollback of an active slot, R626 for any other. -/
def State.recover (s : State) (n : Nat) (moved : List Nat) : State :=
  if (s.slot n).active then s.rollback n else s.moveQuiet n moved

/-- A fence of one core onto a spare chosen for it, with the recovery of its slot (R592 to R594, R626). A core that is fenced already
is left as it is (R593). `engine` says that the reliability engine raised it, which the journal notes (R465). Answers the spare
used. -/
def State.fenceOnto (s : State) (c : Nat) (spare : Option Nat) (engine : Bool) : State × Option Nat :=
  if (s.core c).kind = .fenced then (s, none)
  else
    let r := s.castleOnto c spare
    let s := match r.2.2, r.2.1 with
      | some n, some d => r.1.recover n [d]
      | some n, none => r.1.noSpare c n
      | none, _ => r.1
    let s := if engine then
        s.note { opcode := 0xC2, target := c, status := 0, detail := 0, result := (r.2.1).getD 0xFFFFFFFF }
      else s
    (s, r.2.1)

/-- ENGINE_FENCE or an ordered fence of one core, with the spare of step 3 (R592). -/
def State.fenceCore (s : State) (c : Nat) (engine sieve : Bool) : State × Option Nat :=
  s.fenceOnto c (s.chooseSpare c sieve) engine

/-- CORE_LANES of a core: its register key (R107, R493). -/
def laneKey (c : Nat) : Nat := 2 ^ 28 + 2 ^ 14 * c + 8

/-- The working lanes of a core: LANE_OK set, and LANE_DISABLE clear in the live copy (R107, R477). -/
def State.workingLanes (s : State) (c : Nat) : Nat :=
  ((List.range 8).filter fun i => (s.core c).laneOk.getLsbD i && bitAt (s.liveOr (laneKey c) 0) (8 + i) = 0).length

/-- A core that no working lane is left of is fenced and castled; one that is OFF stays OFF (R101, R594). -/
def State.checkLanes (s : State) (c : Nat) : State :=
  if s.workingLanes c = 0 && (s.core c).kind ≠ .off then (s.fenceCore c true false).1 else s

/-- A core fault that fences and castles the core: the fence, and one contained error with the spare it used and, where
the core is in a phase, the epoch, phase and replica it runs (R587, R596). -/
def State.coreFault (s : State) (c code : Nat) : State :=
  if (s.core c).kind = .fenced then s
  else
    let co := s.core c
    let r := s.fenceCore c true false
    let e : ErrEntry := { cls := .contained, code := code, action := 2, unitKind := 1, unit := c, slot := co.slot.getD 0xFF,
                          info := (r.2).getD 0xFFFFFFFF }
    r.1.logError (match co.run with
      | some q => { e with epoch := q.epoch, phase := q.phase,
                           replica := match co.members[q.member]? with | some m => m.replica | none => 0xFFFF }
      | none => e)

/-! ### Slices that fail (R587) -/

/-- CP firmware retires a slice until module reset and gives its contents a new place: the slot's groups of the cluster are placed on its
slices again, without the retired one (R73, R587). -/
def State.retireSlice (s : State) (k i : Nat) : State :=
  let c := s.cluster k
  let s := s.modCluster k fun c => { c with retiredSlices := insertAsc i c.retiredSlices, sliceSlot := c.sliceSlot.del i }
  match c.sliceSlot.at i with
  | none => s
  | some n =>
    let x := s.slot n
    match x.image with
    | none => s
    | some g =>
      let s := s.modCluster k fun c => { c with sliceSlot := c.sliceSlot.filter fun p => p.2 ≠ n }
      let cores := (s.slotCores n).filter fun c => clusterOf c = k
      let groups := cores.map fun c => (c, (s.core c).members.map fun m => (m.replica, m.block))
      let need := g.clusterNeed x.tableSizes (swapSize (decide (x.foldFactor ≠ 1 ∧ x.replicas < x.foldFactor))) k
        (groups.map fun p => p.2)
      let r := s.placeCluster n g x.edgesAt (fitCluster need (s.freeSlices k).length) groups
      cores.foldl (fun s c => s.modCore c fun co =>
        { co with members := co.members.map fun m => m.put 0xDA98 (leBytes 8 (spillBase r.2 c m.block)) }) r.1

/-- An uncorrectable slice word that a unit of a slot read: logged, the slice retired, the slot rolled back (R324, R587, R596). -/
def State.sliceLost (s : State) (n a : Nat) : State :=
  match regionOf a with
  | .slice k i =>
    let s := s.logError { cls := .contained, code := 0x0005, action := 1, unitKind := 2, unit := k, slot := n, address := a }
    (if i < 28 then s.retireSlice k i else s).recover n (s.slotCores n)
  | _ => s

/-- The flipped word, if any, among the slices that a slot holds in a cluster: its address, and whether it can be corrected. -/
def State.sliceUpset (s : State) (n k : Nat) : Option (Nat × Bool) :=
  s.upsets.findSome? fun u => match u with
    | .sliceWord a b => (match regionOf a with
      | .slice j i => if j = k && i < 28 && (s.cluster k).sliceSlot.at i = some n then some (a, b) else none
      | _ => none)
    | _ => none

/-- A core reads what its slot keeps in slices of the core's cluster. The flag says that it could; else the slot is rolled back (R73, R587).
DEDUCED (log 48): the read meets a flipped word anywhere in them. -/
def State.readSlices (s : State) (n k : Nat) : State × Bool :=
  match s.sliceUpset n k with
  | none => (s, true)
  | some (a, true) => (s.correct a (.sliceWord a true), true)
  | some (a, false) => (s.sliceLost n a, false)

/-- SMSG reads the spilled edge records of the running member at SPILL_BASE: from the cluster's slices, or in place in the image, where an
uncorrectable line faults the slot MEM_ERROR (R73, R82, R126, R587). -/
def State.readSpill (s : State) (n c e : Nat) (m : Member) : State × Bool :=
  let count := m.num 0xDA90 4
  let base := m.num 0xDA98 8
  if count = 0 then (s, true)
  else
    match regionOf base with
    | .slice k _ => s.readSlices n k
    | _ =>
      match s.readLocal base (8 * count) with
      | (s, some _) => (s.count (clusterOf c) 0x0009 (ceilDiv (8 * count) 64), true)
      | (s, none) => (s.slotFault n 0x31 e, false)

/-- The cores of a cluster that hold a categorical block-replica, ascending. -/
def State.categoricalCores (s : State) (k : Nat) : List Nat :=
  (s.cores.filter fun p => clusterOf p.1 = k && p.2.members.any fun m => m.kind = 1).map fun p => p.1

/-- SIEVE_PARITY: the sieve is out of use; every core of the cluster with a categorical block-replica is fenced and castled to
another cluster, one recovery per slot (R194, R593). -/
def State.sieveParity (s : State) (k : Nat) : State :=
  let s := s.modCluster k fun c => { c with sieveParity := true, sieveOut := true, sieveQueue := [], sieveWait := [] }
  let cs := s.categoricalCores k
  let moved := (cs.flatMap fun c => (s.core c).members).length
  let r := cs.foldl (fun (a : State × List Nat × List Nat) c =>
    let t := a.1.castle c true
    let s := t.1.note { opcode := 0xC2, target := c, status := 0, detail := 0, result := (t.2.1).getD 0xFFFFFFFF }
    match t.2.2, t.2.1 with
    | some n, some d => (s, if a.2.1.contains n then a.2.1 else a.2.1 ++ [n], d :: a.2.2)
    | some n, none => (s.noSpare c n, a.2)
    | none, _ => (s, a.2)) (s, [], [])
  let s := r.2.1.foldl (fun s n => s.recover n r.2.2) r.1
  s.logError { cls := .contained, code := 0x0004, action := 2, unitKind := 2, unit := k, info := moved }

end Sys2Proof.Machine
end

