-- ==== Sys2Proof/Machine/Stage.lean ====
section
/-! DEFINITION. Machine/Stage.lean: issuing an instruction of a stage program, its retirement or fault, and the end of a phase
(R118, R129 to R142, R573, R582, R583). -/

namespace Sys2Proof.Machine

/-- What an instruction issues with: the slot, the core with the stage register set, its run, and the member that runs. -/
structure Issue where
  n : Nat
  x : Slot
  co : Core
  r : Run
  m : Member

/-- How an instruction's own work ends: retired with the branch offset taken, if any, and the beats it used; a program fault
by its code (R142); issued and waiting (R130); the member's program ended at END; or not issued yet, because a unit it needs
is full. -/
inductive Done where
  | retire (s : State) (off : Option Int) (beats : Nat)
  | fault (s : State) (code : Nat)
  | hold (s : State)
  | ended (s : State)
  | again

/-- The instruction a core has next, if it is the one named and the core is free to issue it: a run is under way, nothing is
waited for, and the word of the instruction store at the PC is the instruction's (R116, R118, R129, R136, R137). -/
def State.issuing (s : State) (c : Nat) (ins : Instr) : Option Issue :=
  let co := s.core c
  match co.slot, co.run with
  | some n, some r =>
    match co.members[r.member]? with
    | some m =>
      let x := s.slot n
      if co.kind = .enabled && r.wait = .none && decide (r.pc < (x.program m.block).length) &&
          encodeStage ins = some (co.instr (x.programBase co.members m + r.pc)) then
        some { n := n, x := x, co := co, r := r, m := m }
      else none
    | none => none
  | _, _ => none

/-! ### Tagging (R582, R583) -/

/-- One step of a core's tagging LFSR, a Galois register of x^32 + x^22 + x^2 + x + 1; it starts at the index + 1 (R582). -/
def lfsrStep (c : Nat) (l : Word) : Word :=
  let v := if l = 0#32 then BitVec.ofNat 32 (c + 1) else l
  if v.getLsbD 0 then (v >>> 1) ^^^ 0x80200003#32 else v >>> 1

/-- A tag record (R583). -/
def tagRecord (seq c : Nat) (i : Issue) (op flags beats : Nat) : List Byte :=
  leBytes 2 beats ++ leBytes 2 0 ++ leBytes 2 0 ++ leBytes 1 flags ++ leBytes 1 (i.r.phase + 16 * i.r.member) ++ leBytes 1 i.n ++
    leBytes 1 op ++ leBytes 2 i.r.pc ++ leBytes 2 c ++ leBytes 2 i.m.replica ++ leBytes 8 i.r.epoch ++ leBytes 4 i.m.block ++
    leBytes 4 seq

/-- TAG_RECORD: the record of a tagged instruction that retires or is discarded (R582, R583). -/
def State.tag (s : State) (c : Nat) (i : Issue) (ins : Instr) (flags beats : Nat) : State :=
  let s := if s.perf.tagRun then s.checkTag else s
  let ctrl := s.liveOr 0x0B0008 0xFF00
  let n := bitsAt ctrl 4 0
  let sl := bitsAt ctrl 15 8
  let l := (s.core c).lfsr
  if s.perf.tagRun && n ≠ 0 && l.toNat % 2 ^ n = 0 && (sl = 0xFF || sl = i.n) && !s.perf.tagParity then
    let seq := if (s.perf.tagSeq + 1) % 2 ^ 32 = 0 then 1 else (s.perf.tagSeq + 1) % 2 ^ 32
    let op := match encodeStage ins with | some w => w.toNat / 2 ^ 24 | none => 0
    let s := { s with perf := { s.perf with tagSeq := seq, tagged := s.perf.tagged + 1, tagWritten := s.perf.tagWritten + 1 } }
    s.poke (0x010005000000 + 32 * ((seq - 1) % 2 ^ 20)) (tagRecord seq c i op flags (min beats 0xFFFF))
  else s

/-! ### The end of a member's program (R134, R140, R222) -/

/-- A member's program ended at END or at a fault: SCRATCH and the program window carry nothing on (R135), and the next member starts, or
the group's phase ends. A group with a fault
sends nothing and commits nothing; any other releases its messages in member order (R134). -/
def State.endMember (s : State) (c : Nat) : State :=
  let co := s.core c
  match co.slot, co.run with
  | some n, some r =>
    let x := s.slot n
    match co.nextMember x (r.member + 1) with
    | some j => s.nextFree.2.setCore c ((co.forgetScratch s.free).launchMember x (r.epoch, r.phase) j)
    | none =>
      let out := if co.members.any fun m => m.faulted then [] else co.outbox
      let w := s.nextFree
      let s := w.2.setCore c ({ co with run := none, outbox := [] }.forgetScratch s.free)
      let s := out.foldl (fun s m => s.send (.state m)) s
      (s.tryLaunch c).checkHard n
  | _, _ => s

/-- PROGRAM_FAULT: the fault stops the member's phase. CORE_PFAULT holds the fault of the lowest-indexed faulting member, the
error log one contained error for each, and the slot becomes FAULTED (R97, R134, R140 to R142). -/
def State.programFault (s : State) (c : Nat) (i : Issue) (code pc : Nat) : State :=
  let co := s.core c
  let first := !co.members.any fun m => m.faulted
  let co := { (co.modMember i.r.member fun m => { m with faulted := true }) with
    pfCode := if first then code else co.pfCode
    pfPc := if first then pc % 2048 else co.pfPc
    pfMember := if first then i.r.member else co.pfMember
    drawOverrun := co.drawOverrun || code = 7, faultSlot := some i.n
    wasted := (co.wasted + 1) % 2 ^ 48 }
  let s := (s.setCore c co).logError
    { cls := .contained, code := 0x000B, action := 3, unitKind := 1, unit := c, slot := i.n, replica := i.m.replica,
      phase := i.r.phase, epoch := i.r.epoch, info := code + 2 ^ 8 * (pc % 2048) + 2 ^ 24 * i.r.member + 2 ^ 32 * i.m.block }
  (s.slotFault i.n 0x38 i.r.epoch).endMember c

/-- An instruction retires: the PC moves on, by the offset of a taken branch where there is one, and the counters take its
beats (R118, R142, R573). Past the last word the program faults PC_RANGE. -/
def State.retire (s : State) (c : Nat) (i : Issue) (ins : Instr) (off : Option Int) (beats : Nat) : State :=
  let co := s.core c
  match co.run with
  | none => s
  | some r =>
    let pc := match off with | some o => ((i.r.pc : Int) + 1 + o).toNat | none => i.r.pc + 1
    let co := { co with
      run := some { r with pc := pc, retired := r.retired + 1, wait := .none }
      retired := (co.retired + beats) % 2 ^ 48
      wasted := if off.isSome then (co.wasted + 1) % 2 ^ 48 else co.wasted }
    let s := (s.setCore c co).tag c i ins 1 beats
    if (i.x.program i.m.block).length ≤ pc then s.programFault c i 1 pc else s

/-! ### Issue (R131, R142) -/

/-- The upset of an instruction word that a fetch meets (R138). -/
def State.wordUpset (s : State) (c word : Nat) : Option (Upset × Bool) :=
  match s.upsets.find? fun u => match u with | .instrWord d i _ => decide (d = c) && decide (i = word) | _ => false with
  | some (.instrWord d i b) => some (.instrWord d i b, b)
  | _ => none

/-- The word of the instruction store that an issue fetches (R137). -/
def Issue.word (i : Issue) : Nat := i.x.programBase i.co.members i.m + i.r.pc

/-- The ranges of the core store that an instruction works through, by offset and length; LDK and LDW check the words they name
themselves (R80, R81, R121, R122, R126, R127). DEDUCED (log 48): an instruction meets a bad word anywhere in a range it works through. -/
def storeRanges : Instr → List (Nat × Nat)
  | .updc _ | .updm _ _ _ _ | .rlxc _ | .sievec _ => [(0xC000, 0x1000), (0xD000, 0xAE0)]
  | .draw _ _ _ | .mask _ _ _ _ _ => [(0xC000, 0x1000)]
  | .mvs _ _ _ _ => [(0, 0x8000), (0xD400, 0x400)]
  | .fdp _ _ | .finca _ _ => [(0, 0xC000), (0xD000, 0xAE0)]
  | .ldf _ _ _ => [(0xD000, 0x400), (0xD900, 0x100)]
  | .smsg _ | .fpr _ | .pdone _ => [(0xD400, 0x400), (0xDA00, 0xE0)]
  | _ => []

/-- The offset of the core-store word of an upset. -/
def Upset.offset (u : Upset) : Nat := match u with | .coreWord _ o _ => o | _ => 0

/-- The upset of a core-store word that an instruction meets (R587). -/
def State.storeUpset (s : State) (c : Nat) (ins : Instr) : Option (Upset × Bool) :=
  match s.upsets.find? fun u => match u with
    | .coreWord d o _ => decide (d = c) && (storeRanges ins).any fun r => decide (r.1 ≤ o) && decide (o < r.1 + r.2)
    | _ => false with
  | some (.coreWord d o b) => some (.coreWord d o b, b)
  | _ => none

/-- Issues the instruction a core has next: the fetched word is checked, the budget and the stage rule hold (R131, R138, R142),
and of the core store it works through (R587),
then its own work runs with the stage register set. A core that has another instruction next, or none, is left as it is. -/
def State.issue (s : State) (c : Nat) (ins : Instr) (stage : Option Nat) (body : State → Issue → Done) : State :=
  match s.issuing c ins with
  | none => s
  | some i =>
    match s.wordUpset c (i.word), s.storeUpset c ins with
    | some (_, false), _ => s.coreFault c 0x0002
    | _, some (_, false) => s.coreFault c 0x0001
    | bad, badStore =>
      let s := match bad with
        | some (u, _) => ({ s with upsets := s.upsets.filter fun v => v ≠ u }).correctedError 0x0002 1 c
        | none => s
      let s := match badStore with
        | some (u, _) => s.correct (storeBase + 0x10000 * c + u.offset) u
        | none => s
      let k := stage.getD i.r.stage
      let co := { i.co with lfsr := lfsrStep c i.co.lfsr, quietTicks := 0, run := some { i.r with stage := k } }
      let t := s.setCore c co
      let i' := { i with co := co, r := { i.r with stage := k } }
      if 2 ^ 24 ≤ i.r.retired then (t.programFault c i 8 i.r.pc).tag c i ins 2 1
      else if k < i.r.stage then (t.programFault c i 6 i.r.pc).tag c i ins 2 1
      else
        match body t i' with
        | .again => s
        | .hold t => t
        | .ended t =>
          ((t.modCore c fun co => { co with retired := (co.retired + 1) % 2 ^ 48 }).tag c i' ins 1 1).endMember c
        | .retire t off beats => t.retire c i' ins off beats
        | .fault t code => (t.programFault c i' code i.r.pc).tag c i ins 2 1

/-- Issues an instruction of a core the module has (R18). -/
def issueOn (c : Nat) (ins : Instr) (stage : Option Nat) (s : State) (body : State → Issue → Done) : Out :=
  unit (decide (c < 9216)) s (.next (s.issue c ins stage body))

/-- An instruction that only changes its core's registers. -/
def onCore (c : Nat) (s : State) (co : Core) (beats : Nat := 1) : Done := .retire (s.setCore c co) none beats

/-- The core with the running member replaced. -/
def Issue.withMember (i : Issue) (m : Member) : Core := i.co.modMember i.r.member fun _ => m

/-- The instruction an issue's PC holds, read back from the program: a waiting instruction retires with it. -/
def Issue.instr (i : Issue) (c : Nat) : Instr :=
  match (i.x.program i.m.block)[i.r.pc]? with
  | some w => (decodeStage c w).getD (.instrNop c)
  | none => .instrNop c

/-- The issue of a core whose instruction waits. -/
def State.waiting (s : State) (c : Nat) : Option Issue :=
  let co := s.core c
  match co.slot, co.run with
  | some n, some r =>
    match co.members[r.member]? with
    | some m => if r.wait = .none then none else some { n := n, x := s.slot n, co := co, r := r, m := m }
    | none => none
  | _, _ => none

end Sys2Proof.Machine
end

