-- ==== Sys2Proof/Machine/Mac.lean ====
section
/-! DEFINITION. Machine/Mac.lean: MAC and field instructions, and updates, relaxation, draws and masks (R121, R122, R151, R181). -/

namespace Sys2Proof.Machine

/-! ### Accumulators (R86 to R88, R121) -/

/-- Adds to one accumulator value, saturating; a saturation sets ACC_SAT of the block-replica (R88). -/
def Issue.accumulate (i : Issue) (a : BitVec 3) (row col : Nat) (d : Int) : Issue :=
  let v := i.co.accreg a row col + d
  { i with co := i.co.setAcc a row col (sat32 v), m := i.m.satIf 1 (clips32 v) }

/-- Adds to accumulator values one after another. -/
def Issue.accumulateAll (i : Issue) (a : BitVec 3) (ds : List (Nat × Nat × Int)) : Issue :=
  ds.foldl (fun i d => i.accumulate a d.1 d.2.1 d.2.2) i

/-- The member's value in MVS: the state at phase launch as +1 or -1, x-hat for relaxation, 0 past VAR_COUNT (R121). -/
def Member.mvsValue (m : Member) (j : Nat) : Int :=
  if m.varCount ≤ j then 0
  else if m.kind = 2 then m.xhat j
  else if m.spinBit j != m.flip j then 1 else -1

/-- The state after an instruction that changed accumulators and flags. -/
def Issue.done (i : Issue) (c : Nat) (s : State) (beats : Nat := 1) : Done := onCore c s (i.withMember i.m) beats

/-- MVS: row R of accA gains the product of tile (g, h) of J with the values of column group h (R121). -/
def execMvs (core : Nat) (acc : BitVec 3) (b : BitVec 5) (row : BitVec 3) (s : State) : Out :=
  issueOn core (.mvs core acc b row) none s fun s i =>
    let t := (i.co.kreg b).toNat
    if 2 ^ 10 ≤ t then .fault s 5
    else
      let g := t / 32
      let h := t % 32
      let sum := fun r => (List.range 8).foldl (fun a c => a + i.m.dense (8 * g + r) (8 * h + c) * i.m.mvsValue (8 * h + c)) 0
      (i.accumulateAll acc ((List.range 8).map fun r => (row.toNat, r, sum r))).done core s

/-- MVW: row R of accA gains the 8 by 8 matrix wB times the 8 bytes n of wC (R121). -/
def execMvw (core : Nat) (acc : BitVec 3) (b c : BitVec 4) (row n : BitVec 3) (s : State) : Out :=
  issueOn core (.mvw core acc b c row n) none s fun s i =>
    let w := i.co.wreg b
    let v := i.co.wreg c
    let sum := fun r => (List.range 8).foldl (fun a k => a + vecByte w (8 * r + k) * vecByte v (8 * n.toNat + k)) 0
    (i.accumulateAll acc ((List.range 8).map fun r => (row.toNat, r, sum r))).done core s

/-- MOP: the outer product of 8 bytes of wB and 8 bytes of wC into accA (R121). -/
def execMop (core : Nat) (acc : BitVec 3) (b c : BitVec 4) (n m : BitVec 3) (s : State) : Out :=
  issueOn core (.mop core acc b c n m) none s fun s i =>
    let w := i.co.wreg b
    let v := i.co.wreg c
    (i.accumulateAll acc ((List.range 8).flatMap fun r => (List.range 8).map fun k =>
      (r, k, vecByte w (8 * n.toNat + r) * vecByte v (8 * m.toNat + k)))).done core s

/-- ACLR: all 64 values of accA are 0 (R121). -/
def execAclr (core : Nat) (acc : BitVec 3) (s : State) : Out :=
  issueOn core (.aclr core acc) none s fun s i =>
    onCore core s { i.co with acc := i.co.acc.filter fun p => p.1 / 64 ≠ acc.toNat }

/-! ### Fields (R89, R91, R121, R132) -/

/-- The increment that a changed variable of the running member brings per unit of coupling (R91). -/
def Member.change (m : Member) (j : Nat) : Int := m.increment (fun j => (m.old.at j).getD (m.xhat j)) j

/-- Pushes the dense increments of some changed variables (R91). -/
def Member.pushAll (m : Member) (js : List Nat) : Member := js.foldl (fun m j => m.pushColumn (m.change j) j) m

/-- The run of an issue with a change. -/
def Issue.withRun (i : Issue) (f : Run → Run) : Issue := { i with co := { i.co with run := some (f i.r) }, r := f i.r }

/-- FDP: pushes column group kA; a group above 31 raises VALUE_RANGE, one pushed before PHASE_ORDER (R121, R128, R132). -/
def execFdp (core : Nat) (a : BitVec 5) (s : State) : Out :=
  issueOn core (.fdp core a) (some 3) s fun s i =>
    let h := (i.co.kreg a).toNat
    if 31 < h then .fault s 5
    else if i.r.pushed.contains h then .fault s 6
    else
      let m := i.m.pushAll (i.m.changed.filter fun j => j / 8 = h)
      let i := i.withRun fun r => { r with pushed := r.pushed ++ [h] }
      ({ i with m := m }).done core s (i.m.rowTiles h)

/-- FINCA: without DENSE_OFF pushes every changed variable in ascending local index and marks every column group; with it
does nothing (R121, R132). -/
def execFinca (core : Nat) (denseOff : Bool) (s : State) : Out :=
  issueOn core (.finca core denseOff) (some 3) s fun s i =>
    if denseOff then onCore core s i.co
    else if i.r.pushed ≠ [] then .fault s 6
    else
      let m := i.m.pushAll i.m.changed
      let beats := (i.m.changed.map fun j => (8 * i.m.rowTiles (j / 8) + 63) / 64).sum
      let i := i.withRun fun r => { r with pushed := List.range 32 }
      ({ i with m := m }).done core s beats

/-- LDF: kA is the field of local index kB saturated to 32 bits (R89, R121). -/
def execLdf (core : Nat) (a b : BitVec 5) (s : State) : Out :=
  issueOn core (.ldf core a b) none s fun s i =>
    let j := (i.co.kreg b).toNat
    if i.m.varCount ≤ j then .fault s 5
    else
      let f := i.m.readField j
      ({ i with co := i.co.setK a (BitVec.ofInt 32 f.1), m := f.2 }).done core s 2

/-! ### Updates (R93 to R97, R122) -/

/-- GIBBS_UPDATE of one local index; none where no draw is left (R96, R97). FLIP says whether the state differs from the one
at launch. -/
def Member.gibbs (m : Member) (beta draws j : Nat) : Option Member :=
  match m.readField j, m.draw draws j with
  | f, some d =>
    let p := logistic (logisticArg beta f.1 m.exponent + 4096).toNat
    let up := decide (d.1.toNat / 256 < p)
    let launched := m.spinBit j != m.flip j
    let m := d.2.satIf 0 (clips32 (m.field j))
    some ((m.setBit 0xD400 j up).setFlip j (up != launched))
  | _, none => none

/-- Gibbs updates in ascending local index; none once a draw is missing (R97, R101). -/
def Member.gibbsAll (m : Member) (beta draws : Nat) : List Nat → Option Member
  | [] => some m
  | j :: js => match m.gibbs beta draws j with | some m => m.gibbsAll beta draws js | none => none

/-- The upset of a core's logistic table (R109). -/
def State.tableUpset (s : State) (c : Nat) : Bool := s.upsets.any fun u => u = .logistic c

/-- The Gibbs update of some local indices by an instruction. A table parity fault fences and castles the core (R109, R587). -/
def gibbsRun (c : Nat) (js : List Nat) (s : State) (i : Issue) : Done :=
  if js ≠ [] && s.tableUpset c then .hold ((s.modCore c fun co => { co with tableParity := true }).coreFault c 0x0003)
  else
    match i.m.gibbsAll (i.x.beta i.m.replica i.r.epoch) i.x.draws js with
    | some m => ({ i with m := m }).done c s ((js.length + max 1 (s.workingLanes c) - 1) / max 1 (s.workingLanes c) + 6)
    | none => .fault s 7

/-- UPDC: Gibbs update of every binary variable of the phase's colour (R122). -/
def execUpdc (core : Nat) (s : State) : Out :=
  issueOn core (.updc core) (some 2) s fun s i => gibbsRun core (i.m.ofColour i.r.phase) s i

/-- UPDM: Gibbs update of the masked variables of the phase's colour (R122, R128). -/
def execUpdm (core : Nat) (a : BitVec 5) (b : BitVec 4) (n : BitVec 3) (s : State) : Out :=
  issueOn core (.updm core a b n) (some 2) s fun s i =>
    let base := (i.co.kreg a).toNat
    let q := vecQword (i.co.wreg b) n.toNat
    if base % 64 ≠ 0 then .fault s 5
    else
      gibbsRun core (((List.range 64).filter fun t => bitAt q t = 1 && base + t < i.m.varCount &&
        i.m.colour (base + t) = i.r.phase).map fun t => base + t) s i

/-! ### Relaxation (R149 to R153) -/

/-- RELAX_STEP of one local index with its two draws; the fields are those of the phase's launch (R100, R151). -/
def Member.relax (m : Member) (rc : RelaxConst) (pump noise : Int) (draws j : Nat) : Option Member :=
  match m.draw draws j with
  | none => none
  | some d0 =>
    match d0.2.draw draws j with
    | none => none
    | some d1 =>
      let h := sat32 (m.field j)
      let o0 := d0.1.toNat
      let o1 := d1.1.toNat
      let g : Int := (bitsAt o0 31 20 + bitsAt o0 19 8 + bitsAt o1 31 20 + bitsAt o1 19 8 : Nat) - 8190
      let e := m.exponent
      let k := (max 24 (16 - e)).toNat
      let x := m.relaxX j
      let n := (rc.dt : Int) * (-((rc.a0 : Int) - pump) * x * (2 ^ (k - 24) : Nat) +
        (rc.c : Int) * h * (2 ^ (e - 16 + k).toNat : Nat) + noise * g * (2 ^ (k - 21) : Nat))
      let y := m.relaxY j + rhe n k
      let y' := clampInt (-32768) 32767 y
      let x1 := x + rhe ((rc.dt : Int) * rc.a0 * y') 24
      let wall := 16384 < x1 || x1 < -16384
      let x2 := clampInt (-16384) 16384 x1
      let y2 := if wall then 0 else y'
      let m := (d1.2.satIf 0 (clips32 (m.field j))).satIf 3 (decide (y ≠ y'))
      let before := (m.old.at j).getD (m.xhat j)
      let m := if (m.old.at j).isNone then { m with old := m.old.put j (m.xhat j) } else m
      let m := m.put (0xD400 + 4 * j) (leBytes 2 (toField 16 x2) ++ leBytes 2 (toField 16 y2))
      some (m.setFlip j (decide (m.xhat j ≠ before)))

/-- RLXC: a relaxation step of every variable of the block (R122, R151). -/
def Member.relaxAll (m : Member) (rc : RelaxConst) (pump noise : Int) (draws : Nat) : List Nat → Option Member
  | [] => some m
  | j :: js => match m.relax rc pump noise draws j with | some m => m.relaxAll rc pump noise draws js | none => none

/-- RLXC (R122, R151, R155). -/
def execRlxc (core : Nat) (s : State) : Out :=
  issueOn core (.rlxc core) (some 2) s fun s i =>
    let rc := i.x.curves.relax.getD { dt := 0, a0 := 0, c := 0, interval := 0 }
    match i.m.relaxAll rc (curveAt i.x.curves.pump i.r.epoch) (curveAt i.x.curves.noise i.r.epoch) i.x.draws i.m.locals with
    | some m => ({ i with m := m }).done core s ((i.m.varCount + 7) / 8 * 2 + 8)
    | none => .fault s 7

/-! ### Draws and masks (R97, R122, R181) -/

/-- DRAW: kA is the next draw of local index kB (R97, R122). -/
def execDraw (core : Nat) (a b : BitVec 5) (s : State) : Out :=
  issueOn core (.draw core a b) (some 2) s fun s i =>
    let j := (i.co.kreg b).toNat
    if i.m.varCount ≤ j then .fault s 5
    else
      match i.m.draw i.x.draws j with
      | some d => ({ i with co := i.co.setK a d.1, m := d.2 }).done core s 2
      | none => .fault s 7

/-- MASK: qword n of wA is the Bernoulli mask of two draws of local index kB with probability kC[15:0] (R122, R181). -/
def execMask (core : Nat) (a : BitVec 4) (b c : BitVec 5) (n : BitVec 3) (s : State) : Out :=
  issueOn core (.mask core a b c n) (some 2) s fun s i =>
    let j := (i.co.kreg b).toNat
    let p := (i.co.kreg c).toNat
    if i.m.varCount ≤ j ∨ 2 ^ 16 ≤ p then .fault s 5
    else
      match i.m.draw i.x.draws j with
      | none => .fault s 7
      | some d0 =>
        match d0.2.draw i.x.draws j with
        | none => .fault s 7
        | some d1 =>
          let bits := maskBits (d1.1.toNat * 2 ^ 32 + d0.1.toNat) p
          ({ i with co := i.co.setW a (setVecQword (i.co.wreg a) n.toNat bits), m := d1.2 }).done core s 8

/-- Hands some local indices to the sieve, each with its next draw; none once a draw is missing (R97, R98). -/
def Member.handAll (m : Member) (draws : Nat) : List Nat → Option (Member × List (Nat × Word))
  | [] => some (m, [])
  | j :: js =>
    match m.draw draws j with
    | none => none
    | some d => match d.2.handAll draws js with | some r => some (r.1, (j, d.1) :: r.2) | none => none

/-- SIEVEC: hands every categorical variable of the phase's colour to the cluster's sieve, with its next draw, and waits for
the states; requests that find the queue full wait with the core (R98, R122, R190). -/
def execSievec (core : Nat) (s : State) : Out :=
  issueOn core (.sievec core) (some 2) s fun s i =>
    match i.m.handAll i.x.draws (i.m.ofColour i.r.phase) with
    | none => .fault s 7
    | some (m, reqs) =>
      if reqs = [] then ({ i with m := m }).done core s
      else
        let i := ({ i with m := m }).withRun fun r => { r with wait := .sieve reqs.length }
        let more : List SieveReq := reqs.map fun q => { core := core, member := i.r.member, index := q.1, draw := q.2 }
        .hold ((s.setCore core (i.withMember m)).modCluster (clusterOf core) fun k =>
          Cluster.fillSieve { k with sieveWait := k.sieveWait ++ more })

end Sys2Proof.Machine
end

