-- ==== Sys2Proof/Machine/Post.lean ====
section
/-! DEFINITION. Machine/Post.lean: messages, broadcast, sync, phase completion, reduction and fingerprint instructions (R126,
R127, R131 to R134, R233 to R236, R248). -/

namespace Sys2Proof.Machine

/-! ### State messages (R230 to R236) -/

/-- The message of the running member to one destination (R233, R234, R236). -/
def Issue.message (i : Issue) (s : State) (k : Block) (d : Destination × List Nat) : StateMsg :=
  let own := d.1.part = i.x.partIndex
  let part := i.x.parts[d.1.part]?
  let dest := if own then i.x.block d.1.block
    else match part with | some p => (match p.image with | some h => h.blocks[d.1.block]? | none => none) | none => none
  let m := i.m
  let ms := d.2
  { configTag := i.x.configTag, epoch := i.r.epoch, phase := i.r.phase
    kind := if m.kind = 2 then .relaxation else if m.kind = 1 then .categorical else .binary
    prologue := false
    empty := if m.kind = 1 then !ms.any fun j => m.flip j && m.colour j = i.r.phase else !ms.any fun j => m.flip j
    runGen := i.x.runGen
    keyBase := if m.kind = 1 then 0
      else match dest with | some b => keyBase b (k.varBase + (ms[0]?).getD 0) | none => 0
    srcPart := i.x.partIndex, srcVarBase := m.varBase, destBlock := d.1.block, replica := m.replica, newRung := 0
    destPart := d.1.part
    destSlot := if own then i.n else match part with | some p => p.slot | none => 0
    destModule := if own then s.fabric.moduleId else match part with | some p => p.module | none => 0
    member := ms
    vals := ms.map fun j => if m.kind = 2 then m.change j else if m.kind = 1 then (m.catState j : Int) else m.spin j
    flip := ms.map fun j => m.flip j }

/-- The destinations of the running member with a member of the phase's colour, inside its fold group or outside (R134, R233). -/
def Issue.destinations (i : Issue) (inside : Bool) : List (Block × (Destination × List Nat)) :=
  match i.x.image, i.x.block i.m.block with
  | some g, some k =>
    ((g.routes i.x.parts k).filter fun d =>
      (decide (d.1.part = i.x.partIndex) && (i.co.memberIndex i.m.replica d.1.block).isSome) = inside).map fun d => (k, d)
  | _, _ => []

/-- Those of them that list the phase's colour (R233). -/
def Issue.coloured (i : Issue) (inside : Bool) : List (Block × (Destination × List Nat)) :=
  (i.destinations inside).filter fun e => routeHasColour e.1 e.2.2 i.r.phase

/-- Queues, once per phase, what the member's changed variables owe to the other members of its group (R134). -/
def Issue.queueOwed (i : Issue) (s : State) : Issue :=
  if i.r.queued then i
  else
    let own := (i.coloured true).map fun e => i.message s e.1 e.2
    let r := { i.r with queued := true }
    { i with r := r, co := { i.co with run := some r, held := i.co.held ++ own } }

/-- The running member with its message staging area written: free bytes from here on (R123, log 79). -/
def Issue.staged (i : Issue) (s : State) : Issue :=
  { i with co := i.co.modMember i.r.member fun m => m.stage s.free, m := i.m.stage s.free }

/-- SMSG: one state message to every destination outside the fold group whose route record lists the phase's colour; a second
SMSG raises PHASE_ORDER (R126, R132, R233). In a fold group the messages wait for the last member's END (R134). SMSG reads the spilled
records, and it writes the message staging area, whose layout the manual does not give (R123, R126, log 79). -/
def execSmsg (core : Nat) (s : State) : Out :=
  issueOn core (.smsg core) (some 4) s fun s i =>
    if i.r.smsgDone then .fault s 6
    else
      match s.readSpill i.n core i.r.epoch i.m with
      | (s, false) => .hold s
      | (s, true) =>
        let j := i.queueOwed s
        let out := (j.coloured false).map fun e => j.message s e.1 e.2
        let r := { j.r with smsgDone := true }
        let i := j.staged s
        let s := s.nextFree.2
        if i.co.members.length = 1 then
          .retire (out.foldl (fun s m => s.send (.state m)) (s.setCore core { i.co with run := some r })) none (1 + out.length)
        else onCore core s { i.co with run := some r, outbox := i.co.outbox ++ out } (1 + out.length)

/-! ### The broadcast chain (R126, R247, R248) -/

/-- The successor of a block in the slot's chain (R247). -/
def Slot.nextInChain (x : Slot) (b : Nat) : Nat := (b + 1) % max 1 x.blockCount

/-- A vector on its way to the next core of the chain (R247, R248). -/
def Issue.vector (i : Issue) (w : BitVec 512) : BcastMsg :=
  { slot := i.n, replica := i.m.replica, block := i.x.nextInChain i.m.block, epoch := i.r.epoch, phase := i.r.phase,
    runGen := i.x.runGen, data := w }

/-- Whether the receiver of the next vector has a free place among its 4 (R248). -/
def Issue.roomNext (i : Issue) (s : State) : Bool :=
  match s.directory i.n i.m.replica (i.x.nextInChain i.m.block) with
  | some p => (s.core p.1).vectors.length < 4
  | none => false

/-- BCST: sends wA to the next core of the chain, waiting while its buffer is full (R126). It writes the message staging area, whose
layout the manual does not give (R123, log 79). -/
def execBcst (core : Nat) (a : BitVec 4) (s : State) : Out :=
  issueOn core (.bcst core a) none s fun s i =>
    if i.roomNext s then .retire ((s.nextFree.2.setCore core (i.staged s).co).send (.bcast (i.vector (i.co.wreg a)))) none 1 else .again

/-- Takes the oldest held vector of the running member whose tag is its own phase (R248). -/
def Issue.takeVector (i : Issue) : Option (BcastMsg × Core) :=
  let is := fun (v : BcastMsg) =>
    v.replica = i.m.replica && v.block = i.m.block && v.epoch = i.r.epoch && v.phase = i.r.phase
  match i.co.vectors.find? is with
  | some v => some (v, { i.co with vectors := i.co.vectors.erase v })
  | none => none

/-- BRCV: waits for the next vector of the current phase; with PASS the core forwards it (R126, R248). -/
def execBrcv (core : Nat) (a : BitVec 4) (pass : Bool) (s : State) : Out :=
  issueOn core (.brcv core a pass) none s fun s i =>
    match i.takeVector with
    | some (v, co) =>
      let s := s.setCore core (co.setW a v.data)
      .retire (if pass then s.send (.bcast (i.vector v.data)) else s) none 1
    | none => .hold (s.setCore core (i.withRun fun r => { r with wait := .brcv }).co)

/-! ### Sync objects (R126, R243 to R246) -/

/-- The hall address that a handle of the slot names; none for one above 255 or unbound (R128, R244). -/
def Issue.handle (i : Issue) (k : Word) : Option Nat := if 255 < k.toNat then none else i.x.handles.at k.toNat

/-- Whether an EPOCH object of this module cannot take the epoch of an issuer of its run generation yet (R235, R244). -/
def State.beyondWindow (s : State) (hall e runGen : Nat) : Bool :=
  decide (hallModule hall = s.fabric.moduleId) &&
    match syncAt (hallLocal hall) with
    | some p => (match s.object p with | some o => o.mode = 2 && runGen = s.objectGen o && o.bankEpoch + 1 < e | none => false)
    | none => false

/-- SIG: signals a count to the object a handle names (R126, R244). A SIG to an object of another module waits for that module's answer,
which comes once the object's window has reached the epoch. DEDUCED (log 83). -/
def execSig (core : Nat) (a : BitVec 5) (count : BitVec 9) (s : State) : Out :=
  issueOn core (.sig core a count) none s fun s i =>
    match i.handle (i.co.kreg a) with
    | none => .fault s 5
    | some hall =>
      if s.beyondWindow hall i.r.epoch i.x.runGen then .again
      else if hallModule hall = s.fabric.moduleId then
        .retire ((s.setCore core i.co).signalTo hall count.toNat i.r.epoch i.x.runGen i.n (syncUnit (clusterOf core)) core) none 1
      else
        match (s.setCore core (i.withRun fun r => { r with wait := .signal }).co).sendRequest .signal hall count.toNat 0 0 i.x.runGen
            i.r.epoch [] none (syncUnit (clusterOf core)) (some (core, i.r.epoch)) with
        | (s, none) => .hold s
        | (s, some _) => .retire s none 1

/-- WAIT: registers with the object a handle names and waits for its notice (R126, R244, R246). -/
def execWait (core : Nat) (a : BitVec 5) (s : State) : Out :=
  issueOn core (.wait core a) none s fun s i =>
    match i.handle (i.co.kreg a) with
    | none => .fault s 5
    | some hall =>
      if s.beyondWindow hall i.r.epoch i.x.runGen then .again
      else
        let s := s.setCore core (i.withRun fun r => { r with wait := .sync }).co
        if hallModule hall = s.fabric.moduleId then
          .hold (s.send (.waitReg { object := hall, epoch := i.r.epoch, runGen := i.x.runGen, slot := i.n,
                                    waiter := .core core i.r.epoch }))
        else
          .hold (s.sendRequest .waitReg hall core 0 0 i.x.runGen i.r.epoch [] none (syncUnit (clusterOf core))).1

/-! ### Phase completion (R126, R131, R132, R212, R222) -/

/-- Whether PDONE breaks a condition of R132. -/
def Issue.pdoneBreaks (i : Issue) : Bool :=
  i.r.pdone || !i.r.fprDone || (!i.r.smsgDone && i.destinations false ≠ []) ||
    (i.m.kind ≠ 1 && (List.range 32).any fun h => i.m.groupFlipped h && !i.r.pushed.contains h)

/-- Partials of a block-replica still on their way arrive at their nodes before its epoch closes: order per source,
destination and virtual channel is kept (R212). -/
def State.flushPartials (s : State) (i : Issue) : State :=
  let mine := fun (m : Msg) => match m with
    | .part p => p.tree ≠ 16 && p.slot = i.n && p.replica = i.m.replica && p.block = i.m.block && p.epoch = i.r.epoch &&
        p.module = s.fabric.moduleId && p.runGen = i.x.runGen
    | _ => false
  let ps := s.net.filter mine
  ps.foldl (fun s m => match m with | .part p => s.partialArrive p | _ => s) { s with net := s.net.filter fun m => !mine m }

/-- The group's phase is complete, its last member's PDONE retired and no member faulted: every member that ran counts toward the
phase fingerprint, and after the last phase of an epoch closes the epoch, in member order (R134, R212, R222, R263). -/
def State.groupComplete (s : State) (core : Nat) (i : Issue) : State :=
  let ran := ((List.range i.co.members.length).zip i.co.members).filter fun p => p.2.replica < i.x.runs
  let s := ran.foldl (fun s p => s.fpComplete i.n p.2.replica i.r.epoch i.r.phase) s
  if i.r.phase + 1 = i.x.colours then ran.foldl (fun s p => s.epochClose core p.1 i.r.epoch) s else s

/-- PDONE: the member completes its phase: held vectors of it go, and the last member of the group completes the group's phase (R126,
R134, R212, R222, R248, R263). -/
def execPdone (core : Nat) (s : State) : Out :=
  issueOn core (.pdone core) (some 5) s fun s i =>
    if i.pdoneBreaks then .fault s 6
    else
      let i := i.queueOwed s
      let r := { i.r with pdone := true }
      let last := (i.co.nextMember i.x (i.r.member + 1)).isNone && !i.co.members.any fun m => m.faulted
      let later := fun (v : BcastMsg) => i.r.epoch < v.epoch || (v.epoch = i.r.epoch && i.r.phase < v.phase)
      let co := { i.co with
        run := some r
        vectors := i.co.vectors.filter fun v => v.replica ≠ i.m.replica || v.block ≠ i.m.block || later v
        launch := if last then { i.co.launch with done := some (i.r.epoch, i.r.phase) } else i.co.launch }
      let s := (s.setCore core co).flushPartials i
      .retire ((if last then s.groupComplete core i else s).settle i.n) none 1

/-! ### Reduction and fingerprint (R127, R196 to R202, R263) -/

/-- A partial of the running member (R127, R211). -/
def Issue.sends (i : Issue) (s : State) (c tree leaf : Nat) (v : PartialVal) (sat : Bool) : Msg :=
  .part { module := s.fabric.moduleId, slot := i.n, configTag := i.x.configTag, replica := i.m.replica, tree := tree,
          epoch := i.r.epoch, leaf := leaf, block := i.m.block, cluster := clusterOf c, runGen := i.x.runGen, val := v,
          floatSat := sat }

/-- An integer value as it enters a tree: an exact pair in a float tree (R202). -/
def treeInt (tree : Nat) (v : Int) : PartialVal :=
  if tree < 8 then .int v
  else let w := packPair (normPair (intPair v)).1; .pair w.1 w.2

/-- Whether a tree number and leaf range are allowed: at most 15, in use, leaves of pass 0 (R128, R198, R199). -/
def Issue.treeOk (i : Issue) (tree leaf : Nat) : Bool := tree ≤ 15 && leaf < 2 ^ 24 && bitAt i.x.treeMask tree = 1

/-- REDI: kC as an integer partial to leaf kB of tree kA (R127). -/
def execRedi (core : Nat) (a b c : BitVec 5) (s : State) : Out :=
  issueOn core (.redi core a b c) none s fun s i =>
    let tree := (i.co.kreg a).toNat
    let leaf := (i.co.kreg b).toNat
    if !i.treeOk tree leaf then .fault s 5
    else
      .retire ((s.setCore core i.co).send (i.sends s core tree leaf (treeInt tree (i.co.kreg c).toInt) false)) none 1

/-- REDF: the pair in words n and n + 1 of wC to leaf kB of tree kA; an integer tree, an odd n or a NaN raises VALUE_RANGE, an
overflow sets FLOAT_SAT (R127, R128, R198, R202). -/
def execRedf (core : Nat) (a b : BitVec 5) (c n : BitVec 4) (s : State) : Out :=
  issueOn core (.redf core a b c n) none s fun s i =>
    let tree := (i.co.kreg a).toNat
    let leaf := (i.co.kreg b).toNat
    let w := i.co.wreg c
    let w0 := vecWord w n.toNat
    let w1 := vecWord w (n.toNat + 1)
    if !i.treeOk tree leaf || tree < 8 || n.toNat % 2 = 1 || f32IsNan w0.toNat || f32IsNan w1.toNat then .fault s 5
    else
      let p := redfWord w0
      let q := redfWord w1
      let r := normPair (p.1, q.1)
      let sat := p.2 || q.2 || r.2
      let v := packPair r.1
      let s' := s.setCore core (i.withMember (i.m.satIf 4 sat))
      .retire (s'.send (i.sends s core tree leaf (.pair v.1 v.2) sat)) none 1

/-- REDA: the 64 values of accA as integer partials to leaves kC + 8r + c of tree kB (R127). -/
def execReda (core : Nat) (acc : BitVec 3) (b c : BitVec 5) (s : State) : Out :=
  issueOn core (.reda core acc b c) none s fun s i =>
    let tree := (i.co.kreg b).toNat
    let leaf := (i.co.kreg c).toNat
    if !i.treeOk tree (leaf + 63) then .fault s 5
    else
      .retire ((List.range 64).foldl (fun t e =>
        t.send (i.sends s core tree (leaf + e) (treeInt tree (i.co.accreg acc (e / 8) (e % 8))) false))
        (s.setCore core i.co)) none 8

/-- FPR: the fingerprint terms of the phase's colour; a second FPR raises PHASE_ORDER (R127, R132, R261, R263). -/
def execFpr (core : Nat) (s : State) : Out :=
  issueOn core (.fpr core) (some 3) s fun s i =>
    if i.r.fprDone then .fault s 6
    else
      let js := i.m.ofColour i.r.phase
      let s := s.setCore core (i.withRun fun r => { r with fprDone := true }).co
      .retire (s.modSlot i.n fun x => x.modFp i.m.replica i.r.epoch i.r.phase fun f =>
        { f with sum := (f.sum + i.m.fpSum js) % 2 ^ 64 }) none ((js.length + 7) / 8 + 2)

end Sys2Proof.Machine
end

