-- ==== Sys2Proof/Machine/Network.lean ====
section
/-! DEFINITION. Machine/Network.lean: the units of a cluster and the stations as targets of the network, the way of a message from its source to
its destination, its virtual channel and control word, and the order in which messages arrive (R237, R278 to R281, R285, R286, R288,
R291, R292, R297). -/

namespace Sys2Proof.Machine

/-! ### Targets (R278, R291) -/

/-- A target of a cluster's crossbar (R278). -/
inductive Target where
  | core (n : Nat)
  | slice (n : Nat)
  | syncUnit
  | nodes
  | sieve
  | agent
  | meshRouter
  deriving DecidableEq, Repr

/-- The crossbar port of a target (R278). -/
def Target.port : Target → Nat
  | .core n => n
  | .slice n => 64 + n
  | .syncUnit => 96
  | .nodes => 97
  | .sieve => 98
  | .agent => 99
  | .meshRouter => 100

/-- The target at a crossbar port, if there is one (R278). -/
def targetAt (p : Nat) : Option Target :=
  if p < 64 then some (.core p)
  else if p < 96 then some (.slice (p - 64))
  else if p = 96 then some .syncUnit
  else if p = 97 then some .nodes
  else if p = 98 then some .sieve
  else if p = 99 then some .agent
  else if p = 100 then some .meshRouter
  else none

/-- A port station (R28, R291). -/
inductive Station where
  | hbm (n : Nat)
  | larder (n : Nat)
  | fabric (n : Nat)
  | host
  deriving DecidableEq, Repr

/-- The cluster at whose router a station stands (R291). -/
def Station.cluster : Station → Nat
  | .hbm n => [12, 60, 108, 23, 71, 119].getD n 0
  | .larder n => [84, 95].getD n 0
  | .fabric n => [1, 3, 5, 7, 9, 11, 133, 135, 137, 139, 141, 143].getD n 0
  | .host => 2

/-- Every port station (R28, R291). -/
def stations : List Station :=
  (List.range 6).map .hbm ++ (List.range 2).map .larder ++ (List.range 12).map .fabric ++ [.host]

/-- The station at a cluster's router (R291). -/
def stationAt (k : Nat) : Option Station := stations.find? fun t => t.cluster = k

/-- The side of its router where a station stands: 0 north, 1 east, 2 south, 3 west (R291). -/
def Station.side : Station → Nat
  | .hbm n => if n < 3 then 3 else 1
  | .larder n => if n = 0 then 3 else 1
  | .fabric n => if n < 6 then 0 else 2
  | .host => 0

/-- The die on which a station lies: the module's quarters (R291). -/
def Station.die (t : Station) : Nat := t.cluster / 72 * 2 + t.cluster % 12 / 6

/-- The side of a cluster's router where a port station stands, if any (R291). -/
def stationSide (k : Nat) : Option Nat := (stationAt k).map Station.side

/-- Where a packet for a local address goes: cluster and crossbar port, 100 for a station (R18, R225, R280, R286, R292, R308, R309). -/
def addressTarget (a : Nat) : Option (Nat × Nat) :=
  match regionOf a with
  | .slice k n => some (k, (Target.slice n).port)
  | .store c => some (clusterOf c, (Target.core (coreInCluster c)).port)
  | .sync k _ => some (k, Target.syncUnit.port)
  | .outside => none
  | _ =>
    let n := stationOf a
    some ((if n < 6 then Station.hbm n else .larder (n - 8)).cluster, Target.meshRouter.port)

/-! ### Virtual channels (R236, R237, R288, R359, R361) -/

/-- Flits of a state message (R236). -/
def StateMsg.flits (m : StateMsg) : Nat :=
  if m.empty || m.kind = .exchange then 1
  else if m.kind = .binary then 3 else 2 + (m.member.length + 31) / 32

/-- Virtual channel and flits of a message (R237, R239, R288, R359, R361). DESIGN CHOICE (log 88): a broadcast vector is two flits on VC2. -/
def Msg.channel : Msg → Nat × Nat
  | .state m => if m.flits = 1 then (0, 1) else (2, m.flits)
  | .bcast _ => (2, 2)
  | .part _ | .group _ | .close _ | .energy _ | .signal _ | .waitReg _ => (2, 1)
  | .fencedNotice _ _ _ | .sieve _ _ _ => (1, 1)
  | .request r | .broadcast _ r _ => match r.op with
    | .bulkRead => (3, 1)
    | .bulkWrite => (3, 2 + r.linesM1)
    | _ => (2, 1)
  | .response r => (1, 1 + r.data.length / 64)
  | _ => (0, 1)

/-- The control word of a flit (R286). -/
def controlWord (vc : Nat) (head tail poison : Bool) (cluster port lenM1 : Nat) : Word :=
  BitVec.ofNat 32 (vc % 4 * 2 ^ 30 + bitOf head * 2 ^ 29 + bitOf tail * 2 ^ 28 + bitOf poison * 2 ^ 27 + cluster % 2 ^ 8 * 2 ^ 19 +
    port % 2 ^ 7 * 2 ^ 12 + lenM1 % 2 ^ 8 * 2 ^ 4)

/-- The control words of the flits of a packet: only the head names the route and the length (R286). -/
def Packet.controlWords (p : Packet) : List Word :=
  (List.range p.flits.length).map fun i =>
    let tail := i + 1 = p.flits.length
    if i = 0 then controlWord p.vc true tail p.poison p.destCluster p.destPort (p.flits.length - 1)
    else controlWord p.vc false tail p.poison 0 0 0

/-! ### From where, and where to (R237, R239, R246, R247, R278, R285) -/

/-- A source of the network: a core, another unit of a cluster with its crossbar port, or what comes in from another module's part. -/
inductive Source where
  | core (c : Nat)
  | unit (cluster port : Nat)
  | outside (part : Nat)
  deriving DecidableEq, Repr

/-- The core that holds a block-replica. -/
def State.holder (s : State) (n q b : Nat) : Option Nat := (s.directory n q b).map fun p => p.1

/-- The block of a slot's image that begins at a variable. -/
def Slot.blockAt (x : Slot) (varBase : Nat) : Option Nat :=
  match x.image with
  | some g => (List.range g.blocks.length).find? fun b => match g.blocks[b]? with | some k => k.varBase = varBase | none => false
  | none => none

/-- The block before another in the broadcast chain (R247). -/
def Slot.prevInChain (x : Slot) (b : Nat) : Nat := (b + (max 1 x.blockCount - 1)) % max 1 x.blockCount

/-- The cluster of the object at a hall address. -/
def objectCluster (hall : Nat) : Option Nat := match regionOf (hallLocal hall) with | .sync k _ => some k | _ => none

/-- Who sends a message to a unit of this module, as far as the message says it. -/
def State.sender (s : State) (m : Msg) : Option Source :=
  match m with
  | .state m =>
    let x := s.slot m.destSlot
    if m.kind = .exchange then if m.srcPart = x.partIndex then some (.unit (x.rootCluster 0 16) 97) else some (.outside m.srcPart)
    else if m.srcPart = x.partIndex then
      (match x.blockAt m.srcVarBase with | some b => (s.holder m.destSlot m.replica b).map .core | none => none)
    else some (.outside m.srcPart)
  | .bcast m => (s.holder m.slot m.replica ((s.slot m.slot).prevInChain m.block)).map .core
  | .part m => if m.tree = 16 then some (.unit m.cluster 97) else (s.holder m.slot m.replica m.block).map .core
  | .group m => some (.unit m.cluster 97)
  | .close m => some (.unit m.cluster 97)
  | .energy m => some (.unit ((s.slot m.slot).rootCluster m.replica 16) 97)
  | .signal m => if m.source < 9216 then some (.core m.source) else if m.source < 65536 then some (.unit (m.source - 9216) 96) else none
  | .waitReg m => (match m.waiter with | .core c _ => some (.core c) | _ => none)
  | .notice _ object _ => (objectCluster object).map fun k => .unit k 96
  | _ => none

/-- Where a message to a unit of this module goes: cluster and crossbar port (R237, R278). -/
def State.destination (s : State) (m : Msg) : Option (Nat × Nat) :=
  let toCore := fun (c : Nat) => (clusterOf c, (Target.core (coreInCluster c)).port)
  match m with
  | .state m => (s.holder m.destSlot m.replica m.destBlock).map toCore
  | .bcast m => (s.holder m.slot m.replica m.block).map toCore
  | .part m => if m.tree = 16 then some ((s.slot m.slot).rootCluster m.replica 16, 97) else some (m.cluster, 97)
  | .group m => some ((s.slot m.slot).rootCluster m.replica m.tree, 97)
  | .close m => some ((s.slot m.slot).rootCluster m.replica m.tree, 97)
  | .energy m => some ((s.slot m.slot).rootCluster 0 16, 97)
  | .signal m => (objectCluster m.object).map fun k => (k, 96)
  | .waitReg m => (objectCluster m.object).map fun k => (k, 96)
  | .notice (.core c _) _ _ => some (toCore c)
  | .fencedNotice k _ _ => some (k, 99)
  | .sieve c _ _ => some (toCore c)
  | .request r => if hallModule r.address = s.fabric.moduleId then addressTarget (hallLocal r.address) else none
  | _ => none

/-- The cluster of a source, if it lies on this module. -/
def Source.cluster : Source → Option Nat
  | .core c => some (clusterOf c)
  | .unit k _ => some k
  | .outside _ => none

/-! ### The way of a vector (R281) -/

/-- How a broadcast vector goes to its successor: along the row link past the cores between, through the crossbar, or through the mesh
(R281). -/
inductive VectorWay where
  | row (past : List Nat)
  | crossbar
  | mesh
  deriving DecidableEq, Repr

/-- The way of a vector from one core to another (R281). -/
def vectorWay (a b : Nat) : VectorWay :=
  if clusterOf a ≠ clusterOf b then .mesh
  else if coreInCluster a / 8 ≠ coreInCluster b / 8 then .crossbar
  else .row ((List.range (max a b - min a b - 1)).map fun i => if a < b then a + 1 + i else a - 1 - i)

/-- Whether a message goes along a row link and through no crossbar (R281). -/
def State.byRow (s : State) (m : Msg) : Bool :=
  match m with
  | .bcast v =>
    (match s.sender m, s.holder v.slot v.replica v.block with
    | some (.core a), some b => (match vectorWay a b with | .row _ => true | _ => false)
    | _, _ => false)
  | _ => false

/-! ### Arriving in order (R285) -/

/-- Whether two messages go from one source to one destination on one virtual channel. -/
def State.sameWay (s : State) (a b : Msg) : Bool :=
  a.channel.1 = b.channel.1 && (s.sender a).isSome && (s.destination a).isSome && s.sender a = s.sender b && s.destination a = s.destination b

/-- Whether a message is in the mesh, in the input buffer of a router (R285, R289). -/
def State.inMesh (s : State) (m : Msg) : Bool :=
  s.clusters.any fun c => c.2.inputs.any fun i => i.2.any fun h => h.pkt.payload = some m

/-- Whether it is a message's turn to arrive: it is not in the mesh, and no earlier one on the same way is still to arrive (R285). A message
that no unit of this module sent came in from outside. -/
def State.turn (s : State) (m : Msg) : Bool :=
  !s.inMesh m && (!s.net.contains m || (match s.net.find? (s.sameWay m) with | some x => decide (x = m) | none => true))

/-- A message arrives at its target: it leaves the network, and the flits that the crossbar of the target's cluster takes count, unless
they were counted when the packet left the mesh (R279). -/
def State.accept (s : State) (m : Msg) : State :=
  let crossed := fun (k : Nat) => (s.cluster k).crossed.contains m
  match s.destination m with
  | some (k, p) =>
    let t := s.arrive m
    if crossed k then t.modCluster k fun c => { c with crossed := c.crossed.erase m }
    else if p = 100 || s.byRow m then t
    else (t.modCluster k fun c => { c with crossbarQuiet := 0 }).count k 0x0001 m.channel.2
  | none => s.arrive m

/-- What a message does at its target once it is its turn; until then it stays where it is (R285). -/
def State.take (s : State) (m : Msg) (go : State → State) : State := if s.turn m then go (s.accept m) else s

/-! ### Colander mode (R237, R297, R303) -/

/-- A FENCED answer of a core router is counted (R297, R303). -/
def State.fencedAnswer (s : State) (c : Nat) : State := s.modCore c fun x => { x with fencedAnswers := satInc 0xFFFF x.fencedAnswers }

/-- A message for a fenced core: a FENCED notice goes to the sending cluster's agent, and the message is discarded (R297). -/
def State.colanderNotice (s : State) (c : Nat) (cluster : Option Nat) (slot : Nat) : State :=
  match cluster with
  | some k => (s.fencedAnswer c).send (.fencedNotice k c slot)
  | none => s.fencedAnswer c

/-- The cluster of the unit that sent a message, if it lies on this module. -/
def State.senderCluster (s : State) (m : Msg) : Option Nat := match s.sender m with | some x => x.cluster | none => none

end Sys2Proof.Machine
end

