-- ==== Sys2Proof/Machine/Arrive.lean ====
section
/-! DEFINITION. Machine/Arrive.lean: messages that arrive at launch objects, cores, sieves, nodes, roots, parts and sync objects
(R187, R211 to R216, R227 to R229, R239, R241, R246, R248, R270 to R275, R450, R590). -/

namespace Sys2Proof.Machine

/-! ### State messages (R227, R229, R235, R237) -/

/-- A state, exchange-result or prologue message at its destination. A core that is fenced gives a FENCED notice to the sender's agent and
the message is discarded (R237, R297, R298), and so is one of another run generation (R235); one that comes before the launch object is armed waits in the router port (R229); one of
another configuration tag than that of the settings in force at its epoch, or at the start for a prologue, faults the slot (R164). -/
def State.stateArrive (s : State) (m : StateMsg) : State :=
  let n := m.destSlot
  let x := s.slot n
  match s.directory n m.replica m.destBlock with
  | none => s
  | some (c, _) =>
    let co := s.core c
    let k := clusterOf c
    if m.destModule ≠ s.fabric.moduleId then s
    else if co.colander then s.colanderNotice c (s.senderCluster (.state m)) n
    else if m.runGen ≠ x.runGen || co.kind ≠ .enabled then s
    else
      let s := s.count k 0x0005 1
      let s := if m.empty then s.count k 0x0006 1 else s
      if !co.launch.armed then s.modCore c fun co => { co with parked := co.parked ++ [m] }
      else if m.configTag ≠ (if m.prologue then x.configTag else (x.inForce m.epoch).tag) then s.tagFault k n m.replica m.epoch m.configTag
      else if m.kind = .exchange then
        ((s.modSlot n fun x => x.takeRung m.epoch m.replica m.newRung).onInput c n m).settle n
      else s.onInput c n m

/-- STATE_MESSAGE: a message arrives at a launch object (R227). -/
def execStateMessage (m : StateMsg) (s : State) : Out := .next (s.take (.state m) fun t => t.stateArrive m)

/-! ### Broadcast vectors (R248) -/

/-- A vector at its core: held, and taken at once by a BRCV that waits for its tag (R235, R248); a fenced core's router turns it away
(R297, R298). -/
def State.vectorArrive (s : State) (m : BcastMsg) : State :=
  match s.directory m.slot m.replica m.block with
  | none => s
  | some (c, _) =>
    let co := s.core c
    if co.colander then s.colanderNotice c (s.senderCluster (.bcast m)) m.slot
    else if m.runGen ≠ (s.slot m.slot).runGen then s
    else
      let s := s.setCore c { co with vectors := co.vectors ++ [m] }
      match s.waiting c with
      | none => s
      | some i =>
        match i.r.wait, i.takeVector, i.instr c with
        | .brcv, some (v, co), .brcv _ a pass =>
          let s := s.setCore c (co.setW a v.data)
          let s := if pass then s.send (.bcast (i.vector v.data)) else s
          s.retire c i (i.instr c) none 1
        | _, _, _ => s

/-- Whether a vector waits before its core, which holds up to 4 (R248). -/
def State.vectorWaits (s : State) (m : BcastMsg) : Bool :=
  match s.directory m.slot m.replica m.block with
  | none => false
  | some (c, _) => !(s.core c).colander && m.runGen = (s.slot m.slot).runGen && 4 ≤ (s.core c).vectors.length

/-- BROADCAST_VECTOR: a vector arrives at a core that has room for it, else it waits where it is (R248). -/
def execBroadcastVector (m : BcastMsg) (s : State) : Out :=
  .next (if s.vectorWaits m then (if s.net.contains (.bcast m) then s else s.send (.bcast m)) else s.take (.bcast m) fun t => t.vectorArrive m)

/-! ### The sieve (R46, R185 to R190) -/

/-- The state of a factor partner at the end of the previous phase (R47, R187). -/
def Member.partnerState (m : Member) (v : Nat) : Nat :=
  if m.varBase ≤ v && v < m.varBase + m.varCount then
    let j := v - m.varBase
    match m.old.at j with | some k => k.toNat | none => m.catState j
  else (m.partners.at v).getD 0

/-- The log-potential of state k of variable v: its unary entry and one entry of every factor (R46). -/
def Image.logPotential (g : Image) (m : Member) (cv : CatVar) (k : Nat) : Int :=
  g.factors.foldl (fun a f =>
    if f.a = cv.var then a + (f.table[k * f.kb + m.partnerState f.b]?).getD 0
    else if f.b = cv.var then a + (f.table[m.partnerState f.a * f.kb + k]?).getD 0
    else a) ((cv.unary[k]?).getD 0)

/-- Inserts a state into the order of R187: A descending, then index ascending. -/
def insertState (p : Nat × Int) : List (Nat × Int) → List (Nat × Int)
  | [] => [p]
  | q :: t => if q.2 < p.2 then p :: q :: t else q :: insertState p t

/-- The prefix that carries the nucleus mass: up to the first state whose cumulated weight reaches it (R187). -/
def nucleusCut (need : Nat) : Nat → List (Nat × Nat) → List (Nat × Nat)
  | _, [] => []
  | c, p :: t => if need ≤ (c + p.2) * 65536 then [p] else p :: nucleusCut need (c + p.2) t

/-- The state whose weight interval holds r, taken by index (R187). -/
def pickState (r : Nat) : Nat → List (Nat × Nat) → Nat
  | _, [] => 0
  | c, p :: t => if r < c + p.2 then p.1 else pickState r (c + p.2) t

/-- The sieve of R187: the drawn state and whether a log-potential was clipped. -/
def sieveDraw (logs : List Int) (beta topk nucleus : Nat) (o : Word) : Nat × Bool :=
  let ls := logs.map (clampInt (-65536) 65535)
  let order := ((List.range ls.length).zip ls).foldl (fun l p => insertState (p.1, p.2 * beta) l) []
  let keep := if 0 < topk && topk < order.length then order.take topk else order
  let top := match keep with | p :: _ => p.2 | [] => 0
  let w := keep.map fun p => (p.1, weight (rhe (top - p.2) 8).toNat)
  let total := fun (l : List (Nat × Nat)) => (l.map fun p => p.2).sum
  let w := if nucleus = 0 then w else nucleusCut (nucleus * total w) 0 w
  let r := o.toNat * total w / 2 ^ 32
  let byIndex := ((List.range ls.length).filterMap fun k => w.find? fun p => p.1 = k)
  (pickState r 0 byIndex, logs.any fun l => clampInt (-65536) 65535 l ≠ l)

/-- A returned state is written back with its FLIP bit; the core's SIEVEC retires with the last of them (R98, R190). -/
def State.sieveReturn (s : State) (q : SieveReq) (k : Nat) (sat : Bool) : State :=
  match s.waiting q.core with
  | some i =>
    match i.r.wait with
    | .sieve left =>
      let m := i.m
      let launched := match m.old.at q.index with | some v => v | none => (m.catState q.index : Int)
      let m := { (m.put (0xD400 + 2 * q.index) (leBytes 2 k)) with old := m.old.put q.index launched }
      let m := (m.setFlip q.index (decide ((k : Int) ≠ launched))).satIf 2 sat
      let r := { i.r with wait := if left ≤ 1 then .none else .sieve (left - 1) }
      let co := { (i.co.modMember i.r.member fun _ => m) with run := some r }
      let s := s.setCore q.core co
      if left ≤ 1 then s.retire q.core { i with co := co, m := m } (i.instr q.core) none 1 else s
    | _ => s
  | none => s

/-- SIEVE_REQUEST: the sieve serves the request that came first and returns the drawn state (R187, R190). A weight-table parity
fault takes the sieve out of use (R194). -/
def State.sieveServe (s : State) (k : Nat) : State :=
  let c := s.cluster k
  match c.sieveQueue with
  | [] => s
  | q :: rest =>
    if c.sieveOut then s
    else if s.upsets.any fun u => u = .weight k then s.sieveParity k
    else
      let co := s.core q.core
      let s := (s.setCluster k ({ c with sieveQueue := rest, sieveServed := (c.sieveServed + 1) % 2 ^ 32 }.fillSieve)).count k 0x0007 1
      match co.slot, co.members[q.member]?, co.run with
      | some n, some m, some r =>
        let x := s.slot n
        match x.image with
        | none => s
        | some g =>
          match g.cats.find? fun cv => cv.var = m.varBase + q.index with
          | none => s
          | some cv =>
            let logs := (List.range cv.states).map fun j => g.logPotential m cv j
            let d := sieveDraw logs (x.beta m.replica r.epoch) x.topk x.nucleus q.draw
            s.sieveReturn q d.1 d.2
      | _, _, _ => s

/-- SIEVE_REQUEST (R187). -/
def execSieveRequest (cluster : Nat) (s : State) : Out := unit (decide (cluster < 144)) s (.next (s.sieveServe cluster))

/-! ### Roots (R159, R213, R215 to R217, R239) -/

/-- A tree result is complete when the close tokens of every part add up: the record is kept for a capture epoch, FLOAT_SAT
joins the slot's flags, and an exchange tree's energy goes to the decision (R213, R216, R217, R239). -/
def State.rootCheck (s : State) (n q t e : Nat) : State :=
  let x := s.slot n
  match x.trees.find? fun f => f.replica = q && f.tree = t && f.epoch = e with
  | none => s
  | some f =>
    if f.result.isSome || !f.closed x.partCount then s
    else
      let r := f.record
      let combos := if t < 8 then 0 else f.float.2.2 - f.evaluated
      let s := s.modCluster (x.rootCluster q t) fun c => c.combines combos
      let x := if r.2 then { x with treeSatFrom := some (match x.treeSatFrom with | some p => min p e | none => e) } else x
      let drop := { x with trees := x.trees.filter fun g => !(g.replica = q && g.tree = t && g.epoch = e) }
      if t = 16 then
        let w := packPair f.float.1
        let s := s.setSlot n drop
        if q = 0 then ((s.modSlot n fun x => { x with energies := x.energies ++ [(e, 0, w.1, w.2)] }).exchangeDecide n e).settle n
        else s.send (.energy { slot := n, replica := q, epoch := e, runGen := x.runGen, s := w.1, c := w.2 })
      else if (x.captureIndex e).isSome then (s.setSlot n (x.modForm q t e fun f => { f with result := some r.1 })).settle n
      else (s.setSlot n drop).settle n

/-- REDUCTION_PARTIAL: a partial arrives at a reduction node, or an exchange partial at its root (R211). -/
def execReductionPartial (m : PartialMsg) (s : State) : Out :=
  .next (s.take (.part m) fun t =>
    let u := t.partialArrive m
    if m.tree = 16 then u.rootCheck m.slot m.replica 16 m.epoch else u)

/-- Whether a message to a root is for a slot of this module in its present run. -/
def State.atRoot (s : State) (module slot runGen : Nat) : Bool :=
  decide (module = s.fabric.moduleId) && decide (runGen = (s.slot slot).runGen) && (s.slot slot).active

/-- GROUP_VALUE: a group value or integer sum arrives at the tree's root, which adds, or evaluates the nodes whose groups are now all
present; two writers of one group collide (R210, R213, R220). -/
def State.groupArrive (s : State) (m : GroupMsg) : State :=
  let n := m.slot
  let x := s.slot n
  if !s.atRoot m.module n m.runGen then s
  else
    let root := x.rootCluster m.replica m.tree
    let add := fun (f : TreeForm) => { f with leafTop := max f.leafTop m.leafTop, anyLeaf := true, floatSat := f.floatSat || m.floatSat }
    match m.val with
    | .int v =>
      let y := x.modForm m.replica m.tree m.epoch fun f => { (add f) with sum := f.sum + v }
      ((s.setSlot n y).modCluster root fun c => c.combines 1).rootCheck n m.replica m.tree m.epoch
    | .pair a b =>
      let clash := x.trees.any fun f => f.replica = m.replica && f.tree = m.tree && f.epoch = m.epoch &&
        f.writers.any fun w => w.1 = m.group
      if clash then s.leafCollision root n m.replica m.tree m.epoch m.group
      else
        let put := fun (f : TreeForm) => { (add f) with
          groups := f.groups ++ [(m.group, (a, b))], writers := f.writers ++ [(m.group, m.part, m.block)] }
        let y := x.modForm m.replica m.tree m.epoch put
        let s := (s.setSlot n y).modCluster root fun c =>
          c.spill.combines (y.evaluatedOf m.replica m.tree m.epoch - x.evaluatedOf m.replica m.tree m.epoch)
        s.rootCheck n m.replica m.tree m.epoch

/-- GROUP_VALUE (R213). -/
def execGroupValue (m : GroupMsg) (s : State) : Out := .next (s.take (.group m) fun t => t.groupArrive m)

/-- A close token at the root, which may complete the tree result (R213). -/
def State.closeArrive (s : State) (m : CloseMsg) : State :=
  if !s.atRoot m.module m.slot m.runGen then s
  else
    (s.modSlot m.slot fun x => x.modForm m.replica m.tree m.epoch fun f =>
      { f with closes := f.closes ++ [(m.part, m.blockCount, m.closed)] }).rootCheck m.slot m.replica m.tree m.epoch

/-- CLOSE_TOKEN: it follows the group values and sums of its cluster on their way (R212, R213). -/
def execCloseToken (m : CloseMsg) (s : State) : Out := .next (s.take (.close m) fun t => t.closeArrive m)

/-- A replica's energy at the root of replica 0's exchange tree, which decides once it has every one (R160, R239). -/
def State.energyArrive (s : State) (m : EnergyMsg) : State :=
  let n := m.slot
  if !s.atRoot s.fabric.moduleId n m.runGen then s
  else ((s.modSlot n fun x => { x with energies := x.energies ++ [(m.epoch, m.replica, m.s, m.c)] }).exchangeDecide n m.epoch).settle n

/-- EXCHANGE_ENERGY (R160, R239). -/
def execExchangeEnergy (m : EnergyMsg) (s : State) : Out := .next (s.take (.energy m) fun t => t.energyArrive m)

/-! ### Stops (R241, R425) -/

/-- The H that a part replies with: the highest epoch launched, or the epoch before a named stop epoch where that is higher
(R241). -/
def State.freezeHighest (s : State) (n : Nat) : Nat :=
  let x := s.slot n
  let h := (s.highestLaunched n).getD (x.resume - 1)
  match x.drain with | some d => max h (d.named - 1) | none => h

/-- A core of a HARD stop that waits in WAIT or BRCV, or for the answer to a SIG (log 83), abandons its phase; nothing of it is committed
(R425, R573). -/
def Core.abandon (c : Core) : Core :=
  match c.run with
  | some r =>
    if r.wait = .sync || r.wait = .signal || r.wait = .brcv then { c with run := none, outbox := [], wasted := (c.wasted + 1) % 2 ^ 48 } else c
  | none => c

/-- FREEZE arrives at a part: FROZEN in every launch object of the slot, and the reply to part 0; a HARD one stops the slot at
its next phase boundaries (R241, R425). A part whose slot runs is STOPPING from now on; one that is LOADED or STOPPED keeps its state and
takes part in the stop (R240, R241). DEDUCED (log 82): a part in any other state takes none. -/
def State.freezeArrive (s : State) (n : Nat) (hard : Bool) : State :=
  let x := s.slot n
  if !x.active && hard then s.modSlot n fun x => { x with drain := none }
  else if !(x.active || x.state = .loaded || x.state = .stopped) then s
  else
    let d := x.drain.getD { hard := false, disable := false, named := 0, replies := [], limitSet := false, reported := [], orders := [],
                            disableOrder := none, aborted := false, engine := false }
    let d := if hard then { d with hard := true, limitSet := true } else d
    let s := (s.setSlot n { x with state := if x.active then .stopping else x.state, drain := some d }).freezeSlot n
    if hard then (s.modSlotCores n Core.abandon).checkHard n
    else if d.limitSet then s.thawSlot n
    else s.send (.freezeReply (s.partZero n).2 (s.partZero n).1 x.partIndex (s.freezeHighest n))

/-- FREEZE (R241). -/
def execFreeze (slot module : Nat) (hard : Bool) (s : State) : Out :=
  let s := s.arrive (.freeze slot module hard)
  .next (if module = s.fabric.moduleId then s.freezeArrive slot hard else s)

/-- floor(2^64 / D), the epoch limit of the draws (R176, R240). -/
def Slot.naturalLimit (x : Slot) : Nat := 2 ^ 64 / max 1 x.draws

/-- FREEZE_REPLY: at part 0; once every part has replied, LIMIT goes to all of them (R241). -/
def execFreezeReply (slot module part highest : Nat) (s : State) : Out :=
  let s := s.arrive (.freezeReply slot module part highest)
  let x := s.slot slot
  .next <|
    match x.drain with
    | none => s
    | some d =>
      if module ≠ s.fabric.moduleId || x.partIndex ≠ 0 || d.hard || d.limitSet || d.replies.any (fun r => r.1 = part) then s
      else
        let d := { d with replies := d.replies ++ [(part, highest)] }
        let s := s.setSlot slot { x with drain := some d }
        if (List.range x.partCount).all fun p => d.replies.any fun r => r.1 = p then
          let l := min x.naturalLimit (d.replies.foldl (fun a r => max a (r.2 + 1)) d.named)
          s.toParts slot fun m k => .limit k m l
        else s

/-- LIMIT arrives at a part: FROZEN clears and EPOCH_LIMIT is set; block-replicas that have closed its last epoch already give
their checkpoint record now (R241, R588). -/
def State.limitArrive (s : State) (n l : Nat) : State :=
  let x := s.slot n
  match x.drain with
  | none => s
  | some d =>
    if d.hard then s
    else
      let s := (s.setSlot n { x with epochLimit := l, drain := some { d with limitSet := true } }).thawSlot n
      let late := (s.slotMembers n).filter fun m => m.2.2.replica < x.runs && l ≠ 0 && m.2.2.closed = some (l - 1)
      let s := s.modSlot n fun x => late.foldl (fun x m => x.collect l m.2.2.replica m.2.2.block (m.2.2.record, m.2.2.sat)) x
      (s.settle n).finishDrain n

/-- LIMIT (R241). -/
def execLimit (slot module epochLimit : Nat) (s : State) : Out :=
  let s := s.arrive (.limit slot module epochLimit)
  .next (if module = s.fabric.moduleId then s.limitArrive slot epochLimit else s)

/-- DRAINED: at part 0, and from part 0 at the other parts; once every part has reported, the stop ends (R241, log 82). -/
def execDrained (slot module part : Nat) (s : State) : Out :=
  let s := s.arrive (.drained slot module part)
  let x := s.slot slot
  .next <|
    match x.drain with
    | none => s
    | some d =>
      if module ≠ s.fabric.moduleId then s
      else
        let d := { d with reported := if d.reported.contains part then d.reported else part :: d.reported }
        (s.setSlot slot { x with drain := some d }).finishDrain slot

/-- FAULT_NOTICE: the local part freezes and its slot becomes FAULTED with the status of the notice; a part that does not run leaves the
stop it took part in (R450, R625). -/
def execFaultNotice (slot module status : Nat) (s : State) : Out :=
  let s := s.arrive (.fault slot module status)
  .next (if module ≠ s.fabric.moduleId then s
    else if (s.slot slot).active then s.slotFault slot status (s.slotEpoch slot) false
    else s.modSlot slot fun x => { x with drain := none })

/-- CKPT_DONE: at part 0; once every part holds the checkpoint whole, the commit order goes to all of them (R590). -/
def execCkptDone (slot module part epoch : Nat) (s : State) : Out :=
  let s := s.arrive (.ckptDone slot module part epoch)
  let x := s.slot slot
  .next <|
    if module ≠ s.fabric.moduleId || x.partIndex ≠ 0 || !(x.active) then s
    else
      let l := if x.ckptDone.contains (part, epoch) then x.ckptDone else x.ckptDone ++ [(part, epoch)]
      if (List.range x.partCount).all fun p => l.contains (p, epoch) then
        (s.setSlot slot { x with ckptDone := l.filter fun d => d.2 ≠ epoch }).toParts slot fun m k => .ckptCommit k m epoch
      else s.setSlot slot { x with ckptDone := l }

/-- CKPT_COMMIT: COMMITTED is set on the part's copy (R590). -/
def execCkptCommit (slot module epoch : Nat) (s : State) : Out :=
  let s := s.arrive (.ckptCommit slot module epoch)
  .next (if module = s.fabric.moduleId then (((s.commit slot epoch).checkpointWrite slot).settle slot).finishDrain slot else s)

/-! ### Lock-step partners (R270 to R275) -/

/-- The slots whose lock-step on a port passes a test. -/
def State.lockSlots (s : State) (port : Nat) (ok : LockStep → Bool) : List Nat :=
  (s.slots.filter fun p => match p.2.lock with | some k => k.port = port && ok k | none => false).map fun p => p.1

/-- The slot whose LOCKSTEP_BEGIN waits for a HELLO on a port (R270). -/
def State.lockWaits (s : State) (port : Nat) : Option Nat := (s.lockSlots port fun k => k.order.isSome).head?

/-- The slot in lock-step with a partner's slot through a port (R270, R271). -/
def State.lockPair (s : State) (port slot : Nat) : Option Nat := (s.lockSlots port fun k => k.active && k.partnerSlot = slot).head?

/-- Compares the partner's HELLO with the own one and completes the LOCKSTEP_BEGIN that waits (R270). -/
def State.helloCompare (s : State) (n : Nat) (m : LockMsg) : State :=
  let x := s.slot n
  match x.lock with
  | none => s
  | some k =>
    match k.order with
    | none => s
    | some id =>
      let cause := if k.ownHello.1 ≠ m.digest then 1 else if k.ownHello.2 ≠ m.value then 2 else 0
      let k := { k with order := none, active := decide (cause = 0), partnerHello := some (m.digest, m.value),
                        partnerSlot := m.slot }
      let s := s.setSlot n { x with lock := some k }
      s.finishId id (if cause = 0 then Ending.ok else { status := 0x36, d17 := cause })

/-- HELLO: a partner's HELLO arrives; it waits for the LOCKSTEP_BEGIN of this module if that has not come (R270). -/
def execHello (port : Nat) (m : LockMsg) (s : State) : Out :=
  unit (decide (port < 12)) s <| .next <|
    match s.lockWaits port with
    | some n => (s.arrive (.hello port m)).helloCompare n m
    | none => (s.arrive (.hello port m)).send (.hello port m)

/-- FP: a partner's phase fingerprint arrives and is compared with the module's own (R272). -/
def execFp (port : Nat) (m : LockMsg) (s : State) : Out :=
  unit (decide (port < 12)) s <| .next <|
    let s := s.arrive (.fp port m)
    match s.lockPair port m.slot with
    | none => s
    | some n =>
      (s.modSlot n fun x => { x with lock := x.lock.map fun k =>
        { k with theirs := k.theirs ++ [(m.replica, m.epoch, m.phase, m.value)] } }).lockCompare n m.replica m.epoch m.phase

/-- HALT: the slot freezes and becomes FAULTED; a mismatch the module found itself stays the reported cause (R273). -/
def execHalt (port : Nat) (m : LockMsg) (s : State) : Out :=
  unit (decide (port < 12)) s <| .next <|
    let s := s.arrive (.halt port m)
    match s.lockPair port m.slot with
    | none => s
    | some n =>
      if (s.slot n).active then s.lockHalt n 4 (s.slotEpoch n, 0, 0) 0 0 false else s

/-- LS_END: the partner ended lock-step; the launch gate ends, and a HELLO of it that still waits for this module is void (R275). -/
def execLsEnd (port : Nat) (m : LockMsg) (s : State) : Out :=
  unit (decide (port < 12)) s <| .next <|
    let s := s.arrive (.lsEnd port m)
    match s.lockPair port m.slot with
    | none => { s with net := s.net.filter fun x => match x with | .hello p h => !(p = port && h.slot = m.slot) | _ => true }
    | some n => (s.modSlot n fun x => { x with lock := x.lock.map fun k => { k with active := false } }).tryLaunchSlot n

/-! ### Sync objects (R244 to R246) -/

/-- SYNC_OBJECT_SIGNAL (R245). -/
def execSyncObjectSignal (m : SyncSignal) (s : State) : Out := .next (s.take (.signal m) fun t => t.signalArrive m)

/-- WAITER_REGISTRATION (R246). -/
def execWaiterRegistration (m : WaitReg) (s : State) : Out := .next (s.take (.waitReg m) fun t => t.waitArrive m)

/-- The object a waiter of this module registered with fired: a core's WAIT retires, a SYNC_WAIT completes with the new generation (R246,
R436). -/
def State.noticeArrive (s : State) (w : Waiter) (generation : Nat) : State :=
  match if w.module = some s.fabric.moduleId then w.local else w with
  | .order id => s.finishId id (Ending.ok generation)
  | .remote _ _ _ => s
  | .core c e =>
    match s.waiting c with
    | some i => if i.r.wait = .sync && i.r.epoch = e then s.retire c i (i.instr c) none 1 else s
    | none => s

/-- WAITER_NOTICE: one for a waiter of another module goes on by the fabric (R246, R436). -/
def execWaiterNotice (w : Waiter) (object generation : Nat) (s : State) : Out :=
  .next (if w.module.getD s.fabric.moduleId = s.fabric.moduleId then s.take (.notice w object generation) fun t => t.noticeArrive w generation
    else s)

end Sys2Proof.Machine
end

