-- ==== Sys2Proof/Machine/Arbiter.lean ====
section
/-! DEFINITION. Machine/Arbiter.lean: doorbells, packet fetch and the passes of the command arbiter (R390 to R405, R464, R465, R467,
R556). -/

namespace Sys2Proof.Machine

/-! ### Reads of host memory (R399, R406) -/

/-- Whether the BARs of the host function answer (R386, R600). -/
def State.barsUp (s : State) : Bool := s.platform.rails && s.platform.linkSpeed ≠ 0 && !s.platform.d3hot

/-- Whether a read is of the memory of the management controller's PCIe host. -/
def HostRead.ofMgmt : HostRead → Bool
  | .mgmtPacket _ | .stage _ => true
  | _ => false

/-- Trackers of the host station for the module's reads of host memory: the tags it may use (R406). -/
def State.readShare (s : State) : Nat := if s.platform.pcie.tenBitTags then 768 else 256

/-- Reads of the host's own memory that hold a tracker. -/
def State.readsOpen (s : State) : Nat := (s.arbiter.reads.filter fun r => !r.2.ofMgmt).length

/-- Sends a module read of host memory; HOST_TRACK follows the reads of the host's own memory (R407). -/
def State.sendRead (s : State) (r : HostRead) : State :=
  let a := s.arbiter
  let s := { s with arbiter := { a with reads := a.reads ++ [(a.nextRead, r)], nextRead := a.nextRead + 1 } }
  if r.ofMgmt then s
  else { s with host := { s.host with inUse := s.host.inUse + 1, peak := max s.host.peak (s.host.inUse + 1) } }

/-- A module read of host memory: it takes a tracker of the host station, or waits for one (R406). -/
def State.hostRead (s : State) (r : HostRead) : State :=
  if !r.ofMgmt && s.readShare ≤ s.readsOpen then { s with arbiter := { s.arbiter with readsHeld := s.arbiter.readsHeld ++ [r] } }
  else s.sendRead r

/-- The oldest read that waits takes the tracker that is free now. -/
def State.nextHeld (s : State) : State :=
  match s.arbiter.readsHeld with
  | [] => s
  | r :: t => if s.readShare ≤ s.readsOpen then s else { s with arbiter := { s.arbiter with readsHeld := t } }.sendRead r

/-- The read of a tag is answered: it holds no tracker any more. -/
def State.endRead (s : State) (tag : Nat) : State :=
  let hosts := s.arbiter.reads.any fun r => r.1 = tag && !r.2.ofMgmt
  { s with
    arbiter := { s.arbiter with reads := s.arbiter.reads.filter fun r => r.1 ≠ tag }
    host := if hosts then { s.host with inUse := s.host.inUse - 1 } else s.host }.nextHeld

/-- The next packet of a running queue is fetched, one read at a time. -/
def State.fetchPacket (s : State) (q : Nat) : State :=
  let x := s.queue q
  let reading := (s.arbiter.reads.map (·.2) ++ s.arbiter.readsHeld).any fun r => match r with | .packet p _ => p = q | _ => false
  if x.run && !reading && x.fetchNext ≠ x.sqTail then s.hostRead (.packet q x.fetchNext) else s

/-- A packet arrives from a submission ring, or its fetch fails (R397, R399). One that the queue no longer waits for goes. -/
def State.packetFetched (s : State) (q index : Nat) (r : ReadResult) : State :=
  let x := s.queue q
  if x.run && index = x.fetchNext then
    match r with
    | .error | .timeout => s.queueError q 2
    | .data bs =>
      (s.setQueue q { x with fetchNext := (index + 1) % s.sqSize q
                             fetched := x.fetched ++ [BitVec.ofNat 512 (leNat (bs.take 64))] }).fetchPacket q
  else s.fetchPacket q

/-! ### Doorbells and RUN (R391, R392, R398) -/

/-- A doorbell value takes effect: out of range it is discarded with ERR, else it is kept (R391). -/
def State.doorbell (s : State) (q : Nat) (tail : Bool) (v : Nat) : State :=
  if tail then
    if s.sqSize q ≤ v then s.queueError q 1 else (s.modQueue q fun x => { x with sqTail := v }).fetchPacket q
  else if s.cqSize q ≤ v then s.queueError q 3
  else s.modQueue q fun x => { x with cqHead := v }

/-- Whether a posted write of the host to another module has neither a response nor timed out (R392). -/
def State.postedOpen (s : State) : Bool := s.host.bar4Open.any fun b => b.write

/-- Doorbells held behind posted writes take effect once none is open (R392). -/
def State.releaseDoorbells (s : State) : State :=
  if s.postedOpen then s
  else s.host.doorbells.foldl (fun s d => s.doorbell d.1 d.2.1 d.2.2) { s with host := { s.host with doorbells := [] } }

/-- A doorbell write of the host (R391, R392). -/
def State.doorbellWrite (s : State) (q : Nat) (tail : Bool) (v : Word) : State :=
  if !s.barsUp then s
  else if s.postedOpen then { s with host := { s.host with doorbells := s.host.doorbells ++ [(q, tail, v.toNat)] } }
  else s.doorbell q tail v.toNat

/-- SQ_TAIL (R391). -/
def execSqTail (queue : Nat) (v : Word) (s : State) : Out :=
  unit (decide (queue < 64)) s (.next (s.doorbellWrite queue true v))

/-- CQ_HEAD (R391). -/
def execCqHead (queue : Nat) (v : Word) (s : State) : Out :=
  unit (decide (queue < 64)) s (.next (s.doorbellWrite queue false v))

/-- Sets or clears RUN of a queue; packets fetched ahead are fetched again when it runs (R398). A queue that a parity mismatch
stopped stays stopped until a strobe (R478). -/
def State.setRun (s : State) (q : Nat) (b : Bool) : State :=
  let x := s.queue q
  if b then
    if x.run || x.parityStop then s else (s.setQueue q { x with run := true }).fetchPacket q
  else s.setQueue q { x with run := false, fetched := [], fetchNext := x.sqHead }

/-- A one-bit field after a write of that bit through a page (R473). -/
def pageBit (page : Page) (old new : Bool) : Bool :=
  match page with
  | .value => new
  | .set => old || new
  | .clear => old && !new
  | .toggle => if new then !old else old

/-! ### Parity of a queue (R478, R483) -/

/-- A queue whose live registers fail their check stops (R478, R483). -/
def State.checkQueue (s : State) (q : Nat) : State :=
  if s.liveBad 1 q && !(s.queue q).parityStop then
    ((s.setRun q false).modQueue q fun x => { x with parityStop := true }).parityReport 1 q
  else s

/-! ### Which commands exist and what they name (R397, R398, R409) -/

/-- Host opcodes (R409). -/
def hostOpcodes : List Nat :=
  [0x00, 0x01, 0x02, 0x03, 0x08, 0x09, 0x0A, 0x10, 0x11, 0x12, 0x18, 0x19, 0x1A, 0x1B, 0x1C, 0x1D, 0x1E, 0x20, 0x21, 0x22,
   0x28, 0x29, 0x2A, 0x2B, 0x30, 0x31, 0x38, 0x39, 0x40, 0x41, 0x42, 0x48, 0x49, 0x50, 0x51, 0x58, 0x59, 0x60, 0x61]

/-- Privileged opcodes (R398). -/
def privilegedOpcodes : List Nat := [0x08, 0x09, 0x0A, 0x38, 0x39, 0x40, 0x41, 0x42, 0x48, 0x49, 0x50, 0x51, 0x58, 0x59]

/-- Opcodes whose TARGET is a slot (R409); some also take 0xFFFF. -/
def slotOpcodes : List Nat :=
  [0x02, 0x11, 0x12, 0x18, 0x19, 0x1A, 0x1B, 0x1C, 0x1D, 0x1E, 0x20, 0x21, 0x22, 0x28, 0x29, 0x31, 0x50, 0x51]

/-- The slot an order names in its TARGET. -/
def Order.slot? (o : Order) : Option Nat :=
  if o.source ≠ 0x80 && slotOpcodes.contains o.opcode && o.target < 48 then some o.target else none

/-- Management orders of the first group (R403). -/
def firstGroup : List Nat := [0x81, 0x82, 0x85, 0x86]

/-- The live slot mask of a queue. -/
def State.slotMask (s : State) (q : Nat) : Nat :=
  s.liveOr (queueKey q 0x24) 0xFFFFFFFF + 2 ^ 32 * (s.liveOr (queueKey q 0x28) 0xFFFF % 2 ^ 16)

/-- The checks of R397, before any other. -/
def State.acceptCheck (s : State) (o : Order) : Option Ending :=
  let host := o.source ≠ 0x80
  if host && !hostOpcodes.contains o.opcode then some { status := 0x10 }
  else if o.field 4 4 ≠ 0 then some (Ending.badParam 4)
  else if host && privilegedOpcodes.contains o.opcode && bitAt (s.queueCtrl o.source) 24 = 0 then some { status := 0x14 }
  else
    match o.slot? with
    | some n => if host && bitAt (s.slotMask o.source) n = 0 then some { status := 0x14 } else none
    | none => none

/-- Whether a management order of the pass overrides a host packet (R405). -/
def preempts (m o : Order) : Bool :=
  if m.opcode = 0x86 || m.opcode = 0x85 then true
  else if m.opcode = 0x82 then
    (o.opcode = 0x49 && o.field 16 4 = m.target) ||
      (o.opcode = 0x38 && o.field 16 1 ≤ 3 && o.field 20 4 = m.target)
  else false

/-! ### The ring's wrap (R467) -/

/-- Withdraws a waiter from every general object of this module. -/
def State.withdrawWaiter (s : State) (w : Waiter) : State :=
  { s with clusters := s.clusters.map fun c => (c.1, { c.2 with objects := c.2.objects.map fun o =>
      (o.1, ({ o.2 with waiting := o.2.waiting.filter (fun x => x ≠ w), crossbar := o.2.crossbar.filter (fun x => x ≠ w) }).enroll) }) }

/-- Withdraws a request for entropy of an order. -/
def State.withdrawEntropy (s : State) (id : Nat) : State :=
  let keep := fun (r : EntReq) => match r with
    | .salt o | .get o _ _ | .seed o => o ≠ id
    | .nonce _ => true
  { s with entropy := { s.entropy with rot := s.entropy.rot.filter keep, host := s.entropy.host.filter keep } }

/-- Whether an order waits for its salt. -/
def State.waitsForSalt (s : State) (id : Nat) : Bool := s.entropy.rot.any fun r => r = .salt id

/-- The effect of an abort on an open command, in whatever way the abort comes (R455, R467). -/
def State.withdraw (s : State) (o : Order) : State :=
  match o.opcode with
  | 0x2B => (s.withdrawWaiter (.order o.id))
  | 0x50 => s.modSlot o.target fun x => { x with lock := match x.lock with
      | some k => if k.order = some o.id then none else some k
      | none => none }
  | 0x1A | 0x1D => s.modSlot o.target fun x => { x with drain := x.drain.map fun d =>
      { d with aborted := d.aborted || d.orders.contains o.id || decide (d.disableOrder = some o.id) } }
  | 0x19 => s.modSlot o.target fun x => { x with waitingStart := if x.waitingStart = some o.id then none else x.waitingStart }
  | 0x30 | 0x31 => s.withdrawEntropy o.id
  | 0x22 => { (s.withdrawEntropy o.id) with rot := { s.rot with signing := s.rot.signing.filter fun r => r.order ≠ o.id } }
  | _ => s

/-- Whether an open command may wait without end, and so is aborted when the ring comes round to it (R467). -/
def State.abortable (s : State) (o : Order) : Bool :=
  [0x2B, 0x50, 0x1A, 0x1D, 0x19, 0x30, 0x31].contains o.opcode || (o.opcode = 0x22 && s.waitsForSalt o.id)

/-- The open order whose entry stands where sequence n would be written (R467). -/
def State.ringHolder (s : State) (n : Nat) : Option Order :=
  s.arbiter.orders.find? fun o => o.seq ≠ 0 && o.seq + 2 ^ 20 = n

/-- JOURNAL_WRAP_ABORT: frees the ring position of a sequence (R467). -/
def State.freeRing (s : State) (n : Nat) : State :=
  match s.ringHolder n with
  | some o => (s.withdraw o).finish o (Ending.aborted 0xFE)
  | none => s

/-- Gives the next journal sequence (R462, R467). -/
def State.nextSeq (s : State) : Nat × State :=
  let n := s.arbiter.newest + 1
  let s := s.freeRing n
  (n, { s with arbiter := { s.arbiter with newest := n } })

/-! ### The pass (R403) -/

/-- Status entries a queue can still reserve (R390, R397). -/
def State.reservable (s : State) (q : Nat) : Nat :=
  let x := s.queue q
  let size := s.cqSize q
  size - 1 - ((x.cqTail + size - x.cqHead % size) % size + x.reserved)

/-- How many packets a pass takes from a queue (R397, R403). -/
def State.takes (s : State) (q : Nat) : Nat :=
  let x := s.queue q
  if x.run then min x.fetched.length (min (s.queueCtrl q % 16 + 1) (s.reservable q)) else 0

/-- The snapshot of a queue: its packets as orders, SQ_HEAD advanced, status entries reserved. -/
def State.takePackets (s : State) (q : Nat) : State × List Order :=
  let x := s.queue q
  let n := s.takes q
  let mk : Nat → BitVec 512 → Order := fun i p =>
    { id := s.arbiter.nextId + i, seq := 0, source := q, generation := x.generation, packet := p, started := false,
      acceptTime := s.mgmt.counterCopy, statusDue := true }
  let os := ((List.range n).zip x.fetched).map fun p => mk p.1 p.2
  let s := s.setQueue q { x with fetched := x.fetched.drop n, sqHead := (x.sqHead + n) % s.sqSize q, reserved := x.reserved + n }
  ({ s with arbiter := { s.arbiter with nextId := s.arbiter.nextId + n } }, os)

/-- Journals one order of the pass and applies R397 and R405; what stays open is dispatched (R403, R464). -/
def State.acceptOrder (mgmt : List Order) (s : State) (o : Order) : State :=
  let r := s.nextSeq
  let s := r.2
  let o := { o with seq := r.1 }
  let digest := (sha256 ((pktBytes o.packet).drop 16)).take 16
  let s := s.putWhole (journalAddr o.seq) (journalEntry o.seq o.tag o.opcode o.flags o.target o.source 1 0 0xFF 0 0 digest)
  match s.acceptCheck o with
  | some e => s.finish o e 2
  | none =>
    if o.source ≠ 0x80 && mgmt.any fun m => preempts m o then s.finish o { status := 0x04 } 3
    else { s with arbiter := { s.arbiter with orders := s.arbiter.orders ++ [o] } }

/-- Journals a noted slot change as an internal entry (R465, R496). -/
def State.acceptNote (s : State) (c : NotedChange) : State :=
  let r := s.nextSeq
  (r.2.putWhole (journalAddr r.1)
    (journalEntry r.1 0 c.opcode 0 c.target 0xFF 0 1 c.status c.detail c.result (zeros 16))).raise 8

/-- Queues the arbiter looks at, in ascending order. -/
def State.runningQueues (s : State) : List Nat := (List.range 64).filter fun q => (s.queue q).run

/-- The sequences a pass would give. -/
def State.passLength (s : State) : Nat :=
  ((s.runningQueues).map s.takes).sum + min 16 s.arbiter.mgmt.length + s.arbiter.noted.length

/-- ARBITER_PASS: the snapshot, its order, its journal entries, the dispatch (R403). The arbiter waits while a ring position it
needs is held by a command that completes by itself (R467). -/
def State.pass (s : State) : State :=
  let s := s.runningQueues.foldl State.checkQueue s
  let n := s.passLength
  let stuck := (List.range n).any fun i =>
    match s.ringHolder (s.arbiter.newest + 1 + i) with | some o => !s.abortable o | none => false
  if s.platform.boot ≠ .ready || n = 0 || stuck then s
  else
    let mg := s.arbiter.mgmt.take 16
    let notes := s.arbiter.noted
    let s := { s with arbiter := { s.arbiter with mgmt := s.arbiter.mgmt.drop 16, noted := [] } }
    let qs := s.runningQueues.filter fun q => s.takes q ≠ 0
    let t := qs.foldl (fun (a : State × List Order) q => let r := a.1.takePackets q; (r.1, a.2 ++ r.2)) (s, [])
    let first := mg.filter fun o => firstGroup.contains o.opcode
    let last := mg.filter fun o => !firstGroup.contains o.opcode
    let s := (first ++ t.2 ++ last).foldl (State.acceptOrder first) t.1
    let s := notes.foldl State.acceptNote s
    qs.foldl (fun s q => s.writeShadow q) s

/-- ARBITER_PASS (R403). -/
def execArbiterPass (s : State) : Out := .next s.pass

/-! ### Running a dispatched order (R395, R404) -/

/-- Commands that neither wait under slot order nor are waited for (R404). -/
def freeOfSlotOrder : List Nat := [0x02, 0x03, 0x2A, 0x2B, 0x1A, 0x1D]

/-- Orders that the reliability engine executes in journal order (R31, R404). -/
def fenceOpcodes : List Nat := [0x48, 0x49, 0x82]

/-- Every order that is not completed. -/
def State.openOrders (s : State) : List Order := s.arbiter.orders ++ s.arbiter.mgmt ++ s.mgmt.alone

/-- Whether FENCE, slot order and the order of fences let an order start (R31, R395, R404). A LOCKSTEP_END does not wait for a
LOCKSTEP_BEGIN that waits for its partner (R270). -/
def State.mayStart (s : State) (o : Order) : Bool :=
  let earlier := s.openOrders.filter fun x => x.id < o.id
  let fence := bitAt o.flags 0 = 0 || !(earlier.any fun x => x.source = o.source)
  let slot := freeOfSlotOrder.contains o.opcode || match o.slot? with
    | none => true
    | some n => !(s.arbiter.orders.any fun x => x.seq < o.seq && x.slot? = some n && !freeOfSlotOrder.contains x.opcode &&
        !(o.opcode = 0x51 && x.opcode = 0x50 && x.started))
  let cores := !(fenceOpcodes.contains o.opcode && s.arbiter.orders.any fun x => x.seq < o.seq && fenceOpcodes.contains x.opcode)
  fence && slot && cores

/-- The open order of an id. -/
def State.openOrder (s : State) (id : Nat) : Option Order := s.openOrders.find? fun o => o.id = id

/-- Marks an order as started. -/
def State.begin (s : State) (o : Order) : State :=
  let f := fun (x : Order) => if x.id = o.id then { x with started := true } else x
  { s with arbiter := { s.arbiter with orders := s.arbiter.orders.map f }, mgmt := { s.mgmt with alone := s.mgmt.alone.map f } }

/-- Runs the dispatched order of an id, if it is this command's and may start; after a fatal error every host command but three
completes INTERNAL (R586). An event that cannot occur changes nothing. -/
def runOrder (opcode id : Nat) (s : State) (body : State → Order → State) : Out :=
  .next <|
    match (s.arbiter.orders ++ s.mgmt.alone).find? fun o => o.id = id with
    | none => s
    | some o =>
      if o.opcode ≠ opcode || o.started || !s.mayStart o then s
      else if s.platform.fatal && o.source ≠ 0x80 && !([1, 2, 3].contains opcode) then s.finish o { status := 0x3F }
      else body (s.begin o) { o with started := true }

/-! ### Parameters (R411, R412) -/

/-- One check of a parameter: the packet byte it names, whether it holds, and result bytes where it fails. -/
structure Check where
  byte : Nat
  ok : Bool
  result : Nat := 0
  deriving DecidableEq, Repr

/-- The check of lowest packet byte among those that fail. -/
def lowestFail (cs : List Check) : Option Check :=
  (cs.filter fun c => !c.ok).foldl (fun a c =>
    match a with | none => some c | some b => if c.byte < b.byte then some c else some b) none

/-- The first parameter byte that is not zero among those a command does not define (R411). -/
def Order.stray (o : Order) (fields : List (Nat × Nat)) : Option Nat :=
  ((List.range 48).map (· + 16)).find? fun i =>
    o.field i 1 ≠ 0 && !(fields.any fun f => f.1 ≤ i && i < f.1 + f.2)

/-- The parameter checks of a command: FLAGS, TARGET, then the fields in ascending packet byte, undefined bytes being zero
(R409, R411, R412). `flags` holds the command flags the opcode defines, `fields` the parameter bytes it defines. -/
def Order.params (o : Order) (flags : Nat) (target : Bool) (fields : List (Nat × Nat)) (checks : List Check) : Option Ending :=
  let cs := [{ byte := 1, ok := Nat.land o.flags (252 - flags) = 0 }, { byte := 2, ok := target }] ++
    (match o.stray fields with | some i => [({ byte := i, ok := false } : Check)] | none => []) ++ checks
  (lowestFail cs).map fun c => { status := 0x11, d17 := c.byte, result := c.result }

/-- TARGET names nothing. -/
def Order.noTarget (o : Order) : Bool := o.target = 0xFFFF
/-- TARGET names a slot. -/
def Order.slotTarget (o : Order) : Bool := o.target < 48

/-- HOST_ADDR and HOST_LEN of a command that writes `need` bytes to host memory (R411). -/
def Order.hostRange (o : Order) (addr len need : Nat) : List Check :=
  [{ byte := addr, ok := o.field addr 8 % 64 = 0 }, { byte := len, ok := o.field len 8 % 64 = 0 },
   { byte := len, ok := need ≤ o.field len 8, result := need }]

/-- A local hall address of this module (R411). -/
def State.localAddr (s : State) (o : Order) (byte align : Nat) : Check :=
  { byte := byte, ok := hallModule (o.field byte 8) = s.fabric.moduleId && o.field byte 8 % align = 0 }

/-- Ends a command with the first failing check, or goes on. -/
def State.checked (s : State) (o : Order) (e : Option Ending) (go : State → State) : State :=
  match e with
  | some e => s.finish o e
  | none => go s

/-- Whether a slot command is allowed in the slot's state; else it completes BAD_STATE (R413). -/
def State.inState (s : State) (o : Order) (ok : SlotState → Bool) (go : State → State) : State :=
  let st := (s.slot o.target).state
  if ok st then go s else s.finish o (Ending.badState st.code)

end Sys2Proof.Machine
end

