-- ==== Sys2Proof/Machine/Target.lean ====
section
/-! DEFINITION. Machine/Target.lean: accesses to the local windows at their target (R85, R225, R245, R280, R297, R306, R318, R324,
R359 to R362), and the ranges commands may write (R417). -/

namespace Sys2Proof.Machine

/-! ### Refusals (R361) -/

/-- Why a read of a range is not served, if it is not: a core store read runs over every core whose store holds a byte of it (R297, R306,
R318). -/
def State.readRefusal (s : State) (a len : Nat) : Option RStatus :=
  if !oneWindow a len then some (.refused 1)
  else
    match regionOf a with
    | .firmware => some (.refused 2)
    | .store c =>
      if (List.range ((a % 0x10000 + len - 1) / 0x10000 + 1)).any fun i => (s.core (c + i)).colander then some .fenced else none
    | _ => if regionOf (a + len - 1) = .firmware then some (.refused 2) else none

/-- Why a write of a range inside one line is not served, if it is not (R85, R225, R280, R297, R306, R318). -/
def State.writeRefusal (s : State) (a len : Nat) : Option RStatus :=
  if !oneWindow a len then some (.refused 1)
  else
    match regionOf a with
    | .hbm | .general => none
    | .slice k n => if 28 ≤ n then some (.refused 2) else if ((s.cluster k).sliceSlot.at n).isSome then some (.refused 4) else none
    | .store c => if (s.core c).colander then some .fenced else if s.coreHeld c then some (.refused 4) else none
    | .sync _ _ => some (.refused 3)
    | _ => some (.refused 2)

/-- A write that a held core store or slice discards is a contained error (R85, R280, R596). -/
def State.logDiscarded (s : State) (a : Nat) (r : RStatus) : State :=
  match r, regionOf a with
  | .refused 4, .store c => s.logError { cls := .contained, code := 0x0010, unitKind := 1, unit := c, address := a }
  | .refused 4, .slice k _ => s.logError { cls := .contained, code := 0x0010, unitKind := 2, unit := k, address := a }
  | .fenced, .store c => s.fencedAnswer c
  | _, _ => s

/-! ### Reads and writes at the target -/

/-- The bytes of a launch object or general sync object (R225, R243). -/
def State.syncBytes (s : State) (k o : Nat) : List Byte :=
  if o < 64 then (s.core (coreAt k o)).launchBytes else s.objectBytes (s.object (k, o))

/-- Reads n bytes of the sync window from a local address. -/
def State.readSync (s : State) (a n : Nat) : List Byte :=
  (List.range n).map fun i =>
    match regionOf (a + i) with
    | .sync k o => ((s.syncBytes k o)[(a + i) % 0x100]?).getD 0
    | _ => 0

/-- What an access to the local windows answers: the bytes, or why not. -/
abbrev Access := State × Except RStatus (List Byte)

/-- Reads a range of the local windows (R306, R324). -/
def State.readAccess (s : State) (a len : Nat) : Access :=
  match s.readRefusal a len with
  | some r => (s.logDiscarded a r, .error r)
  | none =>
    match regionOf a with
    | .sync _ _ => (s, .ok (s.readSync a len))
    | _ => match s.readLocal a len with
      | (s, some bs) => (s, .ok bs)
      | (s, none) => (s, .error .poisoned)

/-- Writes a range inside one line of the local windows; nothing comes back but the outcome (R324). -/
def State.writeAccess (s : State) (a : Nat) (bs : List Byte) : State × RStatus :=
  match s.writeRefusal a bs.length with
  | some r => (s.logDiscarded a r, r)
  | none => let r := s.writeLocal a bs; (r.1, if r.2 then .ok else .poisoned)

/-- Writes whole lines one after another; the first outcome that is not OK is answered. -/
def State.writeLines (s : State) (a : Nat) (bs : List Byte) : Nat → State × RStatus
  | 0 => (s, .ok)
  | n + 1 =>
    match s.writeAccess a (bs.take 64) with
    | (s, .ok) => s.writeLines (a + 64) (bs.drop 64) n
    | (s, r) => ((s.writeLines (a + 64) (bs.drop 64) n).1, r)

/-- The new word of an atomic (R359). -/
def atomicWord (op : RemoteOp) (old a b : Nat) : Nat :=
  match op with
  | .add => (old + a) % 2 ^ 64
  | .maxu => max old a
  | .maxs => if signed 64 old < signed 64 a then a else old
  | .cas => if old = b then a else old
  | _ => a

/-- What a remote operation answers: status, VALUE and data lines (R361). -/
structure Served where
  status : RStatus
  value : Nat := 0
  data : List Byte := []
  deriving DecidableEq, Repr

/-- A word operation that changes its word, at HBM, the Larder, a slice or a core store (R359, R362). -/
def State.serveWord (s : State) (r : Request) (a : Nat) : State × Served :=
  match s.writeRefusal a 8 with
  | some e => (s.logDiscarded a e, { status := e })
  | none =>
    if r.op = .write then
      let w := s.writeAccess a (leBytes 8 r.operandA)
      (w.1, { status := w.2 })
    else
      match s.readAccess a 8 with
      | (s, .error e) => (s, { status := e })
      | (s, .ok old) =>
        let v := leNat old
        let w := s.writeAccess a (leBytes 8 (atomicWord r.op v r.operandA r.operandB))
        (w.1, { status := w.2, value := if w.2 = .ok then v else 0 })

/-- A signal or an ADD at a general sync object: SIGNAL on either mode, ADD on a PLAIN object only (R245, R359). -/
def State.serveSignal (s : State) (r : Request) (a : Nat) : State × Served :=
  match syncAt a with
  | none => (s, { status := .refused 3 })
  | some p =>
    match s.object p with
    | none => (s, { status := .refused 3 })
    | some o =>
      if r.op = .signal then
        (s.signalArrive { object := r.address, count := r.operandA % 512, epoch := r.epoch, runGen := r.runGen, slot := 0xFE },
          { status := .ok })
      else if o.mode = 1 then
        (s.signalArrive { object := r.address, count := r.operandA % 2 ^ 24, epoch := 0, runGen := 0, slot := 0xFE }, { status := .ok })
      else (s, { status := .refused 3 })

/-- A waiter of another module registers: its TAG names it in the notice (R246, R359, R360). -/
def State.serveWaitReg (s : State) (r : Request) (a : Nat) : State × Served :=
  match syncAt a with
  | none => (s, { status := .refused 3 })
  | some p =>
    match s.object p with
    | none => (s, { status := .refused 3 })
    | some _ => (s.waitArrive { object := r.address, epoch := r.epoch, runGen := r.runGen, slot := 0xFE,
                                waiter := .remote r.srcModule r.operandA r.epoch }, { status := .ok })

/-- Alignment of an operation: 8 bytes for words, a line for BULK (R359). -/
def RemoteOp.align : RemoteOp → Nat
  | .bulkRead | .bulkWrite => 64
  | _ => 8

/-- A remote operation at its target; one that is refused at any of its lines changes nothing (R359, R361, R362). -/
def State.serve (s : State) (r : Request) : State × Served :=
  let a := hallLocal r.address
  let n := 64 * (r.linesM1 + 1)
  let sync := match regionOf a with | .sync _ _ => true | _ => false
  if a % r.op.align ≠ 0 then (s, { status := .refused 5 })
  else
    match r.op with
    | .read => match s.readAccess a 8 with
      | (s, .ok bs) => (s, { status := .ok, value := leNat bs })
      | (s, .error e) => (s, { status := e })
    | .bulkRead => match s.readAccess a n with
      | (s, .ok bs) => (s, { status := .ok, data := bs })
      | (s, .error e) => (s, { status := e })
    | .bulkWrite =>
      if oneWindow a n then
        match (List.range (r.linesM1 + 1)).findSome? fun i => (s.writeRefusal (a + 64 * i) 64).map fun e => (a + 64 * i, e) with
        | some e => (s.logDiscarded e.1 e.2, { status := e.2 })
        | none =>
        let w := s.writeLines a (r.data.take n ++ zeros (n - r.data.length)) (r.linesM1 + 1)
        (w.1, { status := w.2 })
      else (s, { status := .refused 1 })
    | .signal => s.serveSignal r a
    | .waitReg => s.serveWaitReg r a
    | .add => if sync then s.serveSignal r a else s.serveWord r a
    | _ => s.serveWord r a

/-- How a command ends whose access did not complete OK (R367, R412). `byte` is the packet byte of the address; `far` says that
the target lay on another module. -/
def RStatus.ending (r : RStatus) (byte : Nat) (far : Bool) (result : Nat := 0) : Ending :=
  match r with
  | .ok => { status := 0, result := result }
  | .refused _ => { status := 0x11, d17 := byte, result := result }
  | .poisoned => { status := 0x31, d17 := if far then 2 else 0, result := result }
  | .fenced => { status := 0x33, d17 := if far then 3 else 0, result := result }
  | .unreachable d => { status := 0x35, d17 := 4, d18 := d, result := result }

/-! ### Ranges that commands write (R417) -/

/-- What a command may write at a local address: 1 HBM, 2 GENERAL, 3 an unassigned slice, 4 + n the CHECKPOINT area of slot n; 0
nothing (R417). -/
def State.placeClass (s : State) (a : Nat) : Nat :=
  match regionOf a with
  | .hbm => 1
  | .general => 2
  | .slice k n => if n < 28 && ((s.cluster k).sliceSlot.at n).isNone then 3 else 0
  | .checkpoint n => if n < 48 then 4 + n else 0
  | _ => 0

/-- Where a range breaks R417: at its start, in its length, or in a CHECKPOINT area of a slot that is not EMPTY. -/
inductive RangeFault where
  | start
  | length
  | held (slot : Nat)
  deriving DecidableEq, Repr

/-- Checks a local range against R417. One range may cover the CHECKPOINT areas of several slots, every one of them EMPTY (R321). -/
def State.rangeFault (s : State) (a len : Nat) : Option RangeFault :=
  let c := s.placeClass a
  let last := a + max len 1 - 1
  let slices := (List.range (last / 0x20000 + 1 - a / 0x20000)).all fun i => s.placeClass (max a ((a / 0x20000 + i) * 0x20000)) = 3
  if c = 0 then some .start
  else if 4 ≤ c then
    let d := s.placeClass last
    if d < c then some .length
    else ((List.range (d + 1 - c)).find? fun i => (s.slot (c + i - 4)).state ≠ .empty).map fun i => .held (c + i - 4)
  else if s.placeClass last ≠ c || (c = 3 && !slices) then some .length
  else none

/-- The parameter checks of a range that a command writes, given by a hall address and a length (R411, R412, R417). A range
whose start is allowed and whose end is not names the length. -/
def State.rangeChecks (s : State) (hall len addrByte lenByte : Nat) : List Check :=
  let a := hallLocal hall
  if hallModule hall ≠ s.fabric.moduleId then
    [{ byte := addrByte, ok := regionOf a ≠ .outside }, { byte := lenByte, ok := len = 0 || oneWindow a len }]
  else
    match s.rangeFault a len with
    | some .start => [{ byte := addrByte, ok := false }]
    | some .length => [{ byte := lenByte, ok := false }]
    | _ => []

/-- The slot whose CHECKPOINT area a range would write although it is not EMPTY (R321, R417). -/
def State.rangeHeld (s : State) (hall len : Nat) : Option Nat :=
  if hallModule hall ≠ s.fabric.moduleId then none
  else match s.rangeFault (hallLocal hall) len with | some (.held n) => some n | _ => none

end Sys2Proof.Machine
end

