-- ==== Sys2Proof/Machine/Transfer.lean ====
section
/-! DEFINITION. Machine/Transfer.lean: moves of bytes between host memory, module memory and other modules (R417, R418). -/

namespace Sys2Proof.Machine

/-- The packet byte of the address that a place comes from, for a FILL or a COPY. -/
def Place.byte (p : Place) (source : Bool) : Nat :=
  match p, source with
  | .pattern _, _ => 16
  | _, true => 16
  | _, false => 24

/-- Whether a hall address lies on another module. -/
def State.far (s : State) (hall : Nat) : Bool := hallModule hall ≠ s.fabric.moduleId

/-- The bytes of the next chunk: a line at a time out of this module, 4,096 bytes otherwise. -/
def Transfer.chunk (t : Transfer) (s : State) : Nat :=
  let most := match t.src with | .hall a => if s.far a then 4096 else 64 | _ => 4096
  min most (t.length - t.moved)

/-- How a transfer goes on: another step, a wait for an answer, or its end. -/
inductive Pace where
  | more (t : Transfer)
  | wait (t : Transfer)
  | done (e : Ending)
  deriving DecidableEq, Repr

/-- The end of a transfer that failed: the bytes moved before it (R417, R418). -/
def Transfer.failed (t : Transfer) (r : RStatus) (p : Place) (source far : Bool) : Ending :=
  let byte := match t.src with | .pattern _ => 16 | _ => p.byte source
  r.ending byte far t.moved

/-- Takes the next chunk from its source. -/
def State.transferRead (s : State) (t : Transfer) : State × Pace :=
  let n := t.chunk s
  match t.src with
  | .pattern p => (s, .more { t with data := some ((List.replicate (n / 8) (leBytes 8 p)).flatten) })
  | .host _ => (s.hostRead (.copy t.order), .wait t)
  | .hall a =>
    let a := a + t.moved
    if s.far a then
      match s.sendRequest .bulkRead a 0 0 (n / 64 - 1) 0 0 [] (some t.order) 0 with
      | (s, none) => (s, .wait t)
      | (s, some r) => (s, .done (t.failed r t.src true true))
    else
      match s.readAccess (hallLocal a) n with
      | (s, .ok bs) => (s, .more { t with data := some bs })
      | (s, .error r) => (s, .done (t.failed r t.src true false))

/-- The chunk in hand has been written. -/
def Transfer.wrote (t : Transfer) (n : Nat) : Transfer := { t with moved := t.moved + n, data := none }

/-- Writes the chunk in hand to its destination; every line is written whole (R417). -/
def State.transferWrite (s : State) (t : Transfer) (bs : List Byte) : State × Pace :=
  match t.dst with
  | .pattern _ => (s, .done Ending.ok)
  | .host a =>
    if s.barsUp then (s.hostWrite (a + t.moved) bs, .more (t.wrote bs.length)) else (s, .done { status := 0x31, result := t.moved })
  | .hall a =>
    let a := a + t.moved
    if s.far a then
      match s.sendRequest .bulkWrite a 0 0 (bs.length / 64 - 1) 0 0 bs (some t.order) 0 with
      | (s, none) => (s, .wait t)
      | (s, some r) => (s, .done (t.failed r t.dst false true))
    else (s.putWhole (hallLocal a) bs, .more (t.wrote bs.length))

/-- Whether ranges of a CHECKPOINT area cover it whole (R321). -/
def coversFrom (rs : List (Nat × Nat)) (size : Nat) : Nat → Nat → Bool
  | 0, p => size ≤ p
  | n + 1, p =>
    size ≤ p ||
      match rs.find? fun r => r.1 ≤ p && p < r.1 + r.2 with
      | some r => coversFrom rs size n (r.1 + r.2)
      | none => false

/-- A FILL of a slot's CHECKPOINT area counts toward CHECKPOINT_READY, and one FILL may cover the areas of several slots (R321). -/
def State.fillCounts (s : State) (hall len : Nat) : State :=
  let a := hallLocal hall
  match regionOf a with
  | .checkpoint n =>
    if s.far hall || len = 0 then s
    else
      ((List.range 48).filter fun k => n ≤ k && ckptBase k 0 < a + len).foldl (fun s k => s.modSlot k fun x =>
        let first := max a (ckptBase k 0) - ckptBase k 0
        let rs := x.ckptFilled ++ [(first, min (a + len) (ckptBase (k + 1) 0) - ckptBase k 0 - first)]
        { x with ckptFilled := rs, ckptReady := x.ckptReady || coversFrom rs 0x5000000 rs.length 0 }) s
  | _ => s

/-- What a transfer has written counts, and its command completes (R321, R417, R418). -/
def State.endTransfer (s : State) (t : Transfer) (e : Ending) : State :=
  let s := { s with arbiter := { s.arbiter with transfers := s.arbiter.transfers.filter fun x => x.order ≠ t.order } }
  let s := match t.src, t.dst with | .pattern _, .hall a => s.fillCounts a t.moved | _, _ => s
  s.finishId t.order e

/-- Keeps the transfer of an order that waits. -/
def State.keepTransfer (s : State) (t : Transfer) : State :=
  { s with arbiter := { s.arbiter with transfers := s.arbiter.transfers.filter (fun x => x.order ≠ t.order) ++ [t] } }

/-- Runs a transfer until it waits or ends, at most n steps. -/
def State.runTransfer (s : State) (t : Transfer) : Nat → State
  | 0 => s.keepTransfer t
  | n + 1 =>
    if t.length ≤ t.moved then
      s.endTransfer t (Ending.ok (match t.src with | .pattern _ => 0 | _ => t.moved))
    else
      let r := match t.data with | some bs => s.transferWrite t bs | none => s.transferRead t
      match r.2 with
      | .more t => r.1.runTransfer t n
      | .wait t => r.1.keepTransfer t
      | .done e => r.1.endTransfer t e

/-- Steps that are enough for what is left of a transfer. -/
def Transfer.fuel (t : Transfer) : Nat := 2 * ((t.length - t.moved) / 64) + 4

/-- Starts or goes on with a transfer. -/
def State.goTransfer (s : State) (t : Transfer) : State := s.runTransfer t t.fuel

/-- The data of a transfer's source arrived from host memory or another module. -/
def State.transferData (s : State) (order : Nat) (bs : List Byte) : State :=
  match s.arbiter.transfers.find? fun t => t.order = order with
  | some t => if bs.length = t.chunk s then s.goTransfer { t with data := some bs } else s.keepTransfer t
  | none => s

/-- An answer of another module to a transfer (R367): a line read, a line written, or a failure. -/
def State.transferAnswer (s : State) (order : Nat) (op : RemoteOp) (r : RStatus) (bs : List Byte) : State :=
  match s.arbiter.transfers.find? fun t => t.order = order with
  | none => s
  | some t =>
    if r ≠ .ok then s.endTransfer t (t.failed r (if op = .bulkRead then t.src else t.dst) (op = .bulkRead) true)
    else if op = .bulkRead then s.transferData order bs
    else s.goTransfer (t.wrote ((t.data.map List.length).getD 0))

/-- A read of host memory for a transfer failed: MEM_ERROR (R399). -/
def State.transferError (s : State) (order : Nat) : State :=
  match s.arbiter.transfers.find? fun t => t.order = order with
  | some t => s.endTransfer t { status := 0x31, result := t.moved }
  | none => s

end Sys2Proof.Machine
end

