-- ==== Sys2Proof/Machine/Bar4.lean ====
section
/-! DEFINITION. Machine/Bar4.lean: the BAR4 window into the hall address space (R388, R392 to R394, R398). -/

namespace Sys2Proof.Machine

/-- Live WIN_BASE (R398). -/
def State.winBase (s : State) : Nat := s.liveOr 0x031000 0 + 2 ^ 32 * (s.liveOr 0x031004 0 % 2 ^ 16)

/-- Hall address of a byte of BAR4 (R393). -/
def State.winAddr (s : State) (offset : Nat) : Nat := (s.liveOr 0x031008 0 % 2 ^ 16) * 2 ^ 48 + s.winBase + offset

/-- Whether a base meets a BAR4 size (R398). -/
def baseFits (base log2 : Nat) : Bool := base % 2 ^ log2 = 0

/-- The window's live registers are checked when they are used; a mismatch closes it (R478, R483). -/
def State.checkWindow (s : State) : State :=
  if s.liveBad 2 0 && !s.regs.winParityStop then
    ({ s with regs := { s.regs with winOpen := false, winParityStop := true } }).parityReport 2 0
  else s

/-- Whether the window answers: open, and the module takes commands (R394, R600). -/
def State.windowOpen (s : State) : Bool := s.regs.winOpen && s.platform.boot = .ready

/-- Whether the target in this module has logged an outcome itself: an uncorrectable unit, or a write that a held core store or slice
discards (R85, R280, R313, R324). -/
def State.loggedHere (s : State) (r : RStatus) (hall : Nat) : Bool := !s.far hall && (r = .poisoned || r = .refused 4)

/-- An outcome of a BAR4 access other than OK is counted and logged with its hall address (R394, R407); one error makes one entry
(R585). DEDUCED (log 49): an error that the target in this module has logged gets no second entry. -/
def State.bar4Fail (s : State) (r : RStatus) (hall : Nat) : State :=
  let h := s.host
  let h := match r with
    | .ok => h
    | .refused _ => { h with bar4Ur := satInc 0xFF h.bar4Ur }
    | .poisoned => { h with bar4Poison := satInc 0xFF h.bar4Poison }
    | .fenced | .unreachable _ => { h with bar4Ca := satInc 0xFF h.bar4Ca }
  if r = .ok then s
  else if s.loggedHere r hall then { s with host := h }
  else { s with host := h }.logError { cls := .contained, code := 0x0011, unitKind := 7, unit := 0, address := hall }

/-- The completion of a BAR4 read; an Unsupported Request or a Completer Abort is reported through AER (R394, R399). -/
def State.bar4ReadDone (s : State) (hall len : Nat) (r : RStatus) (bs : List Byte) : State :=
  let reply := match r with
    | .ok => Reply.data bs
    | .refused _ => .unsupported
    | .poisoned => .poisonedData len
    | .fenced | .unreachable _ => .abort
  let s := s.bar4Fail r hall
  let aer := match r with
    | .refused _ => .unsupportedRequest :: s.host.aer
    | .fenced | .unreachable _ => .completerAbort :: s.host.aer
    | _ => s.host.aer
  { s with reply := reply, host := { s.host with aer := aer } }

/-- Keeps an access that left the module under the tag of its request; a read holds a tracker of the host station (R394, R406). -/
def State.bar4Wait (s : State) (write : Bool) (hall len : Nat) : State :=
  match s.fabric.trackers.getLast? with
  | none => s
  | some t =>
    let h := s.host
    { s with host := { h with
        bar4Open := h.bar4Open ++ [{ tag := t.tag, write := write, address := hall, length := len }]
        inUse := if write then h.inUse else h.inUse + 1
        peak := if write then h.peak else max h.peak (h.inUse + 1) } }

/-- A request of the window to another module ends: the read completes, or the write's outcome is counted; doorbells held behind
it may take effect (R392, R394). -/
def State.bar4Answer (s : State) (tag : Nat) (r : RStatus) (bs : List Byte) : State :=
  match s.host.bar4Open.find? fun b => b.tag = tag with
  | none => s
  | some b =>
    let h := s.host
    let s := { s with host := { h with bar4Open := h.bar4Open.filter fun x => x.tag ≠ tag
                                       inUse := if b.write then h.inUse else h.inUse - 1 } }
    let s := if b.write then s.bar4Fail r b.address
      else s.bar4ReadDone b.address b.length r ((bs.drop (b.address % 64)).take b.length)
    s.releaseDoorbells

/-- The lines a range of n bytes at an address touches. -/
def linesOf (a n : Nat) : Nat := (a + n + 63) / 64 - a / 64

/-- A read through the window (R393, R394). -/
def State.bar4Get (s : State) (hall len : Nat) : State :=
  let first := hall / 64 * 64
  let n := linesOf hall len
  if s.far hall then
    match s.sendRequest .bulkRead first 0 0 (n - 1) 0 0 [] none 2 with
    | (s, none) => s.bar4Wait false hall len
    | (s, some r) => s.bar4ReadDone hall len r []
  else
    let s := { s with host := { s.host with peak := max s.host.peak (s.host.inUse + 1) } }
    match s.readAccess (hallLocal first) (64 * n) with
    | (s, .ok bs) => s.bar4ReadDone hall len .ok ((bs.drop (hall - first)).take len)
    | (s, .error r) => s.bar4ReadDone hall len r []

/-- Trackers of the host station for BAR4 reads that await the module (R406). -/
def bar4Share : Nat := 1216

/-- BAR4_READ (R394). One that finds its tracker pool empty is held back by PCIe flow control (R406). -/
def execBar4Read (offset len : Nat) (s : State) : Out :=
  .next <|
    if len = 0 || 2 ^ s.platform.bar4Log2 < offset + len || 64 < linesOf offset len then s
    else if !s.barsUp then { s with reply := .unsupported }
    else
      let s := s.checkWindow
      let hall := s.winAddr offset
      if s.windowOpen && bar4Share ≤ (s.host.bar4Open.filter fun b => !b.write).length then s
      else if s.windowOpen then s.bar4Get hall len else s.bar4ReadDone hall len (.refused 0) []

/-- The pieces of a write, cut at line boundaries (R393). -/
def linePieces (a : Nat) (bs : List Byte) : List (Nat × List Byte) :=
  (List.range (linesOf a bs.length)).map fun i =>
    let first := max a ((a / 64 + i) * 64)
    (first, (bs.drop (first - a)).take ((a / 64 + i + 1) * 64 - first))

/-- Sends one posted request to another module (R393). -/
def State.bar4Post (s : State) (op : RemoteOp) (hall value lines : Nat) (data : List Byte) (len : Nat) : State :=
  match s.sendRequest op hall value 0 lines 0 0 data none 2 with
  | (s, none) => s.bar4Wait true hall len
  | (s, some r) => s.bar4Fail r hall

/-- One piece of a write (R393). -/
def State.bar4Piece (s : State) (p : Nat × List Byte) : State :=
  let n := p.2.length
  if !s.far p.1 then
    let w := s.writeAccess (hallLocal p.1) p.2
    w.1.bar4Fail w.2 p.1
  else if n = 64 then s.bar4Post .bulkWrite p.1 0 0 p.2 64
  else if p.1 % 8 = 0 && n % 8 = 0 then
    (List.range (n / 8)).foldl (fun s i => s.bar4Post .write (p.1 + 8 * i) (leNat ((p.2.drop (8 * i)).take 8)) 0 [] 8) s
  else s.bar4Fail (.refused 5) p.1

/-- BAR4_WRITE (R393, R394). -/
def execBar4Write (offset : Nat) (bytes : List Byte) (ep : Bool) (s : State) : Out :=
  .next <|
    if bytes = [] || 2 ^ s.platform.bar4Log2 < offset + bytes.length || !s.barsUp then s
    else
      let s := s.checkWindow
      let hall := s.winAddr offset
      if ep then
        { s with host := { s.host with bar4EpIn := satInc 0xFF s.host.bar4EpIn, aer := .poisonedTlp :: s.host.aer } }.logError
          { cls := .contained, code := 0x0015, unitKind := 7, unit := 0, address := hall }
      else if s.windowOpen then (linePieces hall bytes).foldl State.bar4Piece s
      else s.bar4Fail (.refused 0) hall

/-- BAR4_TIMEOUT: 4 ms without a response end the access as unreachable; its response is discarded (R394). -/
def execBar4Timeout (tag : Nat) (s : State) : Out := .next (s.bar4Answer tag (.unreachable 4) [])

/-- BAR4_RESIZE: a size that the live base does not meet closes the window (R388, R398). -/
def execBar4Resize (log2 : Nat) (s : State) : Out :=
  .next <|
    if 36 ≤ log2 && log2 ≤ 39 then
      { s with platform := { s.platform with bar4Log2 := log2 }
               regs := { s.regs with winOpen := s.regs.winOpen && baseFits s.winBase log2 } }
    else s

end Sys2Proof.Machine
end

