-- ==== Sys2Proof/Machine/HostCmd.lean ====
section
/-! DEFINITION. Machine/HostCmd.lean: NOP, identification, status, the journal query, and the memory commands (R409, R414 to R419). -/

namespace Sys2Proof.Machine

/-- Cores of a kind. -/
def State.coresOf (s : State) (k : CoreKind) : List Nat := (List.range 9216).filter fun c => (s.core c).kind = k

/-- GOOD_SPARES: cores in state SPARE (R594). -/
def State.goodSpares (s : State) : Nat := (s.coresOf .spare).length

/-- The enabled cores (R3, R594). -/
def State.enabledNow (s : State) : Nat := (s.coresOf .enabled).length

/-- The free cores: enabled, and held by no slot (R70). -/
def State.freeCores (s : State) : List Nat := (s.coresOf .enabled).filter fun c => (s.core c).slot.isNone

/-- Bits of the ports that a test holds for. -/
def State.portBits (s : State) (f : Port → Bool) : Nat :=
  (List.range 12).foldl (fun a n => a + bitOf (f (s.port n)) * 2 ^ n) 0

/-- Writes a command's result bytes to host memory and completes it; without a link it completes MEM_ERROR (R399, R400). -/
def State.answerHost (s : State) (o : Order) (a : Nat) (bs : List Byte) (e : Ending) : State :=
  if s.barsUp then (s.hostWrite a bs).finish o e else s.finish o (Ending.memError)

/-- NOP (R409). -/
def execNop (id : Nat) (s : State) : Out :=
  runOrder 0x00 id s fun s o => s.checked o (o.params 0 o.noTarget [] []) fun s => s.finish o Ending.ok

/-- The identify record (R414). -/
def State.identifyRecord (s : State) : List Byte :=
  leBytes 4 1 ++ Config.orderingCode ++ leBytes 4 s.enabledNow ++ leBytes 4 s.goodSpares ++ leBytes 2 1 ++ leBytes 2 1 ++
    leBytes 2 1 ++ leBytes 1 1 ++ [Config.siliconStep] ++ leBytes 4 s.rot.running.results ++ leBytes 2 s.fabric.moduleId ++
    leBytes 2 (s.portBits fun p => p.state = .up) ++ leBytes 8 Config.serial.toNat ++ leBytes 8 0x4800000000 ++
    leBytes 8 0x8000000000 ++ leBytes 8 s.rot.running.build ++ zeros 56

/-- IDENTIFY (R414). -/
def execIdentify (id : Nat) (s : State) : Out :=
  runOrder 0x01 id s fun s o =>
    s.checked o (o.params 0 o.noTarget [(16, 16)] (o.hostRange 16 24 128)) fun s =>
      s.answerHost o (o.field 16 8) s.identifyRecord Ending.ok

/-- Whether a deferred test or calibration would take a resource of a slot that starts (R424, R438, R439). -/
def State.testWaitsFor (s : State) (t : PendingTest) (n : Nat) : Bool :=
  if t.calibrate then decide (t.code ≤ 2)
  else if t.code ≤ 2 then decide ((s.core t.unit).slot = some n)
  else if t.code = 4 then (s.slotCores n).any fun c => clusterOf c = t.unit && (s.core c).members.any fun m => m.kind = 1
  else t.code = 5

/-- Tests and calibrations that are still to run: the deferred ones, and those whose FORCE waits for its slots (R438, R439). -/
def State.testsPending (s : State) : List PendingTest :=
  s.arbiter.tests ++ s.arbiter.runningTests.map fun t => { calibrate := t.calibrate, code := t.code, unit := t.unit, seq := 0 }

/-- The status of a slot (R415). -/
def State.slotStatus (s : State) (n : Nat) : Nat :=
  let x := s.slot n
  let lockOn := match x.lock with | some k => k.active | none => false
  let flags := bitOf (x.seed.isSome || x.staged.seed.isSome) + 2 * bitOf (s.arbiter.tests.any fun t => s.testWaitsFor t n) +
    4 * bitOf lockOn + 8 * bitOf x.ckptReady
  let fit := if x.state = .empty then 0xFF else match x.fit with | .fit => 0 | .spill => 1 | .fold => 2
  let done := match x.completed with | some e => e % 2 ^ 32 | none => 2 ^ 32 - 1
  let last := match x.lastCapture with | some e => e % 2 ^ 32 | none => 2 ^ 32 - 1
  x.state.code + 2 ^ 8 * s.slotSat n + 2 ^ 16 * flags + 2 ^ 24 * fit + 2 ^ 32 * done + 2 ^ 64 * last

/-- The live SUP_CORE_V in mV (R552). -/
def State.hostMv (s : State) : Nat := s.liveOr 0x07000C 0x2EE % 2 ^ 10

/-- The status of the module (R415). -/
def State.moduleStatus (s : State) : Nat :=
  s.freeCores.length + 2 ^ 32 * s.goodSpares +
    2 ^ 64 * (bitOf (s.entropy.state = .released) + 2 * bitOf (s.entropy.state = .fault) + 4 * bitOf s.supply.warn +
      8 * bitOf (s.supply.appliedMv < s.hostMv))

/-- GET_STATUS (R415). -/
def execGetStatus (id : Nat) (s : State) : Out :=
  runOrder 0x02 id s fun s o =>
    s.checked o (o.params 0 (o.slotTarget || o.noTarget) [] []) fun s =>
      s.finish o (Ending.ok (if o.slotTarget then s.slotStatus o.target else s.moduleStatus))

/-- The oldest sequence held (R462). -/
def State.oldestSeq (s : State) : Nat := max 1 (s.arbiter.newest - 1048575)

/-- Reads journal entries of a run of sequences. -/
def State.journalRead (s : State) (first : Nat) : Nat → State × Option (List Byte)
  | 0 => (s, some [])
  | n + 1 =>
    match s.readLocal (journalAddr first) 64 with
    | (s, none) => (s, none)
    | (s, some bs) => match s.journalRead (first + 1) n with
      | (s, some t) => (s, some (bs ++ t))
      | (s, none) => (s, none)

/-- JOURNAL_QUERY (R416). -/
def execJournalQuery (id : Nat) (s : State) : Out :=
  runOrder 0x03 id s fun s o =>
    s.checked o (o.params 0 o.noTarget [(16, 24)] (o.hostRange 24 32 0)) fun s =>
      let old := decide (o.field 16 8 < s.oldestSeq)
      let first := max (o.field 16 8) s.oldestSeq
      let n := min (o.field 32 8 / 64) (s.arbiter.newest + 1 - first)
      match s.journalRead first n with
      | (s, none) => s.finish o Ending.memError
      | (s, some bs) => s.answerHost o (o.field 24 8) bs { status := 0, d17 := bitOf old, result := n + 2 ^ 32 * s.arbiter.newest }

/-- FILL (R417). -/
def execFill (id : Nat) (s : State) : Out :=
  runOrder 0x08 id s fun s o =>
    let a := o.field 16 8
    let len := o.field 24 8
    s.checked o (o.params 0 o.noTarget [(16, 24)]
      ([{ byte := 16, ok := a ≠ 0 && a % 64 = 0 }, { byte := 24, ok := len ≠ 0 && len % 64 = 0 }] ++ s.rangeChecks a len 16 24)) fun s =>
      match s.rangeHeld a len with
      | some n => s.finish o (Ending.badState (s.slot n).state.code)
      | none => s.goTransfer { order := o.id, src := .pattern (o.field 32 8), dst := .hall a, length := len, moved := 0, data := none }

/-- Checks of a module source of a COPY: any window, on any module (R306, R418). -/
def State.sourceChecks (s : State) (hall len : Nat) : List Check :=
  let a := hallLocal hall
  let near := !s.far hall
  [{ byte := 16, ok := regionOf a ≠ .outside && !(near && regionOf a = .firmware) },
   { byte := 32, ok := len = 0 || (oneWindow a len && !(near && regionOf (a + len - 1) = .firmware)) }]

/-- Whether two hall ranges overlap. -/
def rangesOverlap (a b len : Nat) : Bool := len ≠ 0 && a < b + len && b < a + len

/-- COPY (R418). -/
def execCopy (id : Nat) (s : State) : Out :=
  runOrder 0x09 id s fun s o =>
    let dir := o.flags / 4 % 4
    let src := o.field 16 8
    let dst := o.field 24 8
    let len := o.field 32 8
    let cs := [{ byte := 1, ok := dir ≠ 3 }, { byte := 16, ok := src % 64 = 0 }, { byte := 24, ok := dst % 64 = 0 },
      { byte := 32, ok := len % 64 = 0 }, { byte := 24, ok := !(dir = 2 && rangesOverlap src dst len) }] ++
      (if dir = 0 then [] else s.sourceChecks src len) ++ if dir = 1 then [] else s.rangeChecks dst len 24 32
    s.checked o (o.params 0x0C o.noTarget [(16, 24)] cs) fun s =>
      match if dir = 1 then none else s.rangeHeld dst len with
      | some n => s.finish o (Ending.badState (s.slot n).state.code)
      | none => s.goTransfer { order := o.id, src := if dir = 0 then .host src else .hall src,
                               dst := if dir = 1 then .host dst else .hall dst, length := len, moved := 0, data := none }

/-- The stations that hold a line of a range (R325). -/
def rangeStations (a len : Nat) : List Nat :=
  let g := (List.range (min 6 (len / 4096))).map fun i => stationOf (a + 4096 * i)
  [0, 1, 2, 3, 4, 5, 8, 9].filter fun n => g.contains n

/-- Removes the entry that holds a range; a lap under way goes over it no longer, also where the range is declared again (R329, R419). -/
def MemStation.removeRange (m : MemStation) (r : Nat × Nat) : MemStation :=
  { m with ranges := m.ranges.erase r, lapRanges := m.lapRanges.erase r }

/-- The highest number of entries in use among the stations (R332, R419). -/
def State.mostRanges (s : State) : Nat := [0, 1, 2, 3, 4, 5, 8, 9].foldl (fun a n => max a (s.station n).ranges.length) 0

/-- Whether a range lies wholly within the HBM or the Larder window (R325). -/
def scrubbable (a len : Nat) : Bool := oneWindow a len && a < sliceBase

/-- SCRUB_DECLARE (R419). -/
def execScrubDeclare (id : Nat) (s : State) : Out :=
  runOrder 0x0A id s fun s o =>
    let a := hallLocal (o.field 16 8)
    let len := o.field 24 8
    let remove := bitAt o.flags 2 = 1
    let ns := rangeStations a len
    let held := ns.all fun n => (s.station n).ranges.contains (a, len)
    let room := ns.all fun n => (s.station n).ranges.length < 16
    s.checked o (o.params 4 o.noTarget [(16, 16)]
      [s.localAddr o 16 4096, { byte := 16, ok := scrubbable a 1 }, { byte := 24, ok := len ≠ 0 && len % 4096 = 0 && scrubbable a len },
       { byte := 16, ok := if remove then held && ns ≠ [] else room }]) fun s =>
      let s := ns.foldl (fun s n => s.modStation n fun m =>
        if remove then m.removeRange (a, len) else { m with ranges := m.ranges ++ [(a, len)] }) s
      s.finish o (Ending.ok s.mostRanges)

end Sys2Proof.Machine
end

