-- ==== Sys2Proof/Machine/Curves.lean ====
section
/-! DEFINITION. Machine/Curves.lean: curve sets as byte strings (R144 to R148, R157). -/

namespace Sys2Proof.Machine

/-- SIZE of a curve set, from its header (R146). -/
def curveSize (bs : List Byte) : Nat := fieldAt bs 4 4

/-- Whether n bytes from an offset are zero. -/
def zeroAt (bs : List Byte) (start n : Nat) : Bool := (slice bs start n).all fun b => b = 0

/-- One knot; PUMP values are sign-extended from bit 16, the others zero-extended from bit 15 (R144). -/
def parseKnot (pump : Bool) (bs : List Byte) : Option (Nat × Int) :=
  let v := fieldAt bs 8 4
  let x := if pump then signed 32 v else (v : Int)
  let ok := if pump then decide (-65536 ≤ x ∧ x < 65536) else decide (v < 65536)
  if ok && zeroAt bs 12 4 then some (fieldAt bs 0 8, x) else none

/-- Knots in strictly ascending epochs (R145, R147). -/
def parseKnots (pump : Bool) : Nat → List Byte → Option (List (Nat × Int))
  | 0, _ => some []
  | n + 1, bs =>
    match parseKnot pump (bs.take 16), parseKnots pump n (bs.drop 16) with
    | some k, some ks =>
      match ks with
      | [] => some [k]
      | k' :: _ => if k.1 < k'.1 then some (k :: ks) else none
    | _, _ => none

/-- One curve of a set: its PRESENT bit i, its knot count at byte 9 + i, its mode at byte 13 + i (R146, R147). The outer answer
is none where the item is badly formed. -/
def parseCurve (bs : List Byte) (i start : Nat) : Option (Option Curve) :=
  let n := fieldAt bs (9 + i) 1
  let mode := fieldAt bs (13 + i) 1
  if bitAt (fieldAt bs 8 1) i = 0 then if n = 0 && mode = 0 then some none else none
  else if 1 ≤ n && n ≤ 64 && mode ≤ 1 then
    (parseKnots (i = 2) n (slice bs start (16 * n))).map fun ks => some { linear := mode = 1, knots := ks }
  else none

/-- The ladder of a set (R146). -/
def parseLadder (bs : List Byte) (start : Nat) : Option (Option (List Nat)) :=
  let n := fieldAt bs 30 2
  if bitAt (fieldAt bs 8 1) 3 = 0 then if n = 0 then some none else none
  else if 2 ≤ n && n ≤ 1024 then some (some ((List.range n).map fun r => fieldAt bs (start + 2 * r) 2))
  else none

/-- The relaxation constants of a set (R146). -/
def parseRelax (bs : List Byte) : Option (Option RelaxConst) :=
  if bitAt (fieldAt bs 8 1) 4 = 0 then if zeroAt bs 22 8 then some none else none
  else some (some { dt := fieldAt bs 22 2, a0 := fieldAt bs 24 2, c := fieldAt bs 26 2, interval := fieldAt bs 28 2 })

/-- A well-formed curve set (R147); none for a badly formed one. -/
def parseCurves (bs : List Byte) : Option CurveSet :=
  let kb := 16 * fieldAt bs 9 1
  let kn := 16 * fieldAt bs 10 1
  let kp := 16 * fieldAt bs 11 1
  let size := 64 + kb + kn + kp + 2 * fieldAt bs 30 2
  let head := decide (64 ≤ bs.length) && fieldAt bs 0 4 = 1 && fieldAt bs 8 1 < 32 && zeroAt bs 12 1 && zeroAt bs 16 6 &&
    zeroAt bs 32 32 && curveSize bs = size && bs.length = size
  match if head then parseCurve bs 0 64 else none, parseCurve bs 1 (64 + kb), parseCurve bs 2 (64 + kb + kn),
      parseLadder bs (64 + kb + kn + kp), parseRelax bs with
  | some b, some n, some p, some l, some r => some { beta := b, noise := n, pump := p, ladder := l, relax := r }
  | _, _, _, _, _ => none

/-- The items of one set replace those of another, item by item (R148). -/
def CurveSet.onTop (new old : CurveSet) : CurveSet :=
  { beta := new.beta <|> old.beta, noise := new.noise <|> old.noise, pump := new.pump <|> old.pump,
    ladder := new.ladder <|> old.ladder, relax := new.relax <|> old.relax }

/-- Number of knots of an item. -/
def knotCount (c : Option Curve) : Nat := match c with | some c => c.knots.length | none => 0
/-- Mode byte of an item. -/
def modeByte (c : Option Curve) : Nat := match c with | some c => bitOf c.linear | none => 0
/-- Knot records of an item (R144). -/
def knotBytes (c : Option Curve) : List Byte :=
  match c with
  | some c => c.knots.flatMap fun k => leBytes 8 k.1 ++ leBytes 4 (toField 32 k.2) ++ zeros 4
  | none => []

/-- The canonical curve set: every item in force and only those, SIZE exact (R148). -/
def CurveSet.canonical (c : CurveSet) : List Byte :=
  let body := knotBytes c.beta ++ knotBytes c.noise ++ knotBytes c.pump ++ (c.ladder.getD []).flatMap (leBytes 2)
  let present := bitOf c.beta.isSome + 2 * bitOf c.noise.isSome + 4 * bitOf c.pump.isSome + 8 * bitOf c.ladder.isSome +
    16 * bitOf c.relax.isSome
  let r := c.relax.getD { dt := 0, a0 := 0, c := 0, interval := 0 }
  leBytes 4 1 ++ leBytes 4 (64 + body.length) ++ leBytes 1 present ++ leBytes 1 (knotCount c.beta) ++
    leBytes 1 (knotCount c.noise) ++ leBytes 1 (knotCount c.pump) ++ zeros 1 ++ leBytes 1 (modeByte c.beta) ++
    leBytes 1 (modeByte c.noise) ++ leBytes 1 (modeByte c.pump) ++ zeros 6 ++ leBytes 2 r.dt ++ leBytes 2 r.a0 ++ leBytes 2 r.c ++
    leBytes 2 r.interval ++ leBytes 2 ((c.ladder.getD []).length) ++ zeros 32 ++ body

/-- EXCHANGE_INTERVAL of a set. -/
def CurveSet.interval (c : CurveSet) : Nat := match c.relax with | some r => r.interval | none => 0

/-- The rule of R157 for an exchange: it needs a ladder, MODE = GIBBS, CATEGORICAL = 0 and at least 2 replicas run. -/
def CurveSet.exchangeOk (c : CurveSet) (relax categorical : Bool) (runs : Nat) : Bool :=
  c.interval = 0 || (c.ladder.isSome && !relax && !categorical && 2 ≤ runs)

end Sys2Proof.Machine
end

