-- ==== Sys2Proof/Machine/ImageCheck.lean ====
section
/-! DEFINITION. Machine/ImageCheck.lean: the model image and checks 1 to 6 of R69 (R42 to R51, R53 to R69, R139). -/

namespace Sys2Proof.Machine

/-! ### Failures (R69) -/

/-- No section index, or no record index (R69). -/
def noSection : Nat := 0xFFFF
/-- No record index. -/
def noRecord : Nat := 0xFFFFFFFF

/-- A failure of checks 1 to 5: the check, the section, the block or record, and the word for a program (R69, R139). -/
structure ImageFault where
  check : Nat
  part : Nat
  record : Nat
  word : Nat
  deriving DecidableEq, Repr

/-- A failure at a record of a section at check 4. -/
def at4 (part record : Nat) : Option ImageFault := some { check := 4, part := part, record := record, word := 0 }

/-- How a command ends whose image fails checks 1 to 5 (R69). -/
def ImageFault.ending (f : ImageFault) : Ending :=
  { status := 0x11, d17 := f.check, d18 := f.part, result := f.record + 2 ^ 32 * f.word }

/-- A failure where a condition does not hold. -/
def need (ok : Bool) (f : Option ImageFault) : Option ImageFault := if ok then none else f

/-- The first failure of a list of checks, in its order. -/
def firstFault : List (Option ImageFault) → Option ImageFault
  | [] => none
  | some f :: _ => some f
  | none :: t => firstFault t

/-! ### Header and directory (R53 to R56) -/

/-- The header fields that the loader uses (R53, R55). -/
structure Header where
  size : Nat
  flags : Nat
  partIndex : Nat
  partCount : Nat
  modelVariables : Nat
  blockCount : Nat
  partVariables : Nat
  colours : Nat
  programs : Nat
  cats : Nat
  deriving DecidableEq, Repr

/-- The header of an image (R53). -/
def Header.read (h : List Byte) : Header :=
  { size := fieldAt h 8 8, flags := fieldAt h 16 4, partIndex := fieldAt h 20 2, partCount := fieldAt h 22 2,
    modelVariables := fieldAt h 24 4, blockCount := fieldAt h 28 4, partVariables := fieldAt h 32 4,
    colours := fieldAt h 36 1, programs := fieldAt h 38 1, cats := fieldAt h 40 4 }

/-- MODE = RELAX (R55). -/
def Header.relax (h : Header) : Bool := bitAt h.flags 0 = 1
/-- SYNC_DYNAMICS (R55). -/
def Header.sync (h : Header) : Bool := bitAt h.flags 1 = 1
/-- CATEGORICAL (R55). -/
def Header.categorical (h : Header) : Bool := bitAt h.flags 3 = 1
/-- FOREIGN (R55). -/
def Header.foreign (h : Header) : Bool := bitAt h.flags 4 = 1

/-- Check 1: magic, versions, zero fields, FLAGS and the header ranges (R51, R53 to R55, R69). -/
def checkHeader (bs : List Byte) : Option ImageFault :=
  let h := Header.read bs
  need (fieldAt bs 0 4 = 0x3639584C && fieldAt bs 4 2 = 1 && fieldAt bs 6 2 = 0x0100 &&
      zeroAt bs 37 1 && zeroAt bs 39 1 && zeroAt bs 44 4 && zeroAt bs 56 8 &&
      h.flags < 32 && !(h.foreign && h.partCount = 1) && h.categorical = decide (h.cats ≠ 0) &&
      (!h.relax || (h.colours = 1 && !h.sync && !h.categorical)) &&
      1 ≤ h.partCount && h.partIndex < h.partCount && 1 ≤ h.modelVariables && 1 ≤ h.blockCount &&
      1 ≤ h.colours && h.colours ≤ 16 && 1 ≤ h.programs && h.programs ≤ 16)
    (some { check := 1, part := noSection, record := noRecord, word := 0 })

/-- The twelve directory entries, offset and size (R56). -/
def directoryOf (bs : List Byte) : List (Nat × Nat) := (List.range 12).map fun n => (fieldAt bs (64 + 16 * n) 8, fieldAt bs (72 + 16 * n) 8)

/-- Whether the size of a present section fits its kind (R56). DESIGN CHOICE (log 94): TABLES and PROGRAMS may be longer than what their records
address, and TABLES may end with a part of an entry. -/
def sizeOk (h : Header) (n size : Nat) : Bool :=
  match n with
  | 0 => size = 32 * h.blockCount
  | 1 => size % 33024 = 0
  | 2 => size % 8 = 0
  | 3 => size = 128 * h.blockCount
  | 4 => size = 16 * h.cats
  | 5 => size % 24 = 0
  | 9 => size = 16
  | 11 => size = 64
  | _ => true

/-- Sections that an image must have (R56); COUPLINGS is needed only by a block with dense couplings. -/
def required (h : Header) : List Nat := [0, 3, 7, 9, 11] ++ if h.categorical then [4, 6] else []

/-- Goes through the directory: `end_` is the end of the present sections so far (R56). DESIGN CHOICE (log 94): an entry with SIZE 0 and an
OFFSET other than 0 is neither absent nor present, and is refused. -/
def checkEntries (h : Header) : List (Nat × Nat × Nat) → Nat → Option ImageFault
  | [], end_ => need (end_ = h.size) (some { check := 2, part := 11, record := noRecord, word := 0 })
  | (n, off, size) :: t, end_ =>
    let bad := some { check := 2, part := n, record := noRecord, word := 0 }
    if off = 0 && size = 0 then if (required h).contains n then bad else checkEntries h t end_
    else if end_ ≤ off && off % 64 = 0 && size ≠ 0 && sizeOk h n size then checkEntries h t (off + size)
    else bad

/-- Check 2: IMAGE_SIZE within the region, and the directory (R56, R69). -/
def checkDirectory (h : Header) (dir : List (Nat × Nat)) (regionLen : Nat) : Option ImageFault :=
  if 256 ≤ h.size && h.size ≤ regionLen then checkEntries h (((List.range 12).zip dir).map fun p => (p.1, p.2.1, p.2.2)) 256
  else some { check := 2, part := noSection, record := noRecord, word := 0 }

/-- An image with its header and directory. -/
structure RawImage where
  head : Header
  dir : List (Nat × Nat)
  bytes : List Byte
  deriving DecidableEq, Repr

/-- The bytes of a section; empty where it is absent. -/
def RawImage.part (g : RawImage) (n : Nat) : List Byte :=
  match g.dir[n]? with | some e => slice g.bytes e.1 e.2 | none => []

/-- Check 3: IMAGE_DIGEST (R68). -/
def RawImage.checkDigest (g : RawImage) : Option ImageFault :=
  let off := match g.dir[11]? with | some e => e.1 | none => 0
  need (sha256 (g.bytes.take off) = slice (g.part 11) 32 32) (some { check := 3, part := 11, record := noRecord, word := 0 })

/-! ### BLOCKS (R57, R42) -/

/-- A block record (R57). -/
structure BlockRec where
  varBase : Nat
  varCount : Nat
  exponent : Int
  program : Nat
  blobOffset : Nat
  edgeFirst : Nat
  edgeCount : Nat
  flags : Nat
  deriving DecidableEq, Repr

/-- Record n of the BLOCKS section. -/
def BlockRec.read (bs : List Byte) (n : Nat) : BlockRec :=
  let r := slice bs (32 * n) 32
  { varBase := fieldAt r 0 4, varCount := fieldAt r 4 2, exponent := signed 8 (fieldAt r 6 1), program := fieldAt r 7 1,
    blobOffset := fieldAt r 8 8, edgeFirst := fieldAt r 16 4, edgeCount := fieldAt r 20 4, flags := fieldAt r 24 4 }

/-- CATEGORICAL block. -/
def BlockRec.categorical (b : BlockRec) : Bool := bitAt b.flags 0 = 1
/-- NO_DENSE. -/
def BlockRec.noDense (b : BlockRec) : Bool := bitAt b.flags 1 = 1
/-- Whether a block owns a variable. -/
def BlockRec.owns (b : BlockRec) (v : Nat) : Bool := b.varBase ≤ v && v < b.varBase + b.varCount

/-- The block records of an image. -/
def RawImage.blocks (g : RawImage) : List BlockRec := (List.range g.head.blockCount).map (BlockRec.read (g.part 0))

/-- The block and index that own a variable of this part. -/
def ownerOf (bs : List BlockRec) (v : Nat) : Option (Nat × BlockRec) := ((List.range bs.length).zip bs).find? fun p => p.2.owns v

/-- The rules of one block record (R40, R42, R57). -/
def RawImage.blockOk (g : RawImage) (n : Nat) (b : BlockRec) : Bool :=
  zeroAt (g.part 0) (32 * n + 28) 4 && b.flags < 4 && 1 ≤ b.varCount && b.varCount ≤ 256 && b.program < g.head.programs &&
    b.edgeCount ≤ 65536 && b.varBase + b.varCount ≤ g.head.modelVariables && (b.noDense || b.blobOffset % 64 = 0) &&
    (!b.categorical || (b.noDense && b.edgeCount = 0 && g.head.categorical))

/-- Two blocks share a variable ID (R42). -/
def shareVars (a b : BlockRec) : Bool := a.varBase < b.varBase + b.varCount && b.varBase < a.varBase + a.varCount

/-- Section 0 at check 4; a shared variable ID names the later block. -/
def RawImage.checkBlocks (g : RawImage) : Option ImageFault :=
  let bs := g.blocks
  firstFault ((((List.range bs.length).zip bs).map fun p =>
      need (g.blockOk p.1 p.2 && !(bs.take p.1).any (fun a => shareVars a p.2)) (at4 0 p.1)) ++
    [need ((bs.map fun b => b.varCount).sum = g.head.partVariables) (at4 0 noRecord)])

/-! ### COUPLINGS (R43, R58) -/

/-- The nonzero bytes of a blob, by offset. -/
def blobMem (bs : List Byte) : Mem := Mem.cellsOf zeroBackground 0 bs

/-- The loader's view of a block of which only the coupling blob is known. -/
def blobBlock (b : BlockRec) (blob : Mem) : Block :=
  { varBase := b.varBase, varCount := b.varCount, exponent := b.exponent, program := b.program, categorical := b.categorical,
    noDense := b.noDense, edgeFirst := b.edgeFirst, edges := [], blob := blob, colours := [], init := [] }

/-- The coupling blob of a block; empty for a block with NO_DENSE. -/
def RawImage.blobOf (g : RawImage) (b : BlockRec) : Mem :=
  if b.noDense then [] else blobMem (slice (g.part 1) b.blobOffset 33024)

/-- Zero diagonal, symmetry, and zeros at local indices VAR_COUNT and above (R43, R58). -/
def blobOk (b : Block) : Bool :=
  b.blob.all fun c =>
    if c.1 < 32768 then
      let i := c.1 / 128
      [2 * (c.1 % 128), 2 * (c.1 % 128) + 1].all fun j =>
        b.coupling i j = 0 || (i < b.varCount && j < b.varCount && i ≠ j && b.coupling i j = b.coupling j i)
    else c.1 - 32768 < b.varCount

/-- Section 1 at check 4. -/
def RawImage.checkCouplings (g : RawImage) : Option ImageFault :=
  let bs := g.blocks
  firstFault (((List.range bs.length).zip bs).map fun p =>
    need (p.2.noDense || (p.2.blobOffset + 33024 ≤ (g.part 1).length && blobOk (blobBlock p.2 (g.blobOf p.2)))) (at4 1 p.1))

/-! ### EDGES (R44, R57, R59) -/

/-- Record r of an EDGES section (R59). -/
def edgeAt (bs : List Byte) (r : Nat) : Edge :=
  { neighbour := fieldAt bs (8 * r + 4) 4, weight := signed 8 (fieldAt bs (8 * r + 3) 1), index := fieldAt bs (8 * r + 2) 1 }

/-- The edge records of a block. -/
def RawImage.edgesOf (g : RawImage) (b : BlockRec) : List Edge :=
  (List.range b.edgeCount).map fun i => edgeAt (g.part 2) (b.edgeFirst + i)

/-- The rules of record r of block b (R59). -/
def RawImage.edgeOk (g : RawImage) (bs : List BlockRec) (b : BlockRec) (r : Nat) : Bool :=
  let d := g.part 2
  let e := edgeAt d r
  let p := edgeAt d (r - 1)
  zeroAt d (8 * r) 2 && e.index < b.varCount && e.weight ≠ 0 && !b.owns e.neighbour &&
    (r = b.edgeFirst || p.index < e.index || (p.index = e.index && p.neighbour < e.neighbour)) &&
    match ownerOf bs e.neighbour with
    | some o => !o.2.categorical
    | none => g.head.foreign && e.neighbour < g.head.modelVariables

/-- Section 2 at check 4: every block's records lie in the section, every record belongs to exactly one block (R57), and the
rules of R59. -/
def RawImage.checkEdges (g : RawImage) : Option ImageFault :=
  let bs := g.blocks
  let n := (g.part 2).length / 8
  firstFault (
    (((List.range bs.length).zip bs).map fun p => need (p.2.edgeCount = 0 || p.2.edgeFirst + p.2.edgeCount ≤ n) (at4 2 p.1)) ++
    (List.range n).map fun r =>
      match bs.filter fun b => b.edgeFirst ≤ r && r < b.edgeFirst + b.edgeCount with
      | [b] => need (g.edgeOk bs b r) (at4 2 r)
      | _ => at4 2 r)

/-! ### COLOURS (R60) -/

/-- The colours of block n. -/
def RawImage.coloursOf (g : RawImage) (n count : Nat) : List Nat :=
  (List.range count).map fun i =>
    let v := fieldAt (g.part 3) (128 * n + i / 2) 1
    if i % 2 = 0 then v % 16 else v / 16

/-- Section 3 at check 4. -/
def RawImage.checkColours (g : RawImage) : Option ImageFault :=
  let bs := g.blocks
  firstFault (((List.range bs.length).zip bs).map fun p =>
    let cs := g.coloursOf p.1 256
    need ((cs.take p.2.varCount).all (fun c => c < g.head.colours) && (cs.drop p.2.varCount).all (fun c => c = 0)) (at4 3 p.1))

/-! ### CATEGORICAL, FACTORS and TABLES (R46, R61 to R63) -/

/-- Record r of the CATEGORICAL section: variable, K and the offset of its unary table (R61). -/
def catAt (bs : List Byte) (r : Nat) : Nat × Nat × Nat := (fieldAt bs (16 * r) 4, fieldAt bs (16 * r + 4) 2 + 1, fieldAt bs (16 * r + 8) 8)

/-- The categorical records of an image. -/
def RawImage.catRecs (g : RawImage) : List (Nat × Nat × Nat) := (List.range g.head.cats).map (catAt (g.part 4))

/-- K of a categorical variable of this part. -/
def statesOf (cs : List (Nat × Nat × Nat)) (v : Nat) : Option Nat := (cs.find? fun c => c.1 = v).map fun c => c.2.1

/-- Section 4 at check 4. -/
def RawImage.checkCats (g : RawImage) : Option ImageFault :=
  let bs := g.blocks
  let cs := g.catRecs
  let size := (g.part 6).length
  firstFault ((((List.range cs.length).zip cs).map fun p =>
      let prev := if p.1 = 0 then none else (cs[p.1 - 1]?).map fun c => c.1
      let own := match ownerOf bs p.2.1 with | some o => o.2.categorical | none => false
      need (zeroAt (g.part 4) (16 * p.1 + 6) 2 && 2 ≤ p.2.2.1 && own && (match prev with | some v => v < p.2.1 | none => true) &&
        p.2.2.2 % 4 = 0 && p.2.2.2 + 4 * p.2.2.1 ≤ size) (at4 4 p.1)) ++
    [need (cs.length = ((bs.filter fun b => b.categorical).map fun b => b.varCount).sum) (at4 4 noRecord)])

/-- Record r of the FACTORS section: VAR_A, VAR_B and TABLE_OFFSET (R62). -/
def factorAt (bs : List Byte) (r : Nat) : Nat × Nat × Nat := (fieldAt bs (24 * r) 4, fieldAt bs (24 * r + 4) 4, fieldAt bs (24 * r + 8) 8)

/-- The factor records of an image. -/
def RawImage.factorRecs (g : RawImage) : List (Nat × Nat × Nat) := (List.range ((g.part 5).length / 24)).map (factorAt (g.part 5))

/-- Section 5 at check 4: the whole table of a factor whose variables this part owns; alignment and the first entry only where
VAR_B is foreign (R46, R62). DESIGN CHOICE (log 94): in an image with FOREIGN 0 a VAR_B that the part does not own fails here. -/
def RawImage.checkFactors (g : RawImage) : Option ImageFault :=
  let bs := g.blocks
  let cs := g.catRecs
  let fs := g.factorRecs
  let size := (g.part 6).length
  firstFault (((List.range fs.length).zip fs).map fun p =>
    let f := p.2
    let rest := match statesOf cs f.1, ownerOf bs f.2.1 with
      | none, _ => false
      | some ka, some _ =>
        (match statesOf cs f.2.1 with
        | some kb => f.1 < f.2.1 && ka * kb ≤ 65536 && f.2.2 + 4 * (ka * kb) ≤ size
        | none => false)
      | some _, none => g.head.foreign && f.2.2 + 4 ≤ size
    need (zeroAt (g.part 5) (24 * p.1 + 16) 8 && f.2.2 % 4 = 0 && rest &&
      !(fs.take p.1).any fun e => e.1 = f.1 && e.2.1 = f.2.1) (at4 5 p.1))

/-- Entry i of a TABLES section (R63). -/
def tableEntry (bs : List Byte) (i : Nat) : Int := signed 32 (fieldAt bs (4 * i) 4)

/-- A Q8.8 value sign-extended from bit 16 (R63). -/
def entryOk (x : Int) : Bool := decide (-65536 ≤ x ∧ x < 65536)

/-- Whether an entry of TABLES lies in a table whose size this part knows (R61, R62). -/
def RawImage.ownEntry (g : RawImage) (i : Nat) : Bool :=
  let cs := g.catRecs
  let inside := fun (off n : Nat) => off / 4 ≤ i && i < off / 4 + n
  cs.any (fun c => inside c.2.2 c.2.1) ||
    g.factorRecs.any fun f => match statesOf cs f.1, statesOf cs f.2.1 with | some a, some b => inside f.2.2 (a * b) | _, _ => false

/-- Section 6 at check 4. An entry that may belong to a factor table with a foreign variable is left to R624. -/
def RawImage.checkTables (g : RawImage) : Option ImageFault :=
  let bs := g.blocks
  let t := g.part 6
  let foreign := g.factorRecs.filter fun f => (ownerOf bs f.2.1).isNone
  firstFault ((List.range (t.length / 4)).map fun i =>
    need (entryOk (tableEntry t i) || (!g.ownEntry i && foreign.any fun f => f.2.2 / 4 ≤ i)) (at4 6 i))

/-! ### PROGRAMS (R64, R139) -/

/-- A failure of a program: its index and the word at fault (R139). -/
def programFault (i word : Nat) : Option ImageFault := some { check := 4, part := 7, record := i, word := word }

/-- OFFSET and SIZE of a program. -/
def RawImage.programAt (g : RawImage) (i : Nat) : Nat × Nat := (fieldAt (g.part 7) (16 * i + 4) 4, fieldAt (g.part 7) (16 * i) 4)

/-- The words of a program. -/
def RawImage.programWords (g : RawImage) (i : Nat) : List Word :=
  let e := g.programAt i
  (List.range (e.2 / 4)).map fun w => BitVec.ofNat 32 (fieldAt (g.part 7) (e.1 + 4 * w) 4)

/-- The rules of a program's entry (R64). -/
def RawImage.entryFits (g : RawImage) (i : Nat) : Bool :=
  let e := g.programAt i
  16 * (i + 1) ≤ (g.part 7).length && zeroAt (g.part 7) (16 * i + 8) 8 && 4 ≤ e.2 && e.2 ≤ 8192 && e.2 % 4 = 0 && e.1 % 4 = 0 &&
    16 * g.head.programs ≤ e.1 && e.1 + e.2 ≤ (g.part 7).length

/-- The target of a branch, relative to the word after it; none for other instructions (R119). -/
def branchOffset : Instr → Option Int
  | .jmp _ off => some off.toInt
  | .bz _ _ off | .bnz _ _ off | .loop _ _ off => some off.toInt
  | .blt _ _ _ off => some off.toInt
  | _ => none

/-- The kinds that an instruction belongs to; none for an instruction of every kind (R139). -/
def kindsOf : Instr → Option (List Nat)
  | .updc _ | .updm .. => some [0]
  | .rlxc _ => some [2]
  | .sievec _ => some [1]
  | .fdp .. | .finca .. | .mvs .. => some [0, 2]
  | _ => none

/-- Whether an instruction is a stage-2 instruction that a kind needs (R139). -/
def servesKind (k : Nat) : Instr → Bool
  | .updc _ | .updm .. => k = 0
  | .sievec _ => k = 1
  | .rlxc _ => k = 2
  | _ => false

/-- Whether an instruction is PDONE. -/
def isPdone : Instr → Bool
  | .pdone _ => true
  | _ => false
/-- Whether an instruction is END. -/
def isEnd : Instr → Bool
  | .endPhase _ => true
  | _ => false
/-- Whether an instruction is a SIG with count 0. -/
def isEmptySig : Instr → Bool
  | .sig _ _ n => n = 0
  | _ => false

/-- Whether word i of a program of n words, used by blocks of some kinds, passes Decode, Branches, Counts and Kinds (R139). -/
def wordOk (n : Nat) (kinds : List Nat) (i : Nat) (w : Word) : Bool :=
  match decodeStage 0 w with
  | none => false
  | some x =>
    (match branchOffset x with | some off => decide (0 ≤ (i : Int) + 1 + off ∧ (i : Int) + 1 + off < n) | none => true) &&
      !isEmptySig x && match kindsOf x with | some ks => kinds.all fun k => ks.contains k | none => true

/-- One program: every word, then the instructions it needs, then PDONE and END (R139). -/
def checkProgram (ws : List Word) (kinds : List Nat) (i : Nat) : Option ImageFault :=
  let xs := ws.filterMap (decodeStage 0)
  firstFault ((((List.range ws.length).zip ws).map fun p => need (wordOk ws.length kinds p.1 p.2) (programFault i p.1)) ++
    [need (kinds.all (fun k => xs.any (servesKind k)) && xs.any isPdone && xs.any isEnd) (programFault i noRecord)])

/-- KIND of a block record (R82). -/
def RawImage.kindOf (g : RawImage) (b : BlockRec) : Nat := if b.categorical then 1 else if g.head.relax then 2 else 0

/-- Section 7 at check 4. -/
def RawImage.checkPrograms (g : RawImage) : Option ImageFault :=
  let ns := List.range g.head.programs
  firstFault ((ns.map fun i => need (g.entryFits i) (programFault i noRecord)) ++
    ns.map fun i => checkProgram (g.programWords i) ((g.blocks.filter fun b => b.program = i).map g.kindOf) i)

/-! ### CURVES, STREAMS and INIT_STATE (R65 to R67) -/

/-- The curve set of an image; the empty set where the section is absent. -/
def RawImage.curves (g : RawImage) : Option CurveSet :=
  if g.part 8 = [] then some { beta := none, noise := none, pump := none, ladder := none, relax := none }
  else parseCurves (g.part 8)

/-- Section 8 at check 4; every replica of the command runs until a SLOT_CONFIG changes RUNS (R157, R452). -/
def RawImage.checkCurves (g : RawImage) (replicas : Nat) : Option ImageFault :=
  need (match g.curves with | some c => c.exchangeOk g.head.relax g.head.categorical replicas | none => false) (at4 8 noRecord)

/-- Section 9 at check 4; a RELAX image needs two draws (R66, R150). -/
def RawImage.checkStreams (g : RawImage) : Option ImageFault :=
  let d := fieldAt (g.part 9) 0 1
  need (fieldAt (g.part 9) 1 1 = 1 && zeroAt (g.part 9) 2 14 && 1 ≤ d && d ≤ 16 && (!g.head.relax || 2 ≤ d)) (at4 9 noRecord)

/-- Where the initial state of block n lies in INIT_STATE. -/
def RawImage.initAt (g : RawImage) (n : Nat) : Nat := ((g.blocks.take n).map fun b => recordSize (g.kindOf b)).sum

/-- The expanded initial state record of block n (R67). -/
def RawImage.initOf (g : RawImage) (n : Nat) (b : BlockRec) : List Byte :=
  let size := recordSize (g.kindOf b)
  if g.part 10 = [] then zeros size else slice (g.part 10) (g.initAt n) size

/-- Whether a value in Q1.14 has a magnitude of at most 1.0. -/
def unitOk (v : Nat) : Bool := (signed 16 v).natAbs ≤ 16384

/-- The rules of a state record (R67, R460). -/
def recordOk (kind varBase varCount : Nat) (states : Nat → Option Nat) (r : List Byte) : Bool :=
  match kind with
  | 0 => leNat r < 2 ^ varCount
  | 1 => (List.range varCount).all (fun i => match states (varBase + i) with | some k => fieldAt r (2 * i) 2 < k | none => false) &&
      zeroAt r (2 * varCount) (512 - 2 * varCount)
  | _ => (List.range varCount).all (fun i => unitOk (fieldAt r (4 * i) 2) && unitOk (fieldAt r (4 * i + 2) 2)) &&
      zeroAt r (4 * varCount) (1024 - 4 * varCount)

/-- Section 10 at check 4. -/
def RawImage.checkInit (g : RawImage) : Option ImageFault :=
  let bs := g.blocks
  let cs := g.catRecs
  if g.part 10 = [] then none
  else firstFault ([need ((g.part 10).length = g.initAt bs.length) (at4 10 noRecord)] ++
    ((List.range bs.length).zip bs).map fun p =>
      need (recordOk (g.kindOf p.2) p.2.varBase p.2.varCount (statesOf cs) (g.initOf p.1 p.2)) (at4 10 p.1))

/-! ### Checks 4 to 6 -/

/-- Check 4: the sections in index order, for a number of replicas (R69, R157). -/
def RawImage.checkSections (g : RawImage) (replicas : Nat) : Option ImageFault :=
  firstFault [g.checkBlocks, g.checkCouplings, g.checkEdges, g.checkColours, g.checkCats, g.checkFactors, g.checkTables,
    g.checkPrograms, g.checkCurves replicas, g.checkStreams, g.checkInit]

/-- w_a 2^e_a = w_b 2^e_b, exactly (R44). -/
def sameReal (wa ea wb eb : Int) : Bool := wa * (2 ^ (ea - min ea eb).toNat : Nat) = wb * (2 ^ (eb - min ea eb).toNat : Nat)

/-- The block of a record index of EDGES. -/
def edgeBlock (bs : List BlockRec) (r : Nat) : Option BlockRec := bs.find? fun b => b.edgeFirst ≤ r && r < b.edgeFirst + b.edgeCount

/-- Check 5, first part: the mirror of every edge to a variable of this part (R44). -/
def RawImage.checkMirrors (g : RawImage) : Option ImageFault :=
  let bs := g.blocks
  firstFault ((List.range ((g.part 2).length / 8)).map fun r =>
    match edgeBlock bs r with
    | none => none
    | some b =>
      let e := edgeAt (g.part 2) r
      match ownerOf bs e.neighbour with
      | none => none
      | some o => need ((g.edgesOf o.2).any fun m =>
          m.neighbour = b.varBase + e.index && o.2.varBase + m.index = e.neighbour && sameReal e.weight b.exponent m.weight o.2.exponent)
          (some { check := 5, part := 2, record := r, word := 0 }))

/-- The tables of a categorical record. -/
def RawImage.unary (g : RawImage) (c : Nat × Nat × Nat) : CatVar :=
  { var := c.1, states := c.2.1, unary := (List.range c.2.1).map fun k => tableEntry (g.part 6) (c.2.2 / 4 + k) }

/-- A factor with its table; `kb` gives K of VAR_B. -/
def RawImage.factor (g : RawImage) (kb : Nat → Option Nat) (f : Nat × Nat × Nat) : Factor :=
  let ka := (statesOf g.catRecs f.1).getD 0
  let k := (kb f.2.1).getD 0
  { a := f.1, b := f.2.1, kb := k, table := (List.range (ka * k)).map fun i => tableEntry (g.part 6) (f.2.2 / 4 + i) }

/-- Block n as the loader holds it. -/
def RawImage.block (g : RawImage) (n : Nat) (b : BlockRec) : Block :=
  { varBase := b.varBase, varCount := b.varCount, exponent := b.exponent, program := b.program, categorical := b.categorical,
    noDense := b.noDense, edgeFirst := b.edgeFirst, edges := g.edgesOf b, blob := g.blobOf b, colours := g.coloursOf n b.varCount,
    init := g.initOf n b }

/-- A validated image as the loader holds it; `kb` gives K of a factor's second variable (R53 to R68). -/
def RawImage.image (g : RawImage) (address : Nat) (kb : Nat → Option Nat) : Image :=
  let bs := g.blocks
  { address := address, size := g.head.size, relax := g.head.relax, syncDynamics := g.head.sync,
    layered := bitAt g.head.flags 2 = 1, categorical := g.head.categorical, foreign := g.head.foreign,
    partIndex := g.head.partIndex, partCount := g.head.partCount, modelVariables := g.head.modelVariables,
    partVariables := g.head.partVariables, colourCount := g.head.colours, draws := fieldAt (g.part 9) 0 1,
    blocks := ((List.range bs.length).zip bs).map fun p => g.block p.1 p.2
    cats := g.catRecs.map g.unary, factors := g.factorRecs.map (g.factor kb),
    programs := (List.range g.head.programs).map g.programWords,
    curves := g.curves.getD { beta := none, noise := none, pump := none, ladder := none, relax := none },
    programDigest := sha256 (g.part 7)
    initDigest := sha256 (((List.range bs.length).zip bs).flatMap fun p => g.initOf p.1 p.2)
    modelDigest := slice (g.part 11) 0 32, imageDigest := slice (g.part 11) 32 32 }

/-- A colour conflict: lower and higher variable ID, source and colour (R48). -/
structure Conflict where
  low : Nat
  high : Nat
  source : Nat
  colour : Nat
  deriving DecidableEq, Repr

/-- The colour of a variable of this part. -/
def Image.colourOf (g : Image) (v : Nat) : Option Nat := (g.owner v).map fun p => (p.2.colours[v - p.2.varBase]?).getD 0

/-- Whether one conflict is reported before another (R48): dense couplings before edges before factors where the pair is one. -/
def Conflict.before (a b : Conflict) : Bool :=
  a.low < b.low || (a.low = b.low && (a.high < b.high || (a.high = b.high && a.source < b.source)))

/-- A conflict of two variables of this part that share a colour. -/
def Image.conflict (g : Image) (u v source : Nat) : List Conflict :=
  match g.colourOf u, g.colourOf v with
  | some a, some b => if a = b then [{ low := min u v, high := max u v, source := source, colour := a }] else []
  | _, _ => []

/-- Every conflict of an image (R48); foreign edges and factors are not looked at (R49). -/
def Image.conflicts (g : Image) : List Conflict :=
  (g.blocks.flatMap fun b =>
    (b.blob.flatMap fun c => if 32768 ≤ c.1 then [] else
      [2 * (c.1 % 128), 2 * (c.1 % 128) + 1].flatMap fun j =>
        if b.coupling (c.1 / 128) j = 0 then [] else g.conflict (b.varBase + c.1 / 128) (b.varBase + j) 0) ++
    b.edges.flatMap fun e => g.conflict (b.varBase + e.index) e.neighbour 1) ++
  g.factors.flatMap fun f => g.conflict f.a f.b 2

/-- Check 6: the conflict reported, unless R50 or R51 skips the check. -/
def Image.colourCheck (g : Image) : Option Ending :=
  if g.relax || g.syncDynamics then none
  else
    match g.conflicts.foldl (fun a c => match a with | none => some c | some b => if c.before b then some c else some b) none with
    | none => none
    | some c => some { status := 0x23, d17 := 6, d18 := 0xFFFF,
                       result := c.low + 2 ^ 32 * c.high + 2 ^ 64 * c.colour + 2 ^ 72 * c.source }

end Sys2Proof.Machine
end

