-- ==== Sys2Proof/Machine/Fit.lean ====
section
/-! DEFINITION. Machine/Fit.lean: fit classes, placement and the fit report (R37, R70 to R77, R322). -/

namespace Sys2Proof.Machine

/-! ### The procedure of R71 -/

/-- Groups at a fold factor (R71). -/
def groupsAt (blocks replicas f : Nat) : Nat :=
  if f = 1 then blocks * replicas
  else if f ≤ replicas then blocks * ceilDiv replicas f
  else replicas * ceilDiv blocks f

/-- The block-replicas of every group at a fold factor: (replica, block) in fold member order (R74). -/
def groupsOf (blocks replicas f : Nat) : List (List (Nat × Nat)) :=
  if f = 1 || f ≤ replicas then
    (List.range blocks).flatMap fun b => (List.range (ceilDiv replicas f)).map fun j =>
      (List.range (min f (replicas - j * f))).map fun i => (j * f + i, b)
  else
    (List.range replicas).flatMap fun q => (List.range (ceilDiv blocks f)).map fun j =>
      (List.range (min f (blocks - j * f))).map fun i => (q, j * f + i)

/-- A fit report (R77), and the placement it rests on. -/
structure FitReport where
  status : Nat
  reason : Nat
  freeOrShort : Nat
  flags : Nat
  fold : Nat
  rate : Nat
  needed : Nat
  groups : List (Nat × List (Nat × Nat))     -- core and its group
  clusters : List ClusterFit
  larder : Nat                               -- bytes of the fold area
  deriving DecidableEq, Repr

/-- A report of FIT_FAIL (R77). -/
def FitReport.fail (reason freeOrShort needed : Nat) : FitReport :=
  { status := 0x22, reason := reason, freeOrShort := freeOrShort, flags := 0, fold := 0, rate := 0, needed := needed, groups := [],
    clusters := [], larder := 0 }

/-- The completion that carries a report (R69, R77). -/
def FitReport.ending (f : FitReport) (status : Nat) : Ending :=
  { status := status, d17 := f.reason, d18 := 7,
    result := f.needed + 2 ^ 32 * f.rate + 2 ^ 48 * f.fold + 2 ^ 56 * f.flags + 2 ^ 64 * f.freeOrShort }

/-- The cost of a member and its reference (R76). -/
def memberCost (colours fold swap edges : Nat) (c : ClusterFit) : Nat × Nat :=
  let core := min edges 4096
  let far := (edges - core) * (if c.edges.isSome then 2 else 8)
  let swapped := if fold = 1 then 0 else colours * 2 * (swap / 1024) * (if c.fold.isSome then 2 else 8)
  (256 + core + far + swapped, 256 + edges)

/-- RATE_FACTOR in Q8.8 (R76). -/
def Image.rateOf (g : Image) (fold swap : Nat) (groups : List (Nat × List (Nat × Nat))) (cs : List ClusterFit) : Nat :=
  groups.foldl (fun a r =>
    match cs.find? fun c => c.need.cluster = clusterOf r.1 with
    | none => a
    | some c =>
      let ms := r.2.map fun m => memberCost g.colourCount fold swap (match g.blocks[m.2]? with | some k => k.edges.length | none => 0) c
      let total := (ms.map fun p => p.1).sum
      ms.foldl (fun a p => min a (256 * p.2 / total)) a) 256

/-- FIT_FLAGS of a placement (R77). -/
def fitFlagsOf (blockFold : Bool) (cs : List ClusterFit) : Nat :=
  let any := fun (f : ClusterFit → Bool) => bitOf (cs.any f)
  any (fun c => c.need.edges ≠ 0 && c.edges.isSome) +
    2 * any (fun c => (c.need.edges ≠ 0 && c.edges.isNone) || (c.need.tables ≠ 0 && c.tables.isNone)) + 4 * bitOf blockFold +
    8 * any (fun c => c.need.fold ≠ 0 && c.fold.isNone)

/-- Bytes of the fold area: fold state that lies outside the slices (R73, R74). -/
def foldAreaOf (cs : List ClusterFit) : Nat := (cs.map fun c => if c.fold.isNone then c.need.fold else 0).sum

/-- The report for cores chosen for the groups of a fold factor: classes, flags and rate (R71, R76, R77). `room` says whether
FOLD_POOL can hold a fold area. -/
def Image.report (g : Image) (tableBytes : List Nat) (replicas fold free : Nat) (cores : List Nat) (slices : Nat → Nat)
    (room : Nat → Bool) : FitReport :=
  let blockFold := decide (fold ≠ 1 ∧ replicas < fold)
  let swap := swapSize blockFold
  let groups := cores.zip (groupsOf g.blocks.length replicas fold)
  let ks := groups.foldl (fun l r => insertAsc (clusterOf r.1) l) []
  let cs := ks.map fun k =>
    fitCluster (g.clusterNeed tableBytes swap k ((groups.filter fun r => clusterOf r.1 = k).map fun r => r.2)) (slices k)
  let larder := foldAreaOf cs
  let flags := fitFlagsOf blockFold cs
  if room larder then
    { status := if fold ≠ 1 then 0x21 else if flags % 4 ≠ 0 then 0x20 else 0, reason := 0, freeOrShort := free, flags := flags,
      fold := fold, rate := g.rateOf fold swap groups cs, needed := groupsAt g.blocks.length replicas fold, groups := groups,
      clusters := cs, larder := larder }
  else FitReport.fail 3 free (groupsAt g.blocks.length replicas fold)

/-- The fit of an image with the module's free cores and slices (R70, R71). -/
def State.fitOf (s : State) (g : Image) (tableBytes : List Nat) (replicas : Nat) : State × FitReport :=
  let free := s.freeCores
  let blocks := g.blocks.length
  if g.blocks.any (fun b => 65536 < b.edges.length) || g.programs.any (fun p => 2048 < p.length) then
    (s, FitReport.fail 2 free.length (blocks * replicas))
  else
    match [1, 2, 4].find? fun f => groupsAt blocks replicas f ≤ free.length with
    | none => (s, FitReport.fail 1 (groupsAt blocks replicas 4 - free.length) (groupsAt blocks replicas 4))
    | some f =>
      let r := s.choose (groupsAt blocks replicas f) free
      (r.1, g.report tableBytes replicas f free.length r.2 (fun k => (s.freeSlices k).length) fun n =>
        n = 0 || (s.foldRoom n).isSome)

/-- Whether the ALLOW flags of MODEL_LOAD allow a report (R77). -/
def FitReport.allowed (f : FitReport) (spill fold : Bool) : Bool :=
  if f.status = 0 then true
  else if f.status = 0x20 then spill
  else if f.status = 0x21 then fold && (spill || f.flags % 4 = 0)
  else false

end Sys2Proof.Machine
end

