-- ==== Sys2Proof/Machine/ModelCmd.lean ====
section
/-! DEFINITION. Machine/ModelCmd.lean: MODEL_CHECK and MODEL_LOAD, and the loader (R69, R79, R84, R124, R136, R231, R420, R421,
R624). -/

namespace Sys2Proof.Machine

/-! ### Reading for a command that waits -/

/-- What a part of a command's work answers: a value, the way the command ends, or none while it waits for another module. -/
abbrev Work (α : Type) := State × Except (Option Ending) α

/-- Goes on with the value of a part of the work. -/
def Work.next {α β : Type} (w : Work α) (f : State → α → Work β) : Work β :=
  match w.2 with
  | .error e => (w.1, .error e)
  | .ok a => f w.1 a

/-- A value. -/
def Work.done {α : Type} (s : State) (a : α) : Work α := (s, .ok a)
/-- The command ends. -/
def Work.ends {α : Type} (s : State) (e : Ending) : Work α := (s, .error (some e))

/-- Goes on unless a check of R69 fails. -/
def Work.check {α : Type} (s : State) (f : Option ImageFault) (go : State → Work α) : Work α :=
  match f with
  | some f => Work.ends s f.ending
  | none => go s

/-- Reads bytes of the local windows for a command; an uncorrectable read completes it MEM_ERROR (R324, R412). -/
def State.readFor (s : State) (a len : Nat) : Work (List Byte) :=
  match s.readLocal a len with
  | (s, some bs) => (s, .ok bs)
  | (s, none) => (s, .error (some Ending.memError))

/-- Bytes of other modules that an open order has read. -/
def State.remoteOf (s : State) (id : Nat) : Mem := match s.arbiter.remote.find? fun r => r.1 = id with | some r => r.2 | none => []

/-- Keeps bytes of another module for an open order. -/
def State.keepRemote (s : State) (id hall : Nat) (bs : List Byte) : State :=
  let m := Mem.write noBackground (s.remoteOf id) hall bs
  { s with arbiter := { s.arbiter with remote := (s.arbiter.remote.filter fun r => r.1 ≠ id) ++ [(id, m)] } }

/-- Lets go of what an order has read of other modules. -/
def State.dropRemote (s : State) (id : Nat) : State :=
  { s with arbiter := { s.arbiter with remote := s.arbiter.remote.filter fun r => r.1 ≠ id } }

/-- Reads bytes at a hall address for an order: on this module at once, on another by BULK_READ (R360). `byte` is the packet byte
that a refusal names. -/
def State.readHall (s : State) (o : Order) (hall len byte : Nat) : Work (List Byte) :=
  if len = 0 then Work.done s []
  else if !s.far hall then
    match s.readAccess (hallLocal hall) len with
    | (s, .ok bs) => Work.done s bs
    | (s, .error r) => Work.ends s (r.ending byte false)
  else
    let m := s.remoteOf o.id
    match Mem.read noBackground m hall len with
    | some bs => Work.done s bs
    | none =>
      let missing := (List.range len).find? fun i => (Tbl.at m (hall + i)).isNone
      let line := (hall + missing.getD 0) / 64 * 64
      let lines := min 64 ((hall + len + 63 - line) / 64)
      match s.sendRequest .bulkRead line 0 0 (lines - 1) 0 0 [] (some o.id) 0 with
      | (s, none) => (s, .error none)
      | (s, some r) => Work.ends s (r.ending byte true)

/-! ### Images -/

/-- Checks 1 to 5 of R69 on an image in local memory, but for its foreign partners. -/
def State.readImage (s : State) (address regionLen replicas : Nat) : Work RawImage :=
  (s.readFor address 64).next fun s h =>
    Work.check s (checkHeader h) fun s =>
      let head := Header.read h
      if head.size < 256 || regionLen < head.size then
        Work.ends s ({ check := 2, part := noSection, record := noRecord, word := 0 } : ImageFault).ending
      else (s.readFor (address + 64) 192).next fun s d =>
        let dir := directoryOf (h ++ d)
        Work.check s (checkDirectory head dir regionLen) fun s =>
          (s.readFor (address + 256) (head.size - 256)).next fun s rest =>
            let g : RawImage := { head := head, dir := dir, bytes := h ++ d ++ rest }
            Work.check s (firstFault [g.checkDigest, g.checkSections replicas, g.checkMirrors]) fun s => Work.done s g

/-- An entry of the part map: hall address, slot, and whether bytes 15 to 9 are zero (R421). -/
def mapEntry (bs : List Byte) (p : Nat) : Nat × Nat × Bool := (fieldAt bs (16 * p) 8, fieldAt bs (16 * p + 8) 1, zeroAt bs (16 * p + 9) 7)

/-- The first entry that names the (module, slot) of an earlier one (R421). -/
def mapRepeat (es : List (Nat × Nat × Bool)) (skip : Option Nat) : Option Nat :=
  (List.range es.length).find? fun p =>
    match es[p]? with
    | none => false
    | some e => some p ≠ skip && (List.range p).any fun q => some q ≠ skip &&
        match es[q]? with | some f => hallModule f.1 = hallModule e.1 && f.2.1 = e.2.1 | none => false

/-- The part map of an image (R420, R421): empty for a model of one part, or where MODEL_CHECK gives none. `load` says that the
order is a MODEL_LOAD. -/
def State.readPartMap (s : State) (o : Order) (g : RawImage) (load : Bool) : Work (List (Nat × Nat)) :=
  let a := o.field 40 8
  let n := g.head.partCount
  if n = 1 then if a = 0 then Work.done s [] else Work.ends s (Ending.badParam 40)
  else if a = 0 then if load then Work.ends s (Ending.badParam 40) else Work.done s []
  else (s.readHall o a (16 * n) 40).next fun s bs =>
    let es := (List.range n).map (mapEntry bs)
    let me := g.head.partIndex
    let own := match es[me]? with | some e => e.1 = o.field 16 8 && (!load || e.2.1 = o.target) | none => false
    let shape := (List.range n).all fun p => match es[p]? with
      | some e => e.2.2 && (e.2.1 < 48 || (!load && p = me)) | none => false
    if !own || !shape then Work.ends s (Ending.badParam 40)
    else match mapRepeat es (if load then none else some me) with
      | some p => Work.ends s { status := 0x11, d17 := 40, result := p }
      | none => Work.done s (es.map fun e => (e.1, e.2.1))

/-- The first protection unit of a range of the local windows with a byte that nothing has written (R323). -/
def State.unwrittenUnit (s : State) (a len : Nat) : Option Nat :=
  ((List.range len).find? fun i => (s.byteAt (a + i)).isNone).map fun i => (a + i) / unitSize (a + i) * unitSize (a + i)

/-- Reads bytes of the image of another part; an unwritten word on this module ends MODEL_LOAD MEM_ERROR (R231). -/
def State.readPart (s : State) (o : Order) (load : Bool) (hall len : Nat) : Work (List Byte) :=
  (s.readHall o hall len 40).next fun s bs =>
    match if load && !s.far hall then s.unwrittenUnit (hallLocal hall) len else none with
    | some a => Work.ends (s.uncorrectable a 0) Ending.memError
    | none => Work.done s bs

/-- Reads sections of an image at a hall address and lays them one after another. -/
def State.readSections (s : State) (o : Order) (load : Bool) (hall : Nat) (dir : List (Nat × Nat)) :
    List Nat → List Byte → List (Nat × Nat) → Work (List Byte × List (Nat × Nat))
  | [], bs, new => Work.done s (bs, new)
  | n :: t, bs, new =>
    let e := (dir[n]?).getD (0, 0)
    (s.readPart o load (hall + e.1) e.2).next fun s d => s.readSections o load hall dir t (bs ++ d) (new.set n (bs.length, e.2))

/-- The image of another part, as far as the loader reads it: BLOCKS, EDGES, COLOURS and CATEGORICAL (R231, R624). An image whose
header is not one of this module's models owns nothing. -/
def State.readForeign (s : State) (o : Order) (load : Bool) (hall : Nat) : Work RawImage :=
  (s.readPart o load hall 256).next fun s h =>
    let head := Header.read h
    if (checkHeader h).isSome then
      Work.done s { head := { head with blockCount := 0, cats := 0 }, dir := [], bytes := [] }
    else (s.readSections o load hall (directoryOf h) [0, 2, 3, 4] [] (List.replicate 12 (0, 0))).next fun s r =>
      Work.done s { head := head, dir := r.2, bytes := r.1 }

/-- Reads the images of the other parts (R231, R624). -/
def State.readForeigns (s : State) (o : Order) (load : Bool) (own : Nat) : List (Nat × Nat × Nat) → List (Option RawImage) → Work (List (Option RawImage))
  | [], gs => Work.done s gs
  | p :: t, gs =>
    if p.1 = own then s.readForeigns o load own t (gs ++ [none])
    else (s.readForeign o load p.2.1).next fun s g => s.readForeigns o load own t (gs ++ [some g])

/-- The part that owns a variable, among the other parts. -/
def foreignOwner (gs : List (Option RawImage)) (v : Nat) : Option (RawImage × BlockRec) :=
  gs.findSome? fun g => match g with
    | some g => (ownerOf g.blocks v).map fun p => (g, p.2)
    | none => none

/-- K of a categorical variable of another part, from its own record (R624). -/
def foreignStates (gs : List (Option RawImage)) (v : Nat) : Option Nat :=
  match foreignOwner gs v with
  | some p => if p.2.categorical then statesOf p.1.catRecs v else none
  | none => none

/-- Check 5, second part: the partners that other parts describe (R624). DESIGN CHOICE (log 94): the limit of 65,536 entries (R46) is not
checked on a table with a foreign variable, since R624 lists no such check. -/
def RawImage.checkForeign (g : RawImage) (gs : List (Option RawImage)) : Option ImageFault :=
  let bs := g.blocks
  let cs := g.catRecs
  let fault := fun part record => some { check := 5, part := part, record := record, word := 0 : ImageFault }
  let edges := (List.range ((g.part 2).length / 8)).map fun r =>
    let v := (edgeAt (g.part 2) r).neighbour
    if (ownerOf bs v).isSome then none
    else need (match foreignOwner gs v with | some p => !p.2.categorical | none => false) (fault 2 r)
  let fs := g.factorRecs
  let factors := ((List.range fs.length).zip fs).map fun p =>
    let f := p.2
    if (ownerOf bs f.2.1).isSome then none
    else match foreignStates gs f.2.1 with
      | none => fault 5 p.1
      | some kb =>
        let n := (statesOf cs f.1).getD 0 * kb
        need (f.2.2 + 4 * n ≤ (g.part 6).length && (List.range n).all fun i => entryOk (tableEntry (g.part 6) (f.2.2 / 4 + i)))
          (fault 5 p.1)
  firstFault (edges ++ factors)

/-- The image of another part as the loader keeps it; the factors are those of this part, which mirror its own (R62). -/
def foreignImage (g : RawImage) (address : Nat) (own : Image) : Image :=
  let bs := g.blocks
  { own with
    address := address, size := g.head.size, partIndex := g.head.partIndex, partVariables := g.head.partVariables
    blocks := ((List.range bs.length).zip bs).map fun p => { (g.block p.1 p.2) with blob := [], init := [] }
    cats := [], factors := own.factors.filter (fun f => bs.any fun b => b.owns f.b), programs := [] }

/-- Bytes of the table of every factor; a foreign table of unknown size runs to the end of TABLES (R73, R624). -/
def RawImage.tableBytes (g : RawImage) (kb : Nat → Option Nat) : List Nat :=
  g.factorRecs.map fun f =>
    match kb f.2.1 with
    | some k => 4 * ((statesOf g.catRecs f.1).getD 0 * k)
    | none => (g.part 6).length - f.2.2

/-- A model that passed checks 1 to 5: its image, parts, table sizes, and where its EDGES section lies. -/
structure Loaded where
  image : Image
  parts : List Part
  tableBytes : List Nat
  edgesAt : Nat
  deriving DecidableEq, Repr

/-- Checks 1 to 6 of a MODEL_CHECK or MODEL_LOAD (R69, R420, R421, R624). -/
def State.readModel (s : State) (o : Order) (load : Bool) : Work Loaded :=
  let a := hallLocal (o.field 16 8)
  (s.readImage a (o.field 24 8) (o.field 32 2)).next fun s g =>
    (s.readPartMap o g load).next fun s map =>
      let entries := ((List.range map.length).zip map).map fun p => (p.1, p.2.1, p.2.2)
      (if g.head.foreign && map ≠ [] then s.readForeigns o load g.head.partIndex entries []
       else Work.done s (map.map fun _ => none)).next fun s gs =>
        Work.check s (if g.head.foreign && map ≠ [] then g.checkForeign gs else none) fun s =>
          let kb := fun v => match statesOf g.catRecs v with | some k => some k | none => foreignStates gs v
          let img := g.image a kb
          let parts := (entries.zip gs).map fun p =>
            { module := hallModule p.1.2.1, slot := p.1.2.2, address := p.1.2.1,
              image := p.2.map fun h => foreignImage h p.1.2.1 img : Part }
          match img.colourCheck with
          | some e => Work.ends s e
          | none => Work.done s { image := img, parts := parts, tableBytes := g.tableBytes kb,
                                  edgesAt := a + (match g.dir[2]? with | some e => e.1 | none => 0) }

/-! ### Placing a model -/

/-- The initial state record of a block-replica (R67). -/
def Image.startRecord (g : Image) (_q b : Nat) : List Byte × Nat :=
  match g.blocks[b]? with
  | some k => (g.initRecord k, 0)
  | none => ([], 0)

/-- The core a fold group is placed on (R72, R74, R84, R105, R124, R136, R137, R225). -/
def Slot.placeGroup (x : Slot) (n : Nat) (g : Image) (bases : List ((Nat × Nat) × (Nat × Nat))) (core : Nat)
    (group : List (Nat × Nat)) (co : Core) : Core :=
  let ms := group.map fun m => x.buildMember n g 0 m.1 m.2 (spillBase bases core m.2) g.startRecord
  { co with slot := some n, castledIn := false, members := ms, storeWritten := true, store := [], instrs := x.instrsFor ms 0,
            lastMember := 0, launch := x.startLaunch ms 0 false false, run := none, parked := [], held := [], outbox := [], vectors := [] }

/-- The fault registers that a slot's next MODEL_LOAD clears (R105, R141). -/
def Core.clearFaults (co : Core) : Core := { co with pfCode := 0, pfPc := 0, pfMember := 0, drawOverrun := false, faultSlot := none }

/-- Loads a checked model into an EMPTY slot: settings, slices, fold area, cores (R148, R156, R213, R258, R322, R413, R420). -/
def State.loadModel (s : State) (n : Nat) (m : Loaded) (replicas : Nat) (f : FitReport) : State :=
  let w := s.nextFree
  let s := { w.2 with cores := w.2.cores.map fun (p : Nat × Core) => if p.2.faultSlot = some n then (p.1, p.2.clearFaults) else p }
  let old := s.slot n
  let x := { Slot.empty with
    state := .loaded, image := some m.image, parts := m.parts, replicas := replicas, runs := replicas
    results := s.rot.running.results, fit := if f.status = 0x21 then .fold else if f.status = 0x20 then .spill else .fit
    fitFlags := f.flags, foldFactor := f.fold, rate := f.rate, groups := f.needed
    tableSizes := m.tableBytes, edgesAt := m.edgesAt, foldBase := if f.larder = 0 then 0 else (s.foldRoom f.larder).getD 0, foldLen := f.larder
    startPoint := true, curves := m.image.curves, rootSeed := w.1.toNat
    rungs := List.range replicas, exch := List.replicate replicas (0, 0)
    ckptFilled := old.ckptFilled, ckptReady := old.ckptReady }
  let s := s.setSlot n x
  let r := f.clusters.foldl (fun (a : State × List ((Nat × Nat) × (Nat × Nat))) c =>
    let p := a.1.placeCluster n m.image m.edgesAt c (f.groups.filter fun g => clusterOf g.1 = c.need.cluster)
    (p.1, a.2 ++ p.2)) (s, [])
  f.groups.foldl (fun s g => (s.modCore g.1 fun co => (x.placeGroup n m.image r.2 g.1 g.2 co).clearFaults).loaderWrote g.1) r.1

/-! ### The commands -/

/-- Parameter checks of MODEL_CHECK and MODEL_LOAD (R420). -/
def State.modelParams (s : State) (o : Order) (target : Bool) : Option Ending :=
  let a := hallLocal (o.field 16 8)
  let len := o.field 24 8
  let q := o.field 32 2
  o.params 0x0C target [(16, 18), (40, 8)]
    [s.localAddr o 16 64, { byte := 16, ok := inData a 1 }, { byte := 24, ok := len % 64 = 0 && inData a len },
     { byte := 32, ok := 1 ≤ q && q ≤ 1024 }, { byte := 40, ok := o.field 40 8 = 0 || !s.far (o.field 40 8) }]

/-- Ends an order with the answer of its work, or leaves it waiting. -/
def State.conclude {α : Type} (o : Order) (w : Work α) (go : State → α → State) : State :=
  match w.2 with
  | .ok a => go (w.1.dropRemote o.id) a
  | .error (some e) => (w.1.dropRemote o.id).finish o e
  | .error none => w.1

/-- MODEL_CHECK, run again each time bytes of another module arrive (R69, R77, R420). -/
def State.modelCheck (s : State) (o : Order) : State :=
  s.checked o (s.modelParams o o.noTarget) fun s =>
    State.conclude o (s.readModel o false) fun s m =>
      let r := s.fitOf m.image m.tableBytes (o.field 32 2)
      r.1.finish o (r.2.ending r.2.status)

/-- MODEL_LOAD, run again each time bytes of another module arrive (R69, R77, R321, R420). -/
def State.modelLoad (s : State) (o : Order) : State :=
  s.checked o (s.modelParams o o.slotTarget) fun s =>
    s.inState o (fun st => st = .empty) fun s =>
      if !(s.slot o.target).ckptReady then s.finish o (Ending.badState 0)
      else State.conclude o (s.readModel o true) fun s m =>
        let r := s.fitOf m.image m.tableBytes (o.field 32 2)
        if r.2.allowed (bitAt o.flags 2 = 1) (bitAt o.flags 3 = 1) then
          (r.1.loadModel o.target m (o.field 32 2) r.2).finish o (r.2.ending 0)
        else r.1.finish o (r.2.ending r.2.status)

/-- MODEL_CHECK (R420). -/
def execModelCheck (id : Nat) (s : State) : Out := runOrder 0x10 id s fun s o => s.modelCheck o

/-- MODEL_LOAD (R420). -/
def execModelLoad (id : Nat) (s : State) : Out := runOrder 0x11 id s fun s o => s.modelLoad o

end Sys2Proof.Machine
end

