-- ==== Sys2Proof/Machine/SyncCmd.lean ====
section
/-! DEFINITION. Machine/SyncCmd.lean: SYNC_ALLOC, SYNC_FREE, SYNC_SIGNAL and SYNC_WAIT (R434 to R436). -/

namespace Sys2Proof.Machine

/-- The general object that a hall address of this module names. -/
def State.ownObject (s : State) (hall : Nat) : Option (Nat × Nat) := if s.far hall then none else syncAt (hallLocal hall)

/-- The FREE general object of lowest cluster and then lowest number (R434). -/
def State.freeObject (s : State) : Option (Nat × Nat) :=
  (List.range 144).findSome? fun k =>
    ((List.range 64).find? fun i => (s.object (k, 64 + i)).isNone).map fun i => (k, 64 + i)

/-- A newly bound general object (R243, R434). -/
def newObject (mode owner waiters threshold epoch target : Nat) : SyncObj :=
  { mode := mode, owner := owner, waitersNeed := waiters, threshold := threshold, generation := 0, count0 := 0,
    count1 := 0, waited0 := 0, waited1 := 0, bankEpoch := epoch, target := target, waiting := [], crossbar := [] }

/-- SYNC_ALLOC (R434). -/
def State.syncAlloc (s : State) (o : Order) : State :=
  let bind := bitAt o.flags 2 = 1
  let slot := o.slotTarget
  let obj := o.field 16 8
  let mode := o.field 38 1
  let handle := o.field 39 1
  let waiters := o.field 36 2
  let general := (syncAt (hallLocal obj)).isSome
  let free := match s.ownObject obj with | some p => (s.object p).isNone | none => false
  let cs : List Check :=
    if bind then [{ byte := 1, ok := slot }, { byte := 16, ok := obj ≠ 0 && general }]
    else [{ byte := 16, ok := obj = 0 || free }, { byte := 32, ok := 1 ≤ o.field 32 4 && o.field 32 4 ≤ 2 ^ 24 },
          { byte := 36, ok := if mode = 2 then waiters ≤ 4096 else waiters = 0 }, { byte := 38, ok := mode = 1 || (mode = 2 && slot) },
          { byte := 39, ok := slot || handle = 0 }]
  let go := fun (s : State) =>
    let x := s.slot o.target
    if slot && (x.handles.at handle).isSome then s.finish o (Ending.badState x.state.code)
    else
      let bindTo := fun (s : State) (hall : Nat) =>
        if slot then s.modSlot o.target fun x => { x with handles := x.handles.put handle hall } else s
      if bind then (bindTo s obj).finish o (Ending.ok obj)
      else match if obj = 0 then s.freeObject else s.ownObject obj with
        | none => s.finish o Ending.busy
        | some p =>
          let epoch := if mode = 2 then x.resume else 0
          let s := s.setObject p (newObject mode (if slot then o.target else 0xFE) waiters (o.field 32 4)
            epoch (o.field 24 8))
          (bindTo s (s.hallOf (objectAddr p))).finish o (Ending.ok (s.hallOf (objectAddr p)))
  s.checked o (o.params 4 (slot || o.noTarget) [(16, 24)] cs) fun s =>
    if slot then s.inState o (fun st => st = .loaded || st = .stopped) go else go s

/-- SYNC_ALLOC (R434). -/
def execSyncAlloc (id : Nat) (s : State) : Out := runOrder 0x28 id s fun s o => s.syncAlloc o

/-- The orders of this module that wait at an object. -/
def SyncObj.orders (x : SyncObj) : List Nat :=
  (x.waiting ++ x.crossbar).filterMap fun w => match w with | .order id => some id | _ => none

/-- Frees a general object of this module; every SYNC_WAIT registered on it completes ABORTED (R435). -/
def State.freeObjectAt (s : State) (p : Nat × Nat) : State :=
  match s.object p with
  | none => s
  | some x =>
    let s := s.modCluster p.1 fun c => { c with objects := c.objects.del p.2 }
    x.orders.foldl (fun s id => s.finishId id (Ending.aborted)) s

/-- Unbinds a slot's handle and frees a local object that the slot owns (R435). -/
def State.freeHandle (s : State) (n handle : Nat) : State :=
  match (s.slot n).handles.at handle with
  | none => s
  | some hall =>
    let s := s.modSlot n fun x => { x with handles := x.handles.del handle }
    match s.ownObject hall with
    | some p => match s.object p with
      | some x => if x.owner = n then s.freeObjectAt p else s
      | none => s
    | none => s

/-- Releases every handle of a slot (R422). -/
def State.freeHandles (s : State) (n : Nat) : State := (s.slot n).handles.foldl (fun s h => s.freeHandle n h.1) s

/-- SYNC_FREE (R435). -/
def execSyncFree (id : Nat) (s : State) : Out :=
  runOrder 0x29 id s fun s o =>
    if o.slotTarget then
      let h := o.field 16 1
      s.checked o (o.params 0 true [(16, 1)] []) fun s =>
        s.inState o (fun st => st = .loaded || st = .stopped || st = .faulted || st = .disabled) fun s =>
          if ((s.slot o.target).handles.at h).isNone then s.finish o (Ending.badState (s.slot o.target).state.code)
          else (s.freeHandle o.target h).finish o Ending.ok
    else
      let p := s.ownObject (o.field 16 8)
      let mine := match p with
        | some p => (match s.object p with | some x => x.owner = 0xFE | none => false)
        | none => false
      s.checked o (o.params 0 o.noTarget [(16, 8)] [{ byte := 16, ok := mine }]) fun s =>
        (match p with | some p => s.freeObjectAt p | none => s).finish o Ending.ok

/-- Whether an address names a general object, on this module one that is PLAIN (R436). -/
def State.plainTarget (s : State) (hall : Nat) : Bool :=
  if s.far hall then (syncAt (hallLocal hall)).isSome
  else match s.ownObject hall with
    | some p => (match s.object p with | some x => x.mode = 1 | none => false)
    | none => false

/-- SYNC_SIGNAL (R436): a remote ADD on a PLAIN object, or the same at this module. -/
def execSyncSignal (id : Nat) (s : State) : Out :=
  runOrder 0x2A id s fun s o =>
    let obj := o.field 16 8
    let n := o.field 24 3
    s.checked o (o.params 0 o.noTarget [(16, 11)] [{ byte := 16, ok := s.plainTarget obj }, { byte := 24, ok := n ≠ 0 }]) fun s =>
      if !s.far obj then
        (s.signalArrive { object := obj, count := n, epoch := 0, runGen := 0, slot := 0xFE }).finish o Ending.ok
      else match s.sendRequest .add obj n 0 0 0 0 [] (some o.id) 0 with
        | (s, none) => s
        | (s, some r) => s.finish o (r.ending 16 true)

/-- SYNC_WAIT (R436). On another module the object's mode is read first, since an EPOCH object completes BAD_PARAM. -/
def execSyncWait (id : Nat) (s : State) : Out :=
  runOrder 0x2B id s fun s o =>
    let obj := o.field 16 8
    s.checked o (o.params 0 o.noTarget [(16, 8)] [{ byte := 16, ok := s.plainTarget obj && hallModule obj ≠ 0xFFFF }]) fun s =>
      if !s.far obj then s.waitArrive { object := obj, epoch := 0, runGen := 0, slot := 0xFE, waiter := .order o.id }
      else match s.sendRequest .read (obj + 16) 0 0 0 0 0 [] (some o.id) 0 with
        | (s, none) => s
        | (s, some r) => s.finish o (r.ending 16 true)

/-- The mode of another module's object came for a SYNC_WAIT: the waiter registers, or the command ends BAD_PARAM (R436). -/
def State.syncWaitMode (s : State) (o : Order) (word : Nat) : State :=
  if word % 256 ≠ 1 then s.finish o (Ending.badParam 16)
  else match s.sendRequest .waitReg (o.field 16 8) (hostWaiter o.id) 0 0 0 0 [] (some o.id) 0 with
    | (s, none) => s
    | (s, some r) => s.finish o (r.ending 16 true)

end Sys2Proof.Machine
end

