-- ==== Sys2Proof/Machine/SlotCmd.lean ====
section
/-! DEFINITION. Machine/SlotCmd.lean: the slot commands but for saved contexts (R164, R165, R229, R266, R422 to R428, R446, R449 to
R456). -/

namespace Sys2Proof.Machine

/-! ### Settings (R266, R423, R452) -/

/-- The settings a SLOT_START would put in force: the staged items over those in force (R452). -/
def Slot.effective (x : Slot) : Slot :=
  let t := x.staged
  let c := t.capture.getD (x.capFirst, x.capStep, x.capCount, x.sampleAddr, x.statsAddr)
  let k := t.sieve.getD (x.topk, x.nucleus)
  { x with
    seed := t.seed <|> x.seed, curves := match t.curves with | some n => n.onTop x.curves | none => x.curves
    runs := t.runs.getD x.runs, topk := k.1, nucleus := k.2, treeMask := t.treeMask.getD x.treeMask
    capFirst := c.1, capStep := c.2.1, capCount := c.2.2.1, sampleAddr := c.2.2.2.1, statsAddr := c.2.2.2.2 }

/-- The settings segment of settings in force from an epoch on (R266). -/
def Slot.segmentFrom (x : Slot) (epoch : Nat) : List Byte :=
  leBytes 8 epoch ++ leBytes 2 x.treeMask ++ leBytes 2 x.topk ++ leBytes 2 x.nucleus ++ leBytes 2 x.runs ++ x.curves.canonical

/-- The segment and curve digest that a SLOT_START puts in force: a new segment only where something but FROM_EPOCH differs
(R266). DEDUCED (log 96): the curve digest is the chain of R266, which R267 cites, where R148 names SHA-256 over the curve set. -/
def Slot.nextSegment (x : Slot) : List Byte × List Byte :=
  let g := x.segmentFrom x.resume
  match x.segment with
  | none => (g, sha256 (zeros 32 ++ g))
  | some old => if old.drop 8 = g.drop 8 then (old, x.curveDigest) else (g, sha256 (x.curveDigest ++ g))

/-- The configuration tag of R164. -/
def Slot.tagOf (x : Slot) : Nat :=
  leNat ((sha256 (x.seed.getD [] ++ leBytes 4 x.runs ++ leBytes 2 x.topk ++ leBytes 2 x.nucleus ++ leBytes 2 x.treeMask ++
    x.curves.canonical)).take 4)

/-- The provenance block of a run (R267), of settings in force with their curve digest. -/
def Slot.provenance (x : Slot) (digest : List Byte) : List Byte :=
  match x.image with
  | none => zeros 256
  | some g =>
    leBytes 4 1 ++ zeros 4 ++ leBytes 2 1 ++ leBytes 2 1 ++ leBytes 2 1 ++ leBytes 1 1 ++ zeros 1 ++ leBytes 4 x.results ++
      leBytes 2 g.partIndex ++ leBytes 2 g.partCount ++ zeros 40 ++ g.modelDigest ++ g.imageDigest ++ g.initDigest ++
      x.seed.getD (zeros 32) ++ digest ++ g.programDigest

/-- A failing field of a configuration block (R423). -/
def configFault (offset : Nat) : Ending := { status := 0x11, d17 := 16, d18 := offset }

/-- Goes on unless one of the fields, in ascending offset, fails. -/
def Work.fields {α : Type} (s : State) (fs : List (Nat × Bool)) (go : State → Work α) : Work α :=
  match fs.find? fun f => !f.2 with
  | some f => Work.ends s (configFault f.1)
  | none => go s

/-- Reads the curve set that CURVE_ADDR names (R146, R147, R423). -/
def State.readCurves (s : State) (o : Order) (hall : Nat) : Work CurveSet :=
  (s.readHall o hall 64 16).next fun s h =>
    let n := curveSize h
    if n < 64 || 5184 < n then Work.ends s (configFault 16)
    else (s.readHall o hall n 16).next fun s bs =>
      match parseCurves bs with
      | some c => Work.done s c
      | none => Work.ends s (configFault 16)

/-- Whether a capture region of n bytes is not set, or lies where it may (R423). -/
def State.regionOk (s : State) (hall n : Nat) : Bool :=
  hallLocal hall = 0 || (!s.far hall && hall % 64 = 0 && inData (hallLocal hall) (max n 1))

/-- Reads and checks a configuration block: the slot's staged items with its own added, and whether it carries a seed (R157, R184,
R423). DESIGN CHOICE (log 97): a block that would break R157 names CURVE_ADDR where it carries a curve set, else RUNS. -/
def State.readConfig (s : State) (o : Order) : Work (Staged × Bool) :=
  (s.readHall o (o.field 16 8) 256 16).next fun s b =>
    let x := s.slot o.target
    let p := fieldAt b 4 4
    let has := fun i => bitAt p i = 1
    let runs := fieldAt b 8 2
    let count := fieldAt b 40 4
    Work.fields s [(0, fieldAt b 0 4 = 1), (4, decide (p < 64)), (8, !has 2 || (1 ≤ runs && runs ≤ x.replicas)),
        (10, !has 3 || fieldAt b 10 2 ≤ 4096)] fun s =>
      (if has 1 then (s.readCurves o (fieldAt b 16 8)).next fun s c => Work.done s (some c) else Work.done s none).next fun s c =>
        let srec := match x.image with | some g => g.sampleSize | none => 0
        Work.fields s [(32, !has 5 || count ≤ 1 || 1 ≤ fieldAt b 32 8), (40, !has 5 || count ≤ 1048576), (44, zeroAt b 44 4),
            (48, !has 5 || s.regionOk (fieldAt b 48 8) (count * x.replicas * srec)),
            (56, !has 5 || s.regionOk (fieldAt b 56 8) (count * x.statSize)), (96, zeroAt b 96 160)] fun s =>
          let t := x.staged
          let t : Staged :=
            { seed := if has 0 then some (slice b 64 32) else t.seed
              curves := match c, t.curves with | some n, some old => some (n.onTop old) | some n, none => some n | none, old => old
              ladderSet := t.ladderSet || match c with | some n => n.ladder.isSome | none => false
              runs := if has 2 then some runs else t.runs
              sieve := if has 3 then some (fieldAt b 10 2, fieldAt b 12 2) else t.sieve
              treeMask := if has 4 then some (fieldAt b 14 2) else t.treeMask
              capture := if has 5 then some (fieldAt b 24 8, fieldAt b 32 8, count, fieldAt b 48 8, fieldAt b 56 8) else t.capture }
          let e := ({ x with staged := t }).effective
          let ok := match x.image with
            | some g => e.curves.exchangeOk g.relax g.categorical e.runs
            | none => true
          Work.fields s [(if c.isSome then 16 else 8, ok)] fun s => Work.done s (t, has 0)

/-- SLOT_CONFIG, run again each time bytes of another module arrive (R423, R452). -/
def State.slotConfig (s : State) (o : Order) : State :=
  s.checked o (o.params 0 o.slotTarget [(16, 8)] [{ byte := 16, ok := !s.far (o.field 16 8) }]) fun s =>
    s.inState o (fun st => st = .loaded || st = .stopped) fun s =>
      State.conclude o (s.readConfig o) fun s r =>
        let x := s.slot o.target
        if r.2 && (x.state ≠ .loaded || x.started) then s.finish o (Ending.badState x.state.code)
        else (s.setSlot o.target { x with staged := r.1 }).finish o Ending.ok

/-- SLOT_CONFIG (R423). -/
def execSlotConfig (id : Nat) (s : State) : Out := runOrder 0x18 id s fun s o => s.slotConfig o

/-! ### SLOT_START (R164, R165, R223, R229, R240, R424) -/

/-- The first condition of R424 that holds, as detail byte 18; 0 where none does. `x` has the settings the start would put in
force. -/
def Slot.startRefusal (x : Slot) : Nat :=
  let relax := match x.image with | some g => g.relax | none => false
  let dt := match x.curves.relax with | some r => r.dt | none => 0
  let ladder := match x.curves.ladder with | some l => l.length | none => x.runs
  if x.seed.isNone then 1
  else if x.curves.beta.isNone || x.curves.noise.isNone || x.curves.pump.isNone then 2
  else if relax && dt = 0 then 3
  else if ladder ≠ x.runs then 4
  else if x.naturalLimit ≤ x.resume then 5
  else if x.capCount ≠ 0 && (hallLocal x.sampleAddr = 0 || hallLocal x.statsAddr = 0) then 6
  else 0

/-- A core at a SLOT_START that is not a start point: COUNT keeps the inputs already counted (R229). A core none of whose members ran
before starts at the resume epoch with nothing to wait for, and what it still holds is applied (R98, R423). DEDUCED (log 81). -/
def Slot.resumeCore (x : Slot) (frozen : Bool) (co : Core) : Core :=
  let p := sweepPred x.colours (x.resume, 0)
  let l := { co.launch with armed := true, frozen := frozen }
  if co.members.any (x.ranAt p.1) then { co with launch := l }
  else
    let co := (co.held.map fun (m : StateMsg) => (m.epoch, m.phase)).foldl (fun co t => co.applyHeld x t) co
    { co with launch := { l with nextEpoch := x.resume, nextPhase := 0, start := false, count := [], done := some p } }

/-- A core is armed at a SLOT_START; FROZEN stays set while a stop of the model has frozen this part (R176, R226, R229, R240, R241). -/
def Slot.armCore (x : Slot) (frozen : Bool) (co : Core) : Core :=
  let r := x.resume
  let before := if r = 0 then none else some (r - 1)
  let ms := co.members.map fun m => if x.runs ≤ m.replica then m else { m with closed := before, energySent := before }
  let co := { co with members := ms }
  if x.startPoint then { co with launch := x.startLaunch ms r true frozen, held := [] } else x.resumeCore frozen co

/-- The streams of a slot's block-replicas at the epoch it resumes at: for a seed set since they were placed, and for replicas that
ran no epoch before it (R84, R175, R178). -/
def State.seedStreams (s : State) (n : Nat) : State :=
  let x := s.slot n
  match x.image with
  | none => s
  | some g => s.modSlotCores n fun (co : Core) => { co with members := co.members.map fun m =>
      match g.blocks[m.block]? with
      | some k => { (m.put 0xC000 (g.streamBytes k x.seed m.replica x.resume)) with used := [] }
      | none => m }

/-- Messages that came before the launch objects were armed are counted now (R229). -/
def State.unpark (s : State) (n : Nat) : State :=
  let ms := (s.slotCores n).flatMap fun c => (s.core c).parked
  let s := s.modSlotCores n fun (co : Core) => { co with parked := [] }
  ms.foldl State.stateArrive s

/-- A stop of the model under way that a part joins with its SLOT_START: FREEZE came and LIMIT has not, or the limit set is still to be
reached (R240, R241). -/
def Slot.pendingDrain (x : Slot) : Option Drain :=
  match x.drain with
  | some d => if !d.limitSet || x.resume < x.epochLimit then some d else none
  | none => none

/-- The effect of an accepted SLOT_START (R148, R156, R164 to R166, R229, R240, R266, R424, R588). EPOCH_LIMIT keeps a lower limit that a
drain has set and that is still to be reached (R240). -/
def State.startSlot (s : State) (n : Nat) : State :=
  let old := s.slot n
  let x := old.effective
  let seg := x.nextSegment
  let first := !x.started && old.segment.isNone
  let changed := decide ((x.inForce (x.resume - 1)).runs ≠ x.runs)
  let drain := x.pendingDrain
  let frozen := match drain with | some d => !d.limitSet | none => false
  let x := { x with
    state := if drain.isSome then .stopping else .running, drain := drain, started := true, staged := noStaged, segment := some seg.1, curveDigest := seg.2, configTag := x.tagOf
    epochLimit := if drain.isSome && !frozen then min x.epochLimit x.naturalLimit else x.naturalLimit, waitingStart := none
    rungs := if first || old.staged.ladderSet then List.range x.replicas else x.rungs
    settings := { first := x.resume, runs := x.runs, interval := x.interval, tag := x.tagOf } :: x.settings }
  let s := s.setSlot n x
  let s := if x.startPoint || changed then s.seedStreams n else s
  let s := s.modSlotCores n (x.armCore frozen)
  let s := if x.startPoint then
      (((s.resetEpochObjects n x.resume).modSlot n fun x => { x with startPoint := false }).checkpointNow n x.resume false).prologue n x.resume
    else s
  ((s.unpark n).tryLaunchSlot n).limitStop n

/-- SLOT_START: run once its slot order allows it, and again when a deferred test it waits for has run (R424, R438, R439). -/
def State.slotStart (s : State) (o : Order) : State :=
  s.checked o (o.params 0 o.slotTarget [] []) fun s =>
    s.inState o (fun st => st = .loaded || st = .stopped) fun s =>
      let x := s.slot o.target
      let why := x.effective.startRefusal
      if why ≠ 0 then s.finish o { status := 0x12, d17 := x.state.code, d18 := why }
      else if s.testsPending.any fun t => s.testWaitsFor t o.target then
        s.setSlot o.target { x with waitingStart := some o.id }
      else (s.finish o (Ending.ok x.resume)).startSlot o.target

/-- SLOT_START (R424). -/
def execSlotStart (id : Nat) (s : State) : Out := runOrder 0x19 id s fun s o => s.slotStart o

/-! ### Stopping (R241, R425) -/

/-- A drain that an order begins. -/
def newDrain (hard : Bool) (named : Nat) (orders : List Nat) (disable : Option Nat) : Drain :=
  { hard := hard, disable := disable.isSome, named := named, replies := [], limitSet := false, reported := [], orders := orders,
    disableOrder := disable, aborted := false, engine := false }

/-- Begins a stop of a RUNNING slot: STOPPING, and FREEZE to every part (R241, R425). -/
def State.beginStop (s : State) (n : Nat) (d : Drain) : State :=
  (s.modSlot n fun x => { x with state := .stopping, drain := some d }).toParts n fun m k => .freeze k m d.hard

/-- A HARD stop takes over the drain of a STOPPING slot; the drain's SLOT_STOPs complete ABORTED (R425, R427). -/
def State.takeOver (s : State) (n : Nat) (orders : List Nat) (disable : Option Nat) : State :=
  let x := s.slot n
  let old := x.drain.getD (newDrain true 0 [] none)
  let s := old.orders.foldl (fun s id => s.finishId id Ending.aborted) s
  s.beginStop n { newDrain true 0 orders (disable <|> old.disableOrder) with aborted := old.aborted }

/-- An order joins the stop under way (R241). -/
def State.joinStop (s : State) (n id : Nat) : State :=
  s.modSlot n fun x => { x with drain := x.drain.map fun d => { d with orders := d.orders ++ [id] } }

/-- SLOT_STOP (R425). -/
def execSlotStop (id : Nat) (s : State) : Out :=
  runOrder 0x1A id s fun s o =>
    let n := o.target
    let hard := bitAt o.flags 2 = 1
    s.checked o (o.params 4 o.slotTarget [(16, 8)] []) fun s =>
      let x := s.slot n
      let underHard := match x.drain with | some d => d.hard | none => false
      match x.state with
      | .running => s.beginStop n (newDrain hard (o.field 16 8) [o.id] none)
      | .stopping => if hard && !underHard then s.takeOver n [o.id] none else s.joinStop n o.id
      | .stopped => s.finish o (Ending.ok x.resume)
      | _ => s.finish o (Ending.badState x.state.code)

/-! ### Disable and enable (R427, R428, R455) -/

/-- The orders of this module that wait at objects a slot owns. -/
def State.objectWaits (s : State) (n : Nat) : List Nat :=
  s.clusters.flatMap fun c => (c.2.objects.filter fun p => p.2.owner = n).flatMap fun p => p.2.orders

/-- Every earlier command of a slot that has not completed completes ABORTED, host SYNC_WAITs on its objects too (R427, R455). -/
def State.abortOrders (s : State) (n seq : Nat) : State :=
  let waits := s.objectWaits n
  let os := s.arbiter.orders.filter fun x => x.seq < seq && (x.slot? = some n || waits.contains x.id)
  os.foldl (fun s x =>
    let s := if x.opcode = 0x1A || x.opcode = 0x1D then
        s.modSlot n fun y => { y with drain := y.drain.map fun d =>
          { d with orders := d.orders.filter fun i => i ≠ x.id, disableOrder := if d.disableOrder = some x.id then none else d.disableOrder } }
      else s.withdraw x
    (s.dropRemote x.id).finish x Ending.aborted) s

/-- A slot that stands still becomes DISABLED at once, its launch objects frozen and disarmed (R229, R427, R455). -/
def State.disableNow (s : State) (n : Nat) : State :=
  let s := (s.freezeSlot n).disarmSlot n
  s.modSlot n fun x => { x with state := .disabled, disabledFaulted := x.state = .faulted }

/-- SLOT_DISABLE (R427, R455). -/
def execSlotDisable (id : Nat) (s : State) : Out :=
  runOrder 0x1D id s fun s o =>
    let n := o.target
    let hard := bitAt o.flags 2 = 1
    s.checked o (o.params 4 o.slotTarget [] []) fun s =>
      match (s.slot n).state with
      | .empty => s.finish o (Ending.badState 0)
      | .disabled => s.finish o Ending.ok
      | .running => (s.abortOrders n o.seq).beginStop n (newDrain hard 0 [] (some o.id))
      | .stopping =>
        let s := s.abortOrders n o.seq
        let underHard := match (s.slot n).drain with | some d => d.hard | none => false
        if hard && !underHard then s.takeOver n [] (some o.id)
        else s.modSlot n fun x => { x with drain := x.drain.map fun d => { d with disable := true, disableOrder := some o.id } }
      | _ => ((s.abortOrders n o.seq).disableNow n).finish o Ending.ok

/-- SLOT_ENABLE (R428). -/
def execSlotEnable (id : Nat) (s : State) : Out :=
  runOrder 0x1E id s fun s o =>
    s.checked o (o.params 0 o.slotTarget [] []) fun s =>
      s.inState o (fun st => st = .disabled) fun s =>
        let x := s.slot o.target
        let st : SlotState := if x.disabledFaulted then .faulted else if x.started then .stopped else .loaded
        let s := s.setSlot o.target { x with state := st, disabledFaulted := false }
        (if x.disabledFaulted then s else s.thawSlot o.target).finish o Ending.ok

/-! ### Lock-step (R270, R274, R275, R446) -/

/-- A lock-step message of a slot, with every field but those named zero (R271). -/
def lockMsg (slot : Nat) (digest : List Byte) (value : Nat) : LockMsg :=
  { slot := slot, digest := digest, value := value, epoch := 0, replica := 0, phase := 0, cause := 0 }

/-- A partner's HELLO that came before this module's LOCKSTEP_BEGIN. -/
def State.heldHello (s : State) (port : Nat) : Option LockMsg :=
  s.net.findSome? fun m => match m with | .hello p b => if p = port then some b else none | _ => none

/-- LOCKSTEP_BEGIN (R270, R446). -/
def execLockstepBegin (id : Nat) (s : State) : Out :=
  runOrder 0x50 id s fun s o =>
    let n := o.target
    let partner := o.field 16 2
    let port := o.field 18 1
    s.checked o (o.params 0 o.slotTarget [(16, 3)] [{ byte := 18, ok := port < 12 }]) fun s =>
      s.inState o (fun st => st = .loaded || st = .stopped) fun s =>
        let x := s.slot n
        let p := s.port port
        if (match x.lock with | some k => k.active | none => false) then s.finish o (Ending.badState x.state.code)
        else if p.state ≠ .up then s.finish o { status := 0x35 }
        else if p.peerId ≠ partner then s.finish o (Ending.badParam 16)
        else
          let e := x.effective
          let digest := sha256 (e.provenance e.nextSegment.2)
          let k : LockStep := { partner := partner, port := port, order := some o.id, active := false, ownHello := (digest, x.resume),
                                partnerHello := none, partnerSlot := 0, mine := [], theirs := [], matched := [], report := none }
          let s := (s.setSlot n { x with lock := some k }).send (.lockOut 1 port (lockMsg n digest x.resume))
          match s.heldHello port with
          | some m => (s.arrive (.hello port m)).helloCompare n m
          | none => s

/-- Ends a slot's lock-step: a LOCKSTEP_BEGIN that waits completes ABORTED, and END goes to the partner (R270, R275). -/
def State.endLock (s : State) (n : Nat) : State :=
  match (s.slot n).lock with
  | none => s
  | some k =>
    let s := s.modSlot n fun x => { x with lock := none }
    let s := match k.order with | some id => s.finishId id Ending.aborted | none => s
    if s.platform.rails then s.send (.lockOut 4 k.port (lockMsg n (zeros 32) 0)) else s

/-- LOCKSTEP_END (R274, R275, R446). -/
def execLockstepEnd (id : Nat) (s : State) : Out :=
  runOrder 0x51 id s fun s o =>
    let n := o.target
    s.checked o (o.params 0 o.slotTarget [] []) fun s =>
      let x := s.slot n
      match x.lock with
      | none => s.finish o (Ending.badState x.state.code)
      | some k =>
        if !(k.active || k.order.isSome || k.report.isSome) then s.finish o (Ending.badState x.state.code)
        else
          let s := (s.endLock n).finish o (match k.report with | some r => { status := 0x36, result := r.1 } | none => Ending.ok)
          s.tryLaunchSlot n

/-! ### MODEL_UNLOAD (R422) -/

/-- A core that a slot leaves: its store stays as its standing member had it (R84, R422). -/
def Core.release (co : Core) : Core :=
  { co.keepStore with slot := none, castledIn := false, members := [], launch := Launch.idle, run := none, parked := [], held := [], outbox := [], vectors := [] }

/-- Frees all that a slot holds; it is EMPTY, its CHECKPOINT area still filled (R321, R322, R422). -/
def State.unloadSlot (s : State) (n : Nat) : State :=
  let s := ((s.freeHandles n).endLock n).dropWork n
  let s := s.modSlotCores n Core.release
  let s := { s with clusters := s.clusters.map fun (c : Nat × Cluster) => (c.1, { c.2 with sliceSlot := c.2.sliceSlot.filter fun (p : Nat × Nat) => p.2 ≠ n }) }
  let x := s.slot n
  s.setSlot n { Slot.empty with ckptFilled := x.ckptFilled, ckptReady := x.ckptReady }

/-- MODEL_UNLOAD (R422). -/
def execModelUnload (id : Nat) (s : State) : Out :=
  runOrder 0x12 id s fun s o =>
    s.checked o (o.params 0 o.slotTarget [] []) fun s =>
      s.inState o (fun st => st = .loaded || st = .stopped || st = .faulted || st = .disabled) fun s =>
        (s.unloadSlot o.target).finish o Ending.ok

end Sys2Proof.Machine
end

