-- ==== Sys2Proof/Machine/Context.lean ====
section
/-! DEFINITION. Machine/Context.lean: saved contexts: SLOT_SAVE and SLOT_RESTORE (R426, R457 to R461). -/

namespace Sys2Proof.Machine

/-- SEGMENT_SIZE of the segment in force (R457). -/
def Slot.segmentSize (x : Slot) : Nat := (x.segment.getD []).length

/-- The epoch after COMPLETED_EPOCH (R457). -/
def Slot.nextEpoch (x : Slot) : Nat := match x.completed with | some e => e + 1 | none => 0

/-- The 256-byte header of a context (R457). -/
def Slot.contextHeader (x : Slot) (g : Image) (sat : Nat) (body : List Byte) : List Byte :=
  leBytes 4 1 ++ zeros 4 ++ leBytes 8 (256 + body.length) ++ leBytes 8 x.nextEpoch ++ leBytes 4 x.results ++
    leBytes 2 x.replicas ++ zeros 2 ++ leBytes 4 g.blocks.length ++ leBytes 2 x.runs ++ leBytes 2 g.partCount ++
    leBytes 2 g.partIndex ++ leBytes 1 sat ++ zeros 1 ++ leBytes 4 x.segmentSize ++ zeros 16 ++ g.imageDigest ++
    x.seed.getD (zeros 32) ++ x.curveDigest ++ sha256 body ++ zeros 64

/-- Sizes of the state records of a part, in block order. -/
def Image.recordSizes (g : Image) : List Nat := g.blocks.map fun k => recordSize (g.kindOf k)

/-- Offsets of the RUNGS, EXCHANGE, BLOCK_SAT and STATES sections, and CONTEXT_SIZE (R458). -/
def contextLayout (g : Image) (replicas segmentSize : Nat) : Nat × Nat × Nat × Nat × Nat :=
  let a := 256 + roundUp 64 segmentSize
  let b := a + roundUp 64 (2 * replicas)
  let c := b + roundUp 64 (8 * replicas)
  let d := c + roundUp 64 (replicas * g.blocks.length)
  (a, b, c, d, d + roundUp 64 (replicas * g.recordSizes.sum))

/-- SLOT_SAVE (R426, R458, R459). -/
def execSlotSave (id : Nat) (s : State) : Out :=
  runOrder 0x1B id s fun s o =>
    let hall := o.field 16 8
    let len := o.field 24 8
    let x := s.slot o.target
    let size := match x.image with | some g => (contextLayout g x.replicas x.segmentSize).2.2.2.2 | none => 0
    s.checked o (o.params 0 o.slotTarget [(16, 16)]
      ([s.localAddr o 16 64, { byte := 24, ok := len % 64 = 0 }] ++ s.rangeChecks hall len 16 24 ++
        [{ byte := 24, ok := size ≤ len, result := size }])) fun s =>
      s.inState o (fun st => st = .stopped) fun s =>
        match s.rangeHeld hall len, x.image with
        | some n, _ => s.finish o (Ending.badState (s.slot n).state.code)
        | none, none => s.finish o (Ending.badState x.state.code)
        | none, some g =>
          let body := x.contextBody x.rungs x.exch (s.recordOf o.target)
          let a := hallLocal hall
          let s := (s.putWhole (a + 256) body).putWhole a (x.contextHeader g (s.slotSat o.target) body)
          s.finish o (Ending.ok (256 + body.length))

/-! ### SLOT_RESTORE (R460) -/

/-- A failing check of a context: its step and the byte offset within the context (R460). -/
def contextFault (step offset : Nat) : Ending := { status := 0x11, d17 := 16, d18 := step, result := offset }

/-- The first offset of a list of fields that fails at a step. -/
def contextFirst (step : Nat) (fs : List (Nat × Bool)) : Option Ending := (fs.find? fun f => !f.2).map fun f => contextFault step f.1

/-- Step 1: FORMAT, the header's zero fields, CONTEXT_SIZE (R460). -/
def contextStep1 (h : List Byte) (len : Nat) : Option Ending :=
  contextFirst 1 [(0, fieldAt h 0 4 = 1), (4, zeroAt h 4 4), (8, decide (fieldAt h 8 8 ≤ len)), (30, zeroAt h 30 2),
    (42, fieldAt h 42 1 < 32), (43, zeroAt h 43 1), (48, zeroAt h 48 16), (192, zeroAt h 192 64)]

/-- Step 3: what must agree with the slot (R460). -/
def Slot.contextStep3 (x : Slot) (g : Image) (h : List Byte) : Option Ending :=
  contextFirst 3 [(28, fieldAt h 28 2 = x.replicas), (32, fieldAt h 32 4 = g.blocks.length), (38, fieldAt h 38 2 = g.partCount),
    (40, fieldAt h 40 2 = g.partIndex), (64, slice h 64 32 = g.imageDigest)]

/-- The curve set of a context's segment, if it is well formed (R147). -/
def contextCurves (c : List Byte) : Option CurveSet := parseCurves (slice c 272 (curveSize (c.drop 272)))

/-- Whether a rung table is a permutation of 0 to n - 1. -/
def isPermutation (n : Nat) (l : List Nat) : Bool := (List.range n).all fun r => l.contains r

/-- R157 for the settings of a context (R460): a ladder has RUNS rungs; an exchange needs one, two replicas and a GIBBS image. -/
def exchangeRule (g : Image) (runs : Nat) (c : CurveSet) : Bool :=
  (match c.ladder with | some l => decide (l.length = runs) | none => true) &&
    c.exchangeOk g.relax g.categorical runs

/-- Step 4: the structure of a context (R460). -/
def Slot.contextStep4 (x : Slot) (g : Image) (c : List Byte) : Option Ending :=
  let runs := fieldAt c 36 2
  let seg := fieldAt c 44 4
  let lay := contextLayout g x.replicas seg
  let rungs := (List.range x.replicas).map fun q => fieldAt c (lay.1 + 2 * q) 2
  contextFirst 4 [(36, 1 ≤ runs && runs ≤ x.replicas), (44, decide (seg = 16 + curveSize (c.drop 272))),
    (270, fieldAt c 270 2 = runs), (266, decide (fieldAt c 266 2 ≤ 4096)), (272, (contextCurves c).isSome),
    (272, match contextCurves c with | some k => exchangeRule g runs k | none => true),
    (lay.1, isPermutation x.replicas rungs), (8, fieldAt c 8 8 = lay.2.2.2.2)]

/-- Step 5: every state against R67; the offset is that of the first failing record (R460). -/
def Slot.contextStep5 (x : Slot) (g : Image) (c : List Byte) : Option Ending :=
  let states := (contextLayout g x.replicas (fieldAt c 44 4)).2.2.2.1
  let sizes := g.recordSizes
  let kOf := fun v => (g.cats.find? fun t => t.var = v).map fun t => t.states
  let items := (List.range x.replicas).flatMap fun q => ((List.range g.blocks.length).zip g.blocks).map fun b =>
    (states + q * sizes.sum + (sizes.take b.1).sum, b.2)
  (items.find? fun i => !recordOk (g.kindOf i.2) i.2.varBase i.2.varCount kOf (slice c i.1 (recordSize (g.kindOf i.2)))).map fun i =>
    contextFault 5 i.1

/-- What the body of a checked context holds: rungs, exchange counts, state records with their SAT bytes (R458). -/
def Slot.contextParts (x : Slot) (g : Image) (c : List Byte) : List Nat × List (Nat × Nat) × (Nat → Nat → List Byte × Nat) :=
  let lay := contextLayout g x.replicas (fieldAt c 44 4)
  let sizes := g.recordSizes
  ((List.range x.replicas).map fun q => fieldAt c (lay.1 + 2 * q) 2,
   (List.range x.replicas).map fun r => (fieldAt c (lay.2.1 + 8 * r) 4, fieldAt c (lay.2.1 + 8 * r + 4) 4),
   fun q k => (slice c (lay.2.2.2.1 + q * sizes.sum + (sizes.take k).sum) ((sizes[k]?).getD 0),
               fieldAt c (lay.2.2.1 + q * g.blocks.length + k) 1))

/-- The fold area of a slot allocated anew, as SLOT_RESTORE does: its own room counts as free, so it is always met (R322). -/
def State.renewFoldArea (s : State) (n : Nat) : State :=
  let len := (s.slot n).foldLen
  let s := s.modSlot n fun x => { x with foldLen := 0 }
  s.modSlot n fun x => { x with foldBase := if len = 0 then 0 else (s.foldRoom len).getD x.foldBase, foldLen := len }

/-- Puts a checked context in force; the exchange counts it brings stand from its last epoch on, and firmware
chooses the roots anew (R156, R162, R213, R460, R588). -/
def State.restoreContext (s : State) (n : Nat) (g : Image) (c : List Byte) : State :=
  let w := (s.renewFoldArea n).nextFree
  let s := w.2
  let x := { s.slot n with rootSeed := w.1.toNat }
  let seg := fieldAt c 44 4
  let sec := slice c 256 seg
  let parts := x.contextParts g c
  let r := fieldAt c 16 8
  let x := { x with
    state := .loaded, started := false, staged := noStaged, seed := some (slice c 96 32), segment := some sec
    curveDigest := slice c 128 32, curves := (contextCurves c).getD noCurves, runs := fieldAt c 36 2, settings := []
    topk := fieldAt c 266 2, nucleus := fieldAt c 268 2, treeMask := fieldAt c 264 2, capCount := 0, lastCapture := none
    capWritten := [], statSat := [], trees := [], exchHist := if r = 0 then [] else [(r - 1, parts.1, parts.2.1)], faultStatus := 0, faultEpoch := 0, drain := none
    treeSatFrom := if bitAt (fieldAt c 42 1) 4 = 1 then some 0 else none }
  ((s.setSlot n x).restartAt n r parts.1 parts.2.1 parts.2.2 false false).checkpointNow n r true

/-- Reads and checks a context (R460). -/
def State.readContext (s : State) (o : Order) (g : Image) : Work (List Byte) :=
  let hall := o.field 16 8
  let len := o.field 24 8
  let x := s.slot o.target
  let stop := fun (s : State) (e : Option Ending) (go : State → Work (List Byte)) => match e with
    | some e => Work.ends s e
    | none => go s
  (s.readHall o hall (min 256 len) 16).next fun s h =>
    stop s (contextStep1 h len) fun s =>
      (s.readHall o (hall + 256) (fieldAt h 8 8 - 256) 16).next fun s body =>
        let c := h ++ body
        let digest := if sha256 body = slice h 160 32 then none else some (contextFault 2 160)
        stop s (digest <|> x.contextStep3 g h <|> x.contextStep4 g c <|> x.contextStep5 g c) fun s => Work.done s c

/-- SLOT_RESTORE (R258, R426, R460). -/
def execSlotRestore (id : Nat) (s : State) : Out :=
  runOrder 0x1C id s fun s o =>
    s.checked o (o.params 0 o.slotTarget [(16, 16)] [s.localAddr o 16 1]) fun s =>
      s.inState o (fun st => st = .loaded || st = .stopped || st = .faulted) fun s =>
        let x := s.slot o.target
        match x.image with
        | none => s.finish o (Ending.badState x.state.code)
        | some g => State.conclude o (s.readContext o g) fun s c =>
          if fieldAt c 24 4 ≠ x.results then s.finish o (Ending.badState x.state.code)
          else (s.restoreContext o.target g c).finish o Ending.ok

end Sys2Proof.Machine
end

