-- ==== Sys2Proof/Machine/Control.lean ====
section
/-! DEFINITION. Machine/Control.lean: control and scalar instructions (R119, R120). -/

namespace Sys2Proof.Machine

/-! ### Control (R119) -/

/-- A branch: taken it costs 2 beats, the second of them wasted (R119, R573). -/
def branch (c : Nat) (s : State) (co : Core) (taken : Bool) (off : Int) : Done :=
  if taken then .retire (s.setCore c co) (some off) 1 else onCore c s co

/-- NOP: no effect (R119). -/
def execInstrNop (core : Nat) (s : State) : Out := issueOn core (.instrNop core) none s fun s i => onCore core s i.co

/-- END: ends the phase program; without a PDONE it raises PHASE_ORDER (R119, R132). -/
def execEndPhase (core : Nat) (s : State) : Out :=
  issueOn core (.endPhase core) none s fun s i => if i.r.pdone then .ended s else .fault s 6

/-- JMP (R119). -/
def execJmp (core : Nat) (off : BitVec 24) (s : State) : Out :=
  issueOn core (.jmp core off) none s fun s i => branch core s i.co true off.toInt

/-- BZ: branch if kA = 0 (R119). -/
def execBz (core : Nat) (a : BitVec 5) (off : BitVec 19) (s : State) : Out :=
  issueOn core (.bz core a off) none s fun s i => branch core s i.co (i.co.kreg a = 0) off.toInt

/-- BNZ: branch if kA is not 0 (R119). -/
def execBnz (core : Nat) (a : BitVec 5) (off : BitVec 19) (s : State) : Out :=
  issueOn core (.bnz core a off) none s fun s i => branch core s i.co (i.co.kreg a ≠ 0) off.toInt

/-- BLT: branch if kA < kB, signed (R119). -/
def execBlt (core : Nat) (a b : BitVec 5) (off : BitVec 14) (s : State) : Out :=
  issueOn core (.blt core a b off) none s fun s i => branch core s i.co ((i.co.kreg a).slt (i.co.kreg b)) off.toInt

/-- LOOP: kA - 1 into kA, branch if the new kA is not 0 (R119). With k0 the write is discarded and the new kA reads zero
(R113). -/
def execLoop (core : Nat) (a : BitVec 5) (off : BitVec 19) (s : State) : Out :=
  issueOn core (.loop core a off) none s fun s i =>
    let co := i.co.setK a (i.co.kreg a - 1)
    branch core s co (co.kreg a ≠ 0) off.toInt

/-! ### Scalar (R120) -/

/-- A scalar operation of two registers into kA. -/
def alu (c : Nat) (a b d : BitVec 5) (f : Word → Word → Word) (s : State) (i : Issue) : Done :=
  onCore c s (i.co.setK a (f (i.co.kreg b) (i.co.kreg d)))

/-- The shift amount kC[4:0]. -/
def shamt (w : Word) : Nat := w.toNat % 32

/-- ADD (R120). -/
def execAdd (core : Nat) (a b c : BitVec 5) (s : State) : Out :=
  issueOn core (.add core a b c) none s (alu core a b c fun x y => x + y)
/-- SUB (R120). -/
def execSub (core : Nat) (a b c : BitVec 5) (s : State) : Out :=
  issueOn core (.sub core a b c) none s (alu core a b c fun x y => x - y)
/-- AND (R120). -/
def execAnd (core : Nat) (a b c : BitVec 5) (s : State) : Out :=
  issueOn core (.and core a b c) none s (alu core a b c fun x y => x &&& y)
/-- OR (R120). -/
def execOr (core : Nat) (a b c : BitVec 5) (s : State) : Out :=
  issueOn core (.or core a b c) none s (alu core a b c fun x y => x ||| y)
/-- XOR (R120). -/
def execXor (core : Nat) (a b c : BitVec 5) (s : State) : Out :=
  issueOn core (.xor core a b c) none s (alu core a b c fun x y => x ^^^ y)
/-- SHL by kC[4:0] (R120). -/
def execShl (core : Nat) (a b c : BitVec 5) (s : State) : Out :=
  issueOn core (.shl core a b c) none s (alu core a b c fun x y => x <<< shamt y)
/-- SHR by kC[4:0], zeros in (R120). -/
def execShr (core : Nat) (a b c : BitVec 5) (s : State) : Out :=
  issueOn core (.shr core a b c) none s (alu core a b c fun x y => x >>> shamt y)
/-- SRA by kC[4:0], sign in (R120). -/
def execSra (core : Nat) (a b c : BitVec 5) (s : State) : Out :=
  issueOn core (.sra core a b c) none s (alu core a b c fun x y => x.sshiftRight (shamt y))
/-- ADDI: kB + IMM14 sign-extended (R120). -/
def execAddi (core : Nat) (a b : BitVec 5) (imm : BitVec 14) (s : State) : Out :=
  issueOn core (.addi core a b imm) none s (alu core a b b fun x _ => x + ext32 imm)
/-- MOVI: IMM19 sign-extended (R120). -/
def execMovi (core : Nat) (a : BitVec 5) (imm : BitVec 19) (s : State) : Out :=
  issueOn core (.movi core a imm) none s (alu core a a a fun _ _ => ext32 imm)
/-- MOVHI: bits [31:16] of kA replaced (R120). -/
def execMovhi (core : Nat) (a : BitVec 5) (imm : BitVec 16) (s : State) : Out :=
  issueOn core (.movhi core a imm) none s (alu core a a a fun x _ => imm ++ x.extractLsb' 0 16)

end Sys2Proof.Machine
end

