-- ==== Sys2Proof/Machine/Rsa.lean ====
section
/-! DEFINITION. Machine/Rsa.lean: octet strings, DER public keys, RSASSA-PSS, the module's signatures and the certificate chain of a cord
(R268, R269, R376, R520, R522, R525, R526). -/

namespace Sys2Proof.Machine

/-! ### Big-endian octets and DER (R525, R526) -/

/-- The big-endian number of an octet string. -/
def beNat (bs : List Byte) : Nat := leNat bs.reverse

/-- A number as n octets, big-endian. -/
def beBytes (n v : Nat) : List Byte := (leBytes n v).reverse

/-- The octets a number needs, at least one. -/
def octets (v : Nat) : Nat := v.log2 / 8 + 1

/-- A DER element: tag, definite length, contents. -/
def der (tag : Nat) (body : List Byte) : List Byte :=
  let n := body.length
  leBytes 1 tag ++ (if n < 128 then leBytes 1 n else leBytes 1 (128 + octets n) ++ beBytes (octets n) n) ++ body

/-- A DER INTEGER of a number that is not negative. -/
def derInt (v : Nat) : List Byte :=
  let n := octets v
  der 0x02 (if bitAt v (8 * n - 1) = 1 then zeros 1 ++ beBytes n v else beBytes n v)

/-- The DER SubjectPublicKeyInfo of an RSA key (R526). -/
def spki (n e : Nat) : List Byte :=
  let oid : List Byte := [0x06, 0x09, 0x2A, 0x86, 0x48, 0x86, 0xF7, 0x0D, 0x01, 0x01, 0x01, 0x05, 0x00]
  der 0x30 (der 0x30 oid ++ der 0x03 (zeros 1 ++ der 0x30 (derInt n ++ derInt e)))

/-! ### RSASSA-PSS with SHA-256 and a 32-byte salt (R269, R376, R522, R525) -/

/-- b to the power e mod n; k bits of the exponent are looked at. -/
def powMod (n b e : Nat) : Nat → Nat
  | 0 => 1 % n
  | k + 1 =>
    let r := powMod n (b * b % n) (e / 2) k
    if e % 2 = 1 then b * r % n else r

/-- MGF1 with SHA-256: the first n octets. -/
def mgf1 (seed : List Byte) (n : Nat) : List Byte :=
  ((List.range ((n + 31) / 32)).flatMap fun i => sha256 (seed ++ beBytes 4 i)).take n

/-- The octets of two strings combined by exclusive or. -/
def xorBytes (a b : List Byte) : List Byte := (a.zip b).map fun p => p.1 ^^^ p.2

/-- Clears the leftmost k bits of a string. -/
def clearLeft (k : Nat) (bs : List Byte) : List Byte :=
  match bs with
  | [] => []
  | b :: t => BitVec.ofNat 8 (b.toNat % 2 ^ (8 - k)) :: t

/-- The encoded message of a signature verifies against a message of SHA-256 digest `hash`; `bits` is emBits. -/
def pssVerify (hash em : List Byte) (bits : Nat) : Bool :=
  let len := em.length
  let db := em.take (len - 33)
  let h := slice em (len - 33) 32
  let spare := 8 * len - bits
  let plain := clearLeft spare (xorBytes db (mgf1 h (len - 33)))
  let salt := plain.drop (len - 65)
  66 ≤ len && em.drop (len - 1) = [0xBC] && clearLeft spare db = db && plain.take (len - 65) = zeros (len - 66) ++ [1] &&
    sha256 (zeros 8 ++ hash ++ salt) = h

/-- An RSASSA-PSS signature of a message verifies under a public key. -/
def rsaVerify (n e : Nat) (message signature : List Byte) : Bool :=
  let s := beNat signature
  let bits := n.log2
  let len := (bits + 7) / 8
  let m := powMod n s e 32
  decide (1 < n) && decide (s < n) && decide (m < 256 ^ len) && pssVerify (sha256 message) (beBytes len m) bits

/-- The encoded message of a digest and a salt; `bits` is emBits. -/
def pssEncode (hash salt : List Byte) (bits : Nat) : List Byte :=
  let len := (bits + 7) / 8
  let h := sha256 (zeros 8 ++ hash ++ salt)
  let db := xorBytes (zeros (len - 66) ++ [1] ++ salt) (mgf1 h (len - 33))
  clearLeft (8 * len - bits) db ++ h ++ [0xBC]

/-- The RSASSA-PSS signature of a message under modulus n and private exponent d, as n octets. -/
def rsaSign (n d octets : Nat) (message salt : List Byte) : List Byte :=
  beBytes octets (powMod n (beNat (pssEncode (sha256 message) salt n.log2)) d (n.log2 + 1))

/-! ### The attestation key (R268, R269, R520) -/

/-- Public exponent of the keys of the root of trust (R520). -/
def publicExponent : Nat := 65537

/-- SIGNER_KEY_ID: SHA-256 over the DER SubjectPublicKeyInfo of the attestation key (R268). -/
def signerKeyId : List Byte := sha256 (spki Config.attestModulus publicExponent)

/-- The 384-octet signature of the root of trust over a body, with its salt (R269, R531). -/
def attestSign (body salt : List Byte) : List Byte := rsaSign Config.attestModulus Config.attestExponent 384 body salt

/-! ### The certificate chain of a cord (R376, R522) -/

/-- The certificate carries the key that another is signed with. -/
def CordCert.signed (c by_ : CordCert) : Bool := rsaVerify by_.modulus by_.exponent c.body c.signature

/-- Every certificate is signed with the key of the next; the last one is the root's, signed with its own key. -/
def chainSigned : List CordCert → Bool
  | [] => false
  | [c] => c.signed c
  | c :: d :: t => c.signed d && chainSigned (d :: t)

/-- Step 4 of R376: a chain of certificates that all carry keyUsage digitalSignature, up to the cord root, whose key the digest in OTP names.
DEDUCED (log 98): the chain ends with the root's own certificate, since OTP holds only the digest of its key. -/
def chainGood (chain : List CordCert) : Bool :=
  chainSigned chain && chain.all (fun c => c.digitalSignature) &&
    match chain.getLast? with
    | some r => decide (sha256 (spki r.modulus r.exponent) = (Config.keyBytes 8 ++ zeros 32).take 32)
    | none => false

/-- A hexadecimal digit in ASCII. -/
def hexDigit (b : Byte) : Option Nat :=
  let n := b.toNat
  if 0x30 ≤ n && n ≤ 0x39 then some (n - 0x30)
  else if 0x41 ≤ n && n ≤ 0x46 then some (n - 0x37)
  else if 0x61 ≤ n && n ≤ 0x66 then some (n - 0x57)
  else none

/-- The number that hexadecimal digits spell. -/
def hexNumber (bs : List Byte) : Option Nat :=
  bs.foldl (fun a b => match a, hexDigit b with | some v, some d => some (16 * v + d) | _, _ => none) (some 0)

/-- Whether a subject's serialNumber names a serial and an end: 16 hex digits, then "-A" or "-B" (R376). -/
def subjectNames (subject : List Byte) (serial end_ : Nat) : Bool :=
  subject.length = 18 && hexNumber (subject.take 16) = some serial && end_ < 2 &&
    decide (subject.drop 16 = [0x2D, BitVec.ofNat 8 (0x41 + end_)])

end Sys2Proof.Machine
end

