-- ==== Sys2Proof/Machine/Results.lean ====
section
/-! DEFINITION. Machine/Results.lean: samples, statistics, seals, attestation and key data (R265 to R269, R429 to R433, R448, R531 to
R534). -/

namespace Sys2Proof.Machine

/-! ### SAMPLE_READ and STATS_READ (R430, R432) -/

/-- The RUNS in force at an epoch. -/
def Slot.runsAt (x : Slot) (e : Nat) : Nat := (x.inForce e).runs

/-- The epoch of a capture (R423). -/
def Slot.captureEpoch (x : Slot) (k : Nat) : Nat := x.capFirst + k * x.capStep

/-- PUBLISHED of an epoch (R430). -/
def Slot.published (x : Slot) (e : Nat) : Nat := bitOf (match x.lastCapture with | some l => decide (e ≤ l) | none => false)

/-- Result bytes of SAMPLE_READ and STATS_READ (R430, R432). -/
def Slot.readResult (x : Slot) (records e : Nat) : Nat :=
  records + 2 ^ 32 * x.published e + 2 ^ 64 * (match x.lastCapture with | some l => l % 2 ^ 32 | none => 2 ^ 32 - 1)

/-- The header of a sample record (R430). -/
def Slot.sampleHeader (x : Slot) (g : Image) (k q : Nat) : List Byte :=
  let e := x.captureEpoch k
  leBytes 4 1 ++ leBytes 4 g.partVariables ++ zeros 2 ++ leBytes 2 q ++ leBytes 4 k ++ leBytes 8 e ++
    leBytes 1 (x.published e + 2 * bitOf g.categorical + 4 * bitOf (x.runsAt e ≤ q)) ++ zeros 39

/-- Reads the sample records of n replicas from replica q on. -/
def State.sampleRecords (s : State) (x : Slot) (g : Image) (k : Nat) : Nat → Nat → State × Option (List Byte)
  | _, 0 => (s, some [])
  | q, n + 1 =>
    match s.readLocal (hallLocal x.sampleAddr + (k * x.replicas + q) * g.sampleSize) g.sampleSize with
    | (s, none) => (s, none)
    | (s, some bs) =>
      match s.sampleRecords x g k (q + 1) n with
      | (s, some t) => (s, some (x.sampleHeader g k q ++ bs ++ t))
      | (s, none) => (s, none)

/-- SAMPLE_READ (R430). -/
def execSampleRead (id : Nat) (s : State) : Out :=
  runOrder 0x20 id s fun s o =>
    let x := s.slot o.target
    let k := o.field 16 4
    let q := o.field 20 2
    let n := o.field 22 2
    let size := match x.image with | some g => g.sampleSize | none => 0
    s.checked o (o.params 0 o.slotTarget [(16, 24)]
      ([{ byte := 16, ok := k < x.capCount }, { byte := 20, ok := n = 0 || q < x.replicas }, { byte := 22, ok := q + n ≤ x.replicas }] ++
        o.hostRange 24 32 (n * (64 + size)))) fun s =>
      s.inState o (fun st => st ≠ .empty) fun s =>
        match x.image with
        | none => s.finish o (Ending.badState x.state.code)
        | some g =>
          match s.sampleRecords x g k q n with
          | (s, none) => s.finish o Ending.memError
          | (s, some bs) => s.answerHost o (o.field 24 8) bs (Ending.ok (x.readResult n (x.captureEpoch k)))

/-- STATS_READ (R432). -/
def execStatsRead (id : Nat) (s : State) : Out :=
  runOrder 0x21 id s fun s o =>
    let x := s.slot o.target
    let k := o.field 16 4
    s.checked o (o.params 0 o.slotTarget [(16, 4), (24, 16)] ([{ byte := 16, ok := k < x.capCount }] ++ o.hostRange 24 32 x.statSize)) fun s =>
      s.inState o (fun st => st ≠ .empty) fun s =>
        match s.readLocal (hallLocal x.statsAddr + k * x.statSize) x.statSize with
        | (s, none) => s.finish o Ending.memError
        | (s, some bs) => s.answerHost o (o.field 24 8) bs (Ending.ok (x.readResult 1 (x.captureEpoch k)))

/-! ### Signing (R268, R269, R513, R531) -/

/-- A 32-byte value, padded with zeros. -/
def pad32 (bs : List Byte) : List Byte := (bs ++ zeros 32).take 32

/-- Asks the root of trust for a signature: at most 16 requests wait, and each first waits for its salt (R513, R531). -/
def State.askSignature (s : State) (o : Order) (attest : Bool) : State :=
  if 16 ≤ s.rot.signing.length then s.finish o Ending.busy
  else if s.entropy.state = .fault then s.finish o { status := 0x30 }
  else { s with rot := { s.rot with signing := s.rot.signing ++ [{ order := o.id, attest := attest, salt := none }] }
                entropy := { s.entropy with rot := s.entropy.rot ++ [.salt o.id] } }

/-- DEBUG_LOCK and TEST_LOCK are set (R484). -/
def State.testLocked (s : State) : Bool := bitAt s.regs.secLock 8 = 1
/-- DEBUG_LOCK is set (R484). -/
def State.debugLocked (s : State) : Bool := bitAt s.regs.secLock 9 = 1

/-- The 128-byte body of a seal (R268). -/
def State.sealBody (s : State) (n : Nat) : List Byte :=
  let x := s.slot n
  let e := x.completed.getD 0
  let fp := fun q => match x.fpE.find? fun f => f.1 = q && f.2.1 = e with | some f => f.2.2 | none => 0
  leBytes 4 1 ++ zeros 9 ++ leBytes 1 (s.slotSat n) ++ leBytes 2 x.runs ++ leBytes 8 e ++ zeros 40 ++
    sha256 (x.provenance x.curveDigest) ++ sha256 ((List.range x.runs).flatMap fun q => leBytes 8 (fp q))

/-- RESULT_SEAL (R265, R433, R532). -/
def execResultSeal (id : Nat) (s : State) : Out :=
  runOrder 0x22 id s fun s o =>
    let n := o.target
    s.checked o (o.params 4 o.slotTarget [(16, 16)] (o.hostRange 16 24 576)) fun s =>
      let x := s.slot n
      s.inState o (fun st => st = .stopped && x.completed.isSome) fun s =>
        if bitAt o.flags 2 = 1 then
          if s.rot.bootVerified && s.debugLocked && s.testLocked then s.askSignature o false
          else s.finish o { status := 0x12, d17 := 4, d18 := 1 }
        else s.answerHost o (o.field 16 8) (s.sealBody n ++ zeros 416) (Ending.ok (x.completed.getD 0))

/-- SEC_STATE bits 2 to 0 (R486). -/
def State.secState (s : State) : Nat := bitOf (!s.debugLocked) + 2 * bitOf s.rot.bootVerified + 4 * bitOf s.rot.runningB

/-- The 256-byte body of an attestation report (R533). -/
def State.attestBody (s : State) (nonce : List Byte) : List Byte :=
  let me := s.rot.running
  let other := s.rot.other
  leBytes 4 1 ++ leBytes 4 s.regs.secLock ++ leBytes 4 s.secState ++ leBytes 2 s.fabric.moduleId ++ zeros 2 ++
    leBytes 4 me.security ++ leBytes 4 s.rot.otpVersion ++ leBytes 4 me.results ++ zeros 4 ++
    leBytes 8 me.build ++ leBytes 8 Config.serial.toNat ++ zeros 16 ++ nonce ++ pad32 me.digest ++
    (if other.valid && !other.staging then pad32 other.digest else zeros 32) ++ signerKeyId ++ zeros 64

/-- ATTEST (R448, R533). -/
def execAttest (id : Nat) (s : State) : Out :=
  runOrder 0x60 id s fun s o =>
    s.checked o (o.params 0 o.noTarget [(16, 48)] (o.hostRange 48 56 640)) fun s => s.askSignature o true

/-- A body with its signature (R268, R533). -/
def signedBody (body salt : List Byte) : List Byte := body ++ attestSign body salt

/-- The body that a request signs: of an ATTEST, with the order's nonce, or of a seal (R268, R533). -/
def State.signBody (s : State) (attest : Bool) (o : Order) : List Byte :=
  if attest then s.attestBody ((pktBytes o.packet).drop 16 |>.take 32) else s.sealBody o.target

/-- SIGNATURE_DONE: the oldest signing request that has its salt is answered with the signature of the root of trust over the body, which the
shared mailbox brings back (R268, R269, R531, R533). The body and its salt fix the signature: other bytes are no answer of the root of trust
and change nothing (log 9). -/
def execSignatureDone (signature : List Byte) (s : State) : Out :=
  .next <|
    match s.rot.signing with
    | [] => s
    | r :: rest =>
      match r.salt, s.arbiter.orders.find? fun o => o.id = r.order with
      | none, _ => s
      | some _, none => { s with rot := { s.rot with signing := rest } }
      | some salt, some o =>
        let body := s.signBody r.attest o
        if signature ≠ attestSign body salt then s
        else
          let s := { s with rot := { s.rot with signing := rest } }
          if r.attest then s.answerHost o (o.field 48 8) (signedBody body salt) (Ending.ok 640)
          else s.answerHost o (o.field 16 8) (signedBody body salt ++ signerKeyId) (Ending.ok ((s.slot o.target).completed.getD 0))

/-! ### KEY_INFO (R448, R534) -/

/-- The 256-byte key record (R534). -/
def State.keyRecord (s : State) : List Byte :=
  leBytes 4 1 ++ leBytes 4 s.rot.otpVersion ++ leBytes 8 Config.serial.toNat ++ zeros 16 ++ pad32 (Config.keyBytes 4) ++
    signerKeyId ++ pad32 (Config.keyBytes 5) ++ pad32 (Config.keyBytes 6) ++ pad32 (Config.keyBytes 7) ++
    pad32 (Config.keyBytes 8) ++ zeros 32

/-- A certificate: at most 2,048 bytes (R520). -/
def certificate (n : Nat) : List Byte := (Config.keyBytes n).take 2048

/-- The data that WHICH names (R534). -/
def State.keyData (s : State) (which : Nat) : List Byte :=
  match which with
  | 0 => certificate 0
  | 1 => certificate 1
  | 2 => certificate 2 ++ certificate 0 ++ certificate 1
  | _ => s.keyRecord

/-- KEY_INFO (R448, R534). -/
def execKeyInfo (id : Nat) (s : State) : Out :=
  runOrder 0x61 id s fun s o =>
    let d := s.keyData (o.field 16 1)
    s.checked o (o.params 0 o.noTarget [(16, 1), (24, 16)] ([{ byte := 16, ok := o.field 16 1 < 4 }] ++
      o.hostRange 24 32 (roundUp 64 d.length))) fun s => s.answerHost o (o.field 24 8) (padTo 64 d) (Ending.ok d.length)

end Sys2Proof.Machine
end

