-- ==== Sys2Proof/Machine/EntropySource.lean ====
section
/-! DEFINITION. Machine/EntropySource.lean: the entropy source, its tests, its pool and its consumers (R437, R504 to R518). -/

namespace Sys2Proof.Machine

/-- LIMIT in force (R516). -/
def State.entropyLimit (s : State) : Nat := s.liveOr 0x080008 0x08 % 256
/-- PAIR_ENABLE in force (R517). -/
def State.pairEnabled (s : State) (n : Nat) : Bool := n < 4 && bitAt (s.liveOr 0x08000C 0xF) n = 1
/-- The enabled pairs, ascending. -/
def State.enabledPairs (s : State) : List Nat := (List.range 4).filter s.pairEnabled
/-- HOLD (R517). -/
def State.entropyHeld (s : State) : Bool := bitAt (s.regOr 0x08000C 0xF) 4 = 1

/-- The order of a consumer. -/
def EntReq.order : EntReq → Option Nat
  | .salt o | .get o _ _ | .seed o => some o
  | .nonce _ => none

/-- Every host request completes with a status (R511, R518). -/
def State.failRequests (s : State) (status : Nat) : State :=
  let os := s.entropy.host.filterMap EntReq.order
  os.foldl (fun s id => s.finishId id { status := status }) { s with entropy := { s.entropy with host := [] } }

/-- Every signing request that waits for its salt completes ENTROPY_FAULT (R513). -/
def State.failSalts (s : State) : State :=
  let os := s.entropy.rot.filterMap EntReq.order
  let s := { s with
    entropy := { s.entropy with rot := s.entropy.rot.filter fun r => r.order.isNone }
    rot := { s.rot with signing := s.rot.signing.filter fun r => !os.contains r.order } }
  os.foldl (fun s id => s.finishId id { status := 0x30 }) s

/-- The source is released: ENTROPY is raised on entry (R509, R511). -/
def State.releaseEntropy (s : State) : State :=
  if s.entropy.state = .released then s else { s with entropy := { s.entropy with state := .released } }.raise 7

/-- ENTROPY_FAULT comes into force: pending requests complete (R511, R513). -/
def State.faultEntropy (s : State) : State :=
  if s.entropy.state = .fault then s
  else
    let s := { s with entropy := { s.entropy with state := .fault }, mgmt := { s.mgmt with countFault := s.mgmt.countFault + 1 } }
    ((s.raise 7).failRequests 0x30).failSalts

/-- The sources start: a new start-up round, CONSEC 0 (R511). -/
def State.startEntropy (s : State) : State :=
  { s with entropy := { s.entropy with state := .startup, consec := 0, pool := [], discards := [], parityStop := false, post := false } }

/-- The sources stop; the pool is emptied (R511, R517). -/
def State.stopEntropy (s : State) : State := { s with entropy := { s.entropy with state := .stopped, pool := [] } }

/-- A live parity mismatch stops the source, and every host request completes PARITY_FAULT (R478, R518). -/
def State.parityEntropy (s : State) : State :=
  let s := s.stopEntropy
  (({ s with entropy := { s.entropy with parityStop := true } }).parityReport 7 0).failRequests 0x32

/-- Whether the source meets a live parity mismatch now (R483). -/
def State.entropyBad (s : State) : Bool := s.liveBad 7 0 && s.entropy.state ≠ .stopped

/-! ### Health tests (R507) -/

/-- Whether the run count of the repetition count test reaches 5. -/
def repeats (last : Byte) (run : Nat) : List Byte → Bool
  | [] => false
  | b :: t => let n := if b = last then run + 1 else 1; 5 ≤ n || repeats b n t

/-- The repetition count test of a block fails (R507). -/
def rctFails (bs : List Byte) : Bool := match bs with | [] => false | b :: t => repeats b 1 t

/-- The adaptive proportion test of a block fails (R507). -/
def aptFails (bs : List Byte) : Bool := match bs with | [] => false | b :: _ => 18 ≤ (bs.filter fun x => x = b).length

/-- A block is 128 samples (R505). -/
def RawBlock.whole (b : RawBlock) : Bool := b.samples.length = 128
/-- A block passes both tests (R507). -/
def RawBlock.passes (b : RawBlock) : Bool := !rctFails b.samples && !aptFails b.samples

/-! ### Rounds and blocks (R508 to R510) -/

/-- The pairs whose part of a round passed, as bits (R508, R514). -/
def State.roundOk (s : State) (blocks : List (List RawBlock)) : Nat :=
  (List.range 4).foldl (fun a n => a + bitOf (s.pairEnabled n && ((blocks[n]?).getD []).all RawBlock.passes) * 2 ^ n) 0

/-- ENTROPY_STARTUP_ROUND: eight blocks of every enabled pair end a round (R508, R509). -/
def execEntropyStartupRound (blocks : List (List RawBlock)) (s : State) : Out :=
  .next <|
    let e := s.entropy
    let ps := s.enabledPairs
    let whole := ps.all fun n => let b := (blocks[n]?).getD []; b.length = 8 && b.all RawBlock.whole
    if s.entropyBad then s.parityEntropy
    else if !(e.state = .startup || (e.state = .fault && !e.post)) || !whole then s
    else
      let ok := s.roundOk blocks
      let e := { e with rawSamples := e.rawSamples + 1024 * ps.length, pairsOk := ok }
      if ps.all fun n => bitAt ok n = 1 then
        ({ s with entropy := { e with consec := 0, post := true, discards := [] } }).releaseEntropy
      else
        let e := { e with failsStartup := satInc 0xFFFF e.failsStartup, consec := satInc 0xFF e.consec }
        let s := { s with entropy := e }
        if s.entropyLimit ≤ e.consec then s.faultEntropy else s

/-- A block that passes: it lifts ENTROPY_FAULT and is conditioned where the pool has room (R506, R510). -/
def State.goodBlock (s : State) (pair : Nat) (b : RawBlock) : State :=
  let s := { s with entropy := { s.entropy with discards := s.entropy.discards.put pair 0 } }
  let s := s.releaseEntropy
  let e := s.entropy
  if e.pool.length < 128 then { s with entropy := { e with pool := e.pool ++ [sha256 b.samples], conditioned := e.conditioned + 1 } } else s

/-- A block that fails a continuous test: discarded and counted; every enabled pair at LIMIT is a fault (R510, R515). -/
def State.badBlock (s : State) (pair : Nat) (b : RawBlock) : State :=
  let e := s.entropy
  let n := (e.discards.at pair).getD 0 + 1
  let e := { e with
    failsRct := if rctFails b.samples then satInc 0xFF e.failsRct else e.failsRct
    failsApt := if aptFails b.samples then satInc 0xFF e.failsApt else e.failsApt
    discarded := e.discarded + 1, discards := e.discards.put pair n }
  let s := { s with entropy := e }
  if s.enabledPairs.all fun p => s.entropyLimit ≤ (e.discards.at p).getD 0 then s.faultEntropy else s

/-- ENTROPY_BLOCK: a block of a pair completes after release (R506, R507, R510). -/
def execEntropyBlock (pair : Nat) (block : RawBlock) (s : State) : Out :=
  unit (decide (pair < 4)) s <| .next <|
    let e := s.entropy
    if s.entropyBad then s.parityEntropy
    else if !(e.state = .released || (e.state = .fault && e.post)) || !s.pairEnabled pair || !block.whole then s
    else
      let s := { s with entropy := { e with rawSamples := e.rawSamples + 128 } }
      if block.passes then s.goodBlock pair block else s.badBlock pair block

/-! ### Consumers (R437, R511 to R513) -/

/-- SEED_FROM_ENTROPY has its output: the seed is staged and written, unless the slot's state no longer allows it (R173, R174,
R437). -/
def State.giveSeed (s : State) (id : Nat) (out : List Byte) : State :=
  match s.arbiter.orders.find? fun o => o.id = id with
  | none => s
  | some o =>
    let x := s.slot o.target
    if x.state ≠ .loaded || x.started then s.finish o (Ending.badState x.state.code)
    else
      let s := if s.barsUp then s.setSlot o.target { x with staged := { x.staged with seed := some out } } else s
      s.answerHost o (o.field 16 8) (out ++ zeros 32) Ending.ok

/-- ENTROPY_GET has an output more; with its last it completes (R437). -/
def State.giveBytes (s : State) (id need : Nat) (got out : List Byte) (rest : List EntReq) : State :=
  let all := got ++ out.take need
  if 32 < need then { s with entropy := { s.entropy with host := .get id (need - 32) all :: rest } }
  else
    let s := { s with entropy := { s.entropy with host := rest } }
    match s.arbiter.orders.find? fun o => o.id = id with
    | some o => s.answerHost o (o.field 16 8) all Ending.ok
    | none => s

/-- ENTROPY_SERVE: one held output goes to the consumer whose turn it is and is erased from the pool (R512). -/
def execEntropyServe (s : State) : Out :=
  .next <|
    let e := s.entropy
    match e.pool with
    | [] => s
    | out :: pool =>
      if s.entropyBad then s.parityEntropy
      else if e.state ≠ .released || (e.rot = [] && e.host = []) then s
      else
        let s := { s with entropy := { e with pool := pool, delivered := e.delivered + 32 } }
        match e.rot, e.host with
        | .salt id :: t, _ =>
          let put := fun (r : SignReq) => if r.order = id then { r with salt := some out } else r
          { s with entropy := { s.entropy with rot := t }, rot := { s.rot with signing := s.rot.signing.map put } }
        | .nonce p :: t, _ =>
          ({ s with entropy := { s.entropy with rot := t } }).modPort p fun (x : Port) =>
            if x.cordStep = CordStep.nonceWait then { x with nonce := out, cordStep := .challenged } else x
        | _, .get id need got :: t => s.giveBytes id need got out t
        | _, .seed id :: t => ({ s with entropy := { s.entropy with host := t } }).giveSeed id out
        | _, _ => s

/-- A host request joins those that wait, or completes at once (R437, R511, R518). -/
def State.askEntropy (s : State) (o : Order) (r : EntReq) : State :=
  let e := s.entropy
  if e.parityStop then s.finish o { status := 0x32 }
  else if e.state = .fault then s.finish o { status := 0x30 }
  else if 64 ≤ e.host.length then s.finish o Ending.busy
  else { s with entropy := { e with host := e.host ++ [r] } }

/-- ENTROPY_GET (R437). -/
def execEntropyGet (id : Nat) (s : State) : Out :=
  runOrder 0x30 id s fun s o =>
    let len := o.field 24 4
    s.checked o (o.params 0 o.noTarget [(16, 12)] [{ byte := 16, ok := o.field 16 8 % 64 = 0 },
      { byte := 24, ok := len % 64 = 0 && 64 ≤ len && len ≤ 4096 }]) fun s => s.askEntropy o (.get o.id len [])

/-- SEED_FROM_ENTROPY (R173, R437). -/
def execSeedFromEntropy (id : Nat) (s : State) : Out :=
  runOrder 0x31 id s fun s o =>
    s.checked o (o.params 0 o.slotTarget [(16, 16)] (o.hostRange 16 24 64)) fun s =>
      let x := s.slot o.target
      if x.state ≠ .loaded || x.started then s.finish o (Ending.badState x.state.code) else s.askEntropy o (.seed o.id)

/-- HOLD changes: the sources stop, or a new round starts; a source that a parity mismatch stopped stays stopped until a strobe
(R478, R517). -/
def State.setHold (s : State) (hold : Bool) : State :=
  if hold then s.stopEntropy else if s.entropy.parityStop then s else s.startEntropy

end Sys2Proof.Machine
end

