-- ==== Sys2Proof/Machine/Fabric.lean ====
section
/-! DEFINITION. Machine/Fabric.lean: packets and their routes, remote operations at their target, responses, broadcasts and FENCE
(R349, R353, R354, R359 to R368). -/

namespace Sys2Proof.Machine

/-! ### Messages as packets (R235 to R237, R349, R359, R361) -/

/-- The module a message goes to, for one that may leave the module (R349). -/
def Msg.module : Msg → Option Nat
  | .state m => some m.destModule
  | .part m => some m.module
  | .group m => some m.module
  | .close m => some m.module
  | .freeze _ m _ | .freezeReply _ m _ _ | .limit _ m _ | .drained _ m _ | .fault _ m _ | .ckptDone _ m _ _ | .ckptCommit _ m _ => some m
  | .notice w _ _ => w.module
  | .request r => some (hallModule r.address)
  | .response r => some r.destModule
  | _ => none

/-- A message as a packet. -/
def Msg.packet (m : Msg) (dest hops : Nat) (poison : Bool) : FabricPacket :=
  { vc := m.channel.1, flits := m.channel.2, hops := hops, destModule := dest, poison := poison, pooled := false, arrival := none,
    msg := m }

/-! ### FENCE (R363, R364) -/

/-- The issuing unit of a request of this module (R363). -/
def State.unitOf (s : State) (r : Request) : Nat :=
  if r.op = .waitReg then if r.operandA < 2 ^ 48 then syncUnit (clusterOf r.operandA) else 0
  else match s.fabric.trackers.find? fun t => t.tag = r.tag with | some t => t.unit | none => 0

/-- Broadcasts of a unit of this module that have not left it: those that wait to be sent, and those queued at a port (R364, R366). -/
def State.broadcastsOpen (s : State) (unit : Nat) : List Request :=
  (s.net.filterMap fun m => match m with | .broadcast 12 r _ => if r.tag = unit then some r else none | _ => none) ++
    (List.range 12).flatMap fun p => (s.port p).txQueue.filterMap fun q => match q.msg with
      | .request r => if q.destModule = 0xFFFF && q.arrival.isNone && r.tag = unit then some r else none
      | _ => none

/-- Whether a FENCE has nothing to wait for (R364). -/
def State.fenceDone (s : State) (f : Fence) : Bool :=
  !(s.fabric.trackers.any fun t => t.unit = f.unit && f.tags.contains t.tag) &&
    (s.broadcastsOpen f.unit).all fun r => !f.broadcasts.contains r

/-- FENCEs that have nothing to wait for complete (R364). -/
def State.endFences (s : State) : State :=
  { s with fabric := { s.fabric with fences := s.fabric.fences.filter fun f => !s.fenceDone f } }

/-- REMOTE_FENCE (R364). -/
def execRemoteFence (unit : Nat) (s : State) : Out :=
  .next <|
    if s.fabric.fences.any fun f => f.unit = unit then s
    else
      let tags := (s.fabric.trackers.filter fun t => t.unit = unit).map fun t => t.tag
      let f : Fence := { unit := unit, tags := tags, broadcasts := s.broadcastsOpen unit }
      { s with fabric := { s.fabric with fences := s.fabric.fences ++ [f] } }.endFences

/-- Whether a request waits behind a FENCE of its unit (R364). -/
def State.fenced (s : State) (r : Request) : Bool := s.fabric.fences.any fun f => f.unit = s.unitOf r && !f.tags.contains r.tag

/-- Whether a broadcast of this module waits behind a FENCE of its unit (R364). -/
def State.broadcastFenced (s : State) (r : Request) : Bool :=
  s.fabric.fences.any fun f => f.unit = r.tag && !f.broadcasts.contains r

/-! ### The end of a request (R365, R367) -/

/-- Goes on with a command that read another module. -/
def State.goRead (s : State) (o : Order) (hall byte : Nat) (r : RStatus) (bs : List Byte) (go : State → Order → State) : State :=
  if r = .ok then go (s.keepRemote o.id hall bs) o else (s.dropRemote o.id).finish o (r.ending byte true)

/-- The answer to a command's request (R367). -/
def State.orderAnswer (s : State) (id : Nat) (t : Tracker) (r : RStatus) (value : Nat) (bs : List Byte) : State :=
  match s.openOrder id with
  | none => s
  | some o =>
    match o.opcode with
    | 0x08 | 0x09 => s.transferAnswer id t.op r bs
    | 0x10 => s.goRead o t.address 40 r bs State.modelCheck
    | 0x11 => s.goRead o t.address 40 r bs State.modelLoad
    | 0x18 => s.goRead o t.address 16 r bs State.slotConfig
    | 0x2A => s.finish o (r.ending 16 true)
    | 0x2B => if r = .ok then s.syncWaitMode o value else s.finish o (r.ending 16 true)
    | _ => s

/-- The answer to a SIG has come, whatever it is: the core goes on (R244, R365, log 83). -/
def State.coreSignalled (s : State) (c e : Nat) : State :=
  match s.waiting c with
  | some i => if i.r.wait = .signal && i.r.epoch = e then s.retire c i (i.instr c) none 1 else s
  | none => s

/-- A tracker entry completes (R365). -/
def State.completeRequest (s : State) (t : Tracker) (r : RStatus) (value : Nat) (bs : List Byte) : State :=
  let s := { s with fabric := { s.fabric with trackers := s.fabric.trackers.erase t } }
  let s := if t.held.isSome then s else (s.modPort t.port fun p => { p with inUse := p.inUse - 1 }).startHeld t.port
  let s := if t.unit = 2 then s.bar4Answer t.tag r bs
    else match t.order with
      | some id => s.orderAnswer id t r value bs
      | none => match t.core with
        | some c => s.coreSignalled c.1 c.2
        | none => s
  s.endFences

/-- Completes the entry of a tag, if one holds it. -/
def State.completeTag (s : State) (tag : Nat) (r : RStatus) (value : Nat) (bs : List Byte) : State :=
  match s.fabric.trackers.find? fun t => t.tag = tag && t.held.isNone with
  | some t => s.completeRequest t r value bs
  | none => s

/-- The response that a request gets (R361). -/
def Request.answer (r : Request) (own : Nat) (status : RStatus) (value : Nat) (bs : List Byte) : Response :=
  { status := status, value := value, address := r.address, respModule := own, tag := r.tag, destModule := r.srcModule, data := bs }

/-- Answers a request: to the unit of this module, or with a response to another; WAIT_REG and broadcasts get none (R361, R366). -/
def State.answerRequest (s : State) (r : Request) (status : RStatus) (value : Nat) (bs : List Byte) : State :=
  if r.op = .waitReg || hallModule r.address = 0xFFFF then s
  else if r.srcModule = s.fabric.moduleId then s.completeTag r.tag status value bs
  else s.send (.response (r.answer s.fabric.moduleId status value bs))

/-! ### Routing (R349, R354, R366) -/

/-- A packet that is dropped: a request is answered UNREACHABLE (R354). -/
def State.dropPacket (s : State) (p : FabricPacket) (detail : Nat) : State :=
  match p.msg with
  | .request r => s.answerRequest r (.unreachable detail) 0 []
  | _ => s

/-- The slot of this module that a packet's message is for. -/
def Msg.slot : Msg → Option Nat
  | .state m => some m.destSlot
  | .part m => some m.slot
  | .group m => some m.slot
  | .close m => some m.slot
  | .energy m => some m.slot
  | .bcast m => some m.slot
  | .freeze n _ _ | .freezeReply n _ _ _ | .limit n _ _ | .drained n _ _ | .fault n _ _ | .ckptDone n _ _ _ | .ckptCommit n _ _ => some n
  | .waitReg m => if m.slot < 48 then some m.slot else none
  | .signal m => if m.slot < 48 then some m.slot else none
  | _ => none

/-- A packet whose data arrived poisoned is handled as an uncorrectable read of its source: a BULK_WRITE is answered POISONED, a
BULK_READ's response counts as POISONED, a slot's message rolls its slot back, and any other is a contained error of the flit, after which
it is discarded (R287, R324, R587). -/
def State.deliverPoisoned (s : State) (m : Msg) : State :=
  match m with
  | .request r => s.answerRequest r .poisoned 0 []
  | .response r => s.send (.response { r with status := .poisoned, value := 0, data := [] })
  | m => match m.slot with
    | some n => if (s.slot n).active then s.rollback n else s
    | none => s.contained 0x0007 3 0

/-- A packet for this module, its hop field cleared (R349); a broadcast goes to the station that applies it (R366). -/
def State.deliver (s : State) (p : FabricPacket) (arrival : Option Nat) : State :=
  if p.poison then s.deliverPoisoned p.msg
  else match p.msg, arrival with
    | .request r, some a => if hallModule r.address = 0xFFFF then s.send (.broadcast a r p.hops) else s.send p.msg
    | m, _ => s.send m

/-- The tracker entry of a request of this module notes the port that the request leaves through (R339). -/
def State.leavesBy (s : State) (m : Msg) (port : Nat) : State :=
  match m with
  | .request r =>
    if r.srcModule ≠ s.fabric.moduleId then s
    else { s with fabric := { s.fabric with trackers := s.fabric.trackers.map fun t =>
             if t.tag = r.tag && t.held.isNone then { t with via := port } else t } }
  | _ => s

/-- Sends a packet on a port: one hop more; past 32 it is dropped (R349). -/
def State.transmit (s : State) (p : FabricPacket) (port : Nat) : State :=
  if 32 < p.hops + 1 then (s.modPort port fun x => { x with hopLimit := satInc 0xFF x.hopLimit }).dropPacket p 2
  else (s.leavesBy p.msg port).modPort port fun x => { x with txQueue := x.txQueue ++ [{ p with hops := p.hops + 1, pooled := false }] }

/-- A poisoned head cannot be routed: the packet is discarded, counted and logged (R349). -/
def State.dropHead (s : State) (port : Nat) : State :=
  (s.modPort port fun x => { x with poisonHead := satInc 0xFF x.poisonHead }).contained 0x0007 4 port

/-- Looks a packet up and delivers it, sends it on a port or drops it (R354). `arrival` is the port it came in on. -/
def State.routePacket (s : State) (p : FabricPacket) (arrival : Option Nat) : State :=
  let p := { p with arrival := arrival }
  if p.destModule = 0xFFFF then s.deliver p arrival
  else match s.route p.destModule arrival with
    | .deliver => s.deliver p arrival
    | .via q => s.transmit p q
    | .lost d =>
      let back := match arrival with | some a => s.route p.destModule none = .via a | none => false
      let s := match arrival, back with
        | some a, true => s.modPort a fun x => { x with routeErr := satInc 0xFF x.routeErr }
        | _, _ => s
      s.dropPacket p d

/-- The room of a packet that leaves a receive buffer is given back (R346, R350). -/
def Port.giveBack (x : Port) (p : FabricPacket) : Port :=
  if p.vc = 0 then { x with retVc0 := (x.retVc0 + p.flits) % 2 ^ 16 }
  else if p.pooled then { x with retPool := (x.retPool + p.flits) % 2 ^ 16 }
  else { x with retVc1 := (x.retVc1 + p.flits) % 2 ^ 16 }

/-- Whether it is a message's turn to enter the fabric: a request in the order its unit sent it, a response in the order of those for one
exit station of one module, any other message in the order of its kind and destination (R285, R363). -/
def State.injectTurn (s : State) (dest : Nat) (m : Msg) : Bool :=
  let same := fun (x : Msg) => match m, x with
    | .request r, .request q => hallModule q.address = dest && x.channel.1 = m.channel.1 && s.unitOf q = s.unitOf r
    | .response r, .response q => q.destModule = dest && q.tag / 4096 = r.tag / 4096
    | _, _ => x == m
  (match m with | .request r => !s.fenced r | _ => true) && (s.net.find? same) = some m

/-- A message of this module enters the fabric (R349, R360). Which flit of a packet of several arrives poisoned is open: a free value says
whether it is the head, which cannot be routed. -/
def State.injectPacket (s : State) (dest : Nat) (poison : Bool) (m : Msg) : State :=
  if !s.injectTurn dest m || m.module ≠ some dest || dest = s.fabric.moduleId then s
  else
    let s := s.arrive m
    let f := s.nextFree
    let open_ := poison && m.channel.2 ≠ 1
    let s := if open_ then f.2 else s
    let head := poison && (m.channel.2 = 1 || f.1.getLsbD 0)
    match head, s.route dest none with
    | true, .via q => s.dropHead q
    | _, _ => s.routePacket (m.packet dest 0 open_) none

/-- A packet at the head of its channel in a port's receive buffer goes on (R351, R354). -/
def State.forwardPacket (s : State) (port dest hops : Nat) (poison : Bool) (m : Msg) : State :=
  let x := s.port port
  match x.rxBuf.find? fun p => p.vc = m.channel.1 with
  | some p =>
    if p.destModule = dest && p.hops = hops && p.poison = poison && p.msg = m then
      (s.setPort port ({ x with rxBuf := x.rxBuf.erase p }.giveBack p)).routePacket p (some port)
    else s
  | none => s

/-- PACKET_ROUTE: port 12 is the module's own mesh, any other the station a packet arrived at (R354). -/
def execPacketRoute (port destModule hops : Nat) (poison : Bool) (m : Msg) (s : State) : Out :=
  unit (decide (port ≤ 12)) s <| .next <|
    if port = 12 then s.injectPacket destModule poison m else s.forwardPacket port destModule hops poison m

/-! ### Remote operations at their target (R359 to R362) -/

/-- Whether a SIGNAL waits for its object: the window has not reached its epoch (R244, log 83). -/
def State.signalHeld (s : State) (r : Request) : Bool := r.op = .signal && s.beyondWindow r.address r.epoch r.runGen

/-- Whether an earlier request of the same requester waits before this one on its channel: same module, exit station and channel; a
SIGNAL that its object holds back does not stand in the way (R363, log 83). -/
def State.servedLater (s : State) (r : Request) : Bool :=
  let same := fun (x : Msg) => match x with
    | .request q => q.srcModule = r.srcModule && q.tag / 4096 = r.tag / 4096 && hallModule q.address = s.fabric.moduleId &&
        x.channel.1 = (Msg.request r).channel.1 && !s.signalHeld q
    | _ => false
  s.net.contains (.request r) && s.net.find? same ≠ some (.request r)

/-- A request reaches its target on this module, which serves it and answers, in the order in which one requester's requests came. A
SIGNAL whose epoch an object's window has not reached stays where it is (R244, R363, log 83). -/
def State.serveRemote (s : State) (op : RemoteOp) (r : Request) : State :=
  if r.op ≠ op || hallModule r.address ≠ s.fabric.moduleId || s.signalHeld r || s.servedLater r then s
  else
    let w := (s.accept (.request r)).serve r
    w.1.answerRequest r w.2.status w.2.value w.2.data

/-- REMOTE_READ (R359). -/
def execRemoteRead (r : Request) (s : State) : Out := .next (s.serveRemote .read r)
/-- REMOTE_WRITE (R359). -/
def execRemoteWrite (r : Request) (s : State) : Out := .next (s.serveRemote .write r)
/-- REMOTE_ADD (R359). -/
def execRemoteAdd (r : Request) (s : State) : Out := .next (s.serveRemote .add r)
/-- REMOTE_MAXU (R359). -/
def execRemoteMaxu (r : Request) (s : State) : Out := .next (s.serveRemote .maxu r)
/-- REMOTE_MAXS (R359). -/
def execRemoteMaxs (r : Request) (s : State) : Out := .next (s.serveRemote .maxs r)
/-- REMOTE_CAS (R359). -/
def execRemoteCas (r : Request) (s : State) : Out := .next (s.serveRemote .cas r)
/-- REMOTE_BULK_READ (R359). -/
def execRemoteBulkRead (r : Request) (s : State) : Out := .next (s.serveRemote .bulkRead r)
/-- REMOTE_BULK_WRITE (R359). -/
def execRemoteBulkWrite (r : Request) (s : State) : Out := .next (s.serveRemote .bulkWrite r)
/-- REMOTE_SIGNAL (R359). -/
def execRemoteSignal (r : Request) (s : State) : Out := .next (s.serveRemote .signal r)
/-- REMOTE_WAIT_REG (R359). -/
def execRemoteWaitReg (r : Request) (s : State) : Out := .next (s.serveRemote .waitReg r)

/-- REMOTE_RESPONSE: completes the entry of its tag; one that comes too late is discarded and counted at its exit station (R365). -/
def execRemoteResponse (r : Response) (s : State) : Out :=
  .next <|
    if r.destModule ≠ s.fabric.moduleId then s
    else
      let s := s.arrive (.response r)
      if s.fabric.trackers.any fun t => t.tag = r.tag && t.held.isNone then s.completeTag r.tag r.status r.value r.data
      else if r.tag / 4096 < 12 then s.modPort (r.tag / 4096) fun p => { p with late := satInc 0xFF p.late }
      else s

/-- REQUEST_TIMEOUT: a request without response in time completes UNREACHABLE, detail 4 (R365). -/
def execRequestTimeout (tag : Nat) (s : State) : Out := .next (s.completeTag tag (.unreachable 4) 0 [])

/-! ### Broadcasts (R366) -/

/-- A broadcast is applied at its local address; errors are logged here (R366). -/
def State.applyBroadcast (s : State) (r : Request) : State :=
  let here := { r with address := s.fabric.moduleId * 2 ^ 48 + hallLocal r.address }
  let a := hallLocal r.address
  let w := if s.broadcastAllowed r.op a then s.serve here else (s, ({ status := .refused 6 } : Served))
  if w.2.status = .ok then w.1
  else w.1.logError { cls := .contained, code := 0x0011, unitKind := 7, unit := 0, address := a }

/-- The ports a broadcast goes on to; a port in RETRAINING holds it (R337, R353, R366). -/
def State.broadcastPorts (s : State) (arrival : Nat) : List Nat :=
  (List.range 12).filter fun p => bitAt ((s.fabric.bcastMask.at arrival).getD 0) p = 1 && (match (s.port p).state with | .up | .retraining => true | _ => false)

/-- BROADCAST_RECEIVE: applied here and sent on the ports of the arrival port's mask (R366). -/
def execBroadcastReceive (port : Nat) (r : Request) (hops : Nat) (s : State) : Out :=
  unit (decide (port ≤ 12)) s <| .next <|
    if hallModule r.address ≠ 0xFFFF || (port = 12 && s.broadcastFenced r) then s
    else
      let s := (s.arrive (.broadcast port r hops)).applyBroadcast r
      let p := { (Msg.request r).packet 0xFFFF hops false with arrival := if port = 12 then none else some port }
      ((s.broadcastPorts port).foldl (fun s q => s.transmit p q) s).endFences

end Sys2Proof.Machine
end

