-- ==== Sys2Proof/Machine/Mesh.lean ====
section
/-! DEFINITION. Machine/Mesh.lean: the mesh routers: their ports and routes, the check of every flit at every hop, the buffers and their
admission, and the order in which an output sends (R283, R285 to R290, R292, R301, R302). -/

namespace Sys2Proof.Machine

/-! ### Ports and routes (R283, R285, R292) -/

/-- The cluster on a side of another, if there is one (R283). -/
def meshNeighbour (k side : Nat) : Option Nat :=
  match side with
  | 0 => if 12 ≤ k then some (k - 12) else none
  | 1 => if k % 12 < 11 then some (k + 1) else none
  | 2 => if k < 132 then some (k + 12) else none
  | 3 => if k % 12 = 0 then none else some (k - 1)
  | _ => none

/-- Whether a router has a port: a link, a station, or the local port 4 (R283, R301). -/
def routerPort (k side : Nat) : Bool := side = 4 || (meshNeighbour k side).isSome || stationSide k = some side

/-- The output of a packet by dimension order: along the row, then along the column, then the local port or the station (R285,
R292). -/
def Packet.output (p : Packet) (k : Nat) : Nat :=
  let d := p.destCluster
  if k % 12 < d % 12 then 1
  else if d % 12 < k % 12 then 3
  else if k / 12 < d / 12 then 2
  else if d / 12 < k / 12 then 0
  else if p.destPort = 100 then (stationSide k).getD 4 else 4

/-! ### Buffers (R289) -/

/-- Whether a packet is one flit long, so that it can take the reserved flit of its channel (R289). -/
def Packet.single (p : Packet) : Bool := p.flits.length = 1

/-- Pool flits in use in an input buffer: those of every packet that holds no reserved flit (R289). -/
def poolUse (b : List HeldPacket) : Nat := (b.map fun h => if h.reserved then 0 else h.pkt.flits.length).sum

/-- Whether the reserved flit of a channel is free in a buffer; it is released when its flit is sent on (R289). -/
def reservedFree (b : List HeldPacket) (vc : Nat) : Bool := !b.any fun h => h.pkt.vc = vc && h.reserved

/-- Whether a packet that goes into a buffer takes the reserved flit of its channel: a VC0 flit always, a flit of another channel where
it is free (R289). -/
def takesReserved (b : List HeldPacket) (p : Packet) : Bool := p.single && reservedFree b p.vc

/-- Whether an input buffer admits a packet (R289). -/
def admits (b : List HeldPacket) (p : Packet) : Bool :=
  takesReserved b p ||
    match p.vc with
    | 0 => false
    | 1 => poolUse b + p.flits.length ≤ 160
    | _ => poolUse b + p.flits.length + 65 ≤ 160

/-- A buffer with a packet put in at its end. -/
def putPacket (b : List HeldPacket) (p : Packet) (checked : Bool) : List HeldPacket :=
  b ++ [({ pkt := p, checked := checked, reserved := takesReserved b p } : HeldPacket)]

/-- The input buffer of a router. -/
def State.routerInput (s : State) (k i : Nat) : List HeldPacket := ((s.cluster k).inputs.at i).getD []

/-- Replaces the input buffer of a router, with POOL_PEAK (R301). -/
def State.setInput (s : State) (k i : Nat) (b : List HeldPacket) : State :=
  s.modCluster k fun c => { c with
    inputs := if b = [] then c.inputs.del i else c.inputs.put i b
    poolPeak := max c.poolPeak (poolUse b) }

/-- A message as a packet without faults. -/
def Msg.mesh (m : Msg) (k port : Nat) : Packet :=
  { vc := m.channel.1, destCluster := k, destPort := port, poison := false, flits := List.replicate m.channel.2 .good, payload := some m }

/-- The input buffer of a core router or a station: the packets that left the mesh for it and have not arrived (R289). -/
def State.targetInput (s : State) (k port : Nat) : List HeldPacket :=
  ((s.cluster k).crossed.filter fun m => s.net.contains m && s.destination m = some (k, port)).foldl
    (fun b m => putPacket b (m.mesh k port) true) []

/-- Whether a packet can leave a router by its output now: the next router, or the core router or station it goes to, admits it whole
(R289, R290). -/
def State.canSend (s : State) (k out : Nat) (p : Packet) : Bool :=
  match meshNeighbour k out with
  | some d => admits (s.routerInput d ((out + 2) % 4)) p
  | none => !(p.destPort < 64 || p.destPort = 100) || admits (s.targetInput k p.destPort) p

/-! ### Packets (R278, R286, R287, R288) -/

/-- A packet as R278, R286 and R288 allow it; one that holds a message has the channel, the length and the destination of the message, as
the unit that injects it resolves them. No packet of the mesh is for a sieve, which only the cores of its own cluster reach. -/
def State.packetGood (s : State) (p : Packet) : Bool :=
  p.vc < 4 && p.destCluster < 144 && p.destPort ≤ 100 && p.destPort ≠ 98 && p.flits ≠ [] && p.flits.length ≤ 65 && (p.vc ≠ 0 || p.single) &&
    match p.payload with
    | none => true
    | some m => decide (m.channel = (p.vc, p.flits.length)) &&
        (match s.destination m with | some d => decide (d = (p.destCluster, p.destPort)) | none => decide (p.destPort = 100))

/-- Whether two packets are the same one at two hops: all but the check of its flits. -/
def Packet.same (p q : Packet) : Bool :=
  p.vc = q.vc && p.destCluster = q.destCluster && p.destPort = q.destPort && p.flits.length = q.flits.length && decide (p.payload = q.payload)

/-- The message of a packet leaves the network with it. -/
def State.dropPayload (s : State) (p : Packet) : State := match p.payload with | some m => s.arrive m | none => s

/-- The check of a packet's flits at a router: what is corrected is counted, what is not poisons the packet; a control word that
cannot be corrected ends it with an error that names the cluster and the port, and every flit of it is discarded (R287, R302). None where
it ends. -/
def State.checkFlits (s : State) (k i : Nat) (p : Packet) : State × Option Packet :=
  let n := fun (f : FlitCheck) => (p.flits.filter fun x => x = f).length
  let ends := n .badControl ≠ 0
  let s := s.modCluster k fun c => { c with
    corrected := min 0xFFFF (c.corrected + n .corrected)
    poisoned := min 0xFFFF (c.poisoned + if ends then p.flits.length else n .badData) }
  let s := if n .corrected = 0 then s else s.correctedError 0x0007 3 k
  if ends then ((s.contained 0x0007 3 (k + 0x100 * i)).dropPayload p, none)
  else (s, some { p with poison := p.poison || n .badData ≠ 0, flits := p.flits.map fun _ => .good })

/-- A packet leaves the mesh at its target: the crossbar takes its flits, and its message waits there for its arrival, or is handled as
poisoned (R279, R287). One of a station's is in the network already or comes in with its packet (R292). -/
def State.leaveMesh (s : State) (k : Nat) (p : Packet) : State :=
  let s := if p.destPort = 100 then s else (s.modCluster k fun c => { c with crossbarQuiet := 0 }).count k 0x0001 p.flits.length
  match p.payload with
  | none => s
  | some m =>
    if p.poison then (s.arrive m).deliverPoisoned m
    else (if s.net.contains m then s else s.send m).modCluster k fun c => { c with crossed := c.crossed ++ [m] }

/-! ### Sending (R289, R290) -/

/-- The packets at the head of their channel in an input that want an output and can leave by it: (input, packet). A packet leaves after
its check. -/
def State.sendable (s : State) (k out : Nat) : List (Nat × HeldPacket) :=
  (List.range 5).flatMap fun i =>
    let b := s.routerInput k i
    ((List.range 4).filterMap fun v => b.find? fun h => h.pkt.vc = v).filterMap fun h =>
      if h.checked && h.pkt.output k = out && s.canSend k out h.pkt then some (i, h) else none

/-- The place of an input in the round of a channel at an output: the input after the one served last comes first (R290). -/
def roundPlace (last i : Nat) : Nat := (i + 4 - last % 5) % 5

/-- The first of some waiting packets in the round (R290). -/
def firstInRound (last : Nat) (ps : List (Nat × HeldPacket)) : Option (Nat × HeldPacket) :=
  ps.foldl (fun a p => match a with
    | some q => if roundPlace last p.1 < roundPlace last q.1 then some p else some q
    | none => some p) none

/-- The packet that an output sends next: of the highest channel waiting, or after 64 of higher channels the lowest one waiting, and
within a channel by inputs in round-robin order (R290). -/
def State.nextOut (s : State) (k out : Nat) : Option (Nat × HeldPacket) :=
  let ps := s.sendable k out
  let vcs := ps.map fun p => p.2.pkt.vc
  let v := if 64 ≤ ((s.cluster k).higherRun.at out).getD 0 then vcs.foldl max 0 else vcs.foldl min 3
  firstInRound (((s.cluster k).turns.at (4 * out + v)).getD 4) (ps.filter fun p => p.2.pkt.vc = v)

/-- An output link sends one packet, head to tail (R290). -/
def State.sendOne (s : State) (k out : Nat) : State :=
  match s.nextOut k out with
  | none => s
  | some (i, h) =>
    let p := h.pkt
    let lower := (s.sendable k out).any fun q => p.vc < q.2.pkt.vc
    let s := s.setInput k i ((s.routerInput k i).erase h)
    let s := s.modCluster k fun c => { c with
      higherRun := c.higherRun.put out (if lower then (c.higherRun.at out).getD 0 + 1 else 0)
      turns := c.turns.put (4 * out + p.vc) i
      routerQuiet := 0 }
    let s := s.count k (0x0010 + p.vc) p.flits.length
    match meshNeighbour k out with
    | some d => let j := (out + 2) % 4; s.setInput d j (putPacket (s.routerInput d j) p false)
    | none => s.leaveMesh k p

/-- Whether a packet that holds a message can be a new one: the network holds more copies of the message than packets of the mesh do. -/
def State.entersMesh (s : State) (p : Packet) : Bool :=
  match p.payload with
  | none => false
  | some m =>
    let held := s.clusters.flatMap fun c => (c.2.inputs.flatMap fun i => (i.2.filter fun h => h.pkt.payload = some m).map fun _ => m) ++
      c.2.crossed.filter fun x => x = m
    held.length < (s.net.filter fun x => x = m).length

/-- Puts the first packet of a list that passes a test through a change, or takes it out. -/
def replaceFirst (ok : HeldPacket → Bool) (x : Option HeldPacket) : List HeldPacket → List HeldPacket
  | [] => []
  | h :: t => if ok h then (match x with | some y => y :: t | none => t) else h :: replaceFirst ok x t

/-- A packet that came over a link is checked at this router (R287). -/
def State.checkHere (s : State) (k i : Nat) (p : Packet) (h : HeldPacket) : State :=
  let ok := fun (x : HeldPacket) => !x.checked && x.pkt.same p
  match s.checkFlits k i { h.pkt with flits := p.flits } with
  | (s, none) => s.setInput k i (replaceFirst ok none (s.routerInput k i))
  | (s, some q) => (s.setInput k i (replaceFirst ok (some { h with pkt := q, checked := true }) (s.routerInput k i))).sendOne k (q.output k)

/-- ROUTER_PACKET: a packet is at an input. One that the link brought is checked, one that the input holds checked waits for its turn, and
a new one is checked and admitted; then the output that it wants sends what is its turn (R287, R289, R290, log 88). -/
def State.routerPacket (s : State) (k i : Nat) (p : Packet) : State :=
  let b := s.routerInput k i
  match b.find? fun h => !h.checked && h.pkt.same p with
  | some h => s.checkHere k i p h
  | none =>
    if (b.any fun h => h.pkt.same p) && !s.entersMesh p then s.sendOne k (p.output k)
    else if !admits b p then (if 2 ≤ p.vc then s.count k 0x0015 1 else s)
    else
      match s.checkFlits k i p with
      | (s, none) => s
      | (s, some q) => (s.setInput k i (putPacket b q true)).sendOne k (q.output k)

/-- ROUTER_PACKET (R287). -/
def execRouterPacket (cluster input : Nat) (pkt : Packet) (s : State) : Out :=
  unit (decide (cluster < 144) && routerPort cluster input) s
    (.next (if s.platform.rails && s.packetGood pkt then s.routerPacket cluster input pkt else s))

end Sys2Proof.Machine
end

