-- ==== Sys2Proof/Machine/Faults.lean ====
section
/-! DEFINITION. Machine/Faults.lean: colander mode, the watchdog, and the memory stations (R25, R297, R298, R313 to R331, R586, R587). -/

namespace Sys2Proof.Machine

/-! ### Colander mode (R237, R297, R298) -/

/-- What a fenced core's router does with traffic (R297, R298). -/
def State.colander (s : State) (c : Nat) (item : ColanderItem) : State :=
  match item with
  | .passing _ => s
  | .request r =>
    if regionOf (hallLocal r.address) = .store c then ((s.accept (.request r)).fencedAnswer c).answerRequest r .fenced 0 [] else s
  | .stateMsg m k => (s.accept (.state m)).colanderNotice c (some k) m.destSlot
  | .vector m k => (s.accept (.bcast m)).colanderNotice c (some k) m.slot
  | .sieveResult => { s with net := s.net.filter fun m => match m with | .sieve d _ _ => d ≠ c | _ => true }
  | .reductionReply => s
  | .partlyDelivered => s.modCore c fun x => { x with parked := [], held := [], vectors := [] }

/-- COLANDER_PACKET (R297). -/
def execColanderPacket (core : Nat) (item : ColanderItem) (s : State) : Out :=
  unit (decide (core < 9216)) s (.next (if (s.core core).colander then s.colander core item else s))

/-- FENCED_NOTICE: the message it is about was discarded (R237). -/
def execFencedNotice (cluster core slot : Nat) (s : State) : Out :=
  unit (decide (cluster < 144)) s (.next (s.accept (.fencedNotice cluster core slot)))

/-! ### The watchdog (R25, R586, R587) -/

/-- A tick at a cluster: its agent acknowledges it or misses it; the router, the crossbar and the nodes have made handshake progress
since the last tick, or their counts go on. Whether the agent answers, and handshakes that no command shows, are free (R25, log 89). -/
def Cluster.tick (c : Cluster) (b : Byte) : Cluster :=
  let next := fun (i n : Nat) => if b.getLsbD i then 0 else satInc 10 n
  { c with missedAcks := next 0 c.missedAcks, routerQuiet := next 1 c.routerQuiet, crossbarQuiet := next 2 c.crossbarQuiet
           nodesQuiet := next 3 c.nodesQuiet }

/-- WATCHDOG_TICK: every agent counts the tick, for its cores in a phase, its router, crossbar and nodes, and its own
acknowledgement (R25). No command says how hot a memory is: its refresh multiplier from a tick on is free, 1, 2 or 4 (R311, R330, log 61). -/
def State.watchdog (s : State) : State :=
  let quiet := fun (c : Core) => if c.run.isSome then satInc 10 c.quietTicks else 0
  let heat := fun (n : Nat) => (Config.freeByte s.free (144 + n)).toNat % 3
  let t := { s with cores := s.cores.map fun p => (p.1, { p.2 with quietTicks := quiet p.2 }), free := s.free + 1 }
  let t := [0, 1, 2, 3, 4, 5, 8, 9].foldl (fun t n => t.modStation n fun m => { m with refreshMult := heat n }) t
  (List.range 144).foldl (fun t k => t.modCluster k fun c => c.tick (Config.freeByte s.free k)) t

/-- WATCHDOG_TICK (R25). -/
def execWatchdogTick (s : State) : Out := .next (if s.platform.rails then s.watchdog else s)

/-- CORE_HANDSHAKE: a core that stood still across ten ticks in a phase is fenced and castled (R587). -/
def execCoreHandshake (core : Nat) (s : State) : Out :=
  unit (decide (core < 9216)) s <| .next <|
    let c := s.core core
    if c.run.isSome && 10 ≤ c.quietTicks then s.coreFault core 0x0009 else s

/-- Ticks without handshake progress of a router (0), crossbar (1) or the reduction nodes (2). -/
def Cluster.quiet (c : Cluster) (part : Nat) : Nat := if part = 0 then c.routerQuiet else if part = 1 then c.crossbarQuiet else c.nodesQuiet

/-- ROUTER_HANDSHAKE: a router (0), crossbar (1) or reduction node (2) that stood still across ten ticks is a fatal error (R586). -/
def execRouterHandshake (cluster part : Nat) (s : State) : Out :=
  unit (decide (cluster < 144 && part < 3)) s <| .next <|
    if 10 ≤ (s.cluster cluster).quiet part then s.fatalError 0x000A (if part = 0 then 3 else 2) cluster else s

/-- AGENT_TICK_TIMEOUT: an agent that acknowledged none of ten ticks counts as a failed mesh router (R25, R586). -/
def execAgentTickTimeout (cluster : Nat) (s : State) : Out :=
  unit (decide (cluster < 144)) s <| .next <|
    if 10 ≤ (s.cluster cluster).missedAcks then s.fatalError 0x000A 3 cluster else s

/-! ### Memory stations (R313 to R331) -/

/-- Whether the station of a line serves requests. -/
def State.stationServes (s : State) (a : Nat) : Bool :=
  let m := s.station (stationOf a)
  s.platform.rails && m.trained && !m.selfRefresh

/-- MEMORY_READ: a line read at its station; what it delivers stands in `reply` (R313, R316). A read that finds its tracker pool empty waits
(R331); one outside HBM and the Larder is refused (R306). -/
def execMemoryRead (address : Nat) (s : State) : Out :=
  .next <|
    if !(regionOf address).lined then { s with reply := .unsupported }
    else if !s.stationServes address || !s.stationAdmits address .other then s
    else
      match (s.tracked address).readUnit (address / 64 * 64) with
      | (s, some bs) => { s with reply := .data bs }
      | (s, none) => { s with reply := .poisonedData 64 }

/-- MEMORY_WRITE: a write at its station, unit by unit (R307, R324). A write that finds its tracker pool empty waits (R331); one outside HBM
and the Larder is refused (R306). -/
def execMemoryWrite (address : Nat) (bytes : List Byte) (s : State) : Out :=
  .next <|
    if !((regionOf address).lined && (regionOf (address + bytes.length - 1)).lined && oneWindow address bytes.length) then
      { s with reply := .unsupported }
    else if !s.stationServes address || !s.stationAdmits address .other then s
    else
      let r := s.writeLocal address bytes
      { r.1 with reply := if r.2 then .written else .abort }

/-- The internal entry of a Larder station: JOURNAL, ERROR_LOG and TAG_RING (R327). -/
def internalRange (n : Nat) : List (Nat × Nat) := if 8 ≤ n then [(0x010000000000, 0x7000000)] else []

/-- The first line at or after an address, inside a range, that lies in a station. -/
def lineIn (n p : Nat) (r : Nat × Nat) : Option Nat :=
  let a := max p r.1
  let next := if stationOf a = n then some a
    else ((List.range 6).map fun i => (a / 4096 + 1 + i) * 4096).find? fun x => stationOf x = n
  match next with
  | some x => if x < r.1 + r.2 then some x else none
  | none => none

/-- The next line of a lap at or after an address (R329). -/
def nextLine (n p : Nat) (rs : List (Nat × Nat)) : Option Nat :=
  (rs.filterMap (lineIn n p)).foldl (fun a x => match a with | none => some x | some y => some (min x y)) none

/-- A scrub read of a line: decoded as any read, but a line that nothing has written is reported uncorrectable (R326, R328). -/
def State.scrubUnit (s : State) (a : Nat) : State × Bool :=
  if (List.range 64).all fun i => (s.byteAt (a + i)).isSome then ((s.readUnit a 1).1, (s.readUnit a 1).2.isSome)
  else (s.uncorrectable a 1, false)

/-- A scrub read of a line; one that cannot be corrected is counted (R328). -/
def State.scrubLine (s : State) (n a : Nat) : State :=
  match s.scrubUnit a with
  | (s, true) => s
  | (s, false) => s.modStation n fun m => { m with scrubUncorr := satInc 0xFFFF m.scrubUncorr }

/-- The lap of a station ends: LAPS, and its length in refresh intervals, which no command brings in: a free value (R329, R330). -/
def State.endLap (s : State) (n : Nat) : State :=
  let f := s.nextFree
  f.2.modStation n fun m => { m with pointer := none, lapRanges := [], laps := (m.laps + 1) % 2 ^ 32, lapRefi := f.1.toNat % 2 ^ 32 }

/-- Begins a lap where none is under way: the ranges declared now take part (R329). -/
def MemStation.startLap (m : MemStation) (n : Nat) : MemStation :=
  match m.pointer with
  | some _ => m
  | none => { m with pointer := some 0, lapRanges := m.ranges ++ internalRange n }

/-- SCRUB_READ: the next line of the lap; the lap ends when no line is left (R328, R329). A station with no range does not scrub and its lap
count stays, also where its last range went during a lap; the internal entry of a Larder station always holds a range (R327). -/
def State.scrub (s : State) (n : Nat) : State :=
  if (s.station n).ranges ++ internalRange n = [] then s.modStation n fun m => { m with pointer := none, lapRanges := [] }
  else
    let m := (s.station n).startLap n
    let s := s.setStation n m
    match nextLine n (m.pointer.getD 0) m.lapRanges with
    | none => s.endLap n
    | some a =>
      let s := (s.scrubLine n a).modStation n fun m => { m with pointer := some (a + 64) }
      if (nextLine n (a + 64) (s.station n).lapRanges).isNone then s.endLap n else s

/-- SCRUB_READ (R328). -/
def execScrubRead (station : Nat) (s : State) : Out :=
  unit (station < 6 || station = 8 || station = 9) s <| .next <|
    let m := s.station station
    if s.platform.rails && m.trained && !m.selfRefresh then s.scrub station else s

end Sys2Proof.Machine
end

