-- ==== Sys2Proof/Machine/RegMap.lean ====
section
/-! DEFINITION. Machine/RegMap.lean: the register map: the fields of every register by access code, the domains of buffered registers
(R470 to R479, R494), and the outcome of a strobe on the copies. -/

namespace Sys2Proof.Machine

/-- The fields of a register that hold what was written: masks by access code, the SEC_LOCK bit that covers the RWL ones, the
reset value, the reserved bits, and the domain instance of a buffered register (R473, R476 to R478, R484). -/
structure RegDesc where
  rw : Nat := 0
  rwl : Nat := 0
  lock : Nat := 0
  reset : Nat := 0
  reserved : Nat := 0
  buffered : Option (Nat × Nat) := none
  deriving DecidableEq, Repr

/-- A register of RO fields, with its reserved bits. -/
def roReg (reserved : Nat) : Option RegDesc := some { reserved := reserved }

/-! ### BAR0 -/

/-- Registers of a queue group (R398). -/
def queueDesc (q off : Nat) : Option RegDesc :=
  let b := some (1, q)
  if off < 0x18 then some { rw := 0xFFFFFFFF, buffered := b }
  else if off = 0x18 then
    some { rw := 0x00FF3F1F, rwl := 0x01000000, lock := 0, reset := if q = 0 then 0x0144000F else 0x0044000F,
           reserved := 0xFE00C0E0, buffered := b }
  else if off = 0x1C then some { rw := 1, reserved := 0xFFFFFFFE }
  else if off = 0x20 then roReg 0xE000
  else if off = 0x24 then some { rwl := 0xFFFFFFFF, lock := 0, reset := 0xFFFFFFFF, buffered := b }
  else if off = 0x28 then some { rwl := 0xFFFF, lock := 0, reset := 0xFFFF, reserved := 0xFFFF0000, buffered := b }
  else roReg 0xFFFFFFFF

/-- Registers of the window group (R398). -/
def windowDesc (off : Nat) : Option RegDesc :=
  let b := some (2, 0)
  if off = 0 then some { rwl := 0xFFFFFFFF, lock := 1, buffered := b }
  else if off = 4 || off = 8 then some { rwl := 0xFFFF, lock := 1, reserved := 0xFFFF0000, buffered := b }
  else if off = 0xC then some { rw := 1, reserved := 0xFFFFFFFE }
  else none

/-- Registers of BAR0 by offset of their value page (R470, R482, R484, R489, R493, R496, R498 to R503, R514 to R517, R551, R552,
R579). -/
def bar0Desc (o : Nat) : Option RegDesc :=
  match o with
  | 0x000000 | 0x000004 | 0x000008 | 0x00000C | 0x000018 => roReg 0
  | 0x000010 => roReg 0xFF00
  | 0x000014 => roReg 0xFFFF0000
  | 0x000020 => roReg 0xFFFF0E00
  | 0x000024 | 0x000028 => some { rw := 0xFFFFFFFF }
  | 0x010000 => some {}
  | 0x010004 | 0x01000C | 0x010010 => roReg 0xFFFF0000
  | 0x010008 => roReg 0x30000000
  | 0x010014 => roReg 0x7F000000
  | 0x020000 | 0x020008 => roReg 0xFFFFFC00
  | 0x020004 => some { rw := 0x3FF, reserved := 0xFFFFFC00 }
  | 0x020010 | 0x020014 => some { rw := 0x3F3F3F3F, reserved := 0xC0C0C0C0 }
  | 0x020018 => some { rw := 0x3F3F, reserved := 0xFFFFC0C0 }
  | 0x040000 => some { rw := 0xFFFFFFFF }
  | 0x040004 => some { rw := 0x1F, reserved := 0x7FFFFFE0 }
  | 0x040008 => roReg 0x00C00F0C
  | 0x050000 => some { rw := 0xFFFFFFFF }
  | 0x050004 => some { rw := 0x31F01, reset := 0x200, reserved := 0xFFFCE0FE }
  | 0x050008 => some {}
  | 0x05000C => roReg 0xFF0E
  | 0x060000 => roReg 0xFFFFFC00
  | 0x060004 => roReg 0xFFF8
  | 0x070000 => roReg 0xFC00CF80
  | 0x070004 => some { rwl := 0x3FF, lock := 5, reset := 0x1CC, reserved := 0xFFFFFC00, buffered := some (6, 0) }
  | 0x070008 => some { rwl := 0x3FF, lock := 5, reset := 0x1A4, reserved := 0xFFFFFC00, buffered := some (6, 0) }
  | 0x07000C => some { rwl := 0x3FF, lock := 5, reset := 0x2EE, reserved := 0xFFFFFC00, buffered := some (6, 0) }
  | 0x080000 => roReg 0x800C
  | 0x080004 => roReg 0
  | 0x080008 => some { rwl := 0xFF, lock := 6, reset := 8, reserved := 0xFFFFFF00, buffered := some (7, 0) }
  | 0x08000C => some { rw := 0x10, rwl := 0xF, lock := 6, reset := 0xF, reserved := 0xFFFFFFE0, buffered := some (7, 0) }
  | 0x090000 | 0x090004 | 0x090008 => roReg 0
  | 0x09000C => roReg 0xFFFFFF00
  | 0x0A0000 | 0x0A0008 | 0x0A000C => roReg 0xF000F000
  | 0x0A0004 => roReg 0xFF000000
  | 0x0B0000 => some { rw := 7, reset := 4, reserved := 0xFFFFFEF8 }
  | 0x0B0004 => roReg 0xFFFFFFFE
  | 0x0B0008 => some { rwl := 0xFF1F, lock := 7, reset := 0xFF00, reserved := 0xFFFF00E0, buffered := some (8, 0x200) }
  | 0x0C0000 => roReg 0x7FE00000
  | 0x0D0000 | 0x0D0004 | 0x0D0008 => roReg 0
  | o =>
    if 0x030000 ≤ o && o < 0x031000 then queueDesc ((o - 0x030000) / 0x40) ((o - 0x030000) % 0x40)
    else if 0x031000 ≤ o && o < 0x031010 then windowDesc (o - 0x031000)
    else if 0x040040 ≤ o && o < 0x040080 then roReg 0
    else if 0x060100 ≤ o && o < 0x060180 then roReg 0xFF00FCFC
    else none

/-! ### The indirect space (R494) -/

/-- Class 1, a core (R104 to R108, R141, R303). -/
def coreDesc (c off : Nat) : Option RegDesc :=
  match off with
  | 0x00 => roReg 0xFF00F0F0
  | 0x04 => roReg 0xFFFFFFE0
  | 0x08 => some { rwl := 0xFF00, lock := 2, reserved := 0xFFFF0000, buffered := some (3, c) }
  | 0x0C => roReg 0xFFFFFFE0
  | 0x10 => roReg 0xF800FC00
  | 0x14 => roReg 0xFFFE
  | _ => none

/-- Class 2, a cluster (R191, R218, R252). -/
def clusterDesc (off : Nat) : Option RegDesc :=
  match off with
  | 0x4000 => roReg 0xFF80FFF8
  | 0x4004 | 0x5004 => roReg 0
  | 0x5000 => roReg 0xF800FF
  | 0x6000 => roReg 0xFF8080FE
  | _ => none

/-- Class 4, a fabric station (R370, R382, R383). -/
def portDesc (p off : Nat) : Option RegDesc :=
  match off with
  | 0x00 => roReg 0xF000F308
  | 0x04 => some { rwl := 0xF31, lock := 3, reset := 0x430, reserved := 0xFFFFF0CE, buffered := some (4, p) }
  | 0x08 | 0x0C | 0x10 | 0x14 => roReg 0
  | 0x18 => roReg 0xFFFF0000
  | 0x20 => roReg 0xF0F0FC
  | 0x24 => some { rwl := 3, lock := 4, reset := 2, reserved := 0xFFFFFFFC, buffered := some (5, p) }
  | _ => none

/-- Class 4, the host station (R407). -/
def hostDesc (off : Nat) : Option RegDesc :=
  match off with
  | 0 => roReg 0xFFFFF0C0
  | 4 | 8 => roReg 0
  | _ => none

/-- Class 6, a memory station (R332). -/
def memDesc (off : Nat) : Option RegDesc :=
  match off with
  | 0x00 => roReg 0xFFFFF3F0
  | 0x04 | 0x08 | 0x14 | 0x18 => roReg 0
  | 0x10 => roReg 0xE0FF0000
  | _ => none

/-- Class 7, counters of a cluster or a station with a COUNTERS instance (R577, R578). -/
def countDesc (inst off : Nat) : Option RegDesc :=
  if off < 0x40 then roReg 0
  else if 0x100 ≤ off && off < 0x140 then some { rwl := 0xFFFF, lock := 7, reserved := 0xFFFF0000, buffered := some (8, inst) }
  else if off = 0x200 then roReg 0xFFFFFFFC
  else none

/-- An indirect register by IND_ADDR: none where the class, the unit or the offset is none (R494). The offset's bits [1:0] are
checked apart (R495). -/
def indDesc (a : Nat) : Option RegDesc :=
  let low := fun n => a % 2 ^ n / 4 * 4
  match a / 2 ^ 28 with
  | 1 => if bitsAt a 27 14 < 9216 then coreDesc (bitsAt a 27 14) (low 14) else none
  | 2 => if bitsAt a 27 20 < 144 then clusterDesc (low 20) else none
  | 3 => if bitsAt a 27 20 < 144 then (if low 20 = 0 then roReg 0xFFFF00C0 else if low 20 = 4 then roReg 0 else none) else none
  | 4 =>
    let n := bitsAt a 27 24
    if n < 12 then portDesc n (low 24) else if n = 15 then hostDesc (low 24) else none
  | 5 => if bitsAt a 27 24 < 12 then (if low 22 = 0 then roReg 0xFFFF00F8 else if low 22 = 4 then roReg 0 else none) else none
  | 6 =>
    let n := bitsAt a 27 24
    if n < 6 || n = 8 || n = 9 then memDesc (low 24) else none
  | 7 =>
    let u := bitsAt a 25 12
    match bitsAt a 27 26 with
    | 0 => if u < 9216 && low 12 < 0x10 then roReg 0 else none
    | 1 => if u < 144 then countDesc u (low 12) else none
    | 2 => if u < 12 || u = 15 then countDesc (0x100 + u) (low 12) else none
    | _ => none
  | _ => none

/-- A register by its key: a BAR0 offset, or an IND_ADDR of class 1 and above. -/
def regDesc (key : Nat) : Option RegDesc := if key < 2 ^ 28 then bar0Desc key else indDesc key

/-! ### Stored values -/

/-- What a register's stored bits read as before anything is written: its reset value, and the reserved bits as this silicon step
has them (R476). -/
def RegDesc.atReset (d : RegDesc) (key : Nat) : Nat := Nat.lor d.reset (Nat.land (Config.reservedReset key).toNat d.reserved)

/-- The stored bits of a register: RW, RWL and reserved bits, the shadow of a buffered one (R477). -/
def State.stored (s : State) (key : Nat) : Nat :=
  match regDesc key with
  | some d => s.regOr key (d.atReset key)
  | none => 0

/-! ### Domains (R478, R577) -/

/-- The buffered registers of a domain instance in CFG_LIVE order; none where the domain or the instance does not exist. -/
def domainKeys (domain inst : Nat) : Option (List Nat) :=
  match domain with
  | 1 => if inst < 64 then some ([0, 4, 8, 0xC, 0x10, 0x14, 0x18, 0x24, 0x28].map fun o => queueKey inst o) else none
  | 2 => if inst = 0 then some [0x031000, 0x031004, 0x031008] else none
  | 3 => if inst < 9216 then some [2 ^ 28 + inst * 2 ^ 14 + 8] else none
  | 4 => if inst < 12 then some [2 ^ 30 + inst * 2 ^ 24 + 4] else none
  | 5 => if inst < 12 then some [2 ^ 30 + inst * 2 ^ 24 + 0x24] else none
  | 6 => if inst = 0 then some [0x070004, 0x070008, 0x07000C] else none
  | 7 => if inst = 0 then some [0x080008, 0x08000C] else none
  | 8 =>
    if inst < 144 || (0x100 ≤ inst && inst < 0x10C) || inst = 0x10F then some ((List.range 16).map fun n => evselKey inst n)
    else if inst = 0x200 then some [0x0B0008] else none
  | _ => none

/-- The reset value of a buffered register's fields. -/
def keyReset (key : Nat) : Nat := match regDesc key with | some d => d.reset | none => 0

/-- The live copy of a buffered register. -/
def State.liveReg (s : State) (key : Nat) : Nat := s.liveOr key (keyReset key)

/-- The shadow of a buffered register. -/
def State.shadow (s : State) (key : Nat) : Nat := s.regOr key (keyReset key)

/-- Events that a unit's counters may count: 0 a cluster, 1 a fabric station, 2 the host station (R575). -/
def eventOk (kind code : Nat) : Bool :=
  code = 0 ||
    match kind with
    | 0 => (1 ≤ code && code ≤ 0x0A) || (0x10 ≤ code && code ≤ 0x15) || (0x20 ≤ code && code ≤ 0x25)
    | 1 => (0x100 ≤ code && code ≤ 0x102) || (0x110 ≤ code && code ≤ 0x113)
    | _ => (0x100 ≤ code && code ≤ 0x102) || (0x120 ≤ code && code ≤ 0x122)

/-- The kind of a counter instance. -/
def counterKind (inst : Nat) : Nat := if inst < 144 then 0 else if inst = 0x10F then 2 else 1

/-- N of TAG_CTRL and its slot (R579, R582). -/
def tagOk (n slot : Nat) : Bool := (n = 0 || (8 ≤ n && n ≤ 20)) && (slot < 48 || slot = 0xFF)

/-- Whether the shadows of an instance hold values their tables allow (R479, R398, R370, R516, R517, R553, R575, R582). -/
def State.shadowsOk (s : State) (domain inst : Nat) : Bool :=
  let v := fun (k : Nat) => s.shadow k
  match domain with
  | 1 =>
    let c := v (queueKey inst 0x18)
    let size := fun (n : Nat) => 4 ≤ n && n ≤ 12
    size (bitsAt c 23 20) && size (bitsAt c 19 16) && v (queueKey inst 0) % 4096 = 0 && v (queueKey inst 8) % 4096 = 0 &&
      v (queueKey inst 0x10) % 8 = 0
  | 2 => v 0x031008 % 2 ^ 16 ≠ 0xFFFF && (v 0x031000 + 2 ^ 32 * (v 0x031004 % 2 ^ 16)) % 2 ^ s.platform.bar4Log2 = 0
  | 4 => let c := v (2 ^ 30 + inst * 2 ^ 24 + 4); bitsAt c 11 8 ≤ 8 && bitsAt c 5 4 ≠ 0
  | 6 =>
    let w := v 0x070004 % 1024
    let r := v 0x070008 % 1024
    let m := v 0x07000C % 1024
    440 ≤ w && w ≤ 500 && 400 ≤ r && r ≤ 440 && r + 20 ≤ w && 620 ≤ m && m ≤ 850 && m % 5 = 0
  | 7 => v 0x080008 % 256 ≠ 0 && v 0x08000C % 16 ≠ 0
  | 8 =>
    if inst = 0x200 then tagOk (v 0x0B0008 % 32) (bitsAt (v 0x0B0008) 15 8)
    else (List.range 16).all fun n => eventOk (counterKind inst) (v (evselKey inst n) % 2 ^ 16)
  | _ => true

/-- A refused strobe is recorded, counted and signalled (R479, R482). -/
def State.rejectStrobe (s : State) (reason domain inst : Nat) : State :=
  let r := s.regs
  let w := r.reject.toNat
  let w := if bitAt w 31 = 1 then Nat.lor w (2 ^ 30)
    else Nat.lor (Nat.land w (2 ^ 30)) (2 ^ 31 + reason * 2 ^ 24 + domain % 256 * 2 ^ 16 + inst)
  ({ s with regs := { r with reject := BitVec.ofNat 32 w, rejects := satInc 0xFFFF r.rejects } }).raise 6

/-- Every shadow of an instance is copied to its live copy at once; its pending bit clears (R479). A fresh live copy carries good
parity. -/
def State.copyShadows (s : State) (domain inst : Nat) (keys : List Nat) : State :=
  let r := s.regs
  { s with
    regs := { r with
      live := keys.foldl (fun t k => t.put k (BitVec.ofNat 32 (s.stored k))) r.live
      pendingCfg := r.pendingCfg.filter fun p => p ≠ (domain, inst) }
    upsets := s.upsets.filter fun u => u ≠ .cfgLive domain inst }

/-- The reason to refuse a strobe whose function does not run: 2 shadow parity, 3 a forbidden value, 0 none (R479). -/
def State.shadowReason (s : State) (domain inst : Nat) : Nat :=
  if s.upsets.contains (.cfgShadow domain inst) then 2 else if s.shadowsOk domain inst then 0 else 3

/-- Whether a bit of SEC_LOCK is set. -/
def State.secLocked (s : State) (n : Nat) : Bool := bitAt s.regs.secLock n = 1

/-- LOCK_WRITES counts a write or a command that a lock refused (R485, R486). -/
def State.countLocked (s : State) : State := { s with regs := { s.regs with lockWrites := satInc 0xFFFF s.regs.lockWrites } }

/-- A write of a buffered register's shadow: pending, and its parity is good again (R477, R483, R492). -/
def State.writeStored (s : State) (key v : Nat) (buffered : Option (Nat × Nat)) : State :=
  let s := { s with regs := { s.regs with file := s.regs.file.put key (BitVec.ofNat 32 v) } }
  match buffered with
  | none => s
  | some p =>
    { s with
      regs := { s.regs with pendingCfg := if s.regs.pendingCfg.contains p then s.regs.pendingCfg else s.regs.pendingCfg ++ [p] }
      upsets := s.upsets.filter fun u => u ≠ .cfgShadow p.1 p.2 }

end Sys2Proof.Machine
end

