-- ==== Sys2Proof/Machine/Ports.lean ====
section
/-! DEFINITION. Machine/Ports.lean: fabric ports: bring-up, loss, retraining, and their cords (R334 to R339, R373 to R385, R441 to R443,
R595, R618). -/

namespace Sys2Proof.Machine

/-- PORT_STATE values (R337). -/
def PortState.code : PortState → Nat
  | .disabled => 0
  | .noCord => 1
  | .authenticating => 2
  | .training => 3
  | .up => 4
  | .retraining => 5
  | .down => 6

/-- Whether a port in this state holds traffic (R337). -/
def PortState.carries : PortState → Bool
  | .up | .retraining => true
  | _ => false

/-- PORT_STATUS (R370). -/
def Port.status (x : Port) : Nat :=
  x.downReason * 2 ^ 24 + x.lanesOk * 2 ^ 20 + x.lanesUsed * 2 ^ 16 + x.width * 2 ^ 10 + x.peerPort * 2 ^ 4 + x.state.code

/-- PEER_ID (R370). -/
def Port.peer (x : Port) : Nat := if x.state.carries then x.peerId else 0

/-- CORD_STATUS (R382). -/
def Port.cord (x : Port) : Nat :=
  x.cordPct * 2 ^ 24 + x.cordCause * 2 ^ 16 + x.cordWear * 2 ^ 10 + x.cordKind * 2 ^ 8 + bitOf x.cordAuth * 2 + bitOf x.cordPresent

/-- Key of PORT_CTRL (R370). -/
def portCtrlKey (p : Nat) : Nat := 2 ^ 30 + p * 2 ^ 24 + 4
/-- Key of CORD_POLICY (R383). -/
def cordPolicyKey (p : Nat) : Nat := 2 ^ 30 + p * 2 ^ 24 + 0x24

/-- Whether the live PORT_CTRL enables a port. -/
def State.portEnabled (s : State) (p : Nat) : Bool := bitAt (s.liveReg (portCtrlKey p)) 0 = 1

/-! ### Commands that wait for ports (R441, R443) -/

/-- The end of a PORT_STATE command (R443). -/
def Port.ending (x : Port) : Ending :=
  let result := x.status + x.peer * 2 ^ 32 + bitsAt x.cord 11 8 * 2 ^ 48
  if x.state = .down then { status := if x.downReason = 1 then 0x34 else 0x35, d18 := x.downReason, result := result }
  else if x.state = .disabled then { status := 0x05, result := result }
  else { status := 0, result := result }

/-- Whether a port has come as far as a waiting command needs. -/
def PortState.settled : PortState → Bool
  | .up | .down | .noCord | .disabled => true
  | _ => false

/-- The end of a FABRIC_CONFIG with WAIT_UP (R441). -/
def State.fabricEnding (s : State) : Ending :=
  let downs := (List.range 12).filter fun p => (s.port p).state = .down
  match downs with
  | [] => Ending.ok
  | p :: _ => { status := if downs.any (fun q => (s.port q).downReason = 1) then 0x34 else 0x35, d18 := p }

/-- Commands whose ports have settled complete (R441, R443). -/
def State.settlePorts (s : State) : State :=
  let f := s.fabric
  let done := f.portOrders.filter fun o => (s.port o.2).state.settled
  let all := (List.range 12).all fun p => (s.port p).state.settled
  let s := { s with fabric := { f with portOrders := f.portOrders.filter (fun o => !done.contains o)
                                       waitUp := if all then [] else f.waitUp } }
  let s := done.foldl (fun s o => s.finishId o.1 (s.port o.2).ending) s
  if all then f.waitUp.foldl (fun s id => s.finishId id s.fabricEnding) s else s

/-- A port enters a state: PORT_EVENT when it enters UP or DOWN or leaves UP (R496, R562, R564). -/
def State.enterPort (s : State) (p : Nat) (st : PortState) : State :=
  let old := (s.port p).state
  let s := s.modPort p fun x => { x with state := st }
  if old ≠ st && (old = .up || st = .up || st = .down) then
    ({ s with mgmt := { s.mgmt with countPort := s.mgmt.countPort + 1 } }).raise 3
  else s

/-! ### The losses of a port (R273, R339, R595) -/

/-- Whether every other part of a slot's model has a route (R595). DEDUCED (log 50): a module knows its own routes only. -/
def State.partsReachable (s : State) (n : Nat) : Bool :=
  (s.partSlots n).all fun p => match s.route p.1 none with | .lost _ => false | _ => true

/-- LINK_LOSS is logged with the port as its unit, and every active split slot is recovered (R339, R595). -/
def State.linkLoss (s : State) (p : Nat) : State :=
  let split := (List.range 48).filter fun n => (s.slot n).active && 1 < (s.slot n).partCount
  let lost := split.filter fun n => !s.partsReachable n
  let action := if lost ≠ [] then 3 else if split ≠ [] then 1 else 0
  let s := s.logError { cls := .contained, code := 0x000F, action := action, unitKind := 4, unit := p }
  split.foldl (fun s n => if lost.contains n then s.slotFault n 0x35 (s.slotEpoch n) else s.rollback n) s

/-- A lock-step partner behind a lost port is gone: cause 4 (R273). -/
def State.lockLost (s : State) (p : Nat) : State :=
  let s := { s with net := s.net.filter fun m => match m with | .lockOut _ q _ => q ≠ p | _ => true }
  (s.lockSlots p fun k => k.active).foldl (fun s n => if (s.slot n).active then s.lockHalt n 4 (s.slotEpoch n, 0, 0) 0 0 false else s) s

/-- The replay buffer and the link state of a port are discarded. -/
def Port.clearLink (x : Port) : Port :=
  { x with width := 0, lanesUsed := 0, aligned := false, replayBuf := [], replayFrom := none, replaySend := [], txQueue := [], txRest := [],
           higherRun := 0, rxNak := none, rxNakDue := false, rxHead := none, rxBuf := [], sentAlign := none, sentData := none,
           laneLocked := 0 }

/-- A request that waited for an entry of a lost port is looked up again (R339, R368). -/
def State.rerouteHeld (s : State) (t : Tracker) : State :=
  match t.held, s.route (hallModule t.address) none with
  | some _, .via q =>
    let s := { s with fabric := { s.fabric with trackers := s.fabric.trackers.map fun x => if x = t then { t with port := q } else x } }
    s.startHeld q
  | some _, .lost d => s.completeRequest t (.unreachable d) 0 []
  | _, _ => s

/-- What a port that carried traffic loses when it stops (R339): its queue is looked up again, what it had received goes on, and
the requests that left through it complete UNREACHABLE, detail 3. A broadcast has no other port than those of its mask (R366). -/
def State.portLoss (s : State) (p : Nat) (x : Port) : State :=
  let queued := (x.txQueue.filter fun q => q.destModule ≠ 0xFFFF).map fun q => { q with hops := q.hops - 1 }
  let s := x.rxBuf.foldl (fun s q => s.routePacket q (some p)) s
  let s := queued.foldl (fun s q => s.routePacket q q.arrival) s
  let here := fun (t : Tracker) =>
    s.net.any fun m => match m with | .request r => r.tag = t.tag && r.srcModule = s.fabric.moduleId | _ => false
  let gone := s.fabric.trackers.filter fun t => t.via = p && t.held.isNone && !here t
  let s := (s.fabric.trackers.filter fun t => t.port = p && t.held.isSome).foldl State.rerouteHeld s
  let s := gone.foldl (fun s t => s.completeTag t.tag (.unreachable 3) 0 []) s
  (s.linkLoss p).lockLost p

/-- The entropy request of a port's cord exchange is withdrawn. -/
def State.dropNonce (s : State) (p : Nat) : State :=
  { s with entropy := { s.entropy with rot := s.entropy.rot.filter fun r => r ≠ .nonce p } }

/-- A port stops: DISABLED, NO_CORD or DOWN with a reason; the losses where it carried traffic (R336 to R339). -/
def State.stopPort (s : State) (p : Nat) (st : PortState) (reason : Nat) : State :=
  let x := s.port p
  let s := s.dropNonce p
  let s := s.setPort p { x.clearLink with
    state := x.state, downReason := reason, cordStep := .idle, nonce := [],
    downs := if st = .down && x.state ≠ .down then satInc 0xFF x.downs else x.downs }
  let s := s.enterPort p st
  (if x.state.carries then s.portLoss p x else s).settlePorts

/-- A port goes DOWN (R339). -/
def State.portDown (s : State) (p reason : Nat) : State := s.stopPort p .down reason

/-! ### Bring-up (R336, R376) -/

/-- Step 2 of R336: the port asks for a nonce. -/
def State.startAuth (s : State) (p : Nat) : State :=
  let s := (s.modPort p fun x => { x with
    cordStep := .nonceWait, nonce := [], cordAuth := false, lanesOut := 0, lanesOk := 0, laneSince := [], widen := true }).enterPort p
      .authenticating
  { s with entropy := { s.entropy with rot := s.entropy.rot.filter (fun r => r ≠ .nonce p) ++ [.nonce p] } }

/-- An enabled port starts its bring-up (R336). -/
def State.bringUp (s : State) (p : Nat) : State :=
  let s := s.modPort p fun x => { x.clearLink with downReason := 0, lanesOut := 0, lanesOk := 0, laneSince := [] }
  if (s.port p).cordPresent then s.startAuth p else s.enterPort p .noCord

/-- The port domain's live registers are checked when they are used; a mismatch disables the port (R478, R483). -/
def State.checkPort (s : State) (p : Nat) : State :=
  if s.liveBad 4 p && (s.port p).state ≠ .disabled then (s.parityReport 4 p).stopPort p .disabled 0 else s

/-- CORD_PRESENT: kind 1 optical, 2 copper, from the kind pin (R336, R382). -/
def execCordPresent (port kind : Nat) (s : State) : Out :=
  unit (decide (port < 12)) s <| .next <|
    let x := s.port port
    if x.cordPresent || !(kind = 1 || kind = 2) || !s.platform.aux then s
    else
      let s := s.setPort port { x with cordPresent := true, cordKind := kind, cordAuth := false, cordWear := 3, cordPct := 0 }
      if x.state = .noCord then s.startAuth port else s

/-- CORD_REMOVED: the losses of going DOWN, and NO_CORD (R377, R385). -/
def execCordRemoved (port : Nat) (s : State) : Out :=
  unit (decide (port < 12)) s <| .next <|
    let x := s.port port
    if !x.cordPresent then s
    else
      let s := s.setPort port { x with cordPresent := false, cordKind := 0, cordAuth := false, cordWear := 3, cordPct := 0, vcordOff := false }
      if x.state = .disabled then s
      else
        let s := s.stopPort port .noCord 0
        if x.state.carries then s else s.linkLoss port

/-- Rated life of a laser in wear units (R378). -/
def ratedUnits : Nat := 221184000000

/-- WEAR_UNITS of an end record (R375). -/
def wearUnits (r : List Byte) : Nat := fieldAt r 32 6

/-- The wear state of an end record: 0 GOOD, 1 WORN, 2 EXPIRED; copper is always GOOD (R379). -/
def wearState (r : List Byte) : Nat :=
  if fieldAt r 23 1 = 2 then 0 else if ratedUnits ≤ wearUnits r then 2 else if ratedUnits * 4 / 5 ≤ wearUnits r then 1 else 0

/-- WEAR_PCT (R382). -/
def wearPct (r : List Byte) : Nat := min 0xFF (100 * wearUnits r / ratedUnits)

/-- The CORD record of the management log (R381, R567). DESIGN CHOICE (log 52): the places of its fields. -/
def State.logCord (s : State) (p : Nat) (r : List Byte) : State :=
  s.mgLog 0x03 true (leBytes 1 p ++ leBytes 1 (wearState r) ++ leBytes 1 (wearPct r) ++ zeros 5 ++ (r.drop 8).take 8)

/-- The causes of steps 4 to 6 of R376: 0 where the answer is good. The signature covers the nonce and the record. -/
def CordAnswer.cause (a : CordAnswer) (nonce : List Byte) (kind : Nat) : Nat :=
  let r := a.record
  match a.chain with
  | [] => 2
  | c :: _ =>
    if !chainGood a.chain then 2
    else if !rsaVerify c.modulus c.exponent (nonce ++ r) a.signature then 3
    else if fieldAt r 0 4 = 1 && subjectNames c.subject (fieldAt r 8 8) (fieldAt r 24 1) && fieldAt r 23 1 = kind then 0
    else 4

/-- A cord exchange fails: DOWN with AUTH_FAIL (R376). -/
def State.authFail (s : State) (p cause : Nat) : State :=
  (s.modPort p fun x => { x with cordCause := cause }).portDown p 1

/-- Steps 7 and 8 of R376: wear, the record, TRAINING. -/
def State.authDone (s : State) (p : Nat) (r : List Byte) : State :=
  let refuse := bitAt (s.liveReg (cordPolicyKey p)) 0 = 1
  let s := s.modPort p fun x => { x with cordWear := wearState r, cordPct := wearPct r }
  if wearState r = 2 && refuse then (s.modPort p fun x => { x with cordCause := 5 }).portDown p 4
  else
    let s := s.modPort p fun x => { x with cordRecord := some r, cordAuth := true, cordCause := 0, cordStep := .idle, nonce := [] }
    (s.logCord p r).enterPort p .training

/-- CORD_ANSWER (R376). A mismatch of the cord's live registers holds the bring-up at step 7 (R478). -/
def execCordAnswer (port : Nat) (answer : CordAnswer) (s : State) : Out :=
  unit (decide (port < 12)) s <| .next <|
    let x := s.port port
    if x.state ≠ .authenticating || x.cordStep ≠ CordStep.challenged || answer.record.length ≠ 64 || x.vcordOff then s
    else if answer.cause x.nonce x.cordKind ≠ 0 then s.authFail port (answer.cause x.nonce x.cordKind)
    else if s.liveBad 5 port then (s.parityReport 5 port).modPort port fun x => { x with cordStep := .policyWait }
    else s.authDone port answer.record

/-- CORD_NO_ANSWER: cause 1 (R376). -/
def execCordNoAnswer (port : Nat) (s : State) : Out :=
  unit (decide (port < 12)) s <| .next <|
    let x := s.port port
    if x.state = .authenticating && x.cordStep = CordStep.challenged then s.authFail port 1 else s

/-- CORD_RECORD_POLL: the hourly read of the end record; one that is not 64 bytes is a failed read, which is logged (R380). -/
def execCordRecordPoll (port : Nat) (record : List Byte) (s : State) : Out :=
  unit (decide (port < 12)) s <| .next <|
    let x := s.port port
    if !x.state.carries then s
    else if record.length ≠ 64 then s.contained 0x000F 4 port
    else
      let s := s.setPort port { x with cordRecord := some record, cordWear := wearState record, cordPct := wearPct record }
      if wearState record = x.cordWear then s
      else
        let s := s.logCord port record
        if s.liveBad 5 port then s.parityReport 5 port
        else if bitAt (s.liveReg (cordPolicyKey port)) 1 = 1 then (s.raise 2).mgRaise 2 else s

/-- VCORD_OVERCURRENT: the socket's VCORD is off until the plug is reseated (R618). -/
def execVcordOvercurrent (port : Nat) (s : State) : Out :=
  unit (decide (port < 12)) s <| .next <|
    if (s.port port).vcordOff || !s.platform.rails then s
    else (s.modPort port fun x => { x with vcordOff := true }).contained 0x000F 4 port

/-! ### Training and width (R335, R336, R338) -/

/-- The width and lanes of a port: WIDTH code and lane mask (R335). -/
def chooseWidth (most lanes : Nat) : Nat × Nat :=
  let has := fun (m : Nat) => Nat.land lanes m = m
  if 3 ≤ most && has 15 then (3, 15)
  else if 2 ≤ most && has 3 then (2, 3)
  else if 2 ≤ most && has 12 then (2, 12)
  else match (List.range 4).find? fun l => bitAt lanes l = 1 with
    | some l => (1, 2 ^ l)
    | none => (0, 0)

/-- Lanes trained: the width is chosen among those not taken out, no wider than it was unless a bring-up or an order widens it (R338), and each lane's eye margin is a new reading, a free value
(R335, R371). -/
def State.trainLanes (s : State) (p lanes : Nat) : State :=
  let x := s.port p
  let most := if x.widen then bitsAt (s.liveReg (portCtrlKey p)) 5 4 else min x.width (bitsAt (s.liveReg (portCtrlKey p)) 5 4)
  let w := chooseWidth most (Nat.land lanes (15 - x.lanesOut))
  let f := s.nextFree
  let eye : Tbl Nat := (List.range 4).map fun l => (l, if bitAt lanes l = 1 then f.1.toNat / 2 ^ (8 * l) % 256 else (x.laneEye.at l).getD 0)
  f.2.setPort p { x with
    width := w.1, lanesUsed := w.2, lanesOk := lanes % 16, laneLocked := lanes % 16, laneSince := [], laneEye := eye, aligned := true,
    position := 0 }

/-- LANES_TRAINED (R336). -/
def execLanesTrained (port lanes : Nat) (s : State) : Out :=
  unit (decide (port < 12)) s <| .next <|
    let x := s.port port
    if x.state ≠ .training || x.aligned || lanes = 0 || 15 < lanes || Nat.land lanes (15 - x.lanesOut) = 0 then s else (s.checkPort port).trainLanes port lanes

/-- TRAIN_FAIL: no lane passed (R336, R370, R371). -/
def execTrainFail (port : Nat) (s : State) : Out :=
  unit (decide (port < 12)) s <| .next <|
    if (s.port port).state = .training && !(s.port port).aligned then (s.modPort port fun x => { x with lanesOk := 0 }).portDown port 2
    else s

/-- The lane with the most uncorrectable codewords since the last training, among those in use; which of equals is open (R338). -/
def Port.worstLane (x : Port) (w : DWord) : Option Nat :=
  let used := (List.range 4).filter fun l => bitAt x.lanesUsed l = 1
  let n := fun (l : Nat) => (x.laneSince.at l).getD 0
  let most := used.foldl (fun a l => max a (n l)) 0
  pick w (used.filter fun l => n l = most)

/-- A port enters RETRAINING, without the lane that was worst or, where ordered, with every lane (R338). -/
def State.retrain (s : State) (p : Nat) (full : Bool) : State :=
  let x := s.port p
  let f := s.nextFree
  let out := if full then 0 else match x.worstLane f.1 with
    | some l => Nat.lor x.lanesOut (2 ^ l)
    | none => x.lanesOut
  let s := if full then s else f.2
  (s.setPort p { x with lanesOut := out, widen := full, retrains := if x.state = .retraining then x.retrains else satInc 0xFF x.retrains, aligned := false, nakRun := 0, replayTimes := [] }).enterPort p
    .retraining

/-- LANE_LOCK_LOSS (R338). -/
def execLaneLockLoss (port lane : Nat) (s : State) : Out :=
  unit (decide (port < 12)) s <| .next <|
    let x := s.port port
    if x.state = .up && lane < 4 && bitAt x.lanesUsed lane = 1 then
      (s.setPort port { x with laneLocked := x.laneLocked - bitAt x.laneLocked lane * 2 ^ lane }).retrain port false
    else s

/-- RETRAIN_DONE: UP again at the new width, with a replay from the first frame not acknowledged (R338, R347). -/
def execRetrainDone (port lanes : Nat) (s : State) : Out :=
  unit (decide (port < 12)) s <| .next <|
    let x := s.port port
    if x.state ≠ .retraining || lanes = 0 || 15 < lanes || Nat.land lanes (15 - x.lanesOut) = 0 then s
    else
      let s := (s.checkPort port).trainLanes port lanes
      if (s.port port).state ≠ .retraining then s
      else ((s.modPort port fun x => { x with replayFrom := some x.txAck, replaySend := [] }).enterPort port .up).settlePorts

/-- RETRAIN_FAIL: no lane passed (R339, R370, R371). -/
def execRetrainFail (port : Nat) (s : State) : Out :=
  unit (decide (port < 12)) s <| .next <|
    if (s.port port).state = .retraining then (s.modPort port fun x => { x with lanesOk := 0 }).portDown port 5 else s

/-- PEER_DISABLED (R339). -/
def execPeerDisabled (port : Nat) (s : State) : Out :=
  unit (decide (port < 12)) s <| .next <| if (s.port port).state.carries then s.portDown port 6 else s

/-! ### FABRIC_CONFIG, ROUTE_LOAD, PORT_STATE (R352, R353, R355, R441 to R443) -/

/-- PORT_CTRL with ENABLE, MAX_WIDTH and TIMEOUT_EXP set where a command gives them. -/
def setCtrl (v : Nat) (enable : Option Bool) (width : Nat) (exp : Option Nat) : Nat :=
  let v := match enable with | some b => v - v % 2 + bitOf b | none => v
  let v := if width = 0 then v else v - bitsAt v 5 4 * 16 + width * 16
  match exp with | some e => v - bitsAt v 11 8 * 256 + e * 256 | none => v

/-- What a port's shadow becomes under a command. -/
def State.stagedCtrl (s : State) (p : Nat) (enable : Option Bool) (width : Nat) (exp : Option Nat) : Nat :=
  setCtrl (s.stored (portCtrlKey p)) enable width exp

/-- Whether a command would change a field of PORT_CTRL while PORT_LOCK is set (R485). -/
def State.portLockBreaks (s : State) (p v : Nat) : Bool := s.secLocked 3 && v ≠ s.stored (portCtrlKey p)

/-- The strobe of a command that stops, stages and restarts a port: a port that runs and whose live copy changes is stopped first
(R370, R480). A DOWN port that stays enabled stays DOWN (R337). Answers whether the strobe was applied. -/
def State.strobePort (s : State) (p v : Nat) : State × Bool :=
  let s := if v = s.stored (portCtrlKey p) then s else s.writeStored (portCtrlKey p) v (some (4, p))
  let reason := s.shadowReason 4 p
  if reason ≠ 0 then (s.rejectStrobe reason 4 p, false)
  else
    let keys := [portCtrlKey p]
    let change := Nat.land (s.shadow (portCtrlKey p)) 0xF31 ≠ Nat.land (s.liveReg (portCtrlKey p)) 0xF31 || s.liveBad 4 p
    if !change || ((s.port p).state = .down && s.portEnabled p && bitAt (s.shadow (portCtrlKey p)) 0 = 1) then (s.copyShadows 4 p keys, true)
    else
      let s := if (s.port p).state = .disabled then s else s.stopPort p .disabled 0
      let s := s.copyShadows 4 p keys
      (if s.portEnabled p then s.bringUp p else s, true)

/-- FABRIC_CONFIG (R352, R441). -/
def execFabricConfig (id : Nat) (s : State) : Out :=
  runOrder 0x40 id s fun s o =>
    let newId := o.field 16 2
    let setId := o.field 18 1 % 2 = 1
    let enable := o.field 20 2
    let change := o.field 22 2
    let exp := if o.field 24 1 = 0xFF then none else some (o.field 24 1)
    s.checked o (o.params 4 o.noTarget [(16, 3), (20, 5)]
      [{ byte := 16, ok := !(setId && newId = 0xFFFF) }, { byte := 18, ok := o.field 18 1 ≤ 1 }, { byte := 20, ok := enable < 2 ^ 12 },
       { byte := 22, ok := change < 2 ^ 12 }, { byte := 24, ok := exp.getD 0 ≤ 8 }]) fun s =>
      let want := fun (p : Nat) => s.stagedCtrl p (if bitAt change p = 1 then some (bitAt enable p = 1) else none) 0 exp
      let ports := (List.range 12).filter fun p => exp.isSome || bitAt change p = 1
      let busy := (List.range 12).any fun p =>
        match (s.port p).state with | .authenticating | .training | .up | .retraining => true | _ => false
      if ports.any fun p => s.portLockBreaks p (want p) then s.countLocked.finish o Ending.locked
      else if setId && newId ≠ s.fabric.moduleId && busy then s.finish o (Ending.badState)
      else
        let s := if setId then { s with fabric := { s.fabric with moduleId := newId } } else s
        let r := ports.foldl (fun (a : State × Bool) p => let t := a.1.strobePort p (want p); (t.1, a.2 && t.2)) (s, true)
        if !r.2 then r.1.finish o (Ending.badState)
        else if bitAt o.flags 2 = 1 then
          ({ r.1 with fabric := { r.1.fabric with waitUp := r.1.fabric.waitUp ++ [o.id] } }).settlePorts
        else r.1.finish o Ending.ok

/-- The first byte of a routing table that breaks R442, in ascending order. -/
def tableFault (bs : List Byte) : Option Nat :=
  let entry := fun (i : Nat) =>
    let e := fieldAt bs (2 * i) 2
    if i < 512 then
      if 11 < bitsAt e 3 0 || 11 < bitsAt e 7 4 then some (2 * i) else if bitsAt e 13 8 ≠ 0 then some (2 * i + 1) else none
    else if bitsAt e 15 12 ≠ 0 then some (2 * i + 1) else none
  match (List.range 525).findSome? entry with
  | some b => some b
  | none => ((List.range 38).map (· + 1050)).find? fun i => fieldAt bs i 1 ≠ 0

/-- The routing table of R442. -/
def Fabric.withTable (f : Fabric) (bs : List Byte) : Fabric :=
  let part := fun (first n : Nat) => (List.range n).map fun i => (i, fieldAt bs (first + 2 * i) 2)
  { f with groupRoute := part 0 256, memberRoute := part 512 256, bcastMask := part 1024 13 }

/-- ROUTE_LOAD (R355, R442). -/
def execRouteLoad (id : Nat) (s : State) : Out :=
  runOrder 0x41 id s fun s o =>
    s.checked o (o.params 0 o.noTarget [(16, 8)] [State.localAddr s o 16 1]) fun s =>
      if (List.range 48).any fun n => (s.slot n).active then s.finish o (Ending.badState)
      else
        match s.readAccess (hallLocal (o.field 16 8)) 1088 with
        | (s, .error r) => s.finish o (r.ending 16 false)
        | (s, .ok bs) =>
          match tableFault bs with
          | some b => s.finish o { status := 0x11, d17 := 16, result := b }
          | none => ({ s with fabric := s.fabric.withTable bs }).finish o Ending.ok

/-- ENABLE and RETRAIN wait until the port has settled (R443). -/
def State.waitPort (s : State) (o : Order) (p : Nat) : State :=
  ({ s with fabric := { s.fabric with portOrders := s.fabric.portOrders ++ [(o.id, p)] } }).settlePorts

/-- PORT_STATE of an order that passed its parameter checks (R443). -/
def State.portCommand (s : State) (o : Order) (p action width : Nat) : State :=
  let x := s.port p
  let split := (List.range 48).any fun n => (s.slot n).active && 1 < (s.slot n).partCount
  let v := s.stagedCtrl p (if action = 3 then none else some (action = 1)) width none
  if action = 0 then s.finish o { x.ending with status := 0, d18 := 0 }
  else if s.portLockBreaks p v then s.countLocked.finish o Ending.locked
  else if action = 2 && split && bitAt o.flags 2 = 0 then s.finish o (Ending.badState)
  else if action = 3 && x.state = .disabled then s.finish o (Ending.badState)
  else if action = 3 then
    let s := if v = s.stored (portCtrlKey p) then s else s.writeStored (portCtrlKey p) v (some (4, p))
    let reason := s.shadowReason 4 p
    if reason ≠ 0 then (s.rejectStrobe reason 4 p).finish o (Ending.badState)
    else
      let s := s.copyShadows 4 p [portCtrlKey p]
      let s := if x.state.carries then s.retrain p true else s.modPort p fun x => { x with lanesOut := 0 }
      s.waitPort o p
  else
    let r := s.strobePort p v
    if !r.2 then r.1.finish o (Ending.badState)
    else if action = 1 then r.1.waitPort o p
    else r.1.finish o { (r.1.port p).ending with status := 0 }

/-- PORT_STATE (R443). -/
def execPortState (id : Nat) (s : State) : Out :=
  runOrder 0x42 id s fun s o =>
    s.checked o (o.params 4 (decide (o.target < 12)) [(16, 2)]
      [{ byte := 16, ok := o.field 16 1 ≤ 3 }, { byte := 17, ok := o.field 17 1 ≤ 3 }]) fun s =>
      s.portCommand o o.target (o.field 16 1) (o.field 17 1)

end Sys2Proof.Machine
end

