-- ==== Sys2Proof/Machine/Frames.lean ====
section
/-! DEFINITION. Machine/Frames.lean: frames, retry and replay, and flow control of the fabric ports (R340 to R351). Frame numbers are kept
without their wrap: the number on the link is the count modulo 2^32 (R340). -/

namespace Sys2Proof.Machine

/-! ### Lanes (R343, R370, R371) -/

/-- The lane that carries codeword k of a frame (R343). -/
def Port.laneOf (x : Port) (k : Nat) : Nat :=
  let used := (List.range 4).filter fun l => bitAt x.lanesUsed l = 1
  (used[k * used.length / 4]?).getD 0

/-- Adds to a lane's count, up to a limit. -/
def laneAdd (limit n l : Nat) (t : Tbl Nat) : Tbl Nat := t.put l (min limit ((t.at l).getD 0 + n))

/-- The codewords of a frame that its decoder does not correct: it corrects up to 7 symbols of each (R343). -/
def DataFrame.lostWords (f : DataFrame) : List Nat :=
  (List.range 4).filter fun k => f.bad.contains k || 7 < (f.corrected[k]?).getD 0

/-- The corrections and failures of a frame's codewords are counted at the port and its lanes (R370, R371). -/
def Port.countWords (x : Port) (f : DataFrame) : Port :=
  let fixed := ((List.range 4).map fun k => (k, (f.corrected[k]?).getD 0)).filter fun (p : Nat × Nat) => p.2 ≠ 0 && !f.lostWords.contains p.1
  let bad := (List.range 4).filter f.lostWords.contains
  let x := { x with cwCorrected := min 0xFFFF (x.cwCorrected + fixed.length) }
  let x := { x with laneSym := fixed.foldl (fun t (p : Nat × Nat) => laneAdd 0xFFFF p.2 (x.laneOf p.1) t) x.laneSym }
  { x with laneUncorr := bad.foldl (fun t k => laneAdd 0xFFFF 1 (x.laneOf k) t) x.laneUncorr
           laneSince := bad.foldl (fun t k => t.put (x.laneOf k) ((t.at (x.laneOf k)).getD 0 + 1)) x.laneSince }

/-! ### Link slots (R346, R347) -/

/-- The count whose low 32 bits are a frame number, at or after a base. -/
def frameFrom (base n : Nat) : Nat := base + (n + 2 ^ 32 - base % 2 ^ 32) % 2 ^ 32

/-- The link slot a port would send now (R346). -/
def Port.linkSlot (x : Port) (replay : Option Nat) : LinkSlot :=
  { ack := if x.rxHigh = 0 then none else some ((x.rxHigh - 1) % 2 ^ 32)
    nak := if x.rxNakDue then x.rxNak.map fun n => n % 2 ^ 32 else none
    replay := replay.map fun n => n % 2 ^ 32
    poolRet := x.retPool, vc1Ret := x.retVc1, vc0Ret := x.retVc0 }

/-- Credits that a link slot returns (R346, R350). -/
def Port.takeCredits (x : Port) (l : LinkSlot) : Port :=
  let gain := fun (new seen : Nat) => (new + 2 ^ 16 - seen) % 2 ^ 16
  { x with
    creditPool := x.creditPool + gain l.poolRet x.seenPool, creditVc1 := x.creditVc1 + gain l.vc1Ret x.seenVc1
    creditVc0 := x.creditVc0 + gain l.vc0Ret x.seenVc0, seenPool := l.poolRet, seenVc1 := l.vc1Ret, seenVc0 := l.vc0Ret }

/-- ACK(A): frames up to A leave the replay buffer (R347). -/
def Port.takeAck (x : Port) (a : Nat) : Port :=
  let next := frameFrom x.txAck (a + 1)
  if next ≤ x.txNext then { x with txAck := next, replayBuf := x.replayBuf.filter fun f => next ≤ f.1 } else x

/-- NAK(N): the next data frame is REPLAY(N) (R347, R348). -/
def Port.takeNak (x : Port) (n : Nat) : Port :=
  let from_ := frameFrom x.txAck n
  if x.txNext < from_ then x
  else { x with nakRun := if x.nakFrame = n && x.nakRun ≠ 0 then x.nakRun + 1 else 1, nakFrame := n, replayFrom := some from_ }

/-- REPLAY(N): the next data frame is N (R347). -/
def Port.takeReplay (x : Port) (n : Nat) : Port :=
  { x with rxNext := x.rxHigh - (x.rxHigh + 2 ^ 32 - n) % 2 ^ 32, rxNak := none, rxNakDue := false, rxNakCount := 0 }

/-- A receiver acts on a link slot of a frame that it decoded (R347). -/
def Port.takeLink (x : Port) (l : LinkSlot) : Port :=
  let x := x.takeCredits l
  let x := match l.ack with | some a => x.takeAck a | none => x
  let x := match l.nak with | some n => x.takeNak n | none => x
  match l.replay with | some n => x.takeReplay n | none => x

/-- Whether a limit of R348 is met: 8 NAKs for one frame, or replayed frames above 1 in 1,024 of the last 2^20 sent. -/
def Port.overLimit (x : Port) : Bool := 8 ≤ x.nakRun || 1024 < x.replayTimes.length

/-- A port that meets a limit of R348 retrains. -/
def State.checkLimits (s : State) (p : Nat) : State :=
  if (s.port p).overLimit && (s.port p).state = .up then s.retrain p false else s

/-! ### Receiving (R342, R347, R350) -/

/-- Flits of the reserved VC1 room and of the pool that a receive buffer holds now (R350). -/
def Port.rxUsed (x : Port) (pooled : Bool) : Nat := ((x.rxBuf.filter fun q => q.vc ≠ 0 && q.pooled == pooled).map fun q => q.flits).sum

/-- A packet arrived whole: it takes its room in the receive buffer. Whether a VC1 packet stands in the reserved flits or in the
pool is the sender's choice, and open where both have room (R350): a free value. -/
def State.bufferPacket (s : State) (p : Nat) (q : FabricPacket) : State :=
  let f := s.nextFree
  let s := if q.vc = 1 then f.2 else s
  let x := s.port p
  let reserved := x.rxUsed false + q.flits ≤ 65
  let pool := x.rxUsed true + q.flits ≤ 3967
  let q := { q with pooled := if q.vc = 1 then !reserved || (pool && f.1.getLsbD 0) else decide (2 ≤ q.vc) }
  (s.modPort p fun x => { x with rxBuf := x.rxBuf ++ [q], rxHead := none }).count (0x100 + p) 0x0100 q.flits

/-- A lock-step message of a NEIGHBOUR slot goes to its slot; its flit is free again at once (R271, R342). -/
def State.neighbour (s : State) (p : Nat) (m : Msg) : State :=
  let s := s.modPort p fun x => { x with retVc0 := (x.retVc0 + 1) % 2 ^ 16 }
  match m with
  | .lockOut 1 _ b => s.send (.hello p b)
  | .lockOut 2 _ b => s.send (.fp p b)
  | .lockOut 3 _ b => s.send (.halt p b)
  | .lockOut 4 _ b => s.send (.lsEnd p b)
  | _ => s

/-- The head of a packet in a slot. -/
def FlitSlot.head (f : FlitSlot) (vc : Nat) : Option FabricPacket :=
  f.msg.map fun m =>
    { vc := vc, flits := 1, hops := f.hops, destModule := f.destModule, poison := false, pooled := false, arrival := none, msg := m }

/-- One slot of an accepted frame (R342). -/
def State.takeSlot (p : Nat) (s : State) (f : FlitSlot) : State :=
  let x := s.port p
  let grow := fun (poison : Bool) => x.rxHead.map fun q => { q with flits := q.flits + 1, poison := q.poison || poison }
  let finish := fun (s : State) (q : Option FabricPacket) => match q with | some q => s.bufferPacket p q | none => s
  match f.tag with
  | .idle | .link | .unused => s
  | .neighbour => match f.msg with | some m => s.neighbour p m | none => s
  | .head vc => s.setPort p { x with rxHead := f.head vc }
  | .single vc => finish s (f.head vc)
  | .data => s.setPort p { x with rxHead := grow false }
  | .poisonData => s.setPort p { x with rxHead := grow true }
  | .tail => finish s (grow false)
  | .poisonTail => finish s (grow true)

/-- A frame that cannot be corrected: the receiver discards from it on and asks for it again (R347). -/
def Port.frameLost (x : Port) : Port :=
  { x with
    framesUncorr := satInc 0xFFFF x.framesUncorr
    rxNak := if x.rxNak.isSome then x.rxNak else some x.rxNext
    rxNakDue := x.rxNakDue || x.rxNak.isNone
    rxNakCount := if x.rxNak.isSome then x.rxNakCount + 1 else 0 }

/-- A decoded data frame (R347). -/
def State.frameDecoded (s : State) (p : Nat) (f : DataFrame) : State :=
  let links := f.slots.filterMap fun q => if q.tag = .link then q.link else none
  let s := s.modPort p fun x => links.foldl Port.takeLink x
  let x := s.port p
  if links.any fun l => l.replay.isSome then s
  else if x.rxNak.isSome then s.setPort p { x with rxNakCount := x.rxNakCount + 1 }
  else if x.rxNext < x.rxHigh then s.setPort p { x with rxNext := x.rxNext + 1 }
  else
    f.slots.foldl (State.takeSlot p)
      (s.setPort p { x with rxNext := x.rxNext + 1, rxHigh := x.rxNext + 1, accepted := x.accepted + 1 })

/-- DATA_FRAME (R347). -/
def execDataFrame (port : Nat) (frame : DataFrame) (s : State) : Out :=
  unit (decide (port < 12)) s <| .next <|
    if (s.port port).state ≠ .up then s
    else
      let lost := frame.lostWords ≠ [] || frame.slots.any fun q => q.tag = .unused
      let s := s.modPort port fun x => x.countWords frame
      let s := if lost || frame.corrected.any (fun n => n ≠ 0) then s.correctedError 0x0007 4 port else s
      if lost then s.modPort port Port.frameLost else (s.frameDecoded port frame).checkLimits port

/-- NAK_REPEAT (R347). -/
def execNakRepeat (port : Nat) (s : State) : Out :=
  unit (decide (port < 12)) s <| .next <|
    let x := s.port port
    if x.state = .up && x.rxNak.isSome && 1024 ≤ x.rxNakCount then s.setPort port { x with rxNakDue := true, rxNakCount := 0 } else s

/-- Step 6 of R336: frame numbers at 0, credits at the buffer sizes of R350. -/
def Port.start (x : Port) : Port :=
  { x with
    txNext := 0, txAck := 0, replayBuf := [], replayFrom := none, replaySend := [], txRest := [], higherRun := 0, rxNext := 0,
    rxHigh := 0, rxNak := none, rxNakDue := false, rxNakCount := 0, rxHead := none, rxBuf := [], nakRun := 0, creditPool := 3967,
    creditVc1 := 65, creditVc0 := 64, seenPool := 0, seenVc1 := 0, seenVc0 := 0, retPool := 0, retVc1 := 0, retVc0 := 0, linkDue := 0,
    replayTimes := [] }

/-- ALIGNMENT_FRAME: the peer's identity brings the port UP or DOWN; an UP port acts on the link slot (R336, R344, R347). -/
def execAlignmentFrame (port : Nat) (frame : AlignFrame) (s : State) : Out :=
  unit (decide (port < 12)) s <| .next <|
    let x := s.port port
    if x.state = .training && x.aligned then
      let s := s.setPort port { x with peerId := frame.moduleId, peerPort := frame.port }
      if frame.moduleId = s.fabric.moduleId then s.portDown port 3
      else ((s.modPort port Port.start).enterPort port .up).settlePorts
    else if x.state = .up then (s.setPort port (x.takeLink frame.link)).checkLimits port
    else s

/-! ### Sending (R340, R344 to R351) -/

/-- A slot that holds nothing (R342). -/
def idleSlot : FlitSlot := { tag := .idle, link := none, msg := none, index := 0, hops := 0, destModule := 0 }

/-- The flit slots of a packet (R342). -/
def FabricPacket.slots (q : FabricPacket) : List FlitSlot :=
  let first := fun (t : SlotTag) => ({ tag := t, link := none, msg := some q.msg, index := 0, hops := q.hops, destModule := q.destModule } : FlitSlot)
  let rest := fun (t : SlotTag) (i : Nat) => ({ idleSlot with tag := t, msg := some q.msg, index := i } : FlitSlot)
  match q.msg with
  | .lockOut _ _ _ => [first .neighbour]
  | _ =>
    if q.flits ≤ 1 then [first (.single q.vc)]
    else first (.head q.vc) :: ((List.range (q.flits - 2)).map (fun i => rest (if q.poison then .poisonData else .data) (i + 1)) ++
      [rest (if q.poison then .poisonTail else .tail) (q.flits - 1)])

/-- Whether a port's credits take a packet to the pool (R350). -/
def Port.poolAdmits (x : Port) (q : FabricPacket) : Bool := q.flits + 65 * (32 - q.hops) ≤ x.creditPool

/-- Whether a port's credits take a packet (R350). -/
def Port.admits (x : Port) (q : FabricPacket) : Bool :=
  if q.vc = 0 then 1 ≤ x.creditVc0 else (q.vc = 1 && q.flits ≤ x.creditVc1) || x.poolAdmits q

/-- The credits a packet takes; a VC1 packet takes the reserved flits where they hold it (R350). -/
def Port.pay (x : Port) (q : FabricPacket) : Port :=
  if q.vc = 0 then { x with creditVc0 := x.creditVc0 - 1 }
  else if q.vc = 1 && q.flits ≤ x.creditVc1 then { x with creditVc1 := x.creditVc1 - q.flits }
  else { x with creditPool := x.creditPool - q.flits }

/-- The source of a packet at a port: the port it arrived on, 12 for this module (R351). -/
def FabricPacket.source (q : FabricPacket) : Nat := q.arrival.getD 12

/-- The packet of a channel that is next: its sources take turns, each in its own order; lock-step messages rank with VC0 (R351). DESIGN
CHOICE (log 46): the turn goes to the ports in ascending order, then to this module. -/
def Port.waitingOn (x : Port) (locks : List FabricPacket) (vc : Nat) : Option FabricPacket :=
  let qs := (locks ++ x.txQueue).filter fun q => q.vc = vc
  let last := (x.served.at vc).getD 12
  (List.range 13).findSome? fun i => qs.find? fun q => q.source = (last + 1 + i) % 13

/-- The packet that a port starts next, and whether a packet of a lower channel waits behind it: the highest channel first, VC0
being the highest, and one of the lowest waiting channel after 64 packets of higher ones (R351). -/
def Port.nextPacket (x : Port) (locks : List FabricPacket) : Option (FabricPacket × Bool) :=
  let waiting := [0, 1, 2, 3].filterMap (x.waitingOn locks)
  let ready := waiting.filter x.admits
  let q := if 64 ≤ x.higherRun then ready.getLast? else ready.head?
  q.map fun q => (q, waiting.any fun w => q.vc < w.vc)

/-- Fills n slots of a data frame: the packet under way, then waiting packets (R342, R351). Answers the slots, the port and the
lock-step messages left. -/
def Port.fill : Nat → Port → List FabricPacket → List FlitSlot × Port × List FabricPacket
  | 0, x, locks => ([], x, locks)
  | n + 1, x, locks =>
    match x.txRest with
    | f :: t => let r := Port.fill n { x with txRest := t } locks; (f :: r.1, r.2)
    | [] =>
      match x.nextPacket locks with
      | none => (List.replicate (n + 1) idleSlot, x, locks)
      | some (q, lower) =>
        let x := { (x.pay q) with txQueue := if locks.contains q then x.txQueue else x.txQueue.erase q
                                  higherRun := if lower then x.higherRun + 1 else 0
                                  served := x.served.put q.vc q.source }
        match q.slots with
        | [] => (List.replicate (n + 1) idleSlot, x, locks.erase q)
        | f :: t => let r := Port.fill n { x with txRest := t } (locks.erase q); (f :: r.1, r.2)

/-- Whether a slot holds a flit. -/
def FlitSlot.flit (f : FlitSlot) : Bool := f.tag ≠ .idle && f.tag ≠ .link

/-- The lock-step messages that wait for a port. -/
def State.lockPackets (s : State) (p : Nat) : List FabricPacket :=
  s.net.filterMap fun m => match m with
    | .lockOut _ q _ => if q = p then some (m.packet 0 0 false) else none
    | _ => none

/-- A link slot in a data frame. -/
def linkFlit (l : LinkSlot) : FlitSlot := { idleSlot with tag := .link, link := some l }

/-- A sent data frame counts; a LINK slot restarts the distance to the next (R345, R372, R575). -/
def State.frameSent (s : State) (p : Nat) (slots : List FlitSlot) (number : Option Nat) : State :=
  let x := s.port p
  let link := slots.any fun f => f.tag = .link
  let s := s.setPort p { x with
    sent := x.sent + 1, flitsSent := x.flitsSent + (slots.filter FlitSlot.flit).length, linkDue := if link then 0 else x.linkDue + 1
    rxNakDue := x.rxNakDue && !link, sentData := some (number.getD 0, slots), position := x.position + 1 }
  let s := s.count (0x100 + p) 0x0110 1
  if link then s.count (0x100 + p) 0x0113 1 else s

/-- Whether a LINK slot goes into the next data frame: one in every 8, or at once for a NAK (R345, R347). -/
def Port.linkNow (x : Port) : Bool := 7 ≤ x.linkDue || x.rxNakDue

/-- The REPLAY frame, which holds its LINK slot only (R347). -/
def State.sendReplay (s : State) (p from_ : Nat) : State :=
  let x := s.port p
  let rest := (List.range (x.txNext - from_)).map fun i =>
    match x.replayBuf.find? fun f => f.1 = from_ + i with | some f => f.2 | none => []
  (s.setPort p { x with replayFrom := none, replaySend := rest }).frameSent p
    (linkFlit (x.linkSlot (some from_)) :: List.replicate 19 idleSlot) none

/-- The slots of a replayed frame: its flit slots in their places; old LINK slots are gone, and a fresh one, where one is due, takes the
first place that holds no flit (R345, R347). -/
def placeLink : Option FlitSlot → List FlitSlot → List FlitSlot
  | _, [] => []
  | fresh, f :: t => if f.flit then f :: placeLink fresh t else fresh.getD idleSlot :: placeLink none t

/-- A replayed frame: its flit slots in their places, with fresh LINK slots (R347, R348). -/
def State.sendAgain (s : State) (p : Nat) (slots : List FlitSlot) (rest : List (List FlitSlot)) : State :=
  let x := s.port p
  let fresh := if x.linkNow then some (linkFlit (x.linkSlot none)) else none
  let slots := placeLink fresh (if slots = [] then List.replicate 20 idleSlot else slots)
  let number := x.txNext - rest.length - 1
  let recent := (x.replayTimes ++ [x.sent + 1]).filter fun t => x.sent + 1 < t + 2 ^ 20
  let s := (s.setPort p { x with replaySend := rest, replayed := satInc 0xFFFF x.replayed, replayTotal := x.replayTotal + 1,
                                 replayTimes := recent }).frameSent p slots (some number)
  (s.count (0x100 + p) 0x0111 1).checkLimits p

/-- A new data frame (R340, R345, R347, R351). -/
def State.sendNew (s : State) (p : Nat) : State :=
  let x := s.port p
  let locks := s.lockPackets p
  let head := if x.linkNow then [linkFlit (x.linkSlot none)] else []
  let starved := match x.waitingOn locks 0 with | some q => x.txRest = [] && !x.admits q | none => false
  let r := if x.txNext < x.txAck + 255 then x.fill (20 - head.length) locks
    else (List.replicate (20 - head.length) idleSlot, x, locks)
  let slots := head ++ r.1
  let gone := locks.filter fun q => !r.2.2.contains q
  let x := r.2.1
  let keep := slots.any FlitSlot.flit
  let s := { s with net := gone.foldl (fun l (q : FabricPacket) => l.erase q.msg) s.net }
  let s := s.setPort p { x with txNext := x.txNext + 1, replayBuf := if keep then x.replayBuf ++ [(x.txNext, slots)] else x.replayBuf }
  let s := s.frameSent p slots (some x.txNext)
  let s := (s.count (0x100 + p) 0x0101 (slots.filter fun (f : FlitSlot) => f.flit && f.tag ≠ .neighbour).length).endFences
  if starved then s.count (0x100 + p) 0x0112 1 else s

/-- FRAME_SEND: the frame of the next position: alignment at every 64th, else data; before UP only alignment frames carry
anything (R340, R344). -/
def execFrameSend (port : Nat) (s : State) : Out :=
  unit (decide (port < 12)) s <| .next <|
    let x := s.port port
    if !(x.state = .up || (x.state = .training && x.aligned)) then s
    else if x.position % 64 = 0 then
      let next := match x.replayFrom with | some n => n | none => x.txNext - x.replaySend.length
      s.setPort port { x with
        sentAlign := some { link := x.linkSlot none, lanes := x.lanesUsed, width := x.width, port := port, moduleId := s.fabric.moduleId,
                            nextFrame := next % 2 ^ 32 }
        rxNakDue := false, position := x.position + 1 }
    else if x.state ≠ .up then s.setPort port { x with position := x.position + 1 }
    else match x.replayFrom, x.replaySend with
      | some n, _ => s.sendReplay port n
      | none, f :: rest => s.sendAgain port f rest
      | none, [] => s.sendNew port

end Sys2Proof.Machine
end

