-- ==== Sys2Proof/Machine/Supply.lean ====
section
/-! DEFINITION. Machine/Supply.lean: the supply supervisor: core voltage target, power cap, thermal limit, VSAG (R541 to R554). -/

namespace Sys2Proof.Machine

/-- The HOST limit: SUP_CORE_V, or 0.62 V under safe defaults (R541, R553). -/
def State.hostLimit (s : State) : Nat := if s.supply.safeDefaults then 620 else s.hostMv

/-- The lowest of the three limits (R541). -/
def State.targetMv (s : State) : Nat := min s.hostLimit (min s.supply.capMv s.supply.thermalMv)

/-- LIMITER: of equal lowest limits THERMAL comes before CAP, and CAP before HOST; 3 under safe defaults (R541, R551). -/
def State.limiter (s : State) : Nat :=
  if s.supply.safeDefaults then 3
  else if s.supply.thermalMv = s.targetMv then 2
  else if s.supply.capMv = s.targetMv then 1 else 0

/-- SUP_STATUS (R551). -/
def State.supStatus (s : State) : Nat :=
  let p := s.supply
  p.appliedMv * 2 ^ 16 + s.limiter * 2 ^ 12 + bitOf p.capUnmet * 2 ^ 6 + bitOf p.thermalCrit * 2 ^ 5 + bitOf p.throttling * 2 ^ 4 +
    bitOf p.ramping * 2 ^ 3 + bitOf p.safeDefaults * 2 ^ 2 + bitOf p.mainOk * 2 + bitOf p.warn

/-- The applied cap in W (R548). -/
def Supply.capW (p : Supply) : Nat := if p.mgmtCapW = 0 then 850 else min 850 p.mgmtCapW

/-- The applied target changes: VCORE moves toward it, which a new target redirects (R541). -/
def State.applyMv (s : State) (mv : Nat) : State :=
  if mv = s.supply.appliedMv then s
  else { s with supply := { s.supply with appliedMv := mv, ramping := decide (mv ≠ s.supply.vcoreMv) } }

/-- A step of the supervisor, with the events that its outcome raises: THROTTLE of the host when the applied target falls below
SUP_CORE_V or returns to it, THROTTLE of the management plane when LIMITER changes to or from CAP or THERMAL (R496, R562). The
applied target falls at once when a limit falls (R541). -/
def State.supplyStep (s : State) (f : State → State) : State :=
  let below := fun (t : State) => decide (t.supply.appliedMv < t.hostMv)
  let limited := fun (n : Nat) => n = 1 || n = 2
  let t := f s
  let t := t.applyMv (min t.supply.appliedMv t.targetMv)
  let t := if below s ≠ below t then t.raise 1 else t
  if s.limiter ≠ t.limiter && (limited s.limiter || limited t.limiter) then t.mgRaise 1 else t

/-- The supervisor checks its live registers whenever it uses them; a mismatch puts the safe defaults in force (R483, R553). -/
def State.checkSupply (s : State) : State :=
  if s.liveBad 6 0 && !s.supply.safeDefaults then
    (s.supplyStep fun s => { s with supply := { s.supply with safeDefaults := true } }).parityReport 6 0
  else s

/-- A strobe of the supply domain was applied (R552, R553). -/
def State.supplyStrobed (s : State) : State := s.supplyStep fun s => { s with supply := { s.supply with safeDefaults := false } }

/-- The CAP limit 50 mV below the applied target, not below 0.62 V (R541, R549). -/
def Supply.cut (p : Supply) : Supply := { p with capMv := max 620 (p.appliedMv - 50) }

/-- The mean of a list, 0 of an empty one. -/
def meanOf (l : List Nat) : Nat := l.sum / max 1 l.length

/-- A measurement of input power in mW: P100, the cuts of CAP, and the rise of the target by 5 mV (R541, R549). -/
def State.measure (s : State) (mW : Nat) : State :=
  let p := s.supply
  let samples := (mW :: p.samples).take 10
  let p100 := meanOf samples
  let p := { p with samples := samples, sumMw := p.sumMw + mW, sumCount := p.sumCount + 1, p100 := p100, sinceCut := p.sinceCut + 1 }
  let again := 950000 < p100 && 10 ≤ p.sinceCut
  if 1000000 < mW || again then { s with supply := { p.cut with sinceCut := if again then 0 else p.sinceCut } }
  else
    let s := { s with supply := p }
    if mW < 950000 && p.appliedMv < s.targetMv then s.applyMv (min (p.appliedMv + 5) s.targetMv) else s

/-- POWER_MEASUREMENT (R549). -/
def execPowerMeasurement (mW : Nat) (s : State) : Out :=
  .next <| if s.platform.rails then s.checkSupply.supplyStep fun s => s.measure mW else s

/-- The 1 ms boundary of the power cap (R549). -/
def Supply.capStep (p : Supply) : Supply :=
  let p1 := p.sumMw / max 1 p.sumCount
  let cap := p.capW * 1000
  let p := { p with p1 := p1, sumMw := 0, sumCount := 0 }
  let p :=
    if cap < p1 then { p with capMv := max 620 (p.capMv - 25), lowRun := 0 }
    else if p1 * 100 < cap * 98 then
      if 10 ≤ p.lowRun + 1 then { p with capMv := min 850 (p.capMv + 5), lowRun := 0 } else { p with lowRun := p.lowRun + 1 }
    else { p with lowRun := 0 }
  { p with capUnmet := (p.capUnmet || p.capMv = 620) && decide (cap < p1) }

/-- CAP_BOUNDARY (R549, R554). -/
def execCapBoundary (s : State) : Out :=
  .next <|
    if !s.platform.rails then s
    else
      let s := s.checkSupply.supplyStep fun s => { s with supply := s.supply.capStep }
      { s with supply := { s.supply with limited := if s.limiter = 0 then s.supply.limited else s.supply.limited + 1 } }

/-- The hottest of the dies, in 1/16 °C. -/
def hottest (tj : List Int) : Int := tj.foldl max (-(2 ^ 15))

/-- The 1 ms boundary of the thermal limit; `tj` is the hottest junction of each die (R550). -/
def Supply.thermalStep (p : Supply) (tj : List Int) : Supply :=
  let t := hottest tj
  let p := { p with tj := tj, throttling := decide (1600 ≤ t), thermalCrit := p.thermalCrit && decide (1600 ≤ t) }
  if 1600 ≤ t then { p with thermalMv := max 620 (p.thermalMv - 10), coolRun := 0 }
  else if t < 1552 then
    if 10 ≤ p.coolRun + 1 then { p with thermalMv := min 850 (p.thermalMv + 10), coolRun := 0 } else { p with coolRun := p.coolRun + 1 }
  else { p with coolRun := 0 }

/-- THERMAL_BOUNDARY (R550). -/
def execThermalBoundary (tj : List Int) (s : State) : Out :=
  .next <|
    if s.platform.rails && tj.length = 4 then s.checkSupply.supplyStep fun s => { s with supply := s.supply.thermalStep tj } else s

/-- THERMAL_CRIT (R550). -/
def execThermalCrit (s : State) : Out :=
  .next <|
    if s.platform.rails then
      s.checkSupply.supplyStep fun s => { s with supply := { s.supply with thermalMv := 620, thermalCrit := true } }
    else s

/-- VCORE_RAMP_DONE (R541). -/
def execVcoreRampDone (s : State) : Out :=
  .next { s with supply := { s.supply with ramping := false, vcoreMv := s.supply.appliedMv } }

/-- VSAG_WARN: VSAG_N low, the count, and the event to host and management (R543, R545). -/
def execVsagWarn (s : State) : Out :=
  .next <|
    if s.supply.warn || !s.platform.rails then s
    else
      let s := s.checkSupply
      let s := { s with supply := { s.supply with warn := true, warns := s.supply.warns + 1 }
                        platform := { s.platform with vsagLow := true } }
      (s.raise 0).mgRaise 0

/-- VSAG_WARN_DEASSERT (R543). -/
def execVsagWarnDeassert (s : State) : Out :=
  .next <|
    if s.supply.warn then
      { s with supply := { s.supply with warn := false }, platform := { s.platform with vsagLow := !s.platform.rails } }
    else s

end Sys2Proof.Machine
end

