-- ==== Sys2Proof/Machine/TestCmd.lean ====
section
/-! DEFINITION. Machine/TestCmd.lean: self-tests, calibrations, fences by order, and counter settings (R438 to R440, R444, R445, R447,
R572). -/

namespace Sys2Proof.Machine

/-! ### What a test names (R438) -/

/-- Whether UNIT names a unit of a test. -/
def testUnitOk (cal : Bool) (code u : Nat) : Bool :=
  let lane := u / 16 < 12 && u % 16 < 4
  if cal then (code = 1 && u < 6) || (code = 2 && (u = 8 || u = 9)) || (code = 3 && lane)
  else
    (1 ≤ code && code ≤ 3 && u < 9216) || (code = 4 && u < 144) || (code = 5 && (u < 6 || u = 8 || u = 9)) || (code = 6 && lane)

/-- Whether a test is of a lane of a port. -/
def laneTest (cal : Bool) (code : Nat) : Bool := if cal then code = 3 else code = 6

/-- Margin measurements and calibrations, which a supply event ends (R440). -/
def marginTest (cal : Bool) (code : Nat) : Bool := cal || code = 5 || code = 6

/-- The slots that are RUNNING or STOPPING. -/
def State.activeSlots (s : State) : List Nat := (List.range 48).filter fun n => (s.slot n).active

/-- Whether the lane of a unit is in use (R438). -/
def State.laneInUse (s : State) (u : Nat) : Bool :=
  let p := s.port (u / 16)
  p.state.carries && bitAt p.lanesUsed (u % 16) = 1

/-- The slots with a categorical block-replica in a cluster. -/
def State.sieveSlots (s : State) (k : Nat) : List Nat :=
  s.activeSlots.filter fun n => (s.slotCores n).any fun c => clusterOf c = k && (s.core c).members.any fun m => m.kind = 1

/-- Whether a test is intrusive now (R438). -/
def State.intrusive (s : State) (cal : Bool) (code u : Nat) : Bool :=
  if laneTest cal code then s.laneInUse u
  else if cal || code = 5 then s.activeSlots ≠ []
  else if code = 4 then s.sieveSlots u ≠ []
  else if code = 3 then false
  else (s.core u).kind = .enabled && (s.core u).slot.isSome

/-- The slots that FORCE stops for a test (R438). -/
def State.forcedSlots (s : State) (cal : Bool) (code u : Nat) : List Nat :=
  if laneTest cal code || (!cal && code = 3) then []
  else if cal || code = 5 then s.activeSlots
  else if code = 4 then s.sieveSlots u
  else match (s.core u).slot with
    | some n => if (s.slot n).active then [n] else []
    | none => []

/-- UNIT_KIND of a tested unit (R596). -/
def testUnitKind (cal : Bool) (code : Nat) : Nat :=
  if laneTest cal code then 5 else if cal || code = 5 then 6 else if code = 4 then 2 else 1

/-! ### Outcomes (R440, R587) -/

/-- LANE_OK of a core after a test that covers its lanes (R107). -/
def State.setLanes (s : State) (c v : Nat) : State := s.modCore c fun x => { x with laneOk := BitVec.ofNat 8 v }

/-- The reliability engine's handling of a failed test; a logistic table that fails its scan is a parity mismatch of R109 (R109, R438,
R440, R587). DESIGN CHOICE (log 37): a test whose failure no rule maps to
a recovery is only reported. -/
def State.testFailed (s : State) (cal : Bool) (code u : Nat) : State :=
  if cal then s
  else if code = 1 then
    if (s.core u).kind = .off then s else (s.fenceCore u true false).1
  else if code = 3 then if (s.core u).kind = .off then s else (s.modCore u fun x => { x with tableParity := true }).coreFault u 0x0003
  else if code = 4 then s.sieveParity u
  else s

/-- The effect of a test that ran to its end on its unit; a core left with no working lane is fenced and castled (R101, R107, R371,
R440). -/
def State.applyTest (s : State) (cal : Bool) (code u : Nat) (t : TestOutcome) : State :=
  let s :=
    if laneTest cal code then s.modPort (u / 16) fun x => { x with laneEye := x.laneEye.put (u % 16) (t.value % 256) }
    else if !cal && code ≤ 2 then s.setLanes u t.value
    else if !cal && code = 4 then s.modCluster u fun k => { k with sieveTestPass := t.pass }
    else s
  let s := if t.pass then s else s.testFailed cal code u
  if !cal && code ≤ 2 then s.checkLanes u else s

/-- Whether the supervisor's safe defaults keep a test from running (R553). -/
def State.testBlocked (s : State) (cal : Bool) (code : Nat) : Bool := marginTest cal code && s.supply.safeDefaults

/-- The status, detail and result of a test that runs now (R440, R553). -/
def State.testEnding (s : State) (cal : Bool) (code : Nat) (t : TestOutcome) : Ending :=
  if s.testBlocked cal code then { status := 0x32 }
  else if marginTest cal code && t.disturbed then { status := 0x37 }
  else { status := 0, d17 := bitOf (!t.pass), result := t.value % 2 ^ 32 }

/-- Whether a test was carried out: its effect is applied. -/
def Ending.ran (e : Ending) : Bool := e.status = 0

/-- A lane that FORCE took out returns by a retrain at full width (R438). -/
def State.laneBack (s : State) (u : Nat) : State :=
  if (s.port (u / 16)).state.carries then s.retrain (u / 16) true else s

/-- SLOT_STARTs that wait for a test are tried again (R424, R439). -/
def State.retryStarts (s : State) : State :=
  (List.range 48).foldl (fun s n =>
    match (s.slot n).waitingStart with
    | none => s
    | some id =>
      let s := s.modSlot n fun x => { x with waitingStart := none }
      match s.openOrder id with
      | some o => s.slotStart o
      | none => s) s

/-- Runs a test for its order, which completes. -/
def State.runTest (s : State) (o : Order) (cal : Bool) (code u : Nat) (forced : Bool) (t : TestOutcome) : State :=
  let e := s.testEnding cal code t
  let s := if e.ran then s.applyTest cal code u t else s
  let s := if forced && laneTest cal code then s.laneBack u else s
  (s.finish o e).retryStarts

/-! ### SELFTEST and CALIBRATE (R438 to R440, R572) -/

/-- FORCE: the slots in the way are drained, a lane in use is taken out, and the order waits (R438). -/
def State.forceTest (s : State) (o : Order) (cal : Bool) (code u : Nat) : State :=
  let ns := s.forcedSlots cal code u
  let r : RunningTest := { order := o.id, calibrate := cal, code := code, unit := u, slots := ns }
  let s := { s with arbiter := { s.arbiter with runningTests := s.arbiter.runningTests ++ [r] } }
  let s := ns.foldl (fun s n =>
    if (s.slot n).state = .running then s.beginStop n { newDrain false 0 [] none with engine := true } else s) s
  if laneTest cal code && s.laneInUse u then
    let p := u / 16
    (s.modPort p fun x => { x with
      lanesOut := Nat.lor x.lanesOut (2 ^ (u % 16)), retrains := if x.state = .retraining then x.retrains else satInc 0xFF x.retrains
      aligned := false, nakRun := 0, replayTimes := [] }).enterPort p .retraining
  else s

/-- Defers a test (R439). -/
def State.deferTest (s : State) (o : Order) (cal : Bool) (code u : Nat) : State :=
  let ts := s.arbiter.tests
  if ts.any fun t => t.calibrate = cal && t.code = code && t.unit = u then s.finish o Ending.deferred
  else if 64 ≤ ts.length then s.finish o Ending.busy
  else
    let t : PendingTest := { calibrate := cal, code := code, unit := u, seq := o.seq }
    ({ s with arbiter := { s.arbiter with tests := ts ++ [t] } }).finish o Ending.deferred

/-- A test or calibration of an order that starts (R438 to R440, R553). -/
def State.startTest (s : State) (o : Order) (cal : Bool) (code : Nat) (t : TestOutcome) : State :=
  let u := o.field 20 4
  if s.testBlocked cal code then s.finish o { status := 0x32 }
  else if !s.intrusive cal code u then s.runTest o cal code u false t
  else if bitAt o.flags 2 = 0 then s.deferTest o cal code u
  else if s.forcedSlots cal code u = [] && !laneTest cal code then s.runTest o cal code u true t
  else s.forceTest o cal code u

/-- Whether what FORCE stops has stopped. -/
def State.forceDone (s : State) (r : RunningTest) : Bool :=
  (r.slots.all fun n => !(s.slot n).active) && !(laneTest r.calibrate r.code && s.laneInUse r.unit)

/-- A test command: it starts, or, where FORCE stopped something for it first, runs now that this is done. -/
def testOrder (opcode id : Nat) (s : State) (t : TestOutcome) (start : State → Order → State) : Out :=
  match s.arbiter.runningTests.find? fun r => r.order = id with
  | none => runOrder opcode id s start
  | some r =>
    .next <|
      match s.openOrder id with
      | none => s
      | some o =>
        if o.opcode ≠ opcode || !s.forceDone r then s
        else
          let s := { s with arbiter := { s.arbiter with runningTests := s.arbiter.runningTests.filter fun x => x.order ≠ id } }
          s.runTest o r.calibrate r.code r.unit true t

/-- SELFTEST (R438). -/
def execSelftest (id : Nat) (outcome : TestOutcome) (s : State) : Out :=
  testOrder 0x38 id s outcome fun s o =>
    let code := o.field 16 1
    s.checked o (o.params 4 o.noTarget [(16, 1), (20, 4)]
      [{ byte := 16, ok := 1 ≤ code && code ≤ 6 }, { byte := 20, ok := testUnitOk false code (o.field 20 4) || code = 0 || 6 < code }])
      fun s => s.startTest o false code outcome

/-- CALIBRATE (R438). -/
def execCalibrate (id : Nat) (outcome : TestOutcome) (s : State) : Out :=
  testOrder 0x39 id s outcome fun s o =>
    let code := o.field 16 1
    s.checked o (o.params 4 o.noTarget [(16, 1), (20, 4)]
      [{ byte := 16, ok := 1 ≤ code && code ≤ 3 }, { byte := 20, ok := testUnitOk true code (o.field 20 4) || code = 0 || 3 < code }])
      fun s => s.startTest o true code outcome

/-- MG_SELFTEST: SELFTEST codes 1 to 6, CALIBRATE items as codes 0x81 to 0x83 (R572). -/
def execMgSelftest (id : Nat) (outcome : TestOutcome) (s : State) : Out :=
  testOrder 0x88 id s outcome fun s o =>
    let raw := o.field 16 1
    let cal := 0x80 ≤ raw
    let code := raw % 0x80
    let known := 1 ≤ code && code ≤ if cal then 3 else 6
    s.checked o (o.params 4 o.noTarget [(16, 1), (20, 4)]
      [{ byte := 16, ok := known }, { byte := 20, ok := testUnitOk cal code (o.field 20 4) || !known }])
      fun s => s.startTest o cal code outcome

/-- The slot that holds a tested core, where a SLOT_START of it waits. -/
def State.heldForStart (s : State) (t : PendingTest) : Bool :=
  !t.calibrate && t.code ≤ 2 &&
    match (s.core t.unit).slot with
    | some n => !(s.slot n).active && (s.slot n).waitingStart.isSome
    | none => false

/-- Whether a deferred test can run now: nothing makes it intrusive, or the slot that holds its core stands still and its SLOT_START
waits for the test (R424, R439). DEDUCED (log 30). -/
def State.testReady (s : State) (t : PendingTest) : Bool := !s.intrusive t.calibrate t.code t.unit || s.heldForStart t

/-- DEFERRED_TEST_RUN: the first pending test that can run, its error-log record and journal entry (R439, R465, R596). -/
def State.runDeferred (s : State) (t : TestOutcome) : State :=
  match s.arbiter.tests.find? s.testReady with
  | none => s
  | some p =>
    let s := { s with arbiter := { s.arbiter with tests := s.arbiter.tests.erase p } }
    let e := s.testEnding p.calibrate p.code t
    let s := if e.ran then s.applyTest p.calibrate p.code p.unit t else s
    let failed := !e.ran || !t.pass
    let s := s.logError { cls := .test, code := 0x0018, action := 5, unitKind := testUnitKind p.calibrate p.code, unit := p.unit,
                          info := e.result + p.code * 2 ^ 32 + bitOf failed * 2 ^ 40, seq := p.seq }
    (s.note { opcode := 0xC4, target := p.unit % 2 ^ 16, status := e.status, detail := e.d17, result := p.seq }).retryStarts

/-- DEFERRED_TEST_RUN (R439). -/
def execDeferredTestRun (outcome : TestOutcome) (s : State) : Out :=
  .next (if s.platform.boot = .ready then s.runDeferred outcome else s)

/-! ### CORE_FENCE, MG_FENCE, CORE_CASTLE (R31, R444, R445, R572) -/

/-- LIFT: CORE_BIST on a FENCED core that holds no work (R444). -/
def State.liftFence (s : State) (o : Order) (c : Nat) (t : TestOutcome) : State :=
  let x := s.core c
  if x.kind ≠ .fenced || x.slot.isSome then s.finish o Ending.badState
  else
    let s := s.setLanes c t.value
    let s := if t.pass then s.modCore c fun x => { x with kind := .spare, colander := false, castledIn := false } else s
    (s.checkLanes c).finish o { status := 0, d17 := bitOf (!t.pass), result := 0xFFFFFFFF }

/-- CORE_FENCE, and MG_FENCE, which acts as it does (R444, R572). -/
def State.fenceOrder (s : State) (o : Order) (t : TestOutcome) : State :=
  s.checked o (o.params 4 (decide (o.target < 9216)) [] []) fun s =>
    if bitAt o.flags 2 = 1 then s.liftFence o o.target t
    else
      let r := s.fenceCore o.target false false
      r.1.finish o (Ending.ok (r.2.getD 0xFFFFFFFF))

/-- CORE_FENCE (R444). -/
def execCoreFence (id : Nat) (outcome : TestOutcome) (s : State) : Out := runOrder 0x48 id s fun s o => s.fenceOrder o outcome

/-- MG_FENCE (R572). -/
def execMgFence (id : Nat) (outcome : TestOutcome) (s : State) : Out := runOrder 0x82 id s fun s o => s.fenceOrder o outcome

/-- CORE_CASTLE (R445). A source that is fenced or castled already has no need of the spare it names: the order has no further effect and
completes OK (R31). -/
def execCoreCastle (id : Nat) (s : State) : Out :=
  runOrder 0x49 id s fun s o =>
    let named := o.field 16 4
    let free := named = 0xFFFFFFFF
    s.checked o (o.params 0 (decide (o.target < 9216)) [(16, 4)]
      [{ byte := 16, ok := free || (named < 9216 && ((s.core o.target).kind = .fenced || ((s.core named).kind = .spare && named ≠ o.target))) }]) fun s =>
      let n := (s.core o.target).members.length
      let r := s.fenceOnto o.target (if free then s.chooseSpare o.target false else some named) false
      r.1.finish o (Ending.ok (r.2.getD 0xFFFFFFFF + 2 ^ 32 * if r.2.isSome then n else 0))

/-! ### COUNTER_CONFIG and TAG_CONFIG (R447, R576, R577, R582) -/

/-- Whether the counters of a unit stopped on a live mismatch (R577). -/
def State.counterParity (s : State) (u : Nat) : Bool :=
  if u < 0x100 then (s.cluster u).parityFrozen else if u = 0x10F then s.perf.hostParity else (s.port (u - 0x100)).parityFrozen

/-- Sets or clears the run state of a counter unit (R576). -/
def State.runCounters (s : State) (u : Nat) (b : Bool) : State :=
  if u < 0x100 then s.modCluster u fun c => { c with running := b }
  else if u = 0x10F then { s with perf := { s.perf with hostRunning := b } }
  else s.modPort (u - 0x100) fun p => { p with running := b }

/-- Clears the top-down counters of a core (R573). -/
def Core.clearCounters (c : Core) : Core := { c with retired := 0, wasted := 0, front := 0, back := 0 }

/-- Clears every counter of a unit; on a cluster the top-down counters of its cores too (R573, R576). -/
def State.clearCounters (s : State) (u : Nat) : State :=
  if u < 0x100 then
    let s := s.modCluster u fun c => { c with counters := [] }
    { s with cores := s.cores.map fun p => if clusterOf p.1 = u then (p.1, p.2.clearCounters) else p }
  else if u = 0x10F then { s with perf := { s.perf with hostCounters := [] } }
  else s.modPort (u - 0x100) fun p => { p with counters := [] }

/-- The write and strobe of a command that stops, stages, strobes and restarts on its own (R480): the status, OK where it was
applied. -/
def State.stageStrobe (s : State) (o : Order) (key v domain inst : Nat) (keys : List Nat) : State :=
  let s := if v = s.stored key then s else s.writeStored key v (some (domain, inst))
  let reason := s.shadowReason domain inst
  if reason ≠ 0 then (s.rejectStrobe reason domain inst).finish o Ending.badState
  else (s.copyShadows domain inst keys).finish o Ending.ok

/-- COUNTER_CONFIG (R447, R575 to R577). -/
def execCounterConfig (id : Nat) (s : State) : Out :=
  runOrder 0x58 id s fun s o =>
    let cls := o.field 16 1
    let index := o.field 18 2
    let n := o.field 20 1
    let event := o.field 22 2
    let action := o.field 24 1
    let u := if cls = 2 then index else 0x100 + index
    s.checked o (o.params 0 o.noTarget [(16, 1), (18, 3), (22, 3)]
      [{ byte := 16, ok := cls = 2 || cls = 4 }, { byte := 18, ok := if cls = 2 then index < 144 else index < 12 || index = 15 },
       { byte := 20, ok := n < 16 }, { byte := 22, ok := action ≠ 0 || eventOk (counterKind u) event },
       { byte := 24, ok := action ≤ 3 }]) fun s =>
      let key := evselKey u n
      let v := Nat.land (s.stored key) 0xFFFF0000 + event
      if action = 0 && s.secLocked 7 && v ≠ s.stored key then s.countLocked.finish o Ending.locked
      else
        let s := s.checkCounters u
        if s.counterParity u then s.finish o { status := 0x32 }
        else
          match action with
          | 0 => s.stageStrobe o key v 8 u ((List.range 16).map fun i => evselKey u i)
          | 1 => (s.clearCounters u).finish o Ending.ok
          | 2 => (s.runCounters u false).finish o Ending.ok
          | _ => (s.runCounters u true).finish o Ending.ok

/-- TAG_CONFIG (R447, R582). -/
def execTagConfig (id : Nat) (s : State) : Out :=
  runOrder 0x59 id s fun s o =>
    let n := o.field 16 1
    let slot := o.field 17 1
    s.checked o (o.params 0 o.noTarget [(16, 2)] [{ byte := 16, ok := tagOk n 0xFF }, { byte := 17, ok := tagOk 0 slot }]) fun s =>
      let key := 0x0B0008
      let v := Nat.land (s.stored key) 0xFFFF00E0 + slot * 256 + n
      if s.secLocked 7 && v ≠ s.stored key then s.countLocked.finish o Ending.locked
      else
        let s := s.checkTag
        if s.perf.tagParity then s.finish o { status := 0x32 } else s.stageStrobe o key v 8 0x200 [key]

end Sys2Proof.Machine
end

