-- ==== Sys2Proof/Machine/RegRead.lean ====
section
/-! DEFINITION. Machine/RegRead.lean: what the registers of BAR0 and of the indirect space read as (R105 to R108, R141, R192, R193, R219,
R220, R252, R300 to R303, R332, R370, R371, R382, R407, R482 to R503, R514, R515, R551, R578, R579). -/

namespace Sys2Proof.Machine

/-! ### BAR0 -/

/-- A per-port bit field: bit n for port n. -/
def State.perPort (s : State) (f : Port → Bool) : Nat := s.portBits f

/-- GLOBAL_STATUS (R498). -/
def State.globalStatus (s : State) : Nat :=
  let p := s.platform
  p.lastReset * 2 ^ 12 + bitOf (s.regs.parityStatus ≠ 0) * 2 ^ 8 + bitOf s.supply.warn * 2 ^ 7 + bitOf p.alignedStart * 2 ^ 6 +
    bitOf (s.entropy.state = .fault) * 2 ^ 5 + bitOf (s.entropy.state = .released) * 2 ^ 4 + bitOf p.larderTrained * 2 ^ 3 +
    bitOf p.hbmTrained * 2 ^ 2 + bitOf p.mgmtReady * 2 + bitOf (p.boot = .ready)

/-- Q_STATUS: ERR, CQ_TAIL, STOPPED, SQ_HEAD; a queue is stopped when RUN is clear and no fetch is outstanding (R398). -/
def State.queueStopped (s : State) (q : Nat) : Bool :=
  !(s.queue q).run && !(s.arbiter.reads.map (·.2) ++ s.arbiter.readsHeld).any fun r => match r with | .packet p _ => p = q | _ => false

/-- Q_STATUS (R398). -/
def State.queueStatus (s : State) (q : Nat) : Nat :=
  let x := s.queue q
  x.err * 2 ^ 28 + x.sqHead * 2 ^ 16 + bitOf (s.queueStopped q) * 2 ^ 12 + x.cqTail

/-- CFG_PENDING: bit d is set while an instance of domain d has a shadow write pending (R482). -/
def State.cfgPending (s : State) : Nat :=
  (List.range 16).foldl (fun a d => a + bitOf (s.regs.pendingCfg.any fun p => p.1 = d) * 2 ^ d) 0

/-- IRQ_RAW (R496). -/
def State.irqRaw (s : State) : Nat :=
  bitOf s.supply.warn + 2 * bitOf (s.supply.appliedMv < s.hostMv) + 2 ^ 5 * bitOf (s.regs.parityStatus ≠ 0) +
    2 ^ 7 * bitOf (s.entropy.state = .fault)

/-- MBX_STATUS (R489). -/
def State.mbxStatus (s : State) : Nat :=
  let r := s.regs
  r.mbxGen * 2 ^ 24 + r.mbxData.length * 2 ^ 12 + r.mbxErr * 2 ^ 4 + bitOf r.mbxBusy * 2 + bitOf r.mbxValid

/-- MBX_DATAn: word 16·PAGE + n, 0 beyond the capture and while VALID is clear (R489). -/
def State.mbxWord (s : State) (n : Nat) : Nat :=
  if s.regs.mbxValid then ((s.regs.mbxData[16 * (s.regOr 0x040004 0 % 32) + n]?).getD 0).toNat else 0

/-- IND_STATUS (R493). -/
def State.indStatus (s : State) : Nat := s.regs.indErrors * 2 ^ 16 + s.regs.indLastErr * 2 ^ 4 + bitOf s.regs.indErr

/-- A lock register: TAG and OWNER (R487). -/
def State.lockValue (s : State) (n : Nat) : Nat :=
  match s.regs.locks.at n with
  | some l => l.2 * 2 ^ 16 + l.1
  | none => 0

/-- STATE of the entropy source (R514). -/
def EntState.code : EntState → Nat
  | .stopped => 0
  | .startup => 1
  | .released => 2
  | .fault => 3

/-- ENT_STATUS (R514). -/
def State.entStatus (s : State) : Nat :=
  let e := s.entropy
  e.consec * 2 ^ 24 + e.pool.length * 2 ^ 16 + e.host.length * 2 ^ 8 + e.pairsOk * 2 ^ 4 + e.state.code

/-- ENT_FAILS (R515). -/
def State.entFails (s : State) : Nat := s.entropy.failsStartup * 2 ^ 16 + s.entropy.failsRct * 2 ^ 8 + s.entropy.failsApt

/-- The memory stations in the order of the summary's bits (R499). -/
def memStations : List Nat := [0, 1, 2, 3, 4, 5, 8, 9]

/-- One bit per memory station (R499). -/
def State.memBits (s : State) (f : MemStation → Bool) : Nat :=
  (memStations.zip (List.range 8)).foldl (fun a p => a + bitOf (f (s.station p.1)) * 2 ^ p.2) 0

/-- A sum over the memory stations (R499). -/
def State.memSum (s : State) (f : MemStation → Nat) : Nat := (memStations.map fun n => f (s.station n)).sum

/-- WIDTH of every port, two bits each (R500). -/
def State.fabWidth (s : State) : Nat := (List.range 12).foldl (fun a n => a + (s.port n).width * 4 ^ n) 0

/-- Journal entries that are open (R468, R501). -/
def State.openEntries (s : State) : List Order := s.arbiter.orders.filter fun o => o.seq ≠ 0

/-- JRN_STATUS (R501). -/
def State.jrnStatus (s : State) : Nat := bitOf (1 < s.oldestSeq) * 2 ^ 31 + s.openEntries.length

/-- SEC_STATE with LOCK_WRITES (R486). -/
def State.secStatus (s : State) : Nat := s.regs.lockWrites * 2 ^ 16 + s.secState

/-- The RO and W1C fields of a BAR0 register, and the fields that live outside the register file; 0 for any other. -/
def State.bar0Fields (s : State) (o : Nat) : Nat :=
  let r := s.regs
  match o with
  | 0x000000 => 0x3639584C
  | 0x000004 => 0x00010000 + Config.siliconStep.toNat * 2 ^ 8 + Config.grade
  | 0x000008 => s.rot.running.results
  | 0x00000C => 0x00010001
  | 0x000010 => 0x00010001
  | 0x000014 => s.fabric.moduleId
  | 0x000018 => s.goodSpares * 2 ^ 16 + s.enabledNow
  | 0x000020 => s.globalStatus
  | 0x010004 => s.cfgPending
  | 0x010008 => r.reject.toNat
  | 0x01000C => r.rejects
  | 0x010010 => r.parityStatus
  | 0x010014 => r.parityWhere.toNat
  | 0x020000 => r.irqStatus
  | 0x020008 => s.irqRaw
  | 0x040008 => s.mbxStatus
  | 0x050008 => r.indData.toNat
  | 0x05000C => s.indStatus
  | 0x060000 => r.secLock
  | 0x060004 => s.secStatus
  | 0x070000 => s.supStatus
  | 0x080000 => s.entStatus
  | 0x080004 => s.entFails
  | 0x090000 => s.memBits (fun m => m.selfRefresh) * 2 ^ 24 + s.memBits (fun m => m.pointer.isSome) * 2 ^ 16 +
      s.memBits (fun m => m.trained) * 2 ^ 8 + s.memBits fun m => m.uncorrectable ≠ 0
  | 0x090004 => s.memSum fun m => m.corrected
  | 0x090008 => s.memSum fun m => m.uncorrectable
  | 0x09000C => s.memBits fun m => m.ranges ≠ []
  | 0x0A0000 => s.perPort (fun p => p.state = .down) * 2 ^ 16 + s.perPort fun p => p.state = .up
  | 0x0A0004 => s.fabWidth
  | 0x0A0008 => s.perPort (fun p => p.cordWear = 1 || p.cordWear = 2) * 2 ^ 16 + s.perPort fun p => p.cordAuth
  | 0x0A000C => s.perPort (fun p => p.retrains ≠ 0) * 2 ^ 16 + s.perPort fun p => p.framesUncorr ≠ 0
  | 0x0B0000 => bitOf s.perf.rbRun * 4 + bitOf s.perf.tagRun * 2 + bitOf s.perf.freezeAll
  | 0x0B0004 => bitOf s.perf.freezeAll
  | 0x0C0000 => s.jrnStatus
  | 0x0D0000 => s.host.errCorrected
  | 0x0D0004 => s.host.errContained
  | 0x0D0008 => s.host.errFatal
  | 0x03100C => bitOf r.winOpen
  | o =>
    if 0x030000 ≤ o && o < 0x031000 then
      let q := (o - 0x030000) / 0x40
      if (o - 0x030000) % 0x40 = 0x1C then bitOf (s.queue q).run
      else if (o - 0x030000) % 0x40 = 0x20 then s.queueStatus q else 0
    else if 0x040040 ≤ o && o < 0x040080 then s.mbxWord ((o - 0x040040) / 4)
    else if 0x060100 ≤ o && o < 0x060180 then s.lockValue ((o - 0x060100) / 4)
    else 0

/-! ### Classes 1 to 3: cores, clusters, routers -/

/-- STATE of CORE_STATUS (R105). -/
def Core.stateCode (c : Core) : Nat :=
  match c.kind with
  | .off => 0
  | .spare => 1
  | .fenced => 5
  | .enabled => if c.slot.isNone then 2 else if c.run.isNone then 3 else 4

/-- CORE_STATUS (R105). -/
def Core.status (c : Core) : Nat :=
  c.slot.getD 0xFF * 2 ^ 16 + bitOf c.tableParity * 2 ^ 11 + bitOf c.drawOverrun * 2 ^ 10 + bitOf (1 < c.members.length) * 2 ^ 9 +
    bitOf c.castledIn * 2 ^ 8 + c.stateCode

/-- The RO fields of a core's registers (R105 to R108, R141, R303). -/
def Core.fields (c : Core) (off : Nat) : Nat :=
  match off with
  | 0x00 => c.status
  | 0x04 => match c.standing with | some m => m.sat % 32 | none => 0
  | 0x08 => c.laneOk.toNat
  | 0x0C => bitOf c.run.isSome * 2 ^ 4 + c.lastPhase
  | 0x10 => c.pfPc * 2 ^ 16 + c.pfMember * 2 ^ 8 + c.pfCode
  | 0x14 => c.fencedAnswers * 2 ^ 16 + bitOf c.colander
  | _ => 0

/-- Armed launch objects of a cluster that wait for inputs (R252). -/
def State.launchWaiting (s : State) (k : Nat) : Nat :=
  (s.cores.filter fun p => clusterOf p.1 = k && p.2.launch.armed && p.2.run.isNone).length

/-- The roots a cluster holds: the trees 0 to 15 and the exchange tree of every replica of a slot whose part 0 lies on this module (R213,
R219). -/
def State.rootsOf (s : State) (k : Nat) : Nat :=
  (s.slots.map fun p =>
    if p.2.image.isSome && p.2.partIndex = 0 then
      ((List.range p.2.replicas).map fun q => ((List.range 17).filter fun t => p.2.rootCluster q t = k).length).sum
    else 0).sum

/-- The registers of a cluster (R192, R193, R219, R220, R252). Every node evaluates within one step, so BUSY of RED_STATUS reads 0.
DESIGN CHOICE (log 57): the request at the head of the sieve's queue is the one being served, it counts in QUEUE, and BUSY reads 1 while
it stands there. -/
def State.clusterFields (s : State) (k off : Nat) : Nat :=
  let c := s.cluster k
  match off with
  | 0x4000 => c.sieveQueue.length * 2 ^ 16 + bitOf c.sieveParity * 4 + bitOf (c.sieveQueue ≠ []) * 2 + bitOf c.sieveOut
  | 0x4004 => c.sieveServed % 2 ^ 32
  | 0x5000 => min 255 (s.rootsOf k) * 2 ^ 24 + bitOf c.spillLarder * 2 ^ 18 + bitOf c.spillSlice * 2 ^ 17 + min 128 c.groups.length * 2 ^ 8
  | 0x5004 => c.combined % 2 ^ 32
  | 0x6000 => c.objects.length * 2 ^ 16 + s.launchWaiting k * 2 ^ 8 + bitOf c.overcount
  | _ => 0

/-- ROUTER_STATUS and ROUTER_LINK_ERR (R301, R302). -/
def State.routerFields (s : State) (k off : Nat) : Nat :=
  let c := s.cluster k
  if off = 0 then
    c.poolPeak * 2 ^ 8 + bitOf (stationSide k).isSome * 2 ^ 5 + (List.range 5).foldl (fun a d => a + bitOf (routerPort k d) * 2 ^ d) 0
  else c.corrected * 2 ^ 16 + c.poisoned

/-! ### Classes 4 to 7: stations, lanes, memory, counters -/

/-- The registers of a fabric station (R370, R382). -/
def Port.fields (x : Port) (off : Nat) : Nat :=
  match off with
  | 0x00 => x.status
  | 0x08 => x.cwCorrected * 2 ^ 16 + x.framesUncorr
  | 0x0C => x.replayed * 2 ^ 16 + x.retrains * 2 ^ 8 + x.downs
  | 0x10 => x.inUse * 2 ^ 16 + x.peak
  | 0x14 => x.hopLimit * 2 ^ 24 + x.routeErr * 2 ^ 16 + x.poisonHead * 2 ^ 8 + x.late
  | 0x18 => x.peer
  | 0x20 => x.cord
  | _ => 0

/-- The registers of the host station (R407). -/
def State.hostFields (s : State) (off : Nat) : Nat :=
  let h := s.host
  match off with
  | 0 => s.platform.linkSpeed * 2 ^ 8 + bitOf s.platform.linkFlit * 2 ^ 5 + s.platform.linkWidth
  | 4 => h.inUse * 2 ^ 16 + h.peak
  | 8 => h.bar4Ur * 2 ^ 24 + h.bar4Ca * 2 ^ 16 + h.bar4Poison * 2 ^ 8 + h.bar4EpIn
  | _ => 0

/-- LANE_STATUS and LANE_FEC (R371). -/
def Port.laneFields (x : Port) (l off : Nat) : Nat :=
  if off = 0 then
    (x.laneEye.at l).getD 0 * 2 ^ 8 + bitAt x.lanesUsed l * 4 + bitAt x.laneLocked l * 2 + bitAt x.lanesOk l
  else (x.laneSym.at l).getD 0 * 2 ^ 16 + (x.laneUncorr.at l).getD 0

/-- The registers of a memory station (R332). -/
def MemStation.fields (m : MemStation) (off : Nat) : Nat :=
  match off with
  | 0x00 => m.refreshMult * 2 ^ 10 + bitOf m.pointer.isSome * 2 ^ 3 + bitOf m.selfRefresh * 2 ^ 2 + bitOf m.trained * 2 + 1
  | 0x04 => m.corrected * 2 ^ 16 + m.uncorrectable
  | 0x08 => m.inUse * 2 ^ 16 + m.peak
  | 0x10 => m.ranges.length * 2 ^ 24 + m.scrubUncorr
  | 0x14 => m.lapRefi
  | 0x18 => m.laps
  | _ => 0

/-- The top-down counters of a core in the order of R573. -/
def Core.counter (c : Core) (n : Nat) : Nat := if n = 0 then c.retired else if n = 1 then c.wasted else if n = 2 then c.front else c.back

/-- Counter n of a counter unit. -/
def State.counterOf (s : State) (u n : Nat) : Nat :=
  let t := if u < 0x100 then (s.cluster u).counters else if u = 0x10F then s.perf.hostCounters else (s.port (u - 0x100)).counters
  (t.at n).getD 0

/-- CNT_UNIT: FROZEN and PARITY (R578). -/
def State.counterUnit (s : State) (u : Nat) : Nat := bitOf (s.counterParity u) * 2 + bitOf (!s.unitRuns u)

/-- The counters of a cluster or a station (R578). -/
def State.counterFields (s : State) (u off : Nat) : Nat :=
  if off < 0x40 then s.counterOf u (off / 4) % 2 ^ 32 else if off = 0x200 then s.counterUnit u else 0

/-- The RO fields of an indirect register (R494). -/
def State.indFields (s : State) (a : Nat) : Nat :=
  let low := fun n => a % 2 ^ n / 4 * 4
  match a / 2 ^ 28 with
  | 1 => (s.core (bitsAt a 27 14)).fields (low 14)
  | 2 => s.clusterFields (bitsAt a 27 20) (low 20)
  | 3 => s.routerFields (bitsAt a 27 20) (low 20)
  | 4 => if bitsAt a 27 24 = 15 then s.hostFields (low 24) else (s.port (bitsAt a 27 24)).fields (low 24)
  | 5 => (s.port (bitsAt a 27 24)).laneFields (bitsAt a 23 22) (low 22)
  | 6 => (s.station (bitsAt a 27 24)).fields (low 24)
  | 7 =>
    let u := bitsAt a 25 12
    match bitsAt a 27 26 with
    | 0 => (s.core u).counter (low 12 / 4) % 2 ^ 32
    | 1 => s.counterFields u (low 12)
    | _ => s.counterFields (0x100 + u) (low 12)
  | _ => 0

/-! ### A register -/

/-- The stored bits of a register that a read shows: those of fields kept elsewhere do not count. -/
def RegDesc.kept (d : RegDesc) (key : Nat) : Nat :=
  if key = 0x03100C || key = 0x0B0000 || (0x030000 ≤ key && key < 0x031000 && key % 0x40 = 0x1C) then d.reserved
  else Nat.lor (Nat.lor d.rw d.rwl) d.reserved

/-- A word of the MSI-X table or of its pending bit array (R388). PRESUMED (log 58): the layout and the reset values of a PCIe MSI-X table,
whose vectors are masked after reset. -/
def State.msixWord (s : State) (key : Nat) : Nat :=
  if 0x0E0000 ≤ key && key < 0x0E0400 then s.regOr key (bitOf (key % 16 = 12))
  else if key = 0x0F0000 || key = 0x0F0004 then
    ((List.range 32).map fun i => bitOf (s.host.msixPend.contains ((key - 0x0F0000) * 8 + i)) * 2 ^ i).sum
  else 0

/-- What a register reads as: its stored bits, the shadow of a buffered one, and its RO fields (R471, R477). An offset that no register
occupies reads as 0. -/
def State.readReg (s : State) (key : Nat) : Nat :=
  match regDesc key with
  | none => s.msixWord key
  | some d => Nat.land (s.stored key) (d.kept key) + if key < 2 ^ 28 then s.bar0Fields key else s.indFields key

/-- A word of BAR0: of a register block on any of its pages, of the MSI-X table, or of its pending bit array (R388, R473). -/
def State.bar0Word (s : State) (offset : Nat) : Nat :=
  s.readReg (if offset < 0x0E0000 then offset - bitsAt offset 15 14 * 2 ^ 14 else offset)

/-- A word of BAR2: the doorbell page of a queue (R388, R391). -/
def State.bar2Word (s : State) (offset : Nat) : Nat :=
  let x := s.queue (offset / 0x1000)
  if 0x40000 ≤ offset then 0 else if offset % 0x1000 = 0 then x.sqTail else if offset % 0x1000 = 4 then x.cqHead else 0

/-- What a host read of n bytes of BAR0 or BAR2 is answered with: aligned 32-bit accesses, aligned 64-bit accesses as two of them, the lower
address first, and Unsupported Request for any other, or while the BARs do not answer (R386, R389). -/
def State.barRead (s : State) (bar2 : Bool) (offset n : Nat) : Reply :=
  let word := fun (o : Nat) => leBytes 4 (if bar2 then s.bar2Word o else s.bar0Word o)
  if !s.barsUp then .unsupported
  else if n = 4 && offset % 4 = 0 then .data (word offset)
  else if n = 8 && offset % 8 = 0 then .data (word offset ++ word (offset + 4))
  else .unsupported

end Sys2Proof.Machine
end

