-- ==== Sys2Proof/Machine/RegWrite.lean ====
section
/-! DEFINITION. Machine/RegWrite.lean: writes of registers through their pages, strobes, locks, and the indirect access (R472 to R487,
R489, R493 to R497, R517, R579, R581). -/

namespace Sys2Proof.Machine

/-! ### Parity of live copies when a register is read (R478, R483) -/

/-- A live copy that is read is checked: on a mismatch its function stops and the mismatch is reported (R478, R483, R518, R553,
R577). -/
def State.checkLive (s : State) (domain inst : Nat) : State :=
  if !s.liveBad domain inst then s
  else
    match domain with
    | 1 => s.checkQueue inst
    | 2 => s.checkWindow
    | 3 => if (s.core inst).kind = .fenced then s.parityReport 3 inst else ((s.fenceCore inst true false).1).parityReport 3 inst
    | 4 => if (s.port inst).state = .disabled then s.parityReport 4 inst else s.checkPort inst
    | 6 => s.checkSupply
    | 7 => if s.entropy.parityStop then s else s.parityEntropy
    | 8 => if inst = 0x200 then s.checkTag else s.checkCounters inst
    | d => s.parityReport d inst

/-! ### Strobes (R478 to R480) -/

/-- Whether the function of a domain instance runs, so that a strobe is refused (R370, R383, R398, R478, R518, R553, R577). -/
def State.functionRuns (s : State) (domain inst : Nat) : Bool :=
  match domain with
  | 1 => !s.queueStopped inst
  | 2 => s.regs.winOpen
  | 3 => match (s.core inst).slot with | some n => (s.slot n).active | none => false
  | 4 => match (s.port inst).state with | .training | .up | .retraining => true | _ => false
  | 5 => (s.port inst).state = .authenticating
  | 7 => s.entropy.state ≠ .stopped
  | 8 => if inst = 0x200 then s.perf.tagRun else s.unitRuns inst
  | _ => false

/-- A queue after an applied strobe: ERR, the pointers and the doorbells are 0; packets taken before complete in the journal only, and
WRITES starts again (R398, R401). -/
def Queue.strobed (x : Queue) : Queue :=
  { x with sqTail := 0, cqHead := 0, sqHead := 0, cqTail := 0, err := 0, fetchNext := 0, fetched := [], reserved := 0, writes := 0,
           generation := x.generation + 1, parityStop := false }

/-- A port follows the ENABLE that a strobe put into force (R336, R337). -/
def State.portStrobed (s : State) (p : Nat) : State :=
  let st := (s.port p).state
  if s.portEnabled p then (if st = .disabled then s.bringUp p else s)
  else if st = .disabled then s else s.stopPort p .disabled 0

/-- What an applied strobe does beside the copy (R101, R107, R398, R478, R518, R553, R577). -/
def State.strobed (s : State) (domain inst : Nat) : State :=
  match domain with
  | 1 => s.modQueue inst Queue.strobed
  | 2 => { s with regs := { s.regs with winParityStop := false } }
  | 3 => s.checkLanes inst
  | 4 => s.portStrobed inst
  | 6 => s.supplyStrobed
  | 7 => if s.entropy.parityStop && !s.entropyHeld then s.startEntropy
    else { s with entropy := { s.entropy with parityStop := false } }
  | 8 =>
    if inst = 0x200 then { s with perf := { s.perf with tagParity := false } }
    else if inst < 0x100 then s.modCluster inst fun c => { c with parityFrozen := false }
    else if inst = 0x10F then { s with perf := { s.perf with hostParity := false } }
    else s.modPort (inst - 0x100) fun p => { p with parityFrozen := false }
  | _ => s

/-- CFG_UPDATE: a strobe of one domain instance is applied or refused (R479). -/
def State.cfgUpdate (s : State) (v : Nat) : State :=
  let d := bitsAt v 31 16
  let i := v % 2 ^ 16
  match domainKeys d i with
  | none => s.rejectStrobe 4 (d % 256) i
  | some keys =>
    if s.functionRuns d i then s.rejectStrobe 1 d i
    else
      let reason := s.shadowReason d i
      if reason ≠ 0 then s.rejectStrobe reason d i else (s.copyShadows d i keys).strobed d i

/-! ### Writes of fields (R473 to R477, R484 to R486) -/

/-- The bits a write through a page asks for (R473). -/
def pageBits (page : Page) (old v : Nat) : Nat :=
  match page with
  | .value => v
  | .set => Nat.lor old v
  | .clear => Nat.land old (Nat.xor v 0xFFFFFFFF)
  | .toggle => Nat.xor old v

/-- The value with the bits of a mask taken from another (R473). -/
def merge (mask old new : Nat) : Nat := Nat.lor (Nat.land old (Nat.xor mask 0xFFFFFFFF)) (Nat.land new mask)

/-- The bits of a register that take writes now: RW always, RWL while its lock is clear, reserved ones until TEST_LOCK (R476, R484,
R536). -/
def State.writable (s : State) (d : RegDesc) : Nat :=
  Nat.lor d.rw (Nat.lor (if s.secLocked d.lock then 0 else d.rwl) (if s.secLocked 8 then 0 else d.reserved))

/-- The bits of a register that a lock keeps from being written now. -/
def State.lockedBits (s : State) (d : RegDesc) : Nat :=
  Nat.lor (if s.secLocked d.lock then d.rwl else 0) (if s.secLocked 8 then d.reserved else 0)

/-- The fields of a register that are buffered: all but HOLD (R477, R517). -/
def RegDesc.bufferedMask (d : RegDesc) (key : Nat) : Nat := if key = 0x08000C then Nat.lor d.rwl d.reserved else Nat.lor d.rw (Nat.lor d.rwl d.reserved)

/-- The stored bits of a register after a write through a page; a write that a lock ignored in whole or part counts (R485, R536), and
a reserved bit that takes another value than after reset is noted (R476). -/
def State.writeFields (s : State) (key : Nat) (d : RegDesc) (page : Page) (v : Nat) : State :=
  let old := s.stored key
  let want := pageBits page old v
  let new := merge (s.writable d) old want
  let s := if Nat.land (Nat.xor want old) (s.lockedBits d) = 0 then s else s.countLocked
  let s := if Nat.land (Nat.xor new (d.atReset key)) d.reserved = 0 then s else { s with regs := { s.regs with reservedTouched := true } }
  let touched := Nat.land (if page = .value then 0xFFFFFFFF else v) (s.writable d)
  if touched = 0 then s
  else s.writeStored key new (if Nat.land touched (d.bufferedMask key) = 0 then none else d.buffered)

/-- A field of W1C bits after a write through a page (R473). -/
def w1c (page : Page) (old v : Nat) : Nat :=
  match page with
  | .value | .clear => Nat.land old (Nat.xor v 0xFFFFFFFF)
  | _ => old

/-- A field of W1S bits after a write through a page (R473). -/
def w1s (page : Page) (old v : Nat) : Nat := match page with | .clear => old | _ => Nat.lor old v

/-- A record register whose VALID bit is cleared is released: its fields read 0 again, but for a bit that stays (R482, R483). -/
def released (keep w : Nat) : Nat := if bitAt w 31 = 1 then w else Nat.land w keep

/-! ### Effects of single registers -/

/-- IRQ_ENABLE: a bit newly enabled whose status bit is set sends a message (R497). -/
def State.irqEnabled (s : State) (old : Nat) : State :=
  (List.range 10).foldl (fun s n =>
    if bitAt old n = 0 && bitAt (s.regOr 0x020004 0) n = 1 && bitAt s.regs.irqStatus n = 1 then s.sendMsix (s.irqVector n) else s) s

/-- Every counter of every unit is cleared (R579). -/
def State.clearAllCounters (s : State) : State :=
  { s with
    clusters := s.clusters.map fun (p : Nat × Cluster) => (p.1, { p.2 with counters := [] })
    cores := s.cores.map fun p => (p.1, p.2.clearCounters)
    ports := s.ports.map fun (p : Nat × Port) => (p.1, { p.2 with counters := [] })
    perf := { s.perf with hostCounters := [] } }

/-- A write of CNT_CTRL: FREEZE_ALL, TAG_RUN and RB_RUN, and CLEAR_ALL through the value page (R473, R579, R581). -/
def State.writeCounterControl (s : State) (page : Page) (v : Nat) : State :=
  let p := s.perf
  let s := { s with perf := { p with
    freezeAll := pageBit page p.freezeAll (bitAt v 0 = 1), tagRun := pageBit page p.tagRun (bitAt v 1 = 1)
    rbRun := pageBit page p.rbRun (bitAt v 2 = 1) } }
  if page = .value && bitAt v 8 = 1 then s.clearAllCounters else s

/-- A host write of a lock register: TAKE or RELEASE with the tag; locks 0 to 15 are not the host's (R485, R487). -/
def State.writeLock (s : State) (n : Nat) (v : Nat) : State :=
  let tag := bitsAt v 23 16
  let r := s.regs
  if n < 16 then s.countLocked
  else
    match bitAt v 8, bitAt v 9, r.locks.at n with
    | 1, 0, none => { s with regs := { r with locks := r.locks.put n (1, tag) } }
    | 0, 1, some l => if l = (1, tag) then { s with regs := { r with locks := r.locks.del n } } else s
    | _, _, _ => s

/-- A write of MBX_SEL clears VALID; a capture under way was of the old selector and is abandoned (R489, R490). -/
def State.mailboxMoved (s : State) : State := { s with regs := { s.regs with mbxValid := false, mbxBusy := false } }

/-- CAPTURE: a capture of the named value starts; one under way is abandoned (R490). -/
def State.startCapture (s : State) : State :=
  { s with regs := { s.regs with mbxValid := false, mbxBusy := true, mbxErr := 0, mbxData := [] } }

/-- A write of WIN_CTRL: the window opens where its base meets the BAR4 size and no parity mismatch stopped it, or closes (R398,
R478). -/
def State.writeWindow (s : State) (page : Page) (v : Nat) : State :=
  let s := s.checkWindow
  let want := pageBit page s.regs.winOpen (bitAt v 0 = 1)
  { s with regs := { s.regs with winOpen := want && baseFits s.winBase s.platform.bar4Log2 && !s.regs.winParityStop } }

/-- The effect of a write on the fields that are not RW, and what a write of RW fields sets off. `old` is what the register's stored
bits were before. -/
def State.writeEffect (s : State) (key : Nat) (page : Page) (v old : Nat) : State :=
  let r := s.regs
  match key with
  | 0x010008 => { s with regs := { r with reject := BitVec.ofNat 32 (released (2 ^ 30) (w1c page r.reject.toNat (Nat.land v 0xC0000000))) } }
  | 0x010010 => { s with regs := { r with parityStatus := w1c page r.parityStatus (v % 2 ^ 16) } }
  | 0x010014 => { s with regs := { r with parityWhere := BitVec.ofNat 32 (released 0 (w1c page r.parityWhere.toNat (Nat.land v 0x80000000))) } }
  | 0x020000 => { s with regs := { r with irqStatus := w1c page r.irqStatus (v % 2 ^ 10) } }
  | 0x020004 => s.irqEnabled old
  | 0x03100C => s.writeWindow page v
  | 0x040000 => s.mailboxMoved
  | 0x040004 => if bitAt v 31 = 1 then s.startCapture else s
  | 0x05000C => { s with regs := { r with indErr := w1c page (bitOf r.indErr) (v % 2) = 1 } }
  | 0x060000 => { s with regs := { r with secLock := w1s page r.secLock (v % 2 ^ 10) } }
  | 0x08000C => if bitAt old 4 = bitAt (s.stored key) 4 then s else s.setHold (bitAt (s.stored key) 4 = 1)
  | 0x0B0000 => s.writeCounterControl page v
  | k =>
    if 0x030000 ≤ k && k < 0x031000 && k % 0x40 = 0x1C then
      let q := (k - 0x030000) / 0x40
      s.setRun q (pageBit page (s.queue q).run (bitAt v 0 = 1))
    else s

/-- A write of a register through a page, IND_DATA apart (R473 to R477). CFG_UPDATE, MBX_CTRL and the lock registers take it only
through the value page (R474). -/
def State.writeReg (s : State) (key : Nat) (page : Page) (v : Nat) : State :=
  if key = 0x010000 then (if page = .value then s.cfgUpdate v else s)
  else if 0x060100 ≤ key && key < 0x060180 then (if page = .value then s.writeLock ((key - 0x060100) / 4) v else s)
  else if key = 0x040004 && page ≠ .value then s
  else
    match regDesc key with
    | none => s
    | some d => let old := s.stored key; (s.writeFields key d page v).writeEffect key page v old

/-! ### Indirect access (R493 to R495) -/

/-- The register that IND_ADDR names. -/
def State.indKey (s : State) : Nat := s.regOr 0x050000 0 / 4 * 4

/-- The first check of an indirect access that fails, as LAST_ERR (R495). -/
def State.indFault (s : State) : Option Nat :=
  let a := s.regOr 0x050000 0
  let c := s.regOr 0x050004 0x200
  if (if a < 2 ^ 28 then none else indDesc a).isNone then some 1
  else if a % 4 ≠ 0 then some 2
  else if bitAt c 0 = 1 && !(2 ≤ bitsAt c 12 8 && bitsAt c 12 8 ≤ 27) then some 4
  else none

/-- An indirect access fails: ERR, ERRORS, LAST_ERR; a read gives all ones (R495). -/
def State.indFail (s : State) (err : Nat) (read : Bool) : State :=
  let r := s.regs
  { s with regs := { r with
      indErr := true, indLastErr := err, indErrors := satInc 0xFFFF r.indErrors, indData := if read then 0xFFFFFFFF else r.indData } }

/-- IND_ADDR advances after an access that succeeded (R495). -/
def State.indAdvance (s : State) : State :=
  let a := s.regOr 0x050000 0
  let c := s.regOr 0x050004 0x200
  if bitAt c 0 = 0 then s
  else
    let a' := a / 2 ^ 28 * 2 ^ 28 + (a % 2 ^ 28 + 2 ^ bitsAt c 12 8) % 2 ^ 28
    { s with regs := { s.regs with file := s.regs.file.put 0x050000 (BitVec.ofNat 32 a') } }

/-- The page that WRITE_OP stands for (R493). -/
def State.writeOp (s : State) : Page :=
  match bitsAt (s.regOr 0x050004 0x200) 17 16 with
  | 0 => .value
  | 1 => .set
  | 2 => .clear
  | _ => .toggle

/-- A read of IND_DATA (R495). A configuration register whose live copy fails its parity check ends it with LAST_ERR 5 (R483,
R493). -/
def State.indRead (s : State) : State :=
  match s.indFault with
  | some e => s.indFail e true
  | none =>
    let key := s.indKey
    let bad := match regDesc key with
      | some d => (match d.buffered with | some p => if s.liveBad p.1 p.2 then some p else none | none => none)
      | none => none
    match bad with
    | some p => (s.checkLive p.1 p.2).indFail 5 true
    | none => ({ s with regs := { s.regs with indData := BitVec.ofNat 32 (s.readReg key) } }).indAdvance

/-- A write of IND_DATA, performed under WRITE_OP (R495). -/
def State.indWrite (s : State) (v : Nat) : State :=
  match s.indFault with
  | some e => s.indFail e false
  | none => (s.writeReg s.indKey s.writeOp v).indAdvance

/-- IND_DATA_READ (R495). -/
def execIndDataRead (s : State) : Out := .next (if s.barsUp then s.indRead else s)

/-- IND_DATA_WRITE (R495). -/
def execIndDataWrite (v : Word) (s : State) : Out := .next (if s.barsUp then s.indWrite v.toNat else s)

/-- IND_NO_ANSWER: no answer within 50 µs (R495). -/
def execIndNoAnswer (write : Bool) (s : State) : Out := .next (if s.barsUp then s.indFail (s.indFault.getD 3) (!write) else s)

/-- SUP_ACCESS_TIMEOUT: a read returns all ones, a write is discarded, a contained error is logged, LAST_ERR stays (R472). -/
def execSupAccessTimeout (write : Bool) (s : State) : Out :=
  .next <|
    if !s.barsUp then s
    else
      let s := s.contained 0x0015 7 0
      if write then s else { s with reply := .data (List.replicate 4 0xFF) }

/-! ### Rows that are writes of one register -/

/-- A host write of a register of BAR0, while the BARs answer. -/
def State.hostReg (s : State) (key : Nat) (page : Page) (v : Word) : State := if s.barsUp then s.writeReg key page v.toNat else s

/-- RUN: Q_RUN of a queue (R398). -/
def execRun (queue : Nat) (page : Page) (v : Word) (s : State) : Out :=
  unit (decide (queue < 64)) s (.next (s.hostReg (queueKey queue 0x1C) page v))

/-- WIN_OPEN: WIN_CTRL (R398). -/
def execWinOpen (page : Page) (v : Word) (s : State) : Out := .next (s.hostReg 0x03100C page v)

/-- CFG_UPDATE (R479). -/
def execCfgUpdate (v : Word) (s : State) : Out := .next (s.hostReg 0x010000 .value v)

/-- MBX_SEL (R489). -/
def execMbxSel (page : Page) (v : Word) (s : State) : Out := .next (s.hostReg 0x040000 page v)

/-- CAPTURE: MBX_CTRL (R489, R490). -/
def execCapture (v : Word) (s : State) : Out := .next (s.hostReg 0x040004 .value v)

/-- TAKE (R487). -/
def execTake (lock : Nat) (v : Word) (s : State) : Out := unit (decide (lock < 32)) s (.next (s.hostReg (0x060100 + 4 * lock) .value v))

/-- RELEASE (R487). -/
def execRelease (lock : Nat) (v : Word) (s : State) : Out := unit (decide (lock < 32)) s (.next (s.hostReg (0x060100 + 4 * lock) .value v))

/-- A write of one bit of SEC_LOCK (R484). -/
def State.setLock (s : State) (n : Nat) (page : Page) : State := s.hostReg 0x060000 page (BitVec.ofNat 32 (2 ^ n))

/-- DEBUG_LOCK (R484, R535). -/
def execDebugLock (page : Page) (s : State) : Out := .next (s.setLock 9 page)
/-- TEST_LOCK (R484, R536). -/
def execTestLock (page : Page) (s : State) : Out := .next (s.setLock 8 page)
/-- COUNTER_LOCK (R484). -/
def execCounterLock (page : Page) (s : State) : Out := .next (s.setLock 7 page)
/-- ENTROPY_LOCK (R484). -/
def execEntropyLock (page : Page) (s : State) : Out := .next (s.setLock 6 page)
/-- SUPPLY_LOCK (R484). -/
def execSupplyLock (page : Page) (s : State) : Out := .next (s.setLock 5 page)
/-- CORD_LOCK (R484). -/
def execCordLock (page : Page) (s : State) : Out := .next (s.setLock 4 page)
/-- PORT_LOCK (R484). -/
def execPortLock (page : Page) (s : State) : Out := .next (s.setLock 3 page)
/-- CORE_LOCK (R484). -/
def execCoreLock (page : Page) (s : State) : Out := .next (s.setLock 2 page)
/-- WINDOW_LOCK (R484). -/
def execWindowLock (page : Page) (s : State) : Out := .next (s.setLock 1 page)
/-- QUEUE_LOCK (R484). -/
def execQueueLock (page : Page) (s : State) : Out := .next (s.setLock 0 page)

/-- IRQ_ENABLE (R496, R497). -/
def execIrqEnable (page : Page) (v : Word) (s : State) : Out := .next (s.hostReg 0x020004 page v)
/-- HOLD: ENT_CTRL (R517). -/
def execHold (page : Page) (v : Word) (s : State) : Out := .next (s.hostReg 0x08000C page v)
/-- CLEAR_ALL: CNT_CTRL (R579). -/
def execClearAll (page : Page) (v : Word) (s : State) : Out := .next (s.hostReg 0x0B0000 page v)
/-- FREEZE_ALL: CNT_CTRL (R579, R581). -/
def execFreezeAll (page : Page) (v : Word) (s : State) : Out := .next (s.hostReg 0x0B0000 page v)
/-- TAG_RUN: CNT_CTRL (R579). -/
def execTagRun (page : Page) (v : Word) (s : State) : Out := .next (s.hostReg 0x0B0000 page v)
/-- RB_RUN: CNT_CTRL (R579). -/
def execRbRun (page : Page) (v : Word) (s : State) : Out := .next (s.hostReg 0x0B0000 page v)

/-- MANAGEMENT_LOCK_ACCESS: management software takes a free lock, or frees one it holds with that tag; freeing lock 16 to 31 sets
LOCK_FREE (R487, R496). -/
def execManagementLockAccess (lock tag : Nat) (release : Bool) (s : State) : Out :=
  unit (decide (lock < 32)) s <| .next <|
    let r := s.regs
    if !s.platform.aux then s
    else
      match release, r.locks.at lock with
      | false, none => { s with regs := { r with locks := r.locks.put lock (3, tag % 256) } }
      | true, some l =>
        if l = (3, tag % 256) then
          let s := { s with regs := { r with locks := r.locks.del lock } }
          if 16 ≤ lock then s.raise 9 else s
        else s
      | _, _ => s

end Sys2Proof.Machine
end

