-- ==== Sys2Proof/Machine/Mailbox.lean ====
section
/-! DEFINITION. Machine/Mailbox.lean: the mailbox selectors and the end of a capture (R253, R264, R274, R333, R372, R384, R468, R489 to
R492, R519, R537, R554, R566, R580, R597). -/

namespace Sys2Proof.Machine

/-- What a selector gives: the failure code of ERR, 0 for none, and the words (R489). -/
abbrev Capture := Nat × List Nat

/-- A capture that fails: 1 unknown selector, 2 index out of range, 3 value not available now (R489). -/
def Capture.fail (err : Nat) : Capture := (err, [])

/-- A capture under an index check (R489). -/
def Capture.within (ok : Bool) (words : List Nat) : Capture := if ok then (0, words) else Capture.fail 2

/-- A 64-bit value as two words, the low one first (R9). -/
def word2 (v : Nat) : List Nat := [v % 2 ^ 32, v / 2 ^ 32 % 2 ^ 32]

/-- All ones: a 64-bit value that is not held. -/
def noWord2 : List Nat := [0xFFFFFFFF, 0xFFFFFFFF]

/-- A 64-bit value that may not be held. -/
def optWord2 (v : Option Nat) : List Nat := match v with | some v => word2 v | none => noWord2

/-- The words of a byte string, byte 0 in bits [7:0] of word 0. -/
def wordsOf (n : Nat) (bs : List Byte) : List Nat := (List.range n).map fun k => fieldAt bs (4 * k) 4

/-- A 32-bit two's-complement field. -/
def word32 (x : Int) : Nat := toField 32 x

/-! ### Configuration (R492) -/

/-- Instances of a domain that CFG_PENDING_LIST covers (R478, R577). -/
def domainSpan (domain : Nat) : Nat :=
  match domain with
  | 1 => 64
  | 2 => 1
  | 3 => 9216
  | 4 | 5 => 12
  | 6 | 7 => 1
  | 8 => 0x201
  | _ => 0

/-- CFG_PENDING_LIST (R492). -/
def State.capturePending (s : State) (d : Nat) : Capture :=
  let ps := s.regs.pendingCfg
  Capture.within (decide (1 ≤ d && d ≤ 8)) ((List.range ((domainSpan d + 31) / 32)).map fun k =>
    (List.range 32).foldl (fun a i => a + bitOf (ps.contains (d, 32 * k + i)) * 2 ^ i) 0)

/-- The live copy of a register as CFG_LIVE shows it; HOLD has one copy (R477, R492, R517). -/
def State.liveShown (s : State) (key : Nat) : Nat :=
  let v := s.liveOr key (match regDesc key with | some d => d.atReset key | none => 0)
  if key = 0x08000C then merge 0x10 v (s.stored key) else v

/-- CFG_LIVE: the copies are checked as they are read (R483, R492). -/
def State.captureLive (s : State) (i : Nat) : State × Capture :=
  let d := bitsAt i 23 16
  let inst := i % 2 ^ 16
  match domainKeys d inst with
  | none => (s, Capture.fail 2)
  | some keys => (s.checkLive d inst, (0, keys.map s.liveShown))

/-! ### Sweep clock, fingerprints, lock-step (R253, R264, R274) -/

/-- SWEEP_CORE (R253). -/
def State.captureCore (s : State) (c : Nat) : Capture :=
  let x := s.core c
  let l := x.launch
  let armed := match x.slot with
    | some n => let st := (s.slot n).state; l.armed && (st = .running || st = .stopping)
    | none => false
  let bits := bitOf armed * 2 ^ 5 + bitOf l.frozen * 2 ^ 6
  Capture.within (decide (c < 9216)) <|
    match x.slot, l.launched with
    | some _, some (e, p) => word2 e ++ [p % 16 + bitOf x.run.isSome * 2 ^ 4 + bits, 0]
    | _, _ => noWord2 ++ [0xF + bits, 0]

/-- SWEEP_SLOT (R253). -/
def State.captureSlot (s : State) (n : Nat) : Capture :=
  let x := s.slot n
  Capture.within (decide (n < 48)) (optWord2 x.completed ++ word2 x.epochLimit ++ optWord2 x.lastCapture)

/-- FINGERPRINT (R264). -/
def State.captureFingerprint (s : State) (i : Nat) : Capture :=
  let x := s.slot (i / 1024)
  let q := i % 1024
  let whole := match x.completed with
    | some e => (match x.fpE.find? fun f => f.1 = q && f.2.1 = e with | some f => word2 f.2.2 | none => noWord2) ++ word2 e
    | none => noWord2 ++ noWord2
  let last := match x.lastFp.find? fun f => f.1 = q with
    | some f => word2 f.2.2.2 ++ word2 f.2.1 ++ [f.2.2.1 % 16]
    | none => noWord2 ++ noWord2 ++ [0xFFFFFFFF]
  Capture.within (decide (i / 1024 < 48)) (whole ++ last)

/-- LOCKSTEP_REPORT (R274); with no report the value is not available. -/
def State.captureReport (s : State) (n : Nat) : Capture :=
  if 48 ≤ n then Capture.fail 2
  else
    match (s.slot n).lock with
    | none => Capture.fail 3
    | some k =>
      match k.report with
      | none => Capture.fail 3
      | some (e, p, q, cause, own, partner) =>
        (0, word2 e ++ [p % 16 + q % 1024 * 2 ^ 16, k.partner + k.port * 2 ^ 16 + cause * 2 ^ 24] ++ word2 own ++ word2 partner)

/-! ### Memory, fabric, cords (R333, R372, R384) -/

/-- SCRUB_RANGES (R333). -/
def MemStation.rangeWords (m : MemStation) : List Nat :=
  let e := fun (n : Nat) => m.ranges[n]?
  (List.range 16).flatMap (fun n => optWord2 ((e n).map fun r => r.1)) ++ (List.range 16).flatMap fun n => optWord2 ((e n).map fun r => r.2)

/-- MEM_ERR_LAST (R333). -/
def MemStation.errorWords (m : MemStation) : List Nat :=
  match m.errLast with
  | some (a, flags) => word2 a ++ [flags, 0]
  | none => noWord2 ++ noWord2

/-- Sixteen-bit entries, two per word, the lower one in bits [15:0] (R372). -/
def pairWords (t : Tbl Nat) (first n : Nat) : List Nat :=
  (List.range n).map fun k => (t.at (first + 2 * k)).getD 0 + 2 ^ 16 * (t.at (first + 2 * k + 1)).getD 0

/-- ROUTE_TABLE (R372). -/
def State.captureRoutes (s : State) (i : Nat) : Capture :=
  let f := s.fabric
  Capture.within (decide (i ≤ 16)) <|
    if i < 8 then pairWords f.groupRoute (32 * i) 16
    else if i < 16 then pairWords f.memberRoute (32 * (i - 8)) 16
    else pairWords f.bcastMask 0 7

/-! ### Journal, error log, maps (R468, R597) -/

/-- JOURNAL_POINTERS (R468). -/
def State.journalWords (s : State) : List Nat :=
  let os := s.openEntries
  let low := os.foldl (fun (a : Option Nat) o => some (match a with | some m => min m o.seq | none => o.seq)) none
  word2 s.arbiter.newest ++ word2 s.oldestSeq ++ optWord2 low ++ [os.length, 0]

/-- ERRLOG_POINTERS (R597). -/
def State.errorLogWords (s : State) : List Nat :=
  let n := s.host.errNewest
  word2 n ++ word2 (max 1 (n - (2 ^ 18 - 1))) ++ optWord2 s.host.errFatalSeq

/-- SPARE_MAP and FENCED_MAP (R597). -/
def State.mapWords (s : State) (kind : CoreKind) : List Nat :=
  (List.range 288).map fun k => (List.range 32).foldl (fun a i => a + bitOf ((s.core (32 * k + i)).kind = kind) * 2 ^ i) 0

/-! ### Counters, tags and the exact record buffer (R580, R584) -/

/-- The four counters of a core (R573, R580). -/
def Core.counterWords (c : Core) : List Nat := (List.range 4).flatMap fun n => word2 (c.counter n)

/-- CNT_UNIT (R580). -/
def State.captureUnit (s : State) (u : Nat) : Capture :=
  Capture.within (decide (u < 144 || (0x100 ≤ u && u < 0x10C) || u = 0x10F))
    ((List.range 16).flatMap (fun n => word2 (s.counterOf u n)) ++ [s.counterUnit u])

/-- The ring's entry k of the exact record buffer: entry (W − 1 − k) mod 4,096 counted back from the newest (R584). -/
def Perf.ringEntry (p : Perf) (k : Nat) : List Byte := (p.records[(p.rbWritten + 4095 - k % 4096) % 4096]?).getD (zeros 32)

/-- RB_PAGE (R580). -/
def State.capturePage (s : State) (page : Nat) : Capture :=
  Capture.within (decide (page < 64)) ((List.range 64).flatMap fun k => wordsOf 8 (s.perf.ringEntry (64 * page + k)))

/-! ### Supply, entropy, identity, management (R519, R537, R554, R566) -/

/-- SUP_TELEMETRY (R554). -/
def Supply.words (p : Supply) : List Nat :=
  [p.mainMv, p.p100, p.p1, p.capW + p.mgmtCapW * 2 ^ 16] ++ (List.range 4).map (fun n => word32 ((p.tj[n]?).getD 0)) ++
    [word32 p.inlet, word32 p.outlet] ++ word2 p.warns ++ word2 p.limited

/-- ENT_COUNTS (R519). -/
def Entropy.words (e : Entropy) : List Nat := word2 e.rawSamples ++ word2 e.conditioned ++ word2 e.discarded ++ word2 e.delivered

/-- ENT_RAW: 2,048 fresh samples of a pair, free values of the oscillators (R519). -/
def State.captureRaw (s : State) (pair : Nat) : State × Capture :=
  if 4 ≤ pair then (s, Capture.fail 2)
  else if s.testLocked || !s.pairEnabled pair || s.entropy.state = .stopped then (s, Capture.fail 3)
  else
    ({ s with free := s.free + 1, entropy := { s.entropy with rawSamples := s.entropy.rawSamples + 2048 } },
      (0, wordsOf 512 ((List.range 2048).map (Config.freeByte s.free))))

/-- BOOT_STATUS (R537). -/
def RootOfTrust.bootWords (r : RootOfTrust) : List Nat :=
  [bitOf r.runningB + 2 * bitOf r.imageA.valid + 4 * bitOf r.imageB.valid + 8 * bitOf r.running.trial + 16 * bitOf r.recovery,
    r.otpVersion, r.running.security, r.imageA.cause + r.imageB.cause * 2 ^ 8] ++ wordsOf 8 (pad32 r.running.digest)

/-- MG_CLOCK (R566). -/
def Mgmt.clockWords (m : Mgmt) : List Nat := word2 m.counter ++ [m.logSeq % 2 ^ 32, m.auxBoots % 2 ^ 16]

/-! ### Selectors (R491) -/

/-- The value that a selector and its index name (R490, R491). -/
def State.capture (s : State) (sel i : Nat) : State × Capture :=
  let only := fun (ws : List Nat) => (s, Capture.within (decide (i = 0)) ws)
  let station := i < 6 || i = 8 || i = 9
  match sel with
  | 0x08 => (s, s.capturePending i)
  | 0x09 => s.captureLive i
  | 0x10 => only (wordsOf 64 s.keyRecord)
  | 0x11 => only s.rot.bootWords
  | 0x21 => (s, s.captureCore i)
  | 0x22 => (s, s.captureSlot i)
  | 0x28 => (s, s.captureFingerprint i)
  | 0x29 => (s, s.captureReport i)
  | 0x30 => (s, Capture.within station (s.station i).rangeWords)
  | 0x31 => (s, Capture.within station (s.station i).errorWords)
  | 0x38 =>
    let p := s.port i
    (s, Capture.within (decide (i < 12)) (word2 p.sent ++ word2 p.accepted ++ word2 p.replayTotal ++ word2 p.flitsSent))
  | 0x39 => (s, s.captureRoutes i)
  | 0x3A =>
    (s, Capture.within (decide (i < 12)) (match (s.port i).cordRecord with
      | some r => wordsOf 16 r
      | none => List.replicate 16 0xFFFFFFFF))
  | 0x40 => only s.journalWords
  | 0x48 => only s.errorLogWords
  | 0x49 => only (s.mapWords .spare)
  | 0x4A => only (s.mapWords .fenced)
  | 0x50 => (s, Capture.within (decide (i < 9216)) ((s.core i).counterWords ++ [bitOf (!s.unitRuns (clusterOf i))]))
  | 0x51 => (s, s.captureUnit i)
  | 0x53 => (s, Capture.within (decide (i < 144)) ((List.range 64).flatMap fun c => (s.core (coreAt i c)).counterWords))
  | 0x54 => only (word2 s.perf.tagged ++ word2 s.perf.tagWritten ++ word2 s.perf.tagDropped)
  | 0x55 => (s, s.capturePage i)
  | 0x56 => only (word2 s.perf.rbWritten ++ word2 s.perf.rbMissed)
  | 0x60 => only s.supply.words
  | 0x64 => only s.entropy.words
  | 0x65 => s.captureRaw i
  | 0x68 => only s.mgmt.clockWords
  | _ => (s, Capture.fail 1)

/-- A capture ends: VALID and GEN, or ERR (R489, R490). -/
def State.captured (s : State) (c : Capture) : State :=
  let r := s.regs
  if c.1 = 0 then
    { s with regs := { r with mbxBusy := false, mbxValid := true, mbxErr := 0, mbxGen := (r.mbxGen + 1) % 256,
                              mbxData := c.2.map (BitVec.ofNat 32) } }
  else { s with regs := { r with mbxBusy := false, mbxErr := c.1 } }

/-- MAILBOX_CAPTURE_DONE: the capture under way completes or fails (R490). -/
def execMailboxCaptureDone (s : State) : Out :=
  .next <|
    if !s.regs.mbxBusy then s
    else
      let sel := s.regOr 0x040000 0
      let r := s.capture (bitsAt sel 31 24) (sel % 2 ^ 24)
      r.1.captured r.2

end Sys2Proof.Machine
end

