-- ==== Sys2Proof/Machine/Firmware.lean ====
section
/-! DEFINITION. Machine/Firmware.lean: the firmware image format and its checks (R525, R526, R528 to R530, R569). -/

namespace Sys2Proof.Machine

/-! ### The image (R525, R526) -/

/-- Bytes of an image slot: 28 MiB. -/
def imageSlotSize : Nat := 28 * 2 ^ 20

/-- An erased byte of the store reads as 0xFF. PRESUMED (log 66): what NOR flash holds when it is erased. -/
def erased : Background := fun _ => some 0xFF

/-- Bytes of the staged image slot. -/
def RootOfTrust.storeBytes (r : RootOfTrust) (a n : Nat) : List Byte := (Mem.read erased r.store a n).getD []

/-- The 2,048-byte header (R525). -/
def RootOfTrust.header (r : RootOfTrust) : List Byte := r.storeBytes 0 2048

/-- A component entry: KIND, OFFSET, SIZE, the zero field, and its SHA-256 (R525). -/
structure Component where
  kind : Nat
  offset : Nat
  size : Nat
  zero : Nat
  digest : List Byte
  deriving DecidableEq, Repr

/-- Component entry n of a header. -/
def componentOf (h : List Byte) (n : Nat) : Component :=
  let b := 64 + 48 * n
  { kind := fieldAt h b 4, offset := fieldAt h (b + 4) 4, size := fieldAt h (b + 8) 4, zero := fieldAt h (b + 12) 4,
    digest := slice h (b + 16) 32 }

/-- IMAGE_SIZE. -/
def imageSizeOf (h : List Byte) : Nat := fieldAt h 8 8

/-- Cause 1 does not hold: MAGIC, HEADER_VERSION, zero fields, IMAGE_SIZE (R526). -/
def headerForm (h : List Byte) : Bool :=
  fieldAt h 0 4 = 0x5746584C && fieldAt h 4 4 = 1 && imageSizeOf h ≤ imageSlotSize && slice h 36 28 = zeros 28 &&
    slice h 1220 60 = zeros 60 && slice h 1664 384 = zeros 384

/-- FW_ROOT_MODULUS (R525). -/
def modulusOf (h : List Byte) : Nat := beNat (slice h 832 384)
/-- FW_ROOT_EXPONENT. DEDUCED (log 67): big-endian, as the whole public key is (R525). -/
def exponentOf (h : List Byte) : Nat := beNat (slice h 1216 4)

/-- Whether two ranges share no byte. -/
def apart (a b : Component) : Bool := a.offset + a.size ≤ b.offset || b.offset + b.size ≤ a.offset

/-- Cause 5 does not hold: the component table rules (R525). -/
def componentsGood (h : List Byte) : Bool :=
  let c := (List.range 4).map (componentOf h)
  fieldAt h 32 4 = 4 && ([1, 2, 3, 4].all fun k => (c.filter fun x => x.kind = k).length = 1) &&
    (c.all fun x => x.zero = 0 && x.offset + x.size ≤ imageSizeOf h) &&
    ((List.range 4).all fun i => (List.range i).all fun j => apart (componentOf h i) (componentOf h j)) &&
    slice h (64 + 192) 576 = zeros 576

/-- The first of causes 1 to 5 that a header fails, 0 for none (R526). -/
def RootOfTrust.headerCause (r : RootOfTrust) : Nat :=
  let h := r.header
  if !headerForm h then 1
  else if sha256 (spki (modulusOf h) (exponentOf h)) ≠ pad32 (Config.keyBytes 7) then 2
  else if !rsaVerify (modulusOf h) (exponentOf h) (h.take 1280) (slice h 1280 384) then 3
  else if fieldAt h 16 4 < r.otpVersion then 4
  else if !componentsGood h then 5
  else 0

/-- The first of causes 1 to 6 that the whole image fails, 0 for none (R526). -/
def RootOfTrust.imageCause (r : RootOfTrust) : Nat :=
  let c := r.headerCause
  if c ≠ 0 then c
  else if ((List.range 4).map (componentOf r.header)).all fun x => sha256 (r.storeBytes x.offset x.size) = x.digest then 0
  else 6

/-! ### The two image slots -/

/-- Changes the image that does not run. -/
def RootOfTrust.modOther (r : RootOfTrust) (f : FwImage → FwImage) : RootOfTrust :=
  if r.runningB then { r with imageA := f r.imageA } else { r with imageB := f r.imageB }

/-- Changes the image that runs. -/
def RootOfTrust.modRunning (r : RootOfTrust) (f : FwImage → FwImage) : RootOfTrust :=
  if r.runningB then { r with imageB := f r.imageB } else { r with imageA := f r.imageA }

/-- What an image slot is once its image passed every check (R268, R414, R525, R526). -/
def imageOf (h : List Byte) : FwImage :=
  { valid := true, confirmed := false, trial := false, security := fieldAt h 16 4, results := fieldAt h 20 4, build := fieldAt h 24 8,
    digest := sha256 (h.take 1280), cause := 0, staging := false }

/-- Writes a FW record: an event (1 stage opened, 3 verified, 4 failed, 5 TRIAL set, 6 confirmed, 7 reverted), the image, a cause; it sets
FW_EVENT (R562, R567). DESIGN CHOICE (log 65): the layout of DATA. -/
def State.fwLog (s : State) (event : Nat) (imageB : Bool) (cause : Nat) : State :=
  (s.mgLog 0x06 true (leBytes 1 event ++ leBytes 1 (bitOf imageB) ++ leBytes 1 cause)).mgRaise 9

/-- Writes a BOOT record (R567). DESIGN CHOICE (log 65): the layout of DATA. -/
def State.bootLog (s : State) : State :=
  let r := s.rot
  s.mgLog 0x01 true (leBytes 1 (bitOf r.runningB) ++ leBytes 1 r.imageA.cause ++ leBytes 1 r.imageB.cause ++
    leBytes 1 r.running.security ++ leBytes 1 r.otpVersion)

/-- A TRIAL image that did not reach confirmation is given up: cause 7, and the other image is to run (R526, R528). -/
def State.giveUpTrial (s : State) : State :=
  let r := s.rot
  if r.running.trial then
    let b := r.runningB
    let r := r.modRunning fun x => { x with trial := false, valid := false, cause := 7 }
    ({ s with rot := { r with runningB := !b } }).fwLog 7 b 7
  else s

/-- HOST_READY confirms a TRIAL image; the OTP counter follows its SECURITY_VERSION (R528, R530). -/
def State.confirmTrial (s : State) : State :=
  let r := s.rot
  if r.running.trial then
    let r := r.modOther fun x => { x with confirmed := false }
    let r := r.modRunning fun x => { x with trial := false, confirmed := true }
    ({ s with rot := { r with otpVersion := max r.otpVersion (min 64 r.running.security) } }).fwLog 6 r.runningB 0
  else s

/-- The images in the order in which the mask ROM tries them: the TRIAL image, else the confirmed one, then the other
(R527). Answers false for image A and true for image B. -/
def RootOfTrust.tryOrder (r : RootOfTrust) : List Bool :=
  let first := if r.imageA.trial then false else if r.imageB.trial then true else if r.imageB.confirmed then true else false
  [first, !first].filter fun b => if b then r.imageB.valid else r.imageA.valid

/-- Boot of the module controller chip: the first image whose header passes runs, a failing one takes its cause; with none the
module is in recovery (R527, R529). -/
def RootOfTrust.boot (r : RootOfTrust) (causeA causeB : Nat) : RootOfTrust :=
  let cause := fun (b : Bool) => if b then causeB else causeA
  let fail := fun (r : RootOfTrust) (b : Bool) =>
    let f := fun (x : FwImage) => { x with valid := false, trial := false, cause := cause b }
    if b then { r with imageB := f r.imageB } else { r with imageA := f r.imageA }
  let os := r.tryOrder
  let bad := os.takeWhile fun b => cause b ≠ 0
  let r := bad.foldl fail r
  match os.drop bad.length with
  | b :: _ => { r with runningB := b, recovery := false, bootVerified := false }
  | [] => { r with recovery := true, bootVerified := false }

end Sys2Proof.Machine
end

