-- ==== Sys2Proof/Machine/Reset.lean ====
section
/-! DEFINITION. Machine/Reset.lean: start-up and the resets: what each preserves and what it puts back (R35, R319, R320, R408, R466, R471,
R527 to R530, R545 to R547, R598 to R607). -/

namespace Sys2Proof.Machine

/-- The kinds of reset that hold the compute package with its supplies up (R602). -/
inductive ResetKind where
  | warm
  | module
  deriving DecidableEq, Repr

/-- Detail byte 17 of what a reset ends (R466, R604). -/
def ResetKind.detail : ResetKind → Nat
  | .warm => 0xFD
  | .module => 0xFC

/-! ### Registers (R471, R602, R603) -/

/-- The bits of a register that a warm or a module reset keeps: RWL fields through a warm reset, ENABLE of a port through both
(R603). -/
def keptBits (k : ResetKind) (key : Nat) : Nat :=
  match regDesc key with
  | none => 0
  | some d =>
    match k with
    | .warm => d.rwl
    | .module => if (List.range 12).any fun p => key = portCtrlKey p then 1 else 0

/-- The bits of a register that an FLR keeps: all but those of the host interface (R408, R471). -/
def keptByFlr (key : Nat) : Nat :=
  let lost := key = 0x020004 || (0x020010 ≤ key && key ≤ 0x020018) || (0x030000 ≤ key && key < 0x032000) ||
    (0x040000 ≤ key && key < 0x060000) || (0x0E0000 ≤ key && key < 0x100000)
  if lost then (match regDesc key with | some d => d.rwl | none => 0) else 0xFFFFFFFF

/-- A register table of which only the bits of a mask are kept; what keeps none goes back to its reset value. -/
def keepBits (mask : Nat → Nat) (t : Tbl Word) : Tbl Word :=
  t.filterMap fun p =>
    let m := mask p.1
    let reset := match regDesc p.1 with | some d => d.atReset p.1 | none => 0
    if m = 0 then none else some (p.1, BitVec.ofNat 32 (merge m reset p.2.toNat))

/-- A strobe stays pending only where a kept shadow differs from its live copy (R408, R482, R603). -/
def Regs.stillPending (r : Regs) (p : Nat × Nat) : Bool :=
  let v := fun (t : Tbl Word) (k : Nat) => match t.at k with
    | some w => w.toNat
    | none => match regDesc k with | some d => d.atReset k | none => 0
  match domainKeys p.1 p.2 with
  | some keys => keys.any fun k => v r.file k ≠ v r.live k
  | none => false

/-- The register file with its tables cut down to the bits kept. -/
def Regs.cut (r : Regs) (mask : Nat → Nat) : Regs :=
  let r := { r with file := keepBits mask r.file, live := keepBits mask r.live }
  { r with pendingCfg := r.pendingCfg.filter r.stillPending }

/-- Lock registers that the control plane holds are released; those of management stay (R35). -/
def Regs.freeLocks (r : Regs) : Tbl (Nat × Nat) := r.locks.filter fun p => p.2.1 = 3

/-- The host's register file after a warm or a module reset: SEC_LOCK, LOCK_WRITES and the counts since module reset stay through a
warm one (R482, R484, R486, R493, R603). -/
def Regs.restart (r : Regs) (k : ResetKind) : Regs :=
  let c := r.cut (keptBits k)
  let fresh := { Regs.reset with file := c.file, live := c.live, pendingCfg := c.pendingCfg, locks := r.freeLocks }
  match k with
  | .warm => { fresh with secLock := r.secLock, lockWrites := r.lockWrites, rejects := r.rejects, indErrors := r.indErrors }
  | .module => fresh

/-! ### Units that restart (R603, R604) -/

/-- A core after a warm or a module reset: it holds nothing; the fence map, the lanes, and through a warm reset its counters and what
module reset clears, stay (R105, R303, R603). -/
def Core.restart (c : Core) (k : ResetKind) : Core :=
  let x := { Core.idle c.kind with laneOk := c.laneOk, colander := c.colander }
  match k with
  | .warm => { x with tableParity := c.tableParity, fencedAnswers := c.fencedAnswers, retired := c.retired, wasted := c.wasted,
                      front := c.front, back := c.back, lfsr := c.lfsr }
  | .module => x

/-- A cluster after a warm or a module reset (R192, R193, R219, R220, R252, R301, R302, R576, R587). -/
def Cluster.restart (c : Cluster) (k : ResetKind) : Cluster :=
  match k with
  | .warm => { Cluster.idle with
      sieveParity := c.sieveParity, sieveOut := c.sieveOut, sieveServed := c.sieveServed, spillLarder := c.spillLarder
      spillSlice := c.spillSlice, combined := c.combined, overcount := c.overcount, poolPeak := c.poolPeak, corrected := c.corrected
      poisoned := c.poisoned, counters := c.counters, retiredSlices := c.retiredSlices }
  | .module => Cluster.idle

/-- A memory station after a warm or a module reset: in self-refresh until it has trained, its scrub ranges kept (R332, R333, R603,
R605). -/
def MemStation.restart (m : MemStation) (k : ResetKind) : MemStation :=
  let x := { MemStation.idle with trained := false, selfRefresh := true, ranges := m.ranges }
  match k with
  | .warm => { x with corrected := m.corrected, uncorrectable := m.uncorrectable, peak := m.peak, scrubUncorr := m.scrubUncorr,
                      laps := m.laps, errLast := m.errLast }
  | .module => x

/-- A fabric port after a warm or a module reset: down until its bring-up, with its cord and, through a warm reset, its counts (R370 to
R372, R603). -/
def Port.restart (x : Port) (k : ResetKind) : Port :=
  let y := { Port.idle with cordPresent := x.cordPresent, cordKind := x.cordKind, cordRecord := x.cordRecord, vcordOff := x.vcordOff }
  match k with
  | .warm => { y with
      cwCorrected := x.cwCorrected, framesUncorr := x.framesUncorr, replayed := x.replayed, retrains := x.retrains, downs := x.downs
      peak := x.peak, hopLimit := x.hopLimit, routeErr := x.routeErr, poisonHead := x.poisonHead, late := x.late, sent := x.sent
      accepted := x.accepted, replayTotal := x.replayTotal, flitsSent := x.flitsSent, laneSym := x.laneSym, laneUncorr := x.laneUncorr
      counters := x.counters }
  | .module => y

/-- A slot that a warm or a module reset ended: its CHECKPOINT area and CHECKPOINT_READY stay (R604). -/
def Slot.ended (x : Slot) : Slot := { Slot.empty with ckptFilled := x.ckptFilled, ckptReady := x.ckptReady }

/-- The resume epoch of a slot that a reset ends (R604). -/
def Slot.resumeEpoch (x : Slot) : Nat := match x.completed with | some e => e + 1 | none => x.resume

/-- The entropy source held in reset; its counts since module reset stay through a warm one (R515, R519, R603). -/
def Entropy.restart (e : Entropy) (k : ResetKind) : Entropy :=
  let x := { Entropy.startup with state := .stopped }
  match k with
  | .warm => { x with failsStartup := e.failsStartup, rawSamples := e.rawSamples, conditioned := e.conditioned, discarded := e.discarded,
                      delivered := e.delivered }
  | .module => x

/-- The host station after a warm or a module reset; the log's pointers stay, its counts only through a warm one (R407, R502, R585,
R603). -/
def HostStation.restart (h : HostStation) (k : ResetKind) : HostStation :=
  let x := { HostStation.idle with mem := h.mem, msix := h.msix, errNewest := h.errNewest, errFatalSeq := h.errFatalSeq }
  match k with
  | .warm => { x with peak := h.peak, errCorrected := h.errCorrected, errContained := h.errContained, errFatal := h.errFatal,
                      errFirst := h.errFirst }
  | .module => x

/-- Counter control after a warm or a module reset (R579, R603). -/
def Perf.restart (p : Perf) (k : ResetKind) : Perf :=
  match k with
  | .warm => { p with freezeAll := false, tagRun := false, rbRun := true, hostRunning := true, hostParity := false, tagParity := false }
  | .module => Perf.reset

/-- The arbiter after a reset: no order, no read of host memory; the sequence goes on, and the orders of management that no pass took
wait on (R403, R466). -/
def Arbiter.restart (a : Arbiter) : Arbiter :=
  { Arbiter.idle with nextId := a.nextId, nextRead := a.nextRead, newest := a.newest, noted := a.noted, mgmt := a.mgmt
                      reads := a.reads.filter fun r => r.2.ofMgmt }

/-- The fabric after a reset that keeps the module ID and the routing table (R603). -/
def Fabric.restart (f : Fabric) : Fabric :=
  { Fabric.idle with moduleId := f.moduleId, groupRoute := f.groupRoute, memberRoute := f.memberRoute, bcastMask := f.bcastMask
                     nextTag := f.nextTag }

/-- The root of trust when the control plane restarts: no request of it waits, no control core is under debug (R531, R535). -/
def RootOfTrust.restart (r : RootOfTrust) : RootOfTrust :=
  { r with signing := [], bootVerified := false, debugHalted := r.debugHalted.filter (fun t => t = 4)
           debugMem := r.debugMem.filter fun p => p.1 = 4 }

/-- Upsets that a reset leaves: those of lines; of configuration through a warm reset (R603). -/
def Upset.stays (k : ResetKind) : Upset → Bool
  | .line _ | .lineSymbol _ | .lineMis _ _ | .larderWord _ | .linkError _ | .logistic _ | .weight _ => true
  | .cfgShadow _ _ | .cfgLive _ _ => k = .warm
  | .coreWord _ _ _ | .instrWord _ _ _ | .sliceWord _ _ => false

/-! ### Ending what runs (R450, R466, R604) -/

/-- Every open order ends ABORTED without a status entry (R466). -/
def State.abortOpen (s : State) (detail : Nat) : State :=
  s.arbiter.orders.foldl (fun s o => s.finish { o with statusDue := false } (Ending.aborted detail)) s

/-- A slot that is not EMPTY ends: the other parts of its model get the FAULT notice, the first pass journals it (R450, R465,
R604). -/
def State.endSlot (k : ResetKind) (s : State) (n : Nat) : State :=
  let x := s.slot n
  if x.state = .empty then s
  else
    let s := s.note { opcode := 0xC0, target := n, status := 0x05, detail := k.detail, result := x.resumeEpoch }
    ((s.partSlots n).filter fun p => p ≠ (s.fabric.moduleId, n)).foldl (fun s p => s.send (.fault p.2 p.1 0x05)) s

/-- Every slot that is not EMPTY ends. -/
def State.endSlots (s : State) (k : ResetKind) : State := (List.range 48).foldl (State.endSlot k) { s with net := [] }

/-! ### Warm and module reset (R602 to R607) -/

/-- The compute package goes into a warm or a module reset (R603 to R605, R607). `boot` says how far the reset has come. -/
def State.restart (s : State) (k : ResetKind) (boot : Boot) (aligned : Bool) : State :=
  let s := (s.abortOpen k.detail).endSlots k
  let p := s.platform
  { s with
    platform := { p with
      boot := boot, lastReset := (match k with | .warm => 3 | .module => 2), alignedStart := false, alignedWait := aligned
      alignedEdge := false, fifoFill := 0, hbmTrained := false, larderTrained := false, fatal := p.fatal && k = .warm, linkSpeed := 0
      linkWidth := 0, linkFlit := false, d3hot := false, bar4Log2 := 36, pcie := PcieControl.reset }
    regs := s.regs.restart k
    queues := []
    arbiter := s.arbiter.restart
    slots := s.slots.map fun (x : Nat × Slot) => (x.1, x.2.ended)
    cores := s.cores.map fun (x : Nat × Core) => (x.1, x.2.restart k)
    clusters := s.clusters.map fun (x : Nat × Cluster) => (x.1, x.2.restart k)
    mem := s.mem.filter fun c => c.1 < sliceBase
    stations := memStations.map fun n => (n, (s.station n).restart k)
    ports := s.ports.map fun (x : Nat × Port) => (x.1, x.2.restart k)
    fabric := s.fabric.restart
    rot := s.rot.restart
    entropy := s.entropy.restart k
    perf := s.perf.restart k
    host := s.host.restart k
    upsets := s.upsets.filter (Upset.stays k) }

/-- A module reset puts the supply block's registers back; its counts since module reset are 0 (R552, R554, R603). -/
def State.supplyRestart (s : State) : State :=
  (s.supplyStep fun s => { s with supply := { s.supply with safeDefaults := false } }) |> fun s =>
    { s with supply := { s.supply with warns := 0, limited := 0 } }

/-- The endpoint of the management port goes back to its reset values; orders already taken get no status entry (R557). -/
def State.resetEndpoint (s : State) : State :=
  let m := s.mgmt
  { s with
    mgmt := { m with sqBase := 0, cqBase := 0, sizeLog2 := 4, run := false, sqTail := 0, cqHead := 0, sqHead := 0, cqTail := 0, fetchNext := 0,
                     err := 0, ringSq := 0, ringCq := 0, ringLog2 := 0, events := 0, enable := 0x3FF, fetched := []
                     generation := m.generation + 1 }
    arbiter := { s.arbiter with reads := s.arbiter.reads.filter fun r => !r.2.ofMgmt } }

/-- The module controller chip restarts: its endpoint resets, what it had taken and not passed on is gone, its lock registers are
free; its log, cap and counter survive (R35, R603). DESIGN CHOICE (log 68). -/
def State.restartChip (s : State) : State :=
  let s := s.resetEndpoint
  ({ s with
    mgmt := { s.mgmt with alone := [] }
    arbiter := { s.arbiter with mgmt := [] }
    regs := { s.regs with locks := [] }
    rot := { s.rot with debugHalted := [], debugMem := [] }
    supply := { s.supply with samples := [], sumMw := 0, sumCount := 0, lowRun := 0, coolRun := 0, sinceCut := 0 } }).bootLog

/-- A module reset that first restarts the module controller chip: MG_FW_ACTIVATE and the revert of a TRIAL image (R602). -/
def State.moduleRestart (s : State) : State := ((s.restart .module .bist false).supplyRestart).restartChip

/-- A warm or a module reset is asked for. During a TRIAL before confirmation it becomes the revert of that image (R528). -/
def State.resetModule (s : State) (k : ResetKind) (boot : Boot) (aligned : Bool) : State :=
  if s.rot.running.trial then s.giveUpTrial.moduleRestart
  else
    match k with
    | .warm => s.restart .warm boot aligned
    | .module => (s.restart .module boot aligned).supplyRestart

/-! ### Loss of MAIN_54V (R545 to R547, R603) -/

/-- What management ordered and waits in the control plane when MAIN_54V goes: a power cap is taken alone, every other order completes
BAD_STATE (R34, R546, R547, R561). -/
def State.dropOrders (s : State) : State :=
  let os := (s.arbiter.orders.filter fun o => o.source = 0x80) ++ s.arbiter.mgmt
  let caps := (os.filter fun o => o.opcode = 0x81).map fun o => { o with seq := 0, started := false }
  let s := { s with arbiter := { s.arbiter with orders := [], mgmt := [] }, mgmt := { s.mgmt with alone := s.mgmt.alone ++ caps } }
  (os.filter fun o => o.opcode ≠ 0x81).foldl (fun s o => s.finish { o with seq := 0 } (Ending.badState)) s

/-- All that hangs on MAIN_54V is lost (R319, R352, R462, R546, R603). -/
def State.powerLoss (s : State) : State :=
  let s := s.dropOrders
  { s with
    platform := { s.platform with
      rails := false, boot := .off, alignedStart := false, alignedWait := false, alignedEdge := false, fifoFill := 0, everTrained := false
      hbmTrained := false, larderTrained := false, fatal := false, linkSpeed := 0, linkWidth := 0, linkFlit := false, d3hot := false
      bar4Log2 := 36, pcie := PcieControl.reset }
    regs := { Regs.reset with locks := s.regs.freeLocks }
    queues := [], slots := [], cores := [], clusters := [], mem := [], net := [], upsets := []
    arbiter := { Arbiter.idle with nextId := s.arbiter.nextId, nextRead := s.arbiter.nextRead
                                   reads := s.arbiter.reads.filter fun r => r.2.ofMgmt }
    stations := memStations.map fun n => (n, { MemStation.idle with trained := false })
    ports := s.ports.map fun (x : Nat × Port) => (x.1, x.2.restart .module)
    fabric := Fabric.idle
    rot := s.rot.restart
    entropy := { Entropy.startup with state := .stopped }
    perf := Perf.reset
    host := { HostStation.idle with mem := s.host.mem, msix := s.host.msix }
    mgmt := { s.mgmt with counterCopy := 0, seenReady := 0, seenFatal := 0, seenFault := 0, seenPort := 0, countReady := 0
                          countFatal := 0, countFault := 0, countPort := 0 } }

/-- The rails are switched off: the MAIN record and MAIN_CHANGE (R562, R567). -/
def State.powerOff (s : State) : State :=
  let s := s.powerLoss
  (s.mgLog 0x08 true (leBytes 1 0)).mgRaise 7

/-- The supervisor's state at a start from MAIN_54V: CAP and THERMAL at 0.85 V, the management cap kept (R541, R548, R549, R601). -/
def Supply.restart (p : Supply) : Supply := { Supply.idle with mgmtCapW := p.mgmtCapW, vcoreMv := 0
                                                               mainMv := p.mainMv, auxMv := p.auxMv, tj := p.tj, inlet := p.inlet
                                                               outlet := p.outlet }

/-- The SUPPLY record's DATA: cause, MAIN_54V, hottest Tj, APPLIED_MV, P100 in W (R545, R567). DESIGN CHOICE (log 65): its layout. -/
def State.supplyData (s : State) (cause : Nat) : List Byte :=
  let p := s.supply
  leBytes 1 cause ++ zeros 1 ++ leBytes 4 p.mainMv ++ leBytes 2 (toField 16 (hottest p.tj)) ++ leBytes 2 p.appliedMv ++
    leBytes 2 (p.p100 / 1000)

/-- A supply reset (R545, R546); it ends whatever reset was under way (R606). -/
def State.supplyReset (s : State) (cause : Nat) : State :=
  if !s.platform.rails then s
  else
    let data := s.supplyData cause
    let trial := s.rot.running.trial
    let s := if trial then s.giveUpTrial else s
    let s := ((s.mgLog 0x02 true data).mgRaise 5).powerOff
    let s := if trial then s.restartChip else s
    { s with
      platform := { s.platform with vsagLow := true, lastReset := 1 }
      supply := { s.supply.restart with mainOk := cause ≠ 1 } }

/-- VSAG_RESET (R543, R545). -/
def execVsagReset (s : State) : Out := .next (s.checkSupply.supplyReset 1)
/-- VCORE_LOW (R544). -/
def execVcoreLow (s : State) : Out := .next (s.supplyReset 2)
/-- THERMAL_TRIP (R550). -/
def execThermalTrip (s : State) : Out := .next (s.supplyReset 3)
/-- MAIN_54V_HIGH (R544). -/
def execMain54vHigh (s : State) : Out := .next (s.supplyReset 4)

/-! ### Supplies (R527, R529, R547, R598, R599) -/

/-- AUX_3V3_LOSS: the supervisor stops, every rail goes off (R547, R568). -/
def execAux3v3Loss (s : State) : Out :=
  .next <|
    if !s.platform.aux then s
    else
      let s := s.powerLoss
      { s with
        platform := { s.platform with aux := false, mgmtReady := false }
        mgmt := { s.mgmt with run := false, alone := [], fetched := [], log := [] } }

/-- The newest SEQ of the persistent log (R568). -/
def Mgmt.lastSeq (m : Mgmt) : Nat := match m.persistent.getLast? with | some r => fieldAt r 4 4 | none => 0

/-- AUX_3V3_VALID: a cold start boots the module controller chip; `boot` is what the mask ROM finds in each image (R527, R529,
R566, R568, R599, R602). -/
def execAux3v3Valid (boot : BootOutcome) (s : State) : Out :=
  .next <|
    if s.platform.aux then s
    else
      let s := s.giveUpTrial
      let rot := s.rot.boot boot.causeA boot.causeB
      let stop := fun (x : FwImage) => { x with staging := false }
      let rot := { rot with imageA := stop rot.imageA, imageB := stop rot.imageB, stageOpen := false, stageRanges := [], debugHalted := []
                            debugMem := [] }
      let m := s.mgmt
      let s := { s with
        platform := { s.platform with aux := true, mgmtReady := !rot.recovery, lastReset := 0, vsagLow := false }
        rot := rot
        regs := { s.regs with locks := [] }
        supply := { Supply.idle with vcoreMv := 0 }
        arbiter := { s.arbiter with reads := [] }
        mgmt := { Mgmt.idle with events := 0, log := [], persistent := m.persistent, logSeq := m.lastSeq, auxBoots := m.auxBoots + 1
                                 countReady := 0, generation := m.generation + 1, msix := m.msix, dest := m.dest } }
      s.bootLog

/-- A core that fails CORE_BIST at a start: an enabled one is fenced and replaced, a spare leaves the pool, one that is OFF stays OFF
(R594, R599). `failed` are the cores that failed. -/
def State.bistFail (failed : List Nat) (s : State) (c : Nat) : State :=
  let x := s.core c
  let out := fun (s : State) => s.setCore c { x with kind := .fenced, colander := true }
  match x.kind with
  | .off | .fenced => s
  | .spare => out s
  | .enabled =>
    match nearest (clusterOf c) ((List.range 9216).filter fun d => (s.core d).kind = .spare && !failed.contains d) with
    | some d => (out s).modCore d fun y => { y with kind := .enabled }
    | none => out s

/-- The cores' self-test of step 3: LANE_OK of every core, and the failures, a core with no working lane among them (R101, R107,
R599). -/
def State.bistDone (s : State) (b : BistOutcome) : State :=
  let s := { s with cores := s.cores.map fun (p : Nat × Core) => (p.1, { p.2 with laneOk := 0xFF }) }
  let s := b.lanes.foldl (fun s l => if l.1 < 9216 then s.modCore l.1 fun x => { x with laneOk := l.2 } else s) s
  let failed := b.failed ++ (b.lanes.filter fun l => l.2 = 0#8).map fun l => l.1
  (failed.filter fun c => c < 9216).foldl (State.bistFail failed) s

/-- CP or PHY fails its digest: cause 6. A TRIAL image is reverted; else the other image boots, or with none the module is in
recovery (R526 to R529). DESIGN CHOICE (log 64): what follows for an image that is not TRIAL. -/
def State.fetchFailed (s : State) : State :=
  if s.rot.running.trial then s.giveUpTrial.moduleRestart
  else
    let r := s.rot.modRunning fun x => { x with valid := false, cause := 6 }
    let r := if r.other.valid then { r with runningB := !r.runningB } else { r with recovery := true }
    let s := { s with rot := r }
    if r.recovery then
      let s := s.powerOff
      { s with platform := { s.platform with mgmtReady := false } }
    else s.moduleRestart

/-- Step 3 of R599 ends: cores tested, CP and PHY verified; then the entropy sources start, the memories train, and enabled ports
repeat their bring-up (R527, R599, R603). -/
def State.stepThree (s : State) (b : BistOutcome) : State :=
  if !b.fwGood then (s.bistDone b).fetchFailed
  else
    let s := s.bistDone b
    let s := { s with platform := { s.platform with boot := .training }, rot := { s.rot with bootVerified := true } }
    let s := s.startEntropy
    (List.range 12).foldl (fun s p => if s.portEnabled p && (s.port p).state = .disabled then s.bringUp p else s) s

/-- MAIN_54V_QUALIFY: the rails come up and step 3 runs; after a reset with the rails up, step 3 alone (R598, R599, R605). -/
def execMain54vQualify (bist : BistOutcome) (s : State) : Out :=
  .next <|
    let p := s.platform
    if p.boot = .bist && p.rails then s.stepThree bist
    else if !p.aux || !p.mgmtReady || p.rails then s
    else
      let s := { s with
        platform := { p with main := true, rails := true, vsagLow := false, boot := .bist }
        supply := { s.supply.restart with ramping := true } }
      ((s.mgLog 0x08 true (leBytes 1 1)).mgRaise 7).stepThree bist

/-- HOST_READY is set: the module takes commands, a TRIAL image is confirmed (R528, R564, R599). -/
def State.hostReady (s : State) : State :=
  let s := { s with
    platform := { s.platform with boot := .ready, everTrained := true }
    mgmt := { s.mgmt with countReady := s.mgmt.countReady + 1 } }
  s.confirmTrial

/-- MEMORY_TRAINING_DONE: a station that failed is a fatal error; else HOST_READY, unless the reset waits for PERST_N (R498, R599,
R606, R607). -/
def execMemoryTrainingDone (failed : List Nat) (s : State) : Out :=
  .next <|
    if s.platform.boot ≠ .training then s
    else
      let bad := memStations.filter fun n => failed.contains n
      let ok := fun (ns : List Nat) => ns.all fun n => !bad.contains n
      let s := memStations.foldl (fun s n => s.modStation n fun m =>
        { m with trained := !bad.contains n, selfRefresh := m.selfRefresh && bad.contains n }) s
      let s := { s with platform := { s.platform with hbmTrained := ok [0, 1, 2, 3, 4, 5], larderTrained := ok [8, 9] } }
      match bad with
      | [] =>
        let p := s.platform
        if p.alignedWait || (p.lastReset = 2 && !p.perstHigh) then { s with platform := { p with boot := .holdPerst } } else s.hostReady
      | n :: _ => if s.platform.fatal then s else s.fatalError 0x0017 6 n

/-- TRIAL_TIMEOUT: a TRIAL image without HOST_READY in time is reverted (R528). -/
def execTrialTimeout (s : State) : Out :=
  .next <| if s.platform.aux && s.rot.running.trial && s.platform.boot ≠ .ready then
      (if s.platform.rails then s.giveUpTrial.moduleRestart else s.giveUpTrial.restartChip)
    else s

/-! ### PERST_N and FLR (R408, R598, R602, R605 to R607) -/

/-- WARM_RESET: PERST_N goes low. It is ignored while MAIN_54V is absent; a module reset under way goes on, and so does an aligned reset, whose
release needs the rising edge that follows (R598, R602, R606, R607, log 92). -/
def execWarmReset (s : State) : Out :=
  .next <|
    let s := { s with platform := { s.platform with perstHigh := false } }
    let p := s.platform
    if !p.rails then s
    else if p.boot ≠ .ready && (p.lastReset = 2 || p.alignedWait) then
      { s with platform := { p with linkSpeed := 0, linkWidth := 0, linkFlit := false, pcie := PcieControl.reset } }
    else s.resetModule .warm .held false

/-- PERST_N_RELEASE: the rising edge releases a warm reset, a module reset that waits, or starts an aligned release (R598, R605 to
R607). -/
def execPerstNRelease (s : State) : Out :=
  .next <|
    if s.platform.perstHigh then s
    else
      let s := { s with platform := { s.platform with perstHigh := true } }
      match s.platform.boot with
      | .held => { s with platform := { s.platform with boot := .bist } }
      | .holdPerst => if s.platform.alignedWait then { s with platform := { s.platform with alignedEdge := true } } else s.hostReady
      | .off | .bist | .training | .ready => s

/-- ALIGNED_RELEASE: reference edge 2,048 after the PERST_N edge sets every crossing FIFO to a fill of 8 and releases every island
(R607). -/
def execAlignedRelease (s : State) : Out :=
  .next <|
    let p := s.platform
    if p.boot = .holdPerst && p.alignedWait && p.alignedEdge then
      ({ s with platform := { p with alignedStart := true, alignedWait := false, alignedEdge := false, fifoFill := 8 } }).hostReady
    else s

/-- Commands that write host memory, or read it for their data (R408, R409). -/
def hostTransferOpcodes : List Nat := [0x01, 0x03, 0x20, 0x21, 0x22, 0x30, 0x31, 0x60, 0x61]

/-- Whether an open host command has work left that moves data to or from host memory (R408). -/
def Order.movesHostData (o : Order) : Bool :=
  o.source ≠ 0x80 && (hostTransferOpcodes.contains o.opcode || (o.opcode = 0x09 && o.flags / 4 % 4 ≠ 2))

/-- An open command of the host after an FLR: no status entry is due, and one whose data move with host memory ends ABORTED
(R408). -/
def State.flrOrder (s : State) (o : Order) : State :=
  if o.movesHostData then
    let s := s.withdraw o
    let s := { s with arbiter := { s.arbiter with transfers := s.arbiter.transfers.filter fun t => t.order ≠ o.id }
                      rot := { s.rot with signing := s.rot.signing.filter fun r => r.order ≠ o.id } }
    (s.withdrawEntropy o.id).finish o (Ending.aborted)
  else s

/-- The register file after an FLR (R408, R471). -/
def Regs.flr (r : Regs) : Regs :=
  let c := r.cut keptByFlr
  { c with mbxData := [], mbxValid := false, mbxBusy := false, mbxErr := 0, mbxGen := 0, indErr := false, indLastErr := 0, indData := 0
           winOpen := false, winParityStop := false, locks := r.freeLocks }

/-- FLR: the host interface alone (R408, R471, R602, R606). -/
def State.flr (s : State) : State :=
  let os := s.arbiter.orders
  let quiet := fun (o : Order) => if o.source = 0x80 then o else { o with statusDue := false }
  let a := s.arbiter
  let s := { s with arbiter := { a with orders := os.map quiet, readsHeld := [], reads := a.reads.filter fun r => r.2.ofMgmt } }
  let s := (os.map quiet).foldl State.flrOrder s
  { s with
    regs := s.regs.flr
    queues := []
    host := { s.host with inUse := 0, bar4Open := [], doorbells := [], msixPend := [] }
    platform := { s.platform with lastReset := 4, alignedStart := false, d3hot := false, bar4Log2 := 36, pcie := PcieControl.reset } }

/-- FLR (R408): absorbed by a warm or a module reset under way (R606). -/
def execFlr (s : State) : Out :=
  .next <|
    let p := s.platform
    if !p.rails || p.linkSpeed = 0 || (p.boot ≠ .ready && (p.lastReset = 2 || p.lastReset = 3)) then s else s.flr

/-! ### The host link (R386, R407, R598, R600) -/

/-- D3HOT_TRANSITION (R386). -/
def execD3hotTransition (d3hot : Bool) (s : State) : Out :=
  .next <| if s.platform.rails && s.platform.linkSpeed ≠ 0 then { s with platform := { s.platform with d3hot := d3hot } } else s

/-- Whether the host link may be up: step 3 is over, PERST_N is high, and no aligned release is awaited (R529, R598, R599, R607). -/
def Platform.mayLink (p : Platform) : Bool := p.rails && p.perstHigh && !p.alignedWait && (p.boot = .training || p.boot = .ready)

/-- What the host programs into Device Control and Device Control 2 once the link is up: no command carries it, so it is free, within what the
function supports (R386, R387, log 91). -/
def PcieControl.free (w : DWord) : PcieControl :=
  { maxPayload := 128 * 2 ^ (w.toNat % 3), maxRead := 128 * 2 ^ (w.toNat / 4 % 8 % 6), tenBitTags := w.getLsbD 5
    timeoutRange := [0, 1, 2, 5, 6, 9, 10, 13, 14].getD (w.toNat / 64 % 16 % 9) 0, timeoutOff := w.getLsbD 10 }

/-- HOST_LINK_CHANGE: the link trains to a rate and width, or goes down (R386, R387, R407, R600). -/
def execHostLinkChange (speed width : Nat) (flit : Bool) (s : State) : Out :=
  .next <|
    let p := s.platform
    if speed = 0 then { s with platform := { p with linkSpeed := 0, linkWidth := 0, linkFlit := false, pcie := PcieControl.reset } }
    else if p.mayLink && [4, 5, 6].contains speed && [1, 2, 4, 8, 16].contains width then
      let w := s.nextFree
      { w.2 with platform := { p with
          linkSpeed := speed, linkWidth := width, linkFlit := flit || speed = 6, pcie := PcieControl.free w.1 } }
    else s

end Sys2Proof.Machine
end

