-- ==== Sys2Proof/Machine/Management.lean ====
section
/-! DEFINITION. Machine/Management.lean: the management endpoint, its ring and its commands, telemetry, SMBus and the debug port (R34, R529,
R535, R548, R555 to R572, R584, R606). -/

namespace Sys2Proof.Machine

/-! ### The ring (R390, R391, R397, R556, R558) -/

/-- Whether the management endpoint answers (R555, R557). -/
def State.endpointUp (s : State) : Bool := s.platform.aux && s.platform.mgmtPerstHigh

/-- An error of the ring: RUN clears, and vector 0 tells (R400, R556, R558). DEDUCED (log 72): the vector. -/
def State.ringError (s : State) (err : Nat) : State :=
  { s with mgmt := { s.mgmt with err := err, run := false, fetched := [], fetchNext := s.mgmt.sqHead, msix := 0 :: s.mgmt.msix } }

/-- The next packet is fetched, one read at a time. -/
def State.ringFetch (s : State) : State :=
  let m := s.mgmt
  let reading := s.arbiter.reads.any fun r => match r.2 with | .mgmtPacket _ => true | _ => false
  if m.run && !reading && m.fetchNext ≠ m.sqTail then s.hostRead (.mgmtPacket m.fetchNext) else s

/-- Management orders that still owe the ring a status entry. -/
def State.ringOwed (s : State) : Nat :=
  (s.openOrders.filter fun o => o.source = 0x80 && o.statusDue && o.generation = s.mgmt.generation).length

/-- Status entries the ring can still take (R390, R397). -/
def State.ringRoom (s : State) : Nat :=
  let m := s.mgmt
  let size := 2 ^ m.ringLog2
  size - 1 - ((m.cqTail + size - m.cqHead % size) % size + s.ringOwed)

/-- Opcodes of management packets (R560). -/
def mgmtOpcodes : List Nat := [0x80, 0x81, 0x82, 0x83, 0x84, 0x85, 0x86, 0x87, 0x88]

/-- Opcodes that the management controller answers alone (R34). -/
def aloneOpcodes : List Nat := [0x80, 0x83, 0x84, 0x87]

/-- What a management controller in recovery serves (R529). -/
def recoveryOpcodes : List Nat := [0x80, 0x84, 0x87]

/-- Whether a warm reset is under way (R606). -/
def Platform.warmUnderWay (p : Platform) : Bool := p.rails && p.boot ≠ .ready && p.lastReset = 3

/-- A packet is taken: it completes at once, the management controller keeps it, or it goes to the arbiter (R34, R397, R529, R560, R561,
R606). -/
def State.ringOrder (s : State) (o : Order) : State :=
  let code := o.opcode
  let alone := aloneOpcodes.contains code || (code = 0x81 && !s.platform.rails) || (code = 0x86 && s.platform.warmUnderWay && o.field 16 1 = 2)
  if !mgmtOpcodes.contains code then s.finish o { status := 0x10 }
  else if s.rot.recovery && !recoveryOpcodes.contains code then s.finish o (Ending.badState)
  else if alone then
    if o.field 4 4 ≠ 0 then s.finish o (Ending.badParam 4) else { s with mgmt := { s.mgmt with alone := s.mgmt.alone ++ [o] } }
  else if !s.platform.rails then s.finish o (Ending.badState)
  else { s with arbiter := { s.arbiter with mgmt := s.arbiter.mgmt ++ [o] } }

/-- Takes one packet of the ring. -/
def State.ringTake (s : State) (p : BitVec 512) : State :=
  let id := s.arbiter.nextId
  let m := s.mgmt
  let o : Order := { id := id, seq := 0, source := 0x80, generation := m.generation, packet := p, started := false,
                     acceptTime := s.mgmt.counterCopy, statusDue := true }
  ({ s with arbiter := { s.arbiter with nextId := id + 1 }
            mgmt := { m with sqHead := (m.sqHead + 1) % 2 ^ m.ringLog2, fetched := m.fetched.drop 1 } }).ringOrder o

/-- Takes the packets that are here, as far as status entries allow (R397). -/
def State.ringServe (s : State) : State :=
  s.mgmt.fetched.foldl (fun s p => if s.ringRoom = 0 || s.mgmt.fetched = [] then s else s.ringTake p) s

/-- A packet arrives from the ring, or its fetch fails (R397, R558). -/
def State.ringFetched (s : State) (index : Nat) (r : ReadResult) : State :=
  let m := s.mgmt
  if m.run && index = m.fetchNext then
    match r with
    | .error | .timeout => s.ringError 2
    | .data bs =>
      (({ s with mgmt := { m with fetchNext := (index + 1) % 2 ^ m.ringLog2
                                  fetched := m.fetched ++ [BitVec.ofNat 512 (leNat (bs.take 64))] } }).ringServe).ringFetch
  else s.ringFetch

/-- RUN goes from 0 to 1: bases and size are read, the module's pointers start at 0 (R558). A tail kept from before is acted on now
(R391). -/
def State.ringStart (s : State) : State :=
  let m := s.mgmt
  if m.sizeLog2 < 4 || 8 < m.sizeLog2 then { s with mgmt := { m with err := 4, msix := 0 :: m.msix } }
  else
    let s := { s with mgmt := { m with run := true, err := 0, sqHead := 0, cqTail := 0, fetchNext := 0, fetched := [], ringSq := m.sqBase
                                       ringCq := m.cqBase, ringLog2 := m.sizeLog2 } }
    if 2 ^ m.sizeLog2 ≤ m.sqTail then s.ringError 1
    else if 2 ^ m.sizeLog2 ≤ m.cqHead then s.ringError 3
    else s.ringFetch

/-- MG_RING_RUN: a write of MG_RING_CTRL; SIZE_LOG2 takes it only while RUN is clear (R558). -/
def State.ringControl (s : State) (v : Nat) : State :=
  let m := s.mgmt
  if m.run then
    if bitAt v 0 = 1 then s else { s with mgmt := { m with run := false, fetched := [], fetchNext := m.sqHead } }
  else
    let s := { s with mgmt := { m with sizeLog2 := bitsAt v 11 8 } }
    if bitAt v 0 = 1 then s.ringStart else s

/-- MG_RING_RUN (R558). -/
def execMgRingRun (v : Word) (s : State) : Out := .next (if s.endpointUp then s.ringControl v.toNat else s)

/-- The new submission tail; one at or above the ring's size is discarded with ERR 1 (R391, R556). -/
def State.ringTail (s : State) (v : Nat) : State :=
  let m := s.mgmt
  if !m.run then { s with mgmt := { m with sqTail := v } }
  else if 2 ^ m.ringLog2 ≤ v then s.ringError 1
  else ({ s with mgmt := { m with sqTail := v } }).ringFetch

/-- Status entries consumed; room may let packets be taken (R391, R556). -/
def State.ringHead (s : State) (v : Nat) : State :=
  let m := s.mgmt
  if !m.run then { s with mgmt := { m with cqHead := v } }
  else if 2 ^ m.ringLog2 ≤ v then s.ringError 3
  else (({ s with mgmt := { m with cqHead := v } }).ringServe).ringFetch

/-- MG_SQ_TAIL (R556). -/
def execMgSqTail (v : Word) (s : State) : Out := .next (if s.endpointUp then s.ringTail v.toNat else s)

/-- MG_CQ_HEAD (R556). -/
def execMgCqHead (v : Word) (s : State) : Out := .next (if s.endpointUp then s.ringHead v.toNat else s)

/-- MGMT_PERST_N: the pin, or an FLR of the management function (R557). -/
def execMgmtPerstN (flr level : Bool) (s : State) : Out :=
  .next <|
    if flr then (if s.endpointUp then s.resetEndpoint else s)
    else
      let s := if !level || !s.platform.mgmtPerstHigh then s.resetEndpoint else s
      { s with platform := { s.platform with mgmtPerstHigh := level } }

/-! ### Registers of the management BAR0 (R558, R562) -/

/-- ALERT_N is driven low (R562). -/
def State.alertLow (s : State) : Bool := s.platform.aux && Nat.land s.mgmt.events s.mgmt.enable ≠ 0

/-- What a register of the management BAR0 reads as (R558). -/
def State.readMgmt (s : State) (off : Nat) : Nat :=
  let m := s.mgmt
  let p := s.platform
  let fetching := s.arbiter.reads.any fun r => match r.2 with | .mgmtPacket _ => true | _ => false
  match off with
  | 0x00 => 0x4D47584C
  | 0x04 => bitOf (p.boot = .ready) * 16 + bitOf s.rot.recovery * 8 + bitOf (!p.rails && p.lastReset = 1) * 4 + bitOf p.rails * 2 + 1
  | 0x10 => m.sqBase % 2 ^ 32
  | 0x14 => m.sqBase / 2 ^ 32
  | 0x18 => m.cqBase % 2 ^ 32
  | 0x1C => m.cqBase / 2 ^ 32
  | 0x20 => m.sizeLog2 * 256 + bitOf m.run
  | 0x24 => m.sqTail % 256
  | 0x28 => m.cqHead % 256
  | 0x2C => m.err * 2 ^ 28 + m.sqHead * 2 ^ 16 + bitOf (!m.run && !fetching) * 256 + m.cqTail
  | 0x30 => m.events
  | 0x34 => m.enable
  | _ => 0

/-- The low half of a ring base: bits [11:0] stay zero (R558). -/
def lowHalf (base v : Nat) : Nat := base / 2 ^ 32 * 2 ^ 32 + v / 4096 * 4096
/-- The high half of a ring base. -/
def highHalf (base v : Nat) : Nat := v * 2 ^ 32 + base % 2 ^ 32

/-- A write of a register of the management BAR0 (R558, R562). -/
def State.writeMgmt (s : State) (off v : Nat) : State :=
  let m := s.mgmt
  let base := fun (m : Mgmt) => if s.mgmt.run then s else { s with mgmt := m }
  match off with
  | 0x10 => base { m with sqBase := lowHalf m.sqBase v }
  | 0x14 => base { m with sqBase := highHalf m.sqBase v }
  | 0x18 => base { m with cqBase := lowHalf m.cqBase v }
  | 0x1C => base { m with cqBase := highHalf m.cqBase v }
  | 0x20 => s.ringControl v
  | 0x24 => s.ringTail v
  | 0x28 => s.ringHead v
  | 0x30 => { s with mgmt := { m with events := Nat.land m.events (Nat.xor (v % 2 ^ 10) 0x3FF) } }
  | 0x34 =>
    let fresh := Nat.land (Nat.land (v % 2 ^ 10) m.events) (Nat.xor m.enable 0x3FF)
    { s with mgmt := { m with enable := v % 2 ^ 10, msix := if fresh = 0 then m.msix else 1 :: m.msix } }
  | _ => s

/-! ### Telemetry (R563 to R566) -/

/-- Slots RUNNING or STOPPING. -/
def State.slotsRunning (s : State) : Nat := ((List.range 48).filter fun n => (s.slot n).active).length

/-- A field of n bytes, all ones where the dies that give it have no supply (R563). -/
def dieField (on : Bool) (n v : Nat) : List Byte := if on then leBytes n v else List.replicate n 0xFF

/-- The 256-byte telemetry record (R563); `vcore` is the lowest sensed VCORE. -/
def State.telemetryRecord (s : State) (vcore : Nat) : List Byte :=
  let on := s.platform.rails
  let p := s.supply
  let h := s.host
  leBytes 4 1 ++ leBytes 1 (bitOf on) ++ zeros 3 ++ leBytes 8 s.mgmt.counter ++ leBytes 4 p.mainMv ++ leBytes 4 p.auxMv ++ leBytes 4 p.p100 ++
    leBytes 4 p.p1 ++ leBytes 2 p.capW ++ leBytes 2 p.mgmtCapW ++ leBytes 2 p.appliedMv ++ dieField on 2 vcore ++
    ((List.range 4).flatMap fun n => dieField on 2 (toField 16 ((p.tj[n]?).getD 0))) ++ leBytes 2 (toField 16 p.inlet) ++
    leBytes 2 (toField 16 p.outlet) ++ leBytes 1 s.limiter ++ leBytes 1 (s.supStatus % 128) ++
    dieField on 2 (s.portBits fun x => x.state = .up) ++ dieField on 2 (s.portBits fun x => x.state = .down) ++
    ((List.range 12).flatMap fun n => leBytes 1 (s.port n).cordPct) ++ zeros 2 ++ leBytes 8 p.warns ++ dieField on 4 h.errCorrected ++
    dieField on 4 h.errContained ++ dieField on 4 h.errFatal ++ dieField on 4 s.goodSpares ++ dieField on 1 s.entropy.state.code ++
    dieField on 1 s.slotsRunning ++ zeros 158

/-- The events whose counts have risen in the status summary since the last sample (R564). -/
def State.summaryEvents (s : State) : State :=
  let m := s.mgmt
  let risen := ([(8, m.seenReady, m.countReady), (4, m.seenFatal, m.countFatal), (6, m.seenFault, m.countFault),
    (3, m.seenPort, m.countPort)].filter fun e => e.2.1 < e.2.2).map fun e => e.1
  let s := { s with mgmt := { m with seenReady := m.countReady, seenFatal := m.countFatal, seenFault := m.countFault, seenPort := m.countPort } }
  risen.foldl State.mgRaise s

/-- TELEMETRY_SAMPLE (R563, R564). -/
def execTelemetrySample (sample : TelemetryIn) (s : State) : Out :=
  .next <|
    if !s.platform.aux then s
    else
      let p := s.supply
      let s := { s with supply := { p with
        mainMv := sample.mainMv, auxMv := sample.auxMv, inlet := sample.inlet, outlet := sample.outlet
        tj := if sample.tj.length = 4 && s.platform.rails then sample.tj else p.tj } }
      let s := { s with mgmt := { s.mgmt with telemetry := s.telemetryRecord sample.vcoreMv } }
      if s.platform.rails then s.summaryEvents else s

/-- LOCAL_COUNTER_COPY: a microsecond passes, and CP firmware's copy is refreshed (R566, R584). -/
def execLocalCounterCopy (s : State) : Out :=
  .next <|
    let m := s.mgmt
    if !s.platform.aux then s
    else
      let c := (m.counter + 1) % 2 ^ 64
      { s with mgmt := { m with counter := c, counterCopy := if s.platform.rails then c else m.counterCopy } }

/-! ### Management commands (R548, R560 to R572) -/

/-- Writes a command's result into the management host's memory and completes it (R560). -/
def State.answerMgmt (s : State) (o : Order) (a : Nat) (bs : List Byte) (e : Ending) : State :=
  if s.endpointUp then (s.mgmtWrite a bs).finish o e else s.finish o Ending.memError

/-- MG_TELEMETRY: the most recent sample; before the first one, what it would be now (R563). -/
def execMgTelemetry (id : Nat) (s : State) : Out :=
  runOrder 0x80 id s fun s o =>
    s.checked o (o.params 0 o.noTarget [(16, 8)] []) fun s =>
      let r := if s.mgmt.telemetry = [] then s.telemetryRecord s.supply.vcoreMv else s.mgmt.telemetry
      s.answerMgmt o (o.field 16 8) r (Ending.ok 256)

/-- MG_POWER_CAP: 500 to 850 W, 0 removes the cap (R548). -/
def execMgPowerCap (id : Nat) (s : State) : Out :=
  runOrder 0x81 id s fun s o =>
    let w := o.field 16 2
    s.checked o (o.params 0 o.noTarget [(16, 2)] [{ byte := 16, ok := w = 0 || (500 ≤ w && w ≤ 850) }]) fun s =>
      let s := { s with supply := { s.supply with mgmtCapW := w } }
      s.finish o (Ending.ok s.supply.capW)

/-- MG_CORD_INFO: CORD_STATUS and the end record of every port (R565). -/
def execMgCordInfo (id : Nat) (s : State) : Out :=
  runOrder 0x83 id s fun s o =>
    s.checked o (o.params 0 o.noTarget [(16, 8)] []) fun s =>
      let status := (List.range 12).flatMap fun n => leBytes 4 (s.port n).cord
      let records := (List.range 12).flatMap fun n => match (s.port n).cordRecord with
        | some r => (r ++ zeros 64).take 64
        | none => List.replicate 64 0xFF
      s.answerMgmt o (o.field 16 8) (status ++ zeros 16 ++ records) (Ending.ok 832)

/-- SEQ of a log record. -/
def recordSeq (r : List Byte) : Nat := fieldAt r 4 4

/-- MG_LOG_READ (R567, R568). -/
def execMgLogRead (id : Nat) (s : State) : Out :=
  runOrder 0x87 id s fun s o =>
    let len := o.field 32 8
    s.checked o (o.params 4 o.noTarget [(16, 4), (24, 16)] [{ byte := 32, ok := len % 32 = 0 }]) fun s =>
      let ring := if bitAt o.flags 2 = 1 then s.mgmt.persistent else s.mgmt.log
      let first := o.field 16 4
      let old := match ring with | r :: _ => decide (first < recordSeq r) | [] => false
      let rs := (ring.filter fun r => first ≤ recordSeq r).take (len / 32)
      s.answerMgmt o (o.field 24 8) rs.flatten { status := 0, d17 := bitOf old, result := rs.length + 2 ^ 32 * (s.mgmt.logSeq % 2 ^ 32) }

/-- The lowest slot that is RUNNING or STOPPING. -/
def State.firstActive (s : State) : Option Nat := (List.range 48).find? fun n => (s.slot n).active

/-- The rule of FORCE: without it an active slot holds a reset back (R570, R571). -/
def State.forced (s : State) (o : Order) (go : State → State) : State :=
  match s.firstActive with
  | some n => if bitAt o.flags 2 = 1 then go s else s.finish o (Ending.badState (s.slot n).state.code)
  | none => go s

/-- MG_RESET: the order completes, then the reset runs (R571, R602, R606, R607). -/
def execMgReset (id : Nat) (s : State) : Out :=
  runOrder 0x86 id s fun s o =>
    let kind := o.field 16 1
    let aligned := bitAt o.flags 3 = 1
    s.checked o (o.params 0x0C o.noTarget [(16, 1)] [{ byte := 16, ok := kind = 1 || kind = 2 }]) fun s =>
      s.forced o fun s =>
        if aligned && !s.platform.everTrained then s.finish o (Ending.badState)
        else (s.finish o Ending.ok).resetModule (if kind = 1 then .warm else .module) .bist aligned

/-- MG_FW_ACTIVATE: the staged image becomes TRIAL; the order completes, then the module resets onto it (R528, R570). -/
def execMgFwActivate (id : Nat) (s : State) : Out :=
  runOrder 0x85 id s fun s o =>
    s.checked o (o.params 4 o.noTarget [] []) fun s =>
      if !s.rot.stageReady then s.finish o (Ending.badState)
      else
        s.forced o fun s =>
          let cause := s.rot.headerCause
          if cause ≠ 0 then s.finish o { status := 0x34, d17 := cause }
          else
            let b := !s.rot.runningB
            let r := s.rot.modOther fun x => { x with trial := true }
            let s := (({ s with rot := { r with stageReady := false } }).fwLog 5 b 0).finish o Ending.ok
            ({ s with rot := { s.rot with runningB := b } }).moduleRestart

/-! ### Firmware staging (R569) -/

/-- Whether two ranges overlap. -/
def overlaps (a n b m : Nat) : Bool := a < b + m && b < a + n

/-- MG_FW_STAGE: checks, the erase with FIRST, and the read of the chunk (R569). Chunks are programmed one after the other. -/
def execMgFwStage (id : Nat) (s : State) : Out :=
  if s.mgmt.alone.any fun x => x.opcode = 0x84 && x.started && x.id ≠ id then .next s
  else
    runOrder 0x84 id s fun s o =>
      let off := o.field 24 4
      let len := o.field 28 4
      let first := bitAt o.flags 2 = 1
      let r := s.rot
      s.checked o (o.params 0x0C o.noTarget [(16, 16)]
        [{ byte := 24, ok := off % 4096 = 0 && off ≤ imageSlotSize }, { byte := 28, ok := len % 4096 = 0 && len ≠ 0 && len ≤ 2 ^ 20 },
         { byte := 28, ok := off + len ≤ imageSlotSize },
         { byte := 24, ok := first || !r.stageOpen || !r.stageRanges.any fun x => overlaps off len x.1 x.2 }]) fun s =>
        if r.running.trial || (!first && !r.stageOpen) then s.finish o (Ending.badState)
        else
          let s := if first then
              let r := r.modOther fun _ => { noImage with staging := true }
              ({ s with rot := { r with stageOpen := true, stageRanges := [], stageReady := false, store := [] } }).fwLog 1 (!r.runningB) 0
            else s
          if s.endpointUp then s.hostRead (.stage o.id) else s.finish o Ending.memError

/-- The last chunk is programmed: the whole image is checked (R526, R569). -/
def State.stageLast (s : State) (o : Order) (n : Nat) : State :=
  let r := s.rot
  let b := !r.runningB
  let cause := r.imageCause
  if cause = 0 then
    let r := r.modOther fun _ => imageOf r.header
    (({ s with rot := { r with stageOpen := false, stageReady := true } }).fwLog 3 b 0).finish o (Ending.ok n)
  else
    let r := r.modOther fun x => { x with cause := cause }
    (({ s with rot := r }).fwLog 4 b cause).finish o { status := 0x34, d17 := cause }

/-- The chunk of a stage command arrived, or its read failed (R560, R569). -/
def State.stageData (s : State) (id : Nat) (x : ReadResult) : State :=
  match s.mgmt.alone.find? fun o => o.id = id with
  | none => s
  | some o =>
    let off := o.field 24 4
    let len := o.field 28 4
    match x with
    | .error | .timeout => s.finish o Ending.memError
    | .data bs =>
      if bs.length ≠ len then s.finish o Ending.memError
      else
        let r := s.rot
        let s := { s with rot := { r with store := Mem.write erased r.store off bs, stageRanges := r.stageRanges ++ [(off, len)] } }
        if bitAt o.flags 3 = 1 then s.stageLast o len else s.finish o (Ending.ok len)

/-! ### SMBus (R559) -/

/-- SMBUS_READ: FRU bytes from the offset on, which wraps at 256 (R559). -/
def execSmbusRead (len : Nat) (s : State) : Out :=
  .next <|
    let m := s.mgmt
    if !s.platform.aux then { s with reply := .nack }
    else { s with reply := .data ((List.range len).map fun i => Config.fruByte ((m.fruOffset + i) % 256))
                  mgmt := { m with fruOffset := (m.fruOffset + len) % 256 } }

/-- SMBUS_OFFSET_WRITE (R559). -/
def execSmbusOffsetWrite (v : Byte) (s : State) : Out :=
  .next (if s.platform.aux then { s with mgmt := { s.mgmt with fruOffset := v.toNat } } else { s with reply := .nack })

/-! ### The debug port (R535) -/

/-- What a debug request names: control cores 0 to 3, and 4 the management controller (R28, R535). -/
def DebugReq.target : DebugReq → Nat
  | .halt t | .step t | .read t _ | .write t _ _ => t

/-- An open debug request (R535). The instruction set of the cores is not given, so a step has no effect the manual states. -/
def State.debugServe (s : State) (r : DebugReq) : Out :=
  let k := s.rot
  let memory := fun (t : Nat) => (k.debugMem.at t).getD []
  match r with
  | .halt t => .next { s with rot := { k with debugHalted := if k.debugHalted.contains t then k.debugHalted else t :: k.debugHalted } }
  | .step _ => .refused .debugStep
  | .read t a =>
    match Tbl.at (memory t) a with
    | some b => .next { s with reply := .data [b] }
    | none => .next { s with reply := .data [Config.freeByte s.free 0], free := s.free + 1 }
  | .write t a v => .next { s with reply := .written, rot := { k with debugMem := k.debugMem.put t (Tbl.put (memory t) a v) } }

/-- DEBUG_REQUEST: served while DEBUG_OPEN reads 1; once DEBUG_LOCK is set it is refused and logged, and a session under way ends
(R535, R567). -/
def execDebugRequest (r : DebugReq) (s : State) : Out :=
  unit (decide (r.target < 5)) s <|
    if !s.endpointUp then .next s
    else if s.debugLocked then
      .next (({ s with reply := .nack, rot := { s.rot with debugHalted := [] } }).mgLog 0x07 true (leBytes 1 r.target))
    else s.debugServe r

/-! ### Answers to the module's reads (R399) -/

/-- A failed read of the host's memory is reported through AER (R399). -/
def State.reportRead (s : State) (r : ReadResult) : State :=
  match r with
  | .data _ => s
  | .error => { s with host := { s.host with aer := .errorCompletion :: s.host.aer } }
  | .timeout => { s with host := { s.host with aer := .completionTimeout :: s.host.aer } }

/-- HOST_MEMORY_COMPLETION: the data or the failure of a read goes to what sent it (R397, R399, R408, R418, R556, R569). While the host has
disabled the completion timeout, none comes (R387). -/
def execHostMemoryCompletion (tag : Nat) (r : ReadResult) (s : State) : Out :=
  .next <|
    match s.arbiter.reads.find? fun x => x.1 = tag with
    | none => s
    | some x =>
      if r = .timeout && !x.2.ofMgmt && s.platform.pcie.timeoutOff then s
      else
      let s := if x.2.ofMgmt then s.endRead tag else (s.endRead tag).reportRead r
      match x.2, r with
      | .packet q i, r => s.packetFetched q i r
      | .mgmtPacket i, r => s.ringFetched i r
      | .stage o, r => s.stageData o r
      | .copy o, .data bs => s.transferData o bs
      | .copy o, .error | .copy o, .timeout => s.transferError o

/-! ### REGISTER_WRITE (R388, R389, R391, R402, R471 to R474, R558) -/

/-- A write into the MSI-X table; a vector that is no longer masked sends what waited for it (R402). PRESUMED (log 58): the layout of a
PCIe MSI-X table. -/
def State.tableWrite (s : State) (key v : Nat) : State :=
  let s := { s with regs := { s.regs with file := s.regs.file.put key (BitVec.ofNat 32 v) } }
  let n := (key - 0x0E0000) / 16
  if key % 16 = 12 && v % 2 = 0 && n ∈ s.host.msixPend then
    { s with host := { s.host with msix := n :: s.host.msix, msixPend := s.host.msixPend.filter fun x => x ≠ n } }
  else s

/-- A host write of BAR0 or BAR2 as REGISTER_WRITE commands: an aligned 32-bit write is one, an aligned 64-bit write is two, the lower address
first, and any other is discarded (R389). -/
def registerWrites (space : RegSpace) (offset : Nat) (bytes : List Byte) : List Instr :=
  let word := fun (i : Nat) => BitVec.ofNat 32 (leNat ((bytes.drop (4 * i)).take 4))
  if bytes.length = 4 && offset % 4 = 0 then [.registerWrite space offset (word 0)]
  else if bytes.length = 8 && offset % 8 = 0 then [.registerWrite space offset (word 0), .registerWrite space (offset + 4) (word 1)]
  else []

/-- The page of a BAR0 offset (R473). -/
def pageOf (offset : Nat) : Page :=
  match bitsAt offset 15 14 with
  | 0 => .value
  | 1 => .set
  | 2 => .clear
  | _ => .toggle

/-- A write of a register of BAR0: its page, and IND_DATA apart (R388, R473, R495). -/
def State.bar0Write (s : State) (offset v : Nat) : State :=
  if offset < 0x0E0000 then
    let key := offset - bitsAt offset 15 14 * 2 ^ 14
    let page := pageOf offset
    if key = 0x050008 then (if page = .value then s.indWrite v else s) else s.writeReg key page v
  else if offset < 0x0E0400 then s.tableWrite offset v
  else s

/-- REGISTER_WRITE: a write that is not aligned to 32 bits, or falls on no register, is discarded (R389, R391, R471, R558). -/
def execRegisterWrite (space : RegSpace) (offset : Nat) (v : Word) (s : State) : Out :=
  .next <|
    if offset % 4 ≠ 0 then s
    else
      match space with
      | .bar0 => if s.barsUp then s.bar0Write offset v.toNat else s
      | .bar2 =>
        let q := offset / 0x1000
        if 64 ≤ q then s
        else
          match offset % 0x1000 with
          | 0 => s.doorbellWrite q true v
          | 4 => s.doorbellWrite q false v
          | _ => s
      | .mgmt => if s.endpointUp then s.writeMgmt offset v.toNat else s

end Sys2Proof.Machine
end

