-- ==== Sys2Proof/Machine/Store.lean ====
section
/-! DEFINITION. Machine/Store.lean: loads and stores of stage programs (R123 to R125). -/

namespace Sys2Proof.Machine

/-- Core-store words that a load reads: an uncorrectable one fences and castles the core, a correctable one is corrected and
written back (R316, R587). -/
def loadWords (c a n : Nat) (s : State) (k : State → Done) : Done :=
  let base := storeBase + 0x10000 * c
  let words := (List.range ((n + 7) / 8)).map fun i => base + a / 8 * 8 + 8 * i
  if words.any fun w => s.upsetAt w then .hold (s.coreFault c 0x0001)
  else
    k (words.foldl (fun s w => match s.correctableAt w with | some u => s.correct w u | none => s) s)

/-- LDK: kA is a 32-bit word of the core store (R125). -/
def execLdk (core : Nat) (a b : BitVec 5) (imm : BitVec 14) (s : State) : Out :=
  issueOn core (.ldk core a b imm) none s fun s i =>
    let p := storeAddr (i.co.kreg b) imm
    match storeFault p 4 4 false with
    | some code => .fault s code
    | none => loadWords core p.toNat 4 s fun s =>
        onCore core s (i.co.setK a (BitVec.ofNat 32 (leNat (i.m.loadBytes p.toNat 4)))) 2

/-- STK: a 32-bit core-store word is kA (R125). -/
def execStk (core : Nat) (a b : BitVec 5) (imm : BitVec 14) (s : State) : Out :=
  issueOn core (.stk core a b imm) none s fun s i =>
    let p := storeAddr (i.co.kreg b) imm
    match storeFault p 4 4 true with
    | some code => .fault s code
    | none => onCore core s (i.withMember (i.m.put p.toNat (leBytes 4 (i.co.kreg a).toNat))) 2

/-- LDW: wA is 64 bytes of the core store (R125). -/
def execLdw (core : Nat) (a : BitVec 4) (b : BitVec 5) (imm : BitVec 14) (s : State) : Out :=
  issueOn core (.ldw core a b imm) none s fun s i =>
    let p := storeAddr (i.co.kreg b) imm
    match storeFault p 64 64 false with
    | some code => .fault s code
    | none => loadWords core p.toNat 64 s fun s => onCore core s (i.co.setW a (bytesVec (i.m.loadBytes p.toNat 64))) 2

/-- STW: 64 core-store bytes are wA (R125). -/
def execStw (core : Nat) (a : BitVec 4) (b : BitVec 5) (imm : BitVec 14) (s : State) : Out :=
  issueOn core (.stw core a b imm) none s fun s i =>
    let p := storeAddr (i.co.kreg b) imm
    match storeFault p 64 64 true with
    | some code => .fault s code
    | none => onCore core s (i.withMember (i.m.put p.toNat (vecBytes (i.co.wreg a)))) 2

/-- Local address of a byte of a core's program window (R124). -/
def windowAddr (c o : Nat) : Nat := sliceBase + 0x400000 * clusterOf c + 30 * 0x20000 + 4096 * coreInCluster c + o

/-- LDSL: wA is 64 bytes of the program window; an uncorrectable word rolls the slot back (R124, R125, R587). -/
def execLdsl (core : Nat) (a : BitVec 4) (b : BitVec 5) (imm : BitVec 14) (s : State) : Out :=
  issueOn core (.ldsl core a b imm) none s fun s i =>
    let p := storeAddr (i.co.kreg b) imm
    match windowFault p with
    | some code => .fault s code
    | none =>
      match s.readLocal (windowAddr core p.toNat) 64 with
      | (s, some bs) => onCore core s (i.co.setW a (bytesVec bs)) 12
      | (t, none) => .hold (t.recover i.n (t.slotCores i.n))

/-- STSL: 64 window bytes are wA (R124, R125). -/
def execStsl (core : Nat) (a : BitVec 4) (b : BitVec 5) (imm : BitVec 14) (s : State) : Out :=
  issueOn core (.stsl core a b imm) none s fun s i =>
    let p := storeAddr (i.co.kreg b) imm
    match windowFault p with
    | some code => .fault s code
    | none => .retire (s.writeLocal (windowAddr core p.toNat) (vecBytes (i.co.wreg a))).1 none 12

/-- WGET: kA is word n of wB (R125). -/
def execWget (core : Nat) (a : BitVec 5) (b n : BitVec 4) (s : State) : Out :=
  issueOn core (.wget core a b n) none s fun s i => onCore core s (i.co.setK a (vecWord (i.co.wreg b) n.toNat))

/-- WPUT: word n of wA is kB (R125). -/
def execWput (core : Nat) (a : BitVec 4) (b : BitVec 5) (n : BitVec 4) (s : State) : Out :=
  issueOn core (.wput core a b n) none s fun s i =>
    onCore core s (i.co.setW a (setVecWord (i.co.wreg a) n.toNat (i.co.kreg b)))

/-- ACCST: the 64 values of accA as 256 bytes at kB (R125). -/
def execAccst (core : Nat) (acc : BitVec 3) (b : BitVec 5) (s : State) : Out :=
  issueOn core (.accst core acc b) none s fun s i =>
    let p := (i.co.kreg b).toInt
    match storeFault p 64 256 true with
    | some code => .fault s code
    | none =>
      let bs := (List.range 64).flatMap fun e => leBytes 4 (toField 32 (i.co.accreg acc (e / 8) (e % 8)))
      onCore core s (i.withMember (i.m.put p.toNat bs)) 4

end Sys2Proof.Machine
end

