-- ==== Sys2Proof/Machine/Wire.lean ====
section
/-! DEFINITION. Machine/Wire.lean: the bytes of messages, flits and frames, and their code on the lanes (R234, R236, R271, R341 to
R344, R346, R360, R361). A flit is the number of its 512 bits, byte 0 lowest (R9). -/

namespace Sys2Proof.Config
open Machine

/-- The bits of the flits of a message whose layout the spec does not give: a free value (log 15). -/
opaque flitBits : Msg → Nat → BitVec 512

/-- Whether the sequence of R341 starts with the first bit fed back, and not with the ones of its state: the spec says only that its
state is all ones at bit 0 (log 99). -/
opaque prbsFeedback : Bool

end Sys2Proof.Config

namespace Sys2Proof.Machine

/-! ### Fields -/

/-- A field of a flit: its lowest byte, its length in bytes, its value. -/
structure ByteField where
  low : Nat
  len : Nat
  value : Nat
  deriving DecidableEq, Repr

/-- The number of a flit that holds some fields; the other bytes are zero. -/
def layFields (fs : List ByteField) : Nat := (fs.map fun f => f.value % 256 ^ f.len * 256 ^ f.low).sum

/-- The number whose set bits are given. -/
def maskOf (bits : List Nat) : Nat := (bits.map fun i => 2 ^ i).sum

/-- A flit with a field put in place of what it held there. -/
def setField (n : Nat) (f : ByteField) : Nat := n - n / 256 ^ f.low % 256 ^ f.len * 256 ^ f.low + layFields [f]

/-! ### State messages (R234, R236) -/

/-- KIND (R234). -/
def MsgKind.code : MsgKind → Nat
  | .binary => 0
  | .relaxation => 1
  | .categorical => 2
  | .exchange => 3

/-- MEMBERS_M1: zero for an exchange result (R234). -/
def StateMsg.membersM1 (m : StateMsg) : Nat := if m.kind = .exchange then 0 else m.member.length - 1

/-- PAYLOAD_FLITS (R234, R236). -/
def StateMsg.payloadFlits (m : StateMsg) : Nat := m.flits - 1

/-- The header flit (R234). -/
def StateMsg.header (m : StateMsg) : Nat :=
  layFields
    [⟨60, 4, m.configTag⟩, ⟨52, 8, m.epoch⟩, ⟨51, 1, m.phase % 16⟩, ⟨50, 1, m.kind.code⟩, ⟨49, 1, m.prologue.toNat + 2 * m.empty.toNat⟩,
     ⟨48, 1, m.membersM1⟩, ⟨46, 2, m.runGen⟩, ⟨44, 2, m.keyBase⟩, ⟨42, 2, m.payloadFlits⟩, ⟨40, 2, m.srcPart⟩, ⟨36, 4, m.srcVarBase⟩,
     ⟨32, 4, m.destBlock⟩, ⟨30, 2, m.replica⟩, ⟨28, 2, m.newRung⟩, ⟨26, 2, m.destPart⟩, ⟨25, 1, m.destSlot⟩, ⟨16, 2, m.destModule⟩]

/-- The members of a message with what it holds by rank. -/
def StateMsg.byRank (m : StateMsg) : List (Nat × Int × Bool) := m.member.zip (m.vals.zip m.flip)

/-- STATE: the members at +1 (R236). -/
def StateMsg.stateMask (m : StateMsg) : Nat := maskOf ((m.byRank.filter fun r => r.2.1 = 1).map fun r => r.1)

/-- FLIP: the members that changed, none in a prologue (R236). -/
def StateMsg.flipMask (m : StateMsg) : Nat := if m.prologue then 0 else maskOf ((m.byRank.filter fun r => r.2.2).map fun r => r.1)

/-- The 16-bit values by rank that a flit holds, 32 per flit, from the one at a place on (R236). -/
def StateMsg.values (m : StateMsg) (i : Nat) : Nat :=
  layFields ((((m.vals.drop (32 * i)).take 32).zipIdx).map fun v => (⟨2 * v.2, 2, (v.1 % 65536).toNat⟩ : ByteField))

/-- A flit of a state message: the header, then the payload (R234, R236). -/
def StateMsg.flit (m : StateMsg) (i : Nat) : Nat :=
  match i, m.kind with
  | 0, _ => m.header
  | 1, .binary => layFields [⟨0, 32, maskOf m.member⟩, ⟨32, 32, m.stateMask⟩]
  | 1, _ => layFields [⟨0, 32, maskOf m.member⟩]
  | _, .binary => layFields [⟨0, 32, m.flipMask⟩]
  | i + 2, _ => m.values i

/-! ### Requests, responses, lock-step messages (R271, R359 to R361) -/

/-- OP (R359). -/
def RemoteOp.code : RemoteOp → Nat
  | .read => 0x01
  | .write => 0x02
  | .add => 0x03
  | .maxu => 0x04
  | .maxs => 0x05
  | .cas => 0x06
  | .bulkRead => 0x10
  | .bulkWrite => 0x11
  | .signal => 0x20
  | .waitReg => 0x21

/-- The head flit of a request (R360). -/
def Request.head (r : Request) : Nat :=
  layFields
    [⟨56, 8, r.operandB⟩, ⟨48, 8, r.operandA⟩, ⟨40, 8, r.address⟩, ⟨38, 2, r.srcModule⟩, ⟨36, 2, r.tag⟩, ⟨34, 2, r.linesM1⟩,
     ⟨32, 2, r.runGen⟩, ⟨24, 8, r.epoch⟩, ⟨18, 1, r.op.code⟩, ⟨16, 2, r.address / 2 ^ 48⟩]

/-- STATUS (R361). -/
def RStatus.code : RStatus → Nat
  | .ok => 0
  | .refused _ => 1
  | .poisoned => 2
  | .fenced => 3
  | .unreachable _ => 4

/-- DETAIL (R361). -/
def RStatus.detail : RStatus → Nat
  | .refused d => d
  | .unreachable d => d
  | _ => 0

/-- The head flit of a response (R361). -/
def Response.head (r : Response) : Nat :=
  layFields
    [⟨48, 8, r.value⟩, ⟨40, 8, r.address⟩, ⟨38, 2, r.respModule⟩, ⟨36, 2, r.tag⟩, ⟨19, 1, r.status.detail⟩, ⟨18, 1, r.status.code⟩,
     ⟨16, 2, r.destModule⟩]

/-- A line of data behind a head flit (R359). -/
def dataFlit (data : List Byte) (i : Nat) : Nat := leNat ((data.drop (64 * (i - 1))).take 64)

/-- The flit of a lock-step message of LS_KIND 1 HELLO, 2 FP, 3 HALT, 4 END (R271). -/
def LockMsg.flit (m : LockMsg) (kind : Nat) : Nat :=
  let fp := fun n => if kind = 2 then n else 0
  layFields
    [⟨32, 32, if kind = 1 then leNat m.digest else 0⟩, ⟨24, 8, if kind ≤ 2 then m.value else 0⟩, ⟨16, 8, fp m.epoch⟩, ⟨14, 2, fp m.replica⟩,
     ⟨13, 1, fp (m.phase % 16)⟩, ⟨12, 1, kind⟩, ⟨11, 1, if kind = 3 then m.cause else 0⟩, ⟨10, 1, m.slot⟩]

/-- A flit of a message as its sender forms it. -/
def Msg.flit (m : Msg) (i : Nat) : Nat :=
  match m with
  | .state x => x.flit i
  | .request r => if i = 0 then r.head else dataFlit r.data i
  | .broadcast _ r _ => if i = 0 then setField r.head ⟨16, 2, 0xFFFF⟩ else dataFlit r.data i
  | .response r => if i = 0 then r.head else dataFlit r.data i
  | .bcast x => if i = 1 then x.data.toNat else (Config.flitBits m i).toNat
  | .hello _ x => x.flit 1
  | .fp _ x => x.flit 2
  | .halt _ x => x.flit 3
  | .lsEnd _ x => x.flit 4
  | .lockOut kind _ x => x.flit kind
  | m => (Config.flitBits m i).toNat

/-! ### Frames (R340 to R342, R344, R346) -/

/-- The tag of a slot (R342). -/
def SlotTag.code : SlotTag → Nat
  | .idle => 0x0
  | .data => 0x1
  | .tail => 0x2
  | .poisonData => 0x3
  | .poisonTail => 0x4
  | .link => 0x5
  | .neighbour => 0x6
  | .unused => 0x7
  | .head vc => 0x8 + vc % 4
  | .single vc => 0xC + vc % 4

/-- The 64 bytes of a link slot (R346). -/
def LinkSlot.number (l : LinkSlot) : Nat :=
  layFields
    [⟨20, 4, l.replay.getD 0⟩, ⟨16, 4, l.nak.getD 0⟩, ⟨12, 4, l.ack.getD 0⟩, ⟨10, 2, l.poolRet⟩, ⟨8, 2, l.vc1Ret⟩, ⟨6, 2, l.vc0Ret⟩,
     ⟨0, 1, l.ack.isSome.toNat + 2 * l.nak.isSome.toNat + 4 * l.replay.isSome.toNat⟩]

/-- The 64 bytes of a slot. A head carries its destination and its hop field (R349); an idle slot holds nothing, and its bytes are zero. DESIGN
CHOICE (log 15) for the zeros. -/
def FlitSlot.number (f : FlitSlot) : Nat :=
  match f.tag, f.msg with
  | .link, _ => match f.link with | some l => l.number | none => 0
  | .neighbour, some m => m.flit 0
  | _, some m => if f.index = 0 then setField (setField (m.flit 0) ⟨16, 2, f.destModule⟩) ⟨0, 1, f.hops⟩ else m.flit f.index
  | _, none => 0

/-- The 1,290 message bytes of a data frame as one number: SLOTS above TAGS (R341). -/
def frameNumber (slots : List FlitSlot) : Nat :=
  (slots.zipIdx.map fun (f : FlitSlot × Nat) => f.1.number * 256 ^ (10 + 64 * f.2) + f.1.tag.code * 16 ^ f.2).sum

/-- Bits of the sequence x^31 + x^28 + 1, from a state of 31 bits on, the oldest bit first. -/
def prbs31 : Nat → List Bool → List Bool
  | 0, _ => []
  | n + 1, state =>
    match state with
    | [] => []
    | b :: t => b :: prbs31 n (t ++ [b ^^ (state.getD 3 false)])

/-- The scrambling of a data frame (R341). -/
def scrambler : Nat :=
  let bits := prbs31 (10320 + 31) (List.replicate 31 true)
  maskOf ((((if Config.prbsFeedback then bits.drop 31 else bits).take 10320).zipIdx.filter fun b => b.1).map fun b => b.2)

/-- The message bits of an alignment frame: the markers of its codewords, and the fields of codeword 0 (R344). -/
def AlignFrame.number (f : AlignFrame) : Nat :=
  let markers := ((List.range 4).map fun k => (0x9A3C65C3A5965A00 + k) * 2 ^ (2580 * k)).sum
  markers + f.link.number * 2 ^ 128 + f.lanes % 16 * 2 ^ 118 + f.width % 4 * 2 ^ 116 + f.port % 16 * 2 ^ 112 + f.moduleId % 65536 * 2 ^ 96 +
    f.nextFrame % 2 ^ 32 * 2 ^ 64

/-! ### The code (R343) -/

/-- A product in GF(2^10) with x^10 + x^3 + 1, by the bits of the second factor from the highest down. -/
def symMul (a b : Nat) : Nat :=
  (List.range 10).foldl (fun r i =>
    let d := 2 * r
    let d := if d < 1024 then d else d ^^^ 0x409
    if b.testBit (9 - i) then d ^^^ a else d) 0

/-- A power of the root α. -/
def symPow : Nat → Nat
  | 0 => 1
  | n + 1 => symMul (symPow n) 2

/-- The product of a polynomial and x + a, both from the highest coefficient down. -/
def timesRoot (g : List Nat) (a : Nat) : List Nat := (g ++ [0]).zipWith (fun x y => x ^^^ y) (0 :: g.map fun c => symMul c a)

/-- The generator polynomial, from the coefficient of x^14 down (R343). -/
def rsGenerator : List Nat := (List.range 14).foldl (fun g i => timesRoot g (symPow i)) [1]

/-- One step of the division by the generator: the remainder so far takes in the next message symbol. -/
def rsStep (rem : List Nat) (m : Nat) : List Nat :=
  match rem with
  | [] => []
  | r :: t => (t ++ [0]).zipWith (fun x g => x ^^^ symMul g (r ^^^ m)) (rsGenerator.drop 1)

/-- The 14 parity symbols of a message, highest power first (R343). -/
def rsParity (msg : List Nat) : List Nat := msg.foldl rsStep (List.replicate 14 0)

/-- Codeword k of a frame: its 258 message symbols, then its parity, in the order of transmission (R343). -/
def codeword (frame k : Nat) : List Nat :=
  let msg := (List.range 258).map fun m => frame / 2 ^ (2580 * k + 10 * m) % 1024
  msg ++ rsParity msg

/-- A polynomial, from the highest coefficient down, at a point: a word is a codeword where it is zero at α^0 to α^13 (R343). -/
def wordAt (word : List Nat) (a : Nat) : Nat := word.foldl (fun r c => symMul r a ^^^ c) 0

/-- A frame on the wire: for each codeword its lane and its symbols, each sent from its lowest bit on (R343). -/
def Port.words (x : Port) (frame : Nat) : List (Nat × List Nat) := (List.range 4).map fun k => (x.laneOf k, codeword frame k)

/-- The last data frame that a port sent, on the wire (R341, R343). -/
def Port.dataWire (x : Port) : Option (List (Nat × List Nat)) := x.sentData.map fun f => x.words (frameNumber f.2 ^^^ scrambler)

/-- The last alignment frame that a port sent, on the wire (R343, R344). -/
def Port.alignWire (x : Port) : Option (List (Nat × List Nat)) := x.sentAlign.map fun f => x.words f.number

end Sys2Proof.Machine
end

