-- ==== Sys2Proof/Machine/Dispatch.lean ====
section
/-! DEFINITION. Machine/Dispatch.lean: one arm for every command; each calls its meaning. -/

namespace Sys2Proof.Machine

def exec (i : Instr) (s : State) : Host.Outcome State Fault Refusal :=
  match i with
  | .nop id => Sys2Proof.Machine.execNop id s
  | .identify id => Sys2Proof.Machine.execIdentify id s
  | .getStatus id => Sys2Proof.Machine.execGetStatus id s
  | .journalQuery id => Sys2Proof.Machine.execJournalQuery id s
  | .fill id => Sys2Proof.Machine.execFill id s
  | .copy id => Sys2Proof.Machine.execCopy id s
  | .scrubDeclare id => Sys2Proof.Machine.execScrubDeclare id s
  | .modelCheck id => Sys2Proof.Machine.execModelCheck id s
  | .modelLoad id => Sys2Proof.Machine.execModelLoad id s
  | .modelUnload id => Sys2Proof.Machine.execModelUnload id s
  | .slotConfig id => Sys2Proof.Machine.execSlotConfig id s
  | .slotStart id => Sys2Proof.Machine.execSlotStart id s
  | .slotStop id => Sys2Proof.Machine.execSlotStop id s
  | .slotSave id => Sys2Proof.Machine.execSlotSave id s
  | .slotRestore id => Sys2Proof.Machine.execSlotRestore id s
  | .slotDisable id => Sys2Proof.Machine.execSlotDisable id s
  | .slotEnable id => Sys2Proof.Machine.execSlotEnable id s
  | .sampleRead id => Sys2Proof.Machine.execSampleRead id s
  | .statsRead id => Sys2Proof.Machine.execStatsRead id s
  | .resultSeal id => Sys2Proof.Machine.execResultSeal id s
  | .syncAlloc id => Sys2Proof.Machine.execSyncAlloc id s
  | .syncFree id => Sys2Proof.Machine.execSyncFree id s
  | .syncSignal id => Sys2Proof.Machine.execSyncSignal id s
  | .syncWait id => Sys2Proof.Machine.execSyncWait id s
  | .entropyGet id => Sys2Proof.Machine.execEntropyGet id s
  | .seedFromEntropy id => Sys2Proof.Machine.execSeedFromEntropy id s
  | .selftest id outcome => Sys2Proof.Machine.execSelftest id outcome s
  | .calibrate id outcome => Sys2Proof.Machine.execCalibrate id outcome s
  | .fabricConfig id => Sys2Proof.Machine.execFabricConfig id s
  | .routeLoad id => Sys2Proof.Machine.execRouteLoad id s
  | .portState id => Sys2Proof.Machine.execPortState id s
  | .coreFence id outcome => Sys2Proof.Machine.execCoreFence id outcome s
  | .coreCastle id => Sys2Proof.Machine.execCoreCastle id s
  | .lockstepBegin id => Sys2Proof.Machine.execLockstepBegin id s
  | .lockstepEnd id => Sys2Proof.Machine.execLockstepEnd id s
  | .counterConfig id => Sys2Proof.Machine.execCounterConfig id s
  | .tagConfig id => Sys2Proof.Machine.execTagConfig id s
  | .attest id => Sys2Proof.Machine.execAttest id s
  | .keyInfo id => Sys2Proof.Machine.execKeyInfo id s
  | .mgTelemetry id => Sys2Proof.Machine.execMgTelemetry id s
  | .mgPowerCap id => Sys2Proof.Machine.execMgPowerCap id s
  | .mgFence id outcome => Sys2Proof.Machine.execMgFence id outcome s
  | .mgCordInfo id => Sys2Proof.Machine.execMgCordInfo id s
  | .mgFwStage id => Sys2Proof.Machine.execMgFwStage id s
  | .mgFwActivate id => Sys2Proof.Machine.execMgFwActivate id s
  | .mgReset id => Sys2Proof.Machine.execMgReset id s
  | .mgLogRead id => Sys2Proof.Machine.execMgLogRead id s
  | .mgSelftest id outcome => Sys2Proof.Machine.execMgSelftest id outcome s
  | .instrNop core => Sys2Proof.Machine.execInstrNop core s
  | .endPhase core => Sys2Proof.Machine.execEndPhase core s
  | .jmp core off => Sys2Proof.Machine.execJmp core off s
  | .bz core a off => Sys2Proof.Machine.execBz core a off s
  | .bnz core a off => Sys2Proof.Machine.execBnz core a off s
  | .blt core a b off => Sys2Proof.Machine.execBlt core a b off s
  | .loop core a off => Sys2Proof.Machine.execLoop core a off s
  | .add core a b c => Sys2Proof.Machine.execAdd core a b c s
  | .sub core a b c => Sys2Proof.Machine.execSub core a b c s
  | .and core a b c => Sys2Proof.Machine.execAnd core a b c s
  | .or core a b c => Sys2Proof.Machine.execOr core a b c s
  | .xor core a b c => Sys2Proof.Machine.execXor core a b c s
  | .shl core a b c => Sys2Proof.Machine.execShl core a b c s
  | .shr core a b c => Sys2Proof.Machine.execShr core a b c s
  | .sra core a b c => Sys2Proof.Machine.execSra core a b c s
  | .addi core a b imm => Sys2Proof.Machine.execAddi core a b imm s
  | .movi core a imm => Sys2Proof.Machine.execMovi core a imm s
  | .movhi core a imm => Sys2Proof.Machine.execMovhi core a imm s
  | .mvs core acc b row => Sys2Proof.Machine.execMvs core acc b row s
  | .mvw core acc b c row n => Sys2Proof.Machine.execMvw core acc b c row n s
  | .mop core acc b c n m => Sys2Proof.Machine.execMop core acc b c n m s
  | .aclr core acc => Sys2Proof.Machine.execAclr core acc s
  | .fdp core a => Sys2Proof.Machine.execFdp core a s
  | .finca core denseOff => Sys2Proof.Machine.execFinca core denseOff s
  | .ldf core a b => Sys2Proof.Machine.execLdf core a b s
  | .updc core => Sys2Proof.Machine.execUpdc core s
  | .updm core a b n => Sys2Proof.Machine.execUpdm core a b n s
  | .rlxc core => Sys2Proof.Machine.execRlxc core s
  | .draw core a b => Sys2Proof.Machine.execDraw core a b s
  | .mask core a b c n => Sys2Proof.Machine.execMask core a b c n s
  | .sievec core => Sys2Proof.Machine.execSievec core s
  | .ldk core a b imm => Sys2Proof.Machine.execLdk core a b imm s
  | .stk core a b imm => Sys2Proof.Machine.execStk core a b imm s
  | .ldw core a b imm => Sys2Proof.Machine.execLdw core a b imm s
  | .stw core a b imm => Sys2Proof.Machine.execStw core a b imm s
  | .ldsl core a b imm => Sys2Proof.Machine.execLdsl core a b imm s
  | .stsl core a b imm => Sys2Proof.Machine.execStsl core a b imm s
  | .wget core a b n => Sys2Proof.Machine.execWget core a b n s
  | .wput core a b n => Sys2Proof.Machine.execWput core a b n s
  | .accst core acc b => Sys2Proof.Machine.execAccst core acc b s
  | .smsg core => Sys2Proof.Machine.execSmsg core s
  | .bcst core a => Sys2Proof.Machine.execBcst core a s
  | .brcv core a pass => Sys2Proof.Machine.execBrcv core a pass s
  | .sig core a count => Sys2Proof.Machine.execSig core a count s
  | .wait core a => Sys2Proof.Machine.execWait core a s
  | .pdone core => Sys2Proof.Machine.execPdone core s
  | .redi core a b c => Sys2Proof.Machine.execRedi core a b c s
  | .redf core a b c n => Sys2Proof.Machine.execRedf core a b c n s
  | .reda core acc b c => Sys2Proof.Machine.execReda core acc b c s
  | .fpr core => Sys2Proof.Machine.execFpr core s
  | .stateMessage m => Sys2Proof.Machine.execStateMessage m s
  | .broadcastVector m => Sys2Proof.Machine.execBroadcastVector m s
  | .sieveRequest cluster => Sys2Proof.Machine.execSieveRequest cluster s
  | .reductionPartial m => Sys2Proof.Machine.execReductionPartial m s
  | .groupValue m => Sys2Proof.Machine.execGroupValue m s
  | .closeToken m => Sys2Proof.Machine.execCloseToken m s
  | .exchangeEnergy m => Sys2Proof.Machine.execExchangeEnergy m s
  | .freeze slot module hard => Sys2Proof.Machine.execFreeze slot module hard s
  | .freezeReply slot module part highest => Sys2Proof.Machine.execFreezeReply slot module part highest s
  | .limit slot module epochLimit => Sys2Proof.Machine.execLimit slot module epochLimit s
  | .drained slot module part => Sys2Proof.Machine.execDrained slot module part s
  | .faultNotice slot module status => Sys2Proof.Machine.execFaultNotice slot module status s
  | .ckptDone slot module part epoch => Sys2Proof.Machine.execCkptDone slot module part epoch s
  | .ckptCommit slot module epoch => Sys2Proof.Machine.execCkptCommit slot module epoch s
  | .hello port m => Sys2Proof.Machine.execHello port m s
  | .fp port m => Sys2Proof.Machine.execFp port m s
  | .halt port m => Sys2Proof.Machine.execHalt port m s
  | .lsEnd port m => Sys2Proof.Machine.execLsEnd port m s
  | .syncObjectSignal m => Sys2Proof.Machine.execSyncObjectSignal m s
  | .waiterRegistration m => Sys2Proof.Machine.execWaiterRegistration m s
  | .waiterNotice w object generation => Sys2Proof.Machine.execWaiterNotice w object generation s
  | .colanderPacket core item => Sys2Proof.Machine.execColanderPacket core item s
  | .fencedNotice cluster core slot => Sys2Proof.Machine.execFencedNotice cluster core slot s
  | .routerPacket cluster input pkt => Sys2Proof.Machine.execRouterPacket cluster input pkt s
  | .coreHandshake core => Sys2Proof.Machine.execCoreHandshake core s
  | .routerHandshake cluster part => Sys2Proof.Machine.execRouterHandshake cluster part s
  | .agentTickTimeout cluster => Sys2Proof.Machine.execAgentTickTimeout cluster s
  | .watchdogTick => Sys2Proof.Machine.execWatchdogTick s
  | .memoryRead address => Sys2Proof.Machine.execMemoryRead address s
  | .memoryWrite address bytes => Sys2Proof.Machine.execMemoryWrite address bytes s
  | .scrubRead station => Sys2Proof.Machine.execScrubRead station s
  | .arbiterPass => Sys2Proof.Machine.execArbiterPass s
  | .deferredTestRun outcome => Sys2Proof.Machine.execDeferredTestRun outcome s
  | .sqTail queue v => Sys2Proof.Machine.execSqTail queue v s
  | .cqHead queue v => Sys2Proof.Machine.execCqHead queue v s
  | .run queue page v => Sys2Proof.Machine.execRun queue page v s
  | .winOpen page v => Sys2Proof.Machine.execWinOpen page v s
  | .cfgUpdate v => Sys2Proof.Machine.execCfgUpdate v s
  | .mbxSel page v => Sys2Proof.Machine.execMbxSel page v s
  | .capture v => Sys2Proof.Machine.execCapture v s
  | .mailboxCaptureDone => Sys2Proof.Machine.execMailboxCaptureDone s
  | .indDataRead => Sys2Proof.Machine.execIndDataRead s
  | .indDataWrite v => Sys2Proof.Machine.execIndDataWrite v s
  | .indNoAnswer write => Sys2Proof.Machine.execIndNoAnswer write s
  | .supAccessTimeout write => Sys2Proof.Machine.execSupAccessTimeout write s
  | .take lock v => Sys2Proof.Machine.execTake lock v s
  | .release lock v => Sys2Proof.Machine.execRelease lock v s
  | .debugLock page => Sys2Proof.Machine.execDebugLock page s
  | .testLock page => Sys2Proof.Machine.execTestLock page s
  | .counterLock page => Sys2Proof.Machine.execCounterLock page s
  | .entropyLock page => Sys2Proof.Machine.execEntropyLock page s
  | .supplyLock page => Sys2Proof.Machine.execSupplyLock page s
  | .cordLock page => Sys2Proof.Machine.execCordLock page s
  | .portLock page => Sys2Proof.Machine.execPortLock page s
  | .coreLock page => Sys2Proof.Machine.execCoreLock page s
  | .windowLock page => Sys2Proof.Machine.execWindowLock page s
  | .queueLock page => Sys2Proof.Machine.execQueueLock page s
  | .irqEnable page v => Sys2Proof.Machine.execIrqEnable page v s
  | .hold page v => Sys2Proof.Machine.execHold page v s
  | .clearAll page v => Sys2Proof.Machine.execClearAll page v s
  | .freezeAll page v => Sys2Proof.Machine.execFreezeAll page v s
  | .tagRun page v => Sys2Proof.Machine.execTagRun page v s
  | .rbRun page v => Sys2Proof.Machine.execRbRun page v s
  | .mgRingRun v => Sys2Proof.Machine.execMgRingRun v s
  | .mgSqTail v => Sys2Proof.Machine.execMgSqTail v s
  | .mgCqHead v => Sys2Proof.Machine.execMgCqHead v s
  | .registerWrite space offset v => Sys2Proof.Machine.execRegisterWrite space offset v s
  | .bar4Read offset len => Sys2Proof.Machine.execBar4Read offset len s
  | .bar4Write offset bytes ep => Sys2Proof.Machine.execBar4Write offset bytes ep s
  | .bar4Timeout tag => Sys2Proof.Machine.execBar4Timeout tag s
  | .bar4Resize log2 => Sys2Proof.Machine.execBar4Resize log2 s
  | .smbusRead len => Sys2Proof.Machine.execSmbusRead len s
  | .smbusOffsetWrite v => Sys2Proof.Machine.execSmbusOffsetWrite v s
  | .debugRequest r => Sys2Proof.Machine.execDebugRequest r s
  | .flr => Sys2Proof.Machine.execFlr s
  | .mgmtPerstN flr level => Sys2Proof.Machine.execMgmtPerstN flr level s
  | .warmReset => Sys2Proof.Machine.execWarmReset s
  | .perstNRelease => Sys2Proof.Machine.execPerstNRelease s
  | .alignedRelease => Sys2Proof.Machine.execAlignedRelease s
  | .aux3v3Valid boot => Sys2Proof.Machine.execAux3v3Valid boot s
  | .aux3v3Loss => Sys2Proof.Machine.execAux3v3Loss s
  | .main54vQualify bist => Sys2Proof.Machine.execMain54vQualify bist s
  | .memoryTrainingDone failed => Sys2Proof.Machine.execMemoryTrainingDone failed s
  | .trialTimeout => Sys2Proof.Machine.execTrialTimeout s
  | .vsagWarn => Sys2Proof.Machine.execVsagWarn s
  | .vsagWarnDeassert => Sys2Proof.Machine.execVsagWarnDeassert s
  | .vsagReset => Sys2Proof.Machine.execVsagReset s
  | .vcoreLow => Sys2Proof.Machine.execVcoreLow s
  | .main54vHigh => Sys2Proof.Machine.execMain54vHigh s
  | .thermalTrip => Sys2Proof.Machine.execThermalTrip s
  | .thermalCrit => Sys2Proof.Machine.execThermalCrit s
  | .powerMeasurement mW => Sys2Proof.Machine.execPowerMeasurement mW s
  | .capBoundary => Sys2Proof.Machine.execCapBoundary s
  | .thermalBoundary tj => Sys2Proof.Machine.execThermalBoundary tj s
  | .localCounterCopy => Sys2Proof.Machine.execLocalCounterCopy s
  | .telemetrySample sample => Sys2Proof.Machine.execTelemetrySample sample s
  | .cordPresent port kind => Sys2Proof.Machine.execCordPresent port kind s
  | .cordRemoved port => Sys2Proof.Machine.execCordRemoved port s
  | .cordAnswer port answer => Sys2Proof.Machine.execCordAnswer port answer s
  | .cordNoAnswer port => Sys2Proof.Machine.execCordNoAnswer port s
  | .lanesTrained port lanes => Sys2Proof.Machine.execLanesTrained port lanes s
  | .trainFail port => Sys2Proof.Machine.execTrainFail port s
  | .alignmentFrame port frame => Sys2Proof.Machine.execAlignmentFrame port frame s
  | .dataFrame port frame => Sys2Proof.Machine.execDataFrame port frame s
  | .nakRepeat port => Sys2Proof.Machine.execNakRepeat port s
  | .frameSend port => Sys2Proof.Machine.execFrameSend port s
  | .laneLockLoss port lane => Sys2Proof.Machine.execLaneLockLoss port lane s
  | .retrainDone port lanes => Sys2Proof.Machine.execRetrainDone port lanes s
  | .retrainFail port => Sys2Proof.Machine.execRetrainFail port s
  | .peerDisabled port => Sys2Proof.Machine.execPeerDisabled port s
  | .packetRoute port destModule hops poison m => Sys2Proof.Machine.execPacketRoute port destModule hops poison m s
  | .broadcastReceive port r hops => Sys2Proof.Machine.execBroadcastReceive port r hops s
  | .remoteRead r => Sys2Proof.Machine.execRemoteRead r s
  | .remoteWrite r => Sys2Proof.Machine.execRemoteWrite r s
  | .remoteAdd r => Sys2Proof.Machine.execRemoteAdd r s
  | .remoteMaxu r => Sys2Proof.Machine.execRemoteMaxu r s
  | .remoteMaxs r => Sys2Proof.Machine.execRemoteMaxs r s
  | .remoteCas r => Sys2Proof.Machine.execRemoteCas r s
  | .remoteBulkRead r => Sys2Proof.Machine.execRemoteBulkRead r s
  | .remoteBulkWrite r => Sys2Proof.Machine.execRemoteBulkWrite r s
  | .remoteSignal r => Sys2Proof.Machine.execRemoteSignal r s
  | .remoteWaitReg r => Sys2Proof.Machine.execRemoteWaitReg r s
  | .remoteResponse r => Sys2Proof.Machine.execRemoteResponse r s
  | .requestTimeout tag => Sys2Proof.Machine.execRequestTimeout tag s
  | .remoteFence unit => Sys2Proof.Machine.execRemoteFence unit s
  | .cordRecordPoll port record => Sys2Proof.Machine.execCordRecordPoll port record s
  | .vcordOvercurrent port => Sys2Proof.Machine.execVcordOvercurrent port s
  | .entropyStartupRound blocks => Sys2Proof.Machine.execEntropyStartupRound blocks s
  | .entropyBlock pair block => Sys2Proof.Machine.execEntropyBlock pair block s
  | .entropyServe => Sys2Proof.Machine.execEntropyServe s
  | .signatureDone signature => Sys2Proof.Machine.execSignatureDone signature s
  | .hostMemoryCompletion tag r => Sys2Proof.Machine.execHostMemoryCompletion tag r s
  | .vcoreRampDone => Sys2Proof.Machine.execVcoreRampDone s
  | .d3hotTransition d3hot => Sys2Proof.Machine.execD3hotTransition d3hot s
  | .managementLockAccess lock tag release => Sys2Proof.Machine.execManagementLockAccess lock tag release s
  | .hostLinkChange speed width flit => Sys2Proof.Machine.execHostLinkChange speed width flit s

end Sys2Proof.Machine
end

