-- ==== Sys2Proof/WellFormed.lean ====
section
/-! DEFINITION. WellFormed.lean: what the operands of a command may be: units the module has, and data of the size the manual
gives it. -/

namespace Sys2Proof

open Machine

/-- Port numbers of packets: 0 to 11, and 12 for the module itself (R366). -/
def portOrSelf (p : Nat) : Bool := decide (p ≤ 12)

/-- A memory station of HBM or the Larder (R28, R332). -/
def memStation (n : Nat) : Bool := n < 6 || n = 8 || n = 9

/-- The units a command names are units of the module: cores (R78), clusters (R18), ports (R334), queues (R389), lock
registers (R487), source pairs (R504), stations (R332), lines of HBM and the Larder (R305). A command of any other unit acts
on nothing (log 10). -/
def Instr.unitsExist : Instr → Bool
  | .instrNop c | .endPhase c | .jmp c _ | .bz c _ _ | .bnz c _ _ | .blt c _ _ _ | .loop c _ _ | .add c _ _ _
  | .sub c _ _ _ | .and c _ _ _ | .or c _ _ _ | .xor c _ _ _ | .shl c _ _ _ | .shr c _ _ _ | .sra c _ _ _
  | .addi c _ _ _ | .movi c _ _ | .movhi c _ _ | .mvs c _ _ _ | .mvw c _ _ _ _ _ | .mop c _ _ _ _ _ | .aclr c _
  | .fdp c _ | .finca c _ | .ldf c _ _ | .updc c | .updm c _ _ _ | .rlxc c | .draw c _ _ | .mask c _ _ _ _ | .sievec c
  | .ldk c _ _ _ | .stk c _ _ _ | .ldw c _ _ _ | .stw c _ _ _ | .ldsl c _ _ _ | .stsl c _ _ _ | .wget c _ _ _
  | .wput c _ _ _ | .accst c _ _ | .smsg c | .bcst c _ | .brcv c _ _ | .sig c _ _ | .wait c _ | .pdone c
  | .redi c _ _ _ | .redf c _ _ _ _ | .reda c _ _ _ | .fpr c | .colanderPacket c _ | .coreHandshake c => decide (c < 9216)
  | .sieveRequest k | .fencedNotice k _ _ | .agentTickTimeout k => decide (k < 144)
  | .routerPacket k input _ => decide (k < 144) && routerPort k input
  | .routerHandshake k part => decide (k < 144 && part < 3)
  | .memoryRead a => (regionOf a).lined
  | .memoryWrite a bs =>
    (regionOf a).lined && (regionOf (a + bs.length - 1)).lined && oneWindow a bs.length
  | .scrubRead n => memStation n
  | .sqTail q _ | .cqHead q _ | .run q _ _ => decide (q < 64)
  | .take l _ | .release l _ | .managementLockAccess l _ _ => decide (l < 32)
  | .hello p _ | .fp p _ | .halt p _ | .lsEnd p _ | .cordPresent p _ | .cordRemoved p | .cordAnswer p _
  | .cordNoAnswer p | .lanesTrained p _ | .trainFail p | .alignmentFrame p _ | .dataFrame p _ | .nakRepeat p
  | .frameSend p | .laneLockLoss p _ | .retrainDone p _ | .retrainFail p | .peerDisabled p | .cordRecordPoll p _
  | .vcordOvercurrent p => decide (p < 12)
  | .packetRoute p _ _ _ _ | .broadcastReceive p _ _ => portOrSelf p
  | .entropyBlock pair _ => decide (pair < 4)
  | .debugRequest r => decide (r.target < 5)
  | _ => true

/-- A message between launch objects names a slot of the table of 48 and carries one value for each member (R16, R236). -/
def Machine.StateMsg.sized (m : StateMsg) : Bool :=
  decide (m.destSlot < 48) && decide (m.vals.length = m.member.length) &&
    (m.kind ≠ .binary || decide (m.flip.length = m.member.length))

/-- A lock-step message names a slot and carries a 32-byte digest (R271). -/
def Machine.LockMsg.sized (m : LockMsg) : Bool := decide (m.slot < 48) && decide (m.digest.length = 32)

/-- A request's lines number 1 to 64, and a BULK_WRITE carries 64 bytes for each (R360). -/
def Machine.Request.sized (r : Request) : Bool :=
  decide (r.linesM1 < 64) && (r.op ≠ .bulkWrite || decide (r.data.length = 64 * (r.linesM1 + 1)))

/-- The data a command carries has the size the manual gives it: slots (R16), digests (R271), end records (R376), blocks
(R504, R505), rounds (R509), signatures (R531), temperatures of four dies (R550), register words (R472), BAR4 pieces (R393,
R394) and sizes (R388), lanes (R335), frames (R341). -/
def Instr.sized : Instr → Bool
  | .stateMessage m => m.sized
  | .broadcastVector m => decide (m.slot < 48)
  | .freeze n _ _ | .freezeReply n _ _ _ | .limit n _ _ | .drained n _ _ | .faultNotice n _ _ | .ckptDone n _ _ _
  | .ckptCommit n _ _ | .fencedNotice _ _ n => decide (n < 48)
  | .hello _ m | .fp _ m | .halt _ m | .lsEnd _ m => m.sized
  | .routerPacket _ _ p => decide (p.vc < 4) && decide (1 ≤ p.flits.length)
  | .remoteRead r | .remoteWrite r | .remoteAdd r | .remoteMaxu r | .remoteMaxs r | .remoteCas r | .remoteBulkRead r
  | .remoteBulkWrite r | .remoteSignal r | .remoteWaitReg r | .broadcastReceive _ r _ => r.sized
  | .registerWrite _ o _ => decide (o % 4 = 0)
  | .bar4Read _ n => decide (1 ≤ n)
  | .bar4Write _ bs _ => bs ≠ []
  | .memoryWrite _ bs => bs ≠ []
  | .bar4Resize n => decide (36 ≤ n ∧ n ≤ 39)
  | .smbusRead n => decide (1 ≤ n)
  | .thermalBoundary tj => decide (tj.length = 4)
  | .telemetrySample x => decide (x.tj.length = 4)
  | .cordAnswer _ a => decide (a.record.length = 64)
  | .cordRecordPoll _ r => decide (r.length = 64)
  | .laneLockLoss _ l => decide (l < 4)
  | .dataFrame _ f => decide (f.slots.length = 20)
  | .entropyStartupRound bs => bs.all fun b => decide (b.length = 8) && b.all fun x => decide (x.samples.length = 128)
  | .entropyBlock _ b => decide (b.samples.length = 128)
  | .signatureDone g => decide (g.length = 384)
  | _ => true

/-- A well-formed command: its units exist and its data is whole. -/
def Instr.wellFormed (i : Instr) : Bool := i.unitsExist && i.sized

end Sys2Proof
end

