-- ==== Sys2Proof/Safety.lean ====
section
/-! DEFINITION. Safety.lean: what a safe run is: commands of units that exist, memories in canonical form, steps that go on. -/

namespace Sys2Proof.Machine

/-- Every command that waits is well formed. -/
def State.queueSafe (s : State) : Bool := s.pending.all Instr.wellFormed

/-- The module's memory and what it wrote to the two hosts' memories are in canonical form. -/
def State.memorySafe (s : State) : Bool :=
  Mem.wf memBackground s.mem && Mem.wf noBackground s.host.mem && Mem.wf noBackground s.mgmt.dest

/-- A command goes on: it has a next state. -/
def goesOn (i : Instr) (s : State) : Prop := ∃ t, exec i s = .next t

/-- A debug request that steps a control processor, at an open debug port: the one request the manual gives no effect (R535). -/
def State.stepsProcessor (s : State) : Instr → Bool
  | .debugRequest (.step n) => decide (n < 5) && s.endpointUp && !s.debugLocked
  | _ => false

/-! ### When an instruction of a stage program retires (R118, R129, R131, R138, R142) -/

/-- Core c may issue an instruction now and it meets no error before its own work: it is the instruction at the core's PC, no
bit of its word or of the core store it works through is flipped, the budget is not used up, and its stage does not lie below
the stage register. -/
def State.ready (s : State) (c : Nat) (ins : Instr) (stage : Option Nat) (i : Issue) : Prop :=
  c < 9216 ∧ s.issuing c ins = some i ∧ s.wordUpset c i.word = none ∧ s.storeUpset c ins = none ∧ i.r.retired < 2 ^ 24 ∧
    i.r.stage ≤ stage.getD i.r.stage

/-- A place in the running member's program. -/
def Issue.inProgram (i : Issue) (pc : Nat) : Prop := pc < (i.x.program i.m.block).length

/-- The PC after an instruction: the next word, or the branch target (R118, R119). -/
def Issue.pcAfter (i : Issue) : Option Int → Nat
  | some off => ((i.r.pc : Int) + 1 + off).toNat
  | none => i.r.pc + 1

/-- The run of an issue with its stage register set. -/
def Issue.run (i : Issue) (stage : Option Nat) : Run := { i.r with stage := stage.getD i.r.stage }

/-- The core of an issue before the instruction's own work: the tagging LFSR has stepped, the watchdog has seen progress, and
the stage register is set (R131, R582, R587). -/
def Issue.begun (i : Issue) (c : Nat) (stage : Option Nat) : Core :=
  { i.co with lfsr := lfsrStep c i.co.lfsr, quietTicks := 0, run := some (i.run stage) }

/-- The issue as the instruction's own work sees it. -/
def Issue.seen (i : Issue) (c : Nat) (stage : Option Nat) : Issue := { i with co := i.begun c stage, r := i.run stage }

/-- A core after an instruction has retired: its next PC, one more instruction of the phase, its beats, and the wasted beat of a
taken branch (R118, R142, R573). -/
def Core.moved (co : Core) (r : Run) (pc beats : Nat) (taken : Bool) : Core :=
  { co with
    run := some { r with pc := pc, retired := r.retired + 1, wait := .none }
    retired := (co.retired + beats) % 2 ^ 48
    wasted := if taken then (co.wasted + 1) % 2 ^ 48 else co.wasted }

/-- The state after an instruction has retired with a core of its own making: the core has moved on, and tagging follows. -/
def Issue.retired (i : Issue) (s : State) (c : Nat) (ins : Instr) (co : Core) (r : Run) (off : Option Int) (beats : Nat) : State :=
  (s.setCore c (co.moved r (i.pcAfter off) beats off.isSome)).tag c i ins 1 beats

/-- The state after an instruction has ended in a program fault with a code of R142. -/
def Issue.faulted (i : Issue) (s : State) (c : Nat) (ins : Instr) (code : Nat) : State :=
  (s.programFault c i code i.r.pc).tag c i ins 2 1

/-- No word of a core's store is flipped. -/
def State.storeSound (s : State) (c : Nat) : Prop :=
  ∀ k < 0x10000, s.upsetAt (storeBase + 0x10000 * c + k) = false ∧ s.correctableAt (storeBase + 0x10000 * c + k) = none

/-! ### When an order of an opcode runs, and what its packet may hold (R395, R404, R409, R411, R586) -/

/-- The order of an id may run now: it is open, of this opcode, not started, and neither FENCE, slot order, the order of fences nor
a fatal error holds it back. -/
def State.mayRun (s : State) (opcode id : Nat) (o : Order) : Prop :=
  (s.arbiter.orders ++ s.mgmt.alone).find? (fun o => o.id = id) = some o ∧ o.opcode = opcode ∧ o.started = false ∧
    s.mayStart o = true ∧ (s.platform.fatal = true → o.source = 0x80 ∨ opcode ∈ [1, 2, 3])

/-- An order that has started. -/
def Order.begun (o : Order) : Order := { o with started := true }

/-- FLAGS hold only common bits and those the opcode defines, TARGET is as it asks, and every parameter byte outside its fields is
zero. `fields` are the first byte and the length of each. -/
def Order.lawful (o : Order) (flags : Nat) (target : Prop) (fields : List (Nat × Nat)) : Prop :=
  Nat.land o.flags (252 - flags) = 0 ∧ target ∧
    ∀ i, 16 ≤ i → i < 64 → (∀ f ∈ fields, i < f.1 ∨ f.1 + f.2 ≤ i) → o.field i 1 = 0

/-- HOST_ADDR and HOST_LEN of a command leave room for what it writes to host memory (R411). -/
def Order.hostRoom (o : Order) (addr len need : Nat) : Prop :=
  o.field addr 8 % 64 = 0 ∧ o.field len 8 % 64 = 0 ∧ need ≤ o.field len 8

end Sys2Proof.Machine
end

