-- ==== Sys2Proof/Certificates/Slice0/Obligations.lean ====
section
/-! DEFINITION. Certificates/Slice0/Obligations.lean: what is stated of the model, for the provers. -/

open Sys2Proof Sys2Proof.Machine

/-! ### Steps, commands, reset -/

/-- A step takes the command at the front of the queue and runs it on the module with the rest of the queue; on an empty queue
the module idles, which is the model's choice (log entries 1 and 2). -/
def Obligations.StepRunsTheFrontCommand : Prop :=
  ∀ (c : Instr) (rest : List Instr) (s : State),
    step { s with pending := c :: rest } = exec c { s with pending := rest } ∧ (s.pending = [] → step s = .next s)

/-- Every command has a next state, but one: a debug request that steps a control processor at an open debug port, which the
manual gives no effect (R535, log entry 11). A command that names a unit the module does not have acts on nothing (log entry 10); a
memory access outside HBM and the Larder is refused (R306). -/
def Obligations.CommandsGoOn : Prop :=
  ∀ (i : Instr) (s : State),
    (s.stepsProcessor i = false → goesOn i s) ∧ (s.stepsProcessor i = true → exec i s = .refused .debugStep) ∧
    (i.unitsExist = false → exec i s = .next s ∨ exec i s = .next { s with reply := .unsupported })

/-- A step takes exactly one command from the queue, adds none, and keeps the module's memory and what it wrote to the memories
of the two hosts in canonical form. -/
def Obligations.StepKeepsMemory : Prop :=
  ∀ (s t : State) (c : Instr) (rest : List Instr), s.pending = c :: rest → step s = .next t →
    t.pending = rest ∧ (s.memorySafe = true → t.memorySafe = true)

/-- The module right after a power-up: every slot EMPTY, no queue runs, the entropy source in STARTUP, module ID 0, every route
invalid and every port DISABLED, no lock bit, no counter, RB_RUN set, HOST limit 0.75 V and CAP 0.85 V, no scrub range; HBM,
GENERAL, CHECKPOINT, FOLD_POOL, slices and core stores hold nothing, JOURNAL, ERROR_LOG and TAG_RING read (R601). That they
read zero is the model's choice (log entry 5), as are the supplies, the link and the training found good (log entry 4). -/
def Obligations.ResetState : Prop :=
  let s := State.reset
  s.memorySafe = true ∧ s.queueSafe = true ∧ s.pending = [] ∧
    (∀ n, (s.slot n).state = .empty ∧ (s.slot n).ckptReady = false) ∧ (∀ q, (s.queue q).run = false) ∧
    s.entropy.state = .startup ∧ s.entropy.pool = [] ∧ s.fabric.moduleId = 0 ∧ s.fabric.groupRoute = [] ∧ s.fabric.memberRoute = [] ∧
    (∀ p, (s.port p).state = .disabled ∧ (s.port p).counters = []) ∧ s.regs.secLock = 0 ∧ s.debugLocked = false ∧
    (∀ k, (s.cluster k).counters = []) ∧ s.perf.hostCounters = [] ∧ s.perf.rbRun = true ∧ s.perf.rbWritten = 0 ∧
    s.supply.appliedMv = 750 ∧ s.supply.capMv = 850 ∧ (∀ n, (s.station n).ranges = []) ∧
    (∀ a, a < 0x010000000000 ∨ 0x010007000000 ≤ a → s.byteAt a = none) ∧
    (∀ a, 0x010000000000 ≤ a → a < 0x010007000000 → s.byteAt a = some 0) ∧
    s.platform.rails = true ∧ s.platform.boot = .ready ∧ s.barsUp = true ∧ s.upsets = []

/-! ### Stage programs -/

/-- Words written out field by field decode to their instructions; a word that uses an unused bit, the top bits of a vector or
accumulator field, or an opcode that is not listed is no instruction (R116, R117, R119 to R127, R139). -/
def Obligations.StageWords : Prop :=
  decodeStage 7 0b00000010111111111111111111111110#32 = some (.jmp 7 (-2)) ∧
  decodeStage 7 0b00000101000010001000000000000011#32 = some (.blt 7 1 2 3) ∧
  decodeStage 7 0b00010000001010011000100000000000#32 = some (.add 7 5 6 4) ∧
  decodeStage 7 0b00011001111111111111111111111111#32 = some (.movi 7 31 (-1)) ∧
  decodeStage 7 0b00100001001010111101101000011010#32 = some (.mvw 7 5 15 13 2 3) ∧
  decodeStage 7 0b00110000000000000000000000000000#32 = some (.updc 7) ∧
  decodeStage 7 0b01010001010010101000110000000101#32 = some (.mask 7 9 10 6 5) ∧
  decodeStage 7 0b01100100011100001111111111000000#32 = some (.ldsl 7 14 3 (-64)) ∧
  decodeStage 7 0b01110010010100000000000000000001#32 = some (.brcv 7 10 true) ∧
  decodeStage 7 0b10000000001000000000000111111111#32 = some (.sig 7 4 511) ∧
  decodeStage 7 0b10010001001000001001111000001110#32 = some (.redf 7 4 2 15 14) ∧
  decodeStage 7 0b10000010000000000000000000000000#32 = some (.pdone 7) ∧
  decodeStage 7 0b00010000001010011000100000000001#32 = none ∧
  decodeStage 7 0b01110001100000000000000000000000#32 = none ∧
  decodeStage 7 0b00100011010000000000000000000000#32 = none ∧
  decodeStage 7 0b00000111000000000000000000000000#32 = none

/-- Every instruction of a stage program is read back from its word, with every operand at every value; a word that decodes is
the word of its instruction, and an opcode that is not listed decodes to nothing (R116, R117, R119 to R127, R139). -/
def Obligations.StageRoundTrip : Prop :=
  (∀ (i : Instr) (w : Word), encodeStage i = some w → ∃ core, decodeStage core w = some i) ∧
  (∀ (i : Instr) (w : Word) (core : Nat), decodeStage core w = some i → encodeStage i = some w) ∧
  (∀ (w : Word) (core : Nat), (∀ i, stageOpcode i ≠ some (w.extractLsb' 24 8)) → decodeStage core w = none)

/-- Each scalar instruction writes its result into kA and the PC goes on by one word; the rest of the module is left as it is,
but for the core's counters and what tagging writes (R120). -/
def Obligations.ScalarInstructions : Prop :=
  ∀ (s : State) (c : Nat) (a b d : BitVec 5) (i14 : BitVec 14) (i19 : BitVec 19) (i16 : BitVec 16) (i : Issue),
    i.inProgram (i.r.pc + 1) →
    let gives := fun (ins : Instr) (v : Word) => s.ready c ins none i →
      exec ins s = .next (i.retired s c ins ((i.begun c none).setK a v) i.r none 1)
    let x := i.co.kreg b
    let y := i.co.kreg d
    gives (.add c a b d) (x + y) ∧ gives (.sub c a b d) (x - y) ∧ gives (.and c a b d) (x &&& y) ∧
      gives (.or c a b d) (x ||| y) ∧ gives (.xor c a b d) (x ^^^ y) ∧ gives (.shl c a b d) (x <<< (y.toNat % 32)) ∧
      gives (.shr c a b d) (x >>> (y.toNat % 32)) ∧ gives (.sra c a b d) (x.sshiftRight (y.toNat % 32)) ∧
      gives (.addi c a b i14) (x + i14.signExtend 32) ∧ gives (.movi c a i19) (i19.signExtend 32) ∧
      gives (.movhi c a i16) (i16 ++ (i.co.kreg a).extractLsb' 0 16)

/-- A branch goes to PC + 1 + OFF when its condition holds and to the next word when it does not; only LOOP writes a register
(R118, R119). END ends the member's program after a PDONE, and without one is a program fault PHASE_ORDER (R119, R132). Where
the manual is open or silent the clauses follow the model's choice: log entry 24. -/
def Obligations.Branches : Prop :=
  (∀ (s : State) (c : Nat) (a b : BitVec 5) (o24 : BitVec 24) (o19 : BitVec 19) (o14 : BitVec 14) (i : Issue),
    let goes := fun (ins : Instr) (co : Core) (taken : Prop) [Decidable taken] (off : Int) =>
      let way := if taken then some off else none
      s.ready c ins none i → i.inProgram (i.pcAfter way) → exec ins s = .next (i.retired s c ins co i.r way 1)
    let co := i.begun c none
    let x := i.co.kreg a
    goes (.instrNop c) co False 0 ∧ goes (.jmp c o24) co True o24.toInt ∧ goes (.bz c a o19) co (x = 0) o19.toInt ∧
      goes (.bnz c a o19) co (x ≠ 0) o19.toInt ∧ goes (.blt c a b o14) co (x.toInt < (i.co.kreg b).toInt) o14.toInt ∧
      goes (.loop c a o19) (co.setK a (x - 1)) (a ≠ 0 ∧ x ≠ 1) o19.toInt) ∧
  (∀ (s : State) (c : Nat) (i : Issue), s.ready c (.endPhase c) none i →
    let co := i.begun c none
    exec (.endPhase c) s = .next (if i.r.pdone
      then ((s.setCore c { co with retired := (co.retired + 1) % 2 ^ 48 }).tag c i (.endPhase c) 1 1).endMember c
      else i.faulted (s.setCore c co) c (.endPhase c) 6))

/-- A scalar register reads what was written to it, k0 reads zero whatever is written, and no other register changes; the same of
vector registers and accumulator values, which have no such register (R112, R113). -/
def Obligations.RegisterFiles : Prop :=
  ∀ (co : Core) (a b : BitVec 5) (v : Word) (wa wb : BitVec 4) (w : BitVec 512) (ta tb : BitVec 3) (n m n' m' : Nat) (x : Int),
    (co.setK a v).kreg b = (if b = 0 then 0 else if a = b then v else co.kreg b) ∧
      (co.setW wa w).wreg wb = (if wa = wb then w else co.wreg wb) ∧
      (n < 8 → m < 8 → n' < 8 → m' < 8 →
        (co.setAcc ta n m x).accreg tb n' m' = if ta = tb ∧ n = n' ∧ m = m' then x else co.accreg tb n' m')

/-- Core-store loads and stores, moves of words and accumulators, on an address without a fault: the destination holds the bytes
of the core store, or the core store holds the source, and nothing else changes (R123, R125). A core-store access outside 0
to 0xFFFF is VALUE_RANGE, then one that is not aligned is ALIGN, then a store outside the writable range 0xE000 to 0xF7FF is
STORE_PROTECT; each is taken as a program fault (R123, R128, R142). LDSL reads 64 bytes of the core's program window, STSL
writes them; an offset above 4,032 or below 0 is SLICE_RANGE, one that is not a multiple of 64 is ALIGN (R124, R125, R128).
Where the manual is open or silent the clauses follow the model's choice: log entry 48. -/
def Obligations.CoreStoreAccesses : Prop :=
  (∀ (s : State) (c : Nat) (ka kb : BitVec 5) (wa wb n : BitVec 4) (acc : BitVec 3) (imm : BitVec 14) (i : Issue),
    i.inProgram (i.r.pc + 1) → s.storeSound c →
    let p := storeAddr (i.co.kreg kb) imm
    let q := (i.co.kreg kb).toInt
    let co := i.begun c none
    let gives := fun (ins : Instr) (co : Core) (beats : Nat) =>
      s.ready c ins none i → exec ins s = .next (i.retired s c ins co i.r none beats)
    let stores := fun (p : Int) (bs : List Byte) => co.modMember i.r.member fun _ => i.m.put p.toNat bs
    (storeFault p 4 4 false = none →
      gives (.ldk c ka kb imm) (co.setK ka (BitVec.ofNat 32 (leNat (i.m.loadBytes p.toNat 4)))) 2) ∧
    (storeFault p 4 4 true = none → gives (.stk c ka kb imm) (stores p (leBytes 4 (i.co.kreg ka).toNat)) 2) ∧
    (storeFault p 64 64 false = none →
      gives (.ldw c wa kb imm) (co.setW wa (BitVec.ofNat 512 (leNat (i.m.loadBytes p.toNat 64)))) 2) ∧
    (storeFault p 64 64 true = none → gives (.stw c wa kb imm) (stores p (leBytes 64 (i.co.wreg wa).toNat)) 2) ∧
    (storeFault q 64 256 true = none → gives (.accst c acc kb) (stores q
      ((List.range 64).flatMap fun e => leBytes 4 (toField 32 (i.co.accreg acc (e / 8) (e % 8))))) 4) ∧
    gives (.wget c ka wb n) (co.setK ka (vecWord (i.co.wreg wb) n.toNat)) 1 ∧
    gives (.wput c wa kb n) (co.setW wa (setVecWord (i.co.wreg wa) n.toNat (i.co.kreg kb))) 1) ∧
  (∀ (s : State) (c : Nat) (ka kb : BitVec 5) (wa : BitVec 4) (imm : BitVec 14) (i : Issue),
    let p := storeAddr (i.co.kreg kb) imm
    let co := i.begun c none
    let code := fun (n : Nat) (store : Bool) =>
      if p < 0 ∨ 0xFFFF < p then 0x05 else if p % n ≠ 0 then 0x03
      else if store ∧ (p < 0xE000 ∨ 0xF800 < p + n) then 0x02 else 0
    let takes := fun (ins : Instr) (n : Nat) (store : Bool) =>
      s.ready c ins none i → code n store ≠ 0 → exec ins s = .next (i.faulted (s.setCore c co) c ins (code n store))
    takes (.ldk c ka kb imm) 4 false ∧ takes (.stk c ka kb imm) 4 true ∧ takes (.ldw c wa kb imm) 64 false ∧
      takes (.stw c wa kb imm) 64 true) ∧
  (∀ (s : State) (c : Nat) (wa : BitVec 4) (kb : BitVec 5) (imm : BitVec 14) (i : Issue),
    let p := storeAddr (i.co.kreg kb) imm
    let u := s.setCore c (i.begun c none)
    let ld := Instr.ldsl c wa kb imm
    let st := Instr.stsl c wa kb imm
    (s.ready c ld none i → windowFault p = none → ∀ t bs, i.inProgram (i.r.pc + 1) →
      u.readLocal (windowAddr c p.toNat) 64 = (t, some bs) →
      exec ld s = .next (i.retired t c ld ((i.begun c none).setW wa (BitVec.ofNat 512 (leNat bs))) i.r none 12)) ∧
    (s.ready c st none i → windowFault p = none →
      exec st s = .next ((u.writeLocal (windowAddr c p.toNat) (leBytes 64 (i.co.wreg wa).toNat)).1.retire c i st none 12)) ∧
    (p < 0 ∨ 4032 < p → (s.ready c ld none i → exec ld s = .next (i.faulted u c ld 0x04)) ∧
      (s.ready c st none i → exec st s = .next (i.faulted u c st 0x04))) ∧
    (0 ≤ p → p ≤ 4032 → p % 64 ≠ 0 → (s.ready c ld none i → exec ld s = .next (i.faulted u c ld 0x03)) ∧
      (s.ready c st none i → exec st s = .next (i.faulted u c st 0x03))))

/-- MVS, MVW and MOP add products of signed bytes or of dense couplings and states into accA, ACLR clears it; a tile above 1,023
is VALUE_RANGE (R121, R128). An accumulator value gains a product sum, clamped to the range of 32 bits, ACC_SAT is set when
it clips, and no other value changes (R88). -/
def Obligations.MacInstructions : Prop :=
  (∀ (s : State) (c : Nat) (acc row n m : BitVec 3) (kb : BitVec 5) (wb wc : BitVec 4) (i : Issue), i.inProgram (i.r.pc + 1) →
    let j := i.seen c none
    let t := (i.co.kreg kb).toNat
    let w := i.co.wreg wb
    let v := i.co.wreg wc
    let dot := fun (f : Nat → Int) => (List.range 8).foldl (fun a k => a + f k) 0
    let gives := fun (ins : Instr) (j : Issue) => s.ready c ins none i →
      exec ins s = .next (i.retired s c ins (j.co.modMember i.r.member fun _ => j.m) i.r none 1)
    (t < 1024 → gives (.mvs c acc kb row) (j.accumulateAll acc ((List.range 8).map fun r => (row.toNat, r,
      dot fun k => i.m.dense (8 * (t / 32) + r) (8 * (t % 32) + k) * i.m.mvsValue (8 * (t % 32) + k))))) ∧
    (1024 ≤ t → s.ready c (.mvs c acc kb row) none i →
      exec (.mvs c acc kb row) s = .next (i.faulted (s.setCore c (i.begun c none)) c (.mvs c acc kb row) 0x05)) ∧
    gives (.mvw c acc wb wc row n) (j.accumulateAll acc ((List.range 8).map fun r => (row.toNat, r,
      dot fun k => vecByte w (8 * r + k) * vecByte v (8 * n.toNat + k)))) ∧
    gives (.mop c acc wb wc n m) (j.accumulateAll acc ((List.range 8).flatMap fun r => (List.range 8).map fun k =>
      (r, k, vecByte w (8 * n.toNat + r) * vecByte v (8 * m.toNat + k)))) ∧
    (s.ready c (.aclr c acc) none i → ∃ co, exec (.aclr c acc) s = .next (i.retired s c (.aclr c acc) co i.r none 1) ∧
      co = { i.begun c none with acc := co.acc } ∧ ∀ (b : BitVec 3) r k, r < 8 → k < 8 →
        co.accreg b r k = if b = acc then 0 else i.co.accreg b r k)) ∧
  (∀ (i : Issue) (a b : BitVec 3) (r k r' k' : Nat) (d : Int), r < 8 → k < 8 → r' < 8 → k' < 8 →
    let v := i.co.accreg a r k + d
    let j := i.accumulate a r k d
    j.co.accreg b r' k' = (if a = b ∧ r = r' ∧ k = k' then max (-2147483648) (min 2147483647 v) else i.co.accreg b r' k') ∧
      j.m = (if v < -2147483648 ∨ 2147483647 < v then i.m.setSat 1 else i.m) ∧ j.r = i.r ∧ j.x = i.x ∧ j.n = i.n)

/-- FDP pushes the changed variables of one column group and marks it pushed; a group above 31 is VALUE_RANGE, one pushed before
PHASE_ORDER. FINCA pushes every changed variable and marks every group, and with DENSE_OFF does nothing. LDF reads a field
saturated to 32 bits, setting FIELD_SAT when it clips (R89, R121, R128, R132). A dense push adds coupling times increment to
every field of the block, in 40-bit two's complement, and leaves the couplings, the states and the FLIP bits as they are
(R89, R91). -/
def Obligations.FieldInstructions : Prop :=
  (∀ (s : State) (c : Nat) (a b : BitVec 5) (i : Issue), i.inProgram (i.r.pc + 1) →
    let h := (i.co.kreg a).toNat
    let j := (i.co.kreg b).toNat
    let u := fun (stage : Option Nat) => s.setCore c (i.begun c stage)
    let pushes := fun (js groups : List Nat) => { (i.begun c (some 3)).modMember i.r.member (fun _ => i.m.pushAll js) with
      run := some { i.run (some 3) with pushed := groups } }
    (s.ready c (.fdp c a) (some 3) i → exec (.fdp c a) s = .next (
      if 31 < h then i.faulted (u (some 3)) c (.fdp c a) 0x05
      else if h ∈ i.r.pushed then i.faulted (u (some 3)) c (.fdp c a) 0x06
      else i.retired s c (.fdp c a) (pushes (i.m.changed.filter fun j => j / 8 = h) (i.r.pushed ++ [h]))
        { i.run (some 3) with pushed := i.r.pushed ++ [h] } none (i.m.rowTiles h))) ∧
    (s.ready c (.finca c false) (some 3) i → exec (.finca c false) s = .next (
      if i.r.pushed ≠ [] then i.faulted (u (some 3)) c (.finca c false) 0x06
      else i.retired s c (.finca c false) (pushes i.m.changed (List.range 32)) { i.run (some 3) with pushed := List.range 32 } none
        (i.m.changed.map fun j => (8 * i.m.rowTiles (j / 8) + 63) / 64).sum)) ∧
    (s.ready c (.finca c true) (some 3) i →
      exec (.finca c true) s = .next (i.retired s c (.finca c true) (i.begun c (some 3)) (i.run (some 3)) none 1)) ∧
    (s.ready c (.ldf c a b) none i → exec (.ldf c a b) s = .next (
      if i.m.varCount ≤ j then i.faulted (u none) c (.ldf c a b) 0x05
      else i.retired s c (.ldf c a b) (((i.begun c none).setK a (BitVec.ofInt 32 (max (-2147483648) (min 2147483647
        (i.m.field j))))).modMember i.r.member fun _ =>
          if i.m.field j < -2147483648 ∨ 2147483647 < i.m.field j then i.m.setSat 0 else i.m) i.r none 2))) ∧
  (∀ (m : Member) (d : Int) (j k : Nat), m.varCount ≤ 256 → j < 256 → k < m.varCount →
    let n := m.pushColumn d j
    n.field k = (m.field k + m.dense k j * d).bmod (2 ^ 40) ∧ n.spinBit k = m.spinBit k ∧ n.flip k = m.flip k ∧
      n.stream k = m.stream k ∧ n.varCount = m.varCount ∧ ∀ x y, x < 256 → y < 256 → n.dense x y = m.dense x y)

/-- A Gibbs update takes one draw of its variable and sets the state by comparing its 24 high bits with the logistic entry; FLIP
says whether the state differs from the one at launch; a field that clips sets FIELD_SAT. With no draw left there is no
update (R93, R96, R97). -/
def Obligations.GibbsUpdate : Prop :=
  ∀ (m : Member) (beta draws j k : Nat), j < 256 → k < 256 → j ≠ k →
    let used := (m.used.at j).getD 0
    let z := logisticArg beta (max (-2147483648) (min 2147483647 (m.field j))) m.exponent
    let u := BitVec.ofNat 32 (gipolOutput (m.stream j)) >>> 8
    (draws ≤ used → m.gibbs beta draws j = none) ∧
    (used < draws → ∃ n, m.gibbs beta draws j = some n ∧
      n.spinBit j = decide (u.toNat < logistic (z + 4096).toNat) ∧
      (n.flip j = true ↔ n.spinBit j ≠ (m.spinBit j != m.flip j)) ∧
      n.stream j = gipolStep (m.stream j) ∧ n.used = m.used.put j (used + 1) ∧ n.field j = m.field j ∧
      (bitAt n.sat 0 = 1 ↔ bitAt m.sat 0 = 1 ∨ m.field j < -2147483648 ∨ 2147483647 < m.field j) ∧
      n.spinBit k = m.spinBit k ∧ n.flip k = m.flip k ∧ n.stream k = m.stream k ∧ n.field k = m.field k)

/-- UPDC updates every binary variable of the phase's colour in ascending local index, UPDM those that 64 mask bits select, and
RLXC steps every variable of a relaxation block; a base that is not a multiple of 64 is VALUE_RANGE, a missing draw DRAW
(R97, R122, R128). DRAW gives the next draw of a local index, MASK a Bernoulli mask made from two draws, and each draw steps
the variable's stream once; a local index outside the block or a probability above 16 bits is VALUE_RANGE (R97, R122, R128,
R181). Where the manual is open or silent the clauses follow the model's choice: log entry 48. -/
def Obligations.StochasticInstructions : Prop :=
  (∀ (s : State) (c : Nat) (a : BitVec 5) (b : BitVec 4) (n : BitVec 3) (i : Issue), i.inProgram (i.r.pc + 1) →
    let base := (i.co.kreg a).toNat
    let q := vecQword (i.co.wreg b) n.toNat
    let masked := ((List.range 64).filter fun t => bitAt q t = 1 && base + t < i.m.varCount &&
      i.m.colour (base + t) = i.r.phase).map fun t => base + t
    let u := s.setCore c (i.begun c (some 2))
    let lanes := max 1 (s.workingLanes c)
    let ends := fun (ins : Instr) (m : Option Member) (beats : Nat) => exec ins s = .next (match m with
      | some m => i.retired s c ins ((i.begun c (some 2)).modMember i.r.member fun _ => m) (i.run (some 2)) none beats
      | none => i.faulted u c ins 0x07)
    let beta := i.x.beta i.m.replica i.r.epoch
    (s.tableUpset c = false → s.ready c (.updc c) (some 2) i →
      ends (.updc c) (i.m.gibbsAll beta i.x.draws (i.m.ofColour i.r.phase)) (((i.m.ofColour i.r.phase).length + lanes - 1) / lanes + 6)) ∧
    (s.tableUpset c = false → s.ready c (.updm c a b n) (some 2) i → base % 64 = 0 →
      ends (.updm c a b n) (i.m.gibbsAll beta i.x.draws masked) ((masked.length + lanes - 1) / lanes + 6)) ∧
    (s.ready c (.updm c a b n) (some 2) i → base % 64 ≠ 0 → exec (.updm c a b n) s = .next (i.faulted u c (.updm c a b n) 0x05)) ∧
    (∀ rc, i.x.curves.relax = some rc → s.ready c (.rlxc c) (some 2) i →
      ends (.rlxc c) (i.m.relaxAll rc (curveAt i.x.curves.pump i.r.epoch) (curveAt i.x.curves.noise i.r.epoch) i.x.draws
        (List.range i.m.varCount)) ((i.m.varCount + 7) / 8 * 2 + 8))) ∧
  (∀ (s : State) (c : Nat) (a b d : BitVec 5) (w : BitVec 4) (n : BitVec 3) (i : Issue), i.inProgram (i.r.pc + 1) →
    let j := (i.co.kreg b).toNat
    let p := (i.co.kreg d).toNat
    let used := (i.m.used.at j).getD 0
    let st := i.m.stream j
    let st' := gipolStep st
    let u := s.setCore c (i.begun c (some 2))
    let taken := fun (st k : Nat) => { i.m.setStream j st with used := i.m.used.put j k }
    let draw := Instr.draw c a b
    let mask := Instr.mask c w b d n
    (s.ready c draw (some 2) i →
      (i.m.varCount ≤ j → exec draw s = .next (i.faulted u c draw 0x05)) ∧
      (j < i.m.varCount → i.x.draws ≤ used → exec draw s = .next (i.faulted u c draw 0x07)) ∧
      (j < i.m.varCount → used < i.x.draws → exec draw s = .next (i.retired s c draw
        (((i.begun c (some 2)).setK a (BitVec.ofNat 32 (gipolOutput st))).modMember i.r.member fun _ => taken st' (used + 1))
        (i.run (some 2)) none 2))) ∧
    (s.ready c mask (some 2) i →
      (i.m.varCount ≤ j ∨ 2 ^ 16 ≤ p → exec mask s = .next (i.faulted u c mask 0x05)) ∧
      (j < i.m.varCount → p < 2 ^ 16 → i.x.draws ≤ used + 1 → exec mask s = .next (i.faulted u c mask 0x07)) ∧
      (j < i.m.varCount → p < 2 ^ 16 → used + 1 < i.x.draws →
        exec mask s = .next (i.retired s c mask (((i.begun c (some 2)).setW w (setVecQword (i.co.wreg w) n.toNat
          (maskBits (gipolOutput st' * 2 ^ 32 + gipolOutput st) p))).modMember i.r.member fun _ => taken (gipolStep st') (used + 2))
          (i.run (some 2)) none 8))))

/-- SIEVEC hands every categorical variable of the phase's colour to the sieve of the core's cluster, in ascending order, each
with its next draw, and the core waits; with no such variable it retires (R98, R122). The queue holds 64 requests, and those that find
no room wait behind it in their order (R190). The sieve of a cluster serves the
request that came first: it leaves the queue, the served count goes up, and the drawn state goes back to the core; with an
empty queue or out of use it does nothing (R187, R190, R194). With no top-k and no nucleus the sieve draws state k with the
weights W(j) of all states: 32 bits of the draw, scaled to the sum of the weights, fall into the interval of k in index
order; a weight is 2^24 e^-d for the distance d of its scaled log-potential from the largest (R187). Where the manual is open
or silent the clauses follow the model's choice: log entry 21. -/
def Obligations.SieveCommands : Prop :=
  (∀ (s : State) (c : Nat) (i : Issue) (m : Member) (reqs : List (Nat × Word)), s.ready c (.sievec c) (some 2) i →
    i.m.handAll i.x.draws (i.m.ofColour i.r.phase) = some (m, reqs) →
    reqs.map Prod.fst = i.m.ofColour i.r.phase ∧
    let co := (i.begun c (some 2)).modMember i.r.member fun _ => m
    (i.inProgram (i.r.pc + 1) → reqs = [] →
      exec (.sievec c) s = .next (i.retired s c (.sievec c) co (i.run (some 2)) none 1)) ∧
    (reqs ≠ [] → exec (.sievec c) s = .next
      ((s.setCore c { co with run := some { i.run (some 2) with wait := .sieve reqs.length } }).modCluster (clusterOf c) fun k =>
        Cluster.fillSieve { k with sieveWait := k.sieveWait ++ reqs.map fun q => { core := c, member := i.r.member, index := q.1, draw := q.2 } }))) ∧
  (∀ (k : Cluster), k.sieveQueue.length ≤ 64 → let all := k.sieveQueue ++ k.sieveWait
    k.fillSieve = { k with sieveQueue := k.sieveQueue ++ k.sieveWait.take (64 - k.sieveQueue.length)
                           sieveWait := k.sieveWait.drop (64 - k.sieveQueue.length) } ∧
      k.fillSieve.sieveQueue.length = min 64 all.length ∧ k.fillSieve.sieveQueue ++ k.fillSieve.sieveWait = all) ∧
  (∀ (s : State) (k : Nat), k < 144 →
    let c := s.cluster k
    (c.sieveQueue = [] ∨ c.sieveOut = true → exec (.sieveRequest k) s = .next s) ∧
    (∀ q rest n m r g cv, c.sieveQueue = q :: rest → c.sieveOut = false → .weight k ∉ s.upsets →
      (s.core q.core).slot = some n → (s.core q.core).members[q.member]? = some m → (s.core q.core).run = some r →
      (s.slot n).image = some g → (g.cats.find? fun v => v.var = m.varBase + q.index) = some cv →
      let x := s.slot n
      let d := sieveDraw ((List.range cv.states).map fun j => g.logPotential m cv j) (x.beta m.replica r.epoch) x.topk x.nucleus q.draw
      exec (.sieveRequest k) s = .next (((s.setCluster k
        (Cluster.fillSieve { c with sieveQueue := rest, sieveServed := (c.sieveServed + 1) % 2 ^ 32 })).count k
        0x0007 1).sieveReturn q d.1 d.2))) ∧
  (∀ (logs : List Int) (beta : Nat) (o : Word), logs ≠ [] →
    let g := fun (j : Nat) => clampInt (-65536) 65535 ((logs[j]?).getD 0) * (beta : Int)
    ∃ top : Int, (∀ j, j < logs.length → g j ≤ top) ∧ (∃ j, j < logs.length ∧ g j = top) ∧
      let w := fun (j : Nat) => weight (rhe (top - g j) 8).toNat
      let upTo := fun (k : Nat) => ((List.range k).map w).sum
      let k := (sieveDraw logs beta 0 0 o).1
      let r := o.toNat * upTo logs.length / 2 ^ 32
      k < logs.length ∧ upTo k ≤ r ∧ r < upTo (k + 1))

/-- SMSG reads the member's spilled records, sends one message to every destination outside the fold group that lists the phase's
colour, and writes the message staging area; a group of one sends them now, a larger one at its last member's END; a second SMSG is
PHASE_ORDER (R123, R126, R132, R134). What it leaves in the staging area is open (log entry 79). FPR adds the fingerprint terms
of the phase's colour to the sum of its (replica, epoch, phase), modulo 2^64; a second FPR is PHASE_ORDER (R127, R132, R263).
PDONE without FPR, without a SMSG that is owed, a second time, or with a changed column group not yet pushed, is PHASE_ORDER;
it changes nothing else (R132). PDONE in order retires: the member has completed its phase, a held vector of it that is not
of a later phase goes, and the last member of a group without a fault completes the phase of every member, in member order, with its
fingerprint and, after the last phase of an epoch, its close; before that nothing of the group is committed (R126, R134, R248). -/
def Obligations.PhaseCompletion : Prop :=
  (∀ (s : State) (c : Nat) (i : Issue), s.ready c (.smsg c) (some 4) i →
    let u := s.setCore c (i.begun c (some 4))
    (i.r.smsgDone = true → exec (.smsg c) s = .next (i.faulted u c (.smsg c) 0x06)) ∧
    (i.r.smsgDone = false → i.m.num 0xDA90 4 = 0 → u.readSpill i.n c i.r.epoch i.m = (u, true)) ∧
    (∀ t, i.r.smsgDone = false → u.readSpill i.n c i.r.epoch i.m = (t, false) → exec (.smsg c) s = .next t) ∧
    (∀ t, i.r.smsgDone = false → i.inProgram (i.r.pc + 1) → u.readSpill i.n c i.r.epoch i.m = (t, true) →
      let j := (i.seen c (some 4)).queueOwed t
      let out := (j.coloured false).map fun e => j.message t e.1 e.2
      let r := { j.r with smsgDone := true }
      let co := j.co.modMember i.r.member fun m => { m with store := Mem.clear m.store 0xF800 0x800, stagingFree := some t.free }
      let w := { t with free := t.free + 1 }
      (i.co.members.length ≠ 1 → exec (.smsg c) s = .next
        (i.retired w c (.smsg c) { co with run := some r, outbox := i.co.outbox ++ out } r none (1 + out.length))) ∧
      (i.co.members.length = 1 → exec (.smsg c) s = .next
        (i.retired (out.foldl (fun s m => s.send (.state m)) w) c (.smsg c) { co with run := some r } r none (1 + out.length))))) ∧
  (∀ (s : State) (c : Nat) (i : Issue), s.ready c (.fpr c) (some 3) i → i.inProgram (i.r.pc + 1) →
    let js := i.m.ofColour i.r.phase
    let r := { i.run (some 3) with fprDone := true }
    exec (.fpr c) s = .next (if i.r.fprDone then i.faulted (s.setCore c (i.begun c (some 3))) c (.fpr c) 0x06
      else i.retired (s.modSlot i.n fun x => x.modFp i.m.replica i.r.epoch i.r.phase fun f =>
        { f with sum := (f.sum + i.m.fpSum js) % 2 ^ 64 }) c (.fpr c) { i.begun c (some 3) with run := some r } r none
        ((js.length + 7) / 8 + 2))) ∧
  (∀ (s : State) (c : Nat) (i : Issue), s.ready c (.pdone c) (some 5) i →
    (i.r.pdone = true ∨ i.r.fprDone = false ∨ (i.r.smsgDone = false ∧ (i.seen c (some 5)).destinations false ≠ []) ∨
      (i.m.kind ≠ 1 ∧ ∃ j, j < min i.m.varCount 256 ∧ i.m.flip j = true ∧ j / 8 ∉ i.r.pushed)) →
    exec (.pdone c) s = .next (i.faulted (s.setCore c (i.begun c (some 5))) c (.pdone c) 0x06)) ∧
  (∀ (s : State) (c : Nat) (i : Issue), s.ready c (.pdone c) (some 5) i →
    let u := s.setCore c (i.begun c (some 5))
    (i.seen c (some 5)).pdoneBreaks = false →
    let j := (i.seen c (some 5)).queueOwed u
    let last := (i.co.nextMember i.x (i.r.member + 1)).isNone && !i.co.members.any fun m => m.faulted
    let later := fun (v : BcastMsg) => i.r.epoch < v.epoch || (v.epoch = i.r.epoch && i.r.phase < v.phase)
    let co := { j.co with
      run := some { j.r with pdone := true }
      vectors := i.co.vectors.filter fun v => v.replica ≠ i.m.replica || v.block ≠ i.m.block || later v
      launch := if last then { i.co.launch with done := some (i.r.epoch, i.r.phase) } else i.co.launch }
    let t := (s.setCore c co).flushPartials i
    let ran := ((List.range i.co.members.length).zip i.co.members).filter fun p => p.2.replica < i.x.runs
    let v := ran.foldl (fun s p => s.fpComplete i.n p.2.replica i.r.epoch i.r.phase) t
    let v := if i.r.phase + 1 = i.x.colours then ran.foldl (fun s p => s.epochClose c p.1 i.r.epoch) v else v
    exec (.pdone c) s = .next (((if last then v else t).settle i.n).retire c i (.pdone c) none 1))

/-- BCST sends wA to the next core of the chain, writes the staging area, whose bytes are open after it (log entry 79), and waits while
that core's four places are full. BRCV takes the oldest held
vector of its own phase, with PASS sends it on, and waits while there is none (R126, R248). A vector waits on its way while
its core holds four, and until an earlier one on its way has arrived, and is held there otherwise; a BRCV that waits for it takes it,
forwards it with PASS, and retires (R126, R235, R248, R285). A fenced core's router turns it away (R297). Where the manual is open or silent the clauses follow the model's choice: log entry 21. -/
def Obligations.BroadcastVectors : Prop :=
  (∀ (s : State) (c : Nat) (a : BitVec 4) (pass : Bool) (i : Issue),
    let bcst := Instr.bcst c a
    let brcv := Instr.brcv c a pass
    let j := i.seen c none
    let sends := fun (w : BitVec 512) => s.send (.bcast (i.vector w))
    let u := s.setCore c (i.begun c none)
    (s.ready c bcst none i → j.roomNext u = true → i.inProgram (i.r.pc + 1) →
      exec bcst s = .next (i.retired { sends (i.co.wreg a) with free := s.free + 1 } c bcst ((i.begun c none).modMember i.r.member fun m =>
        { m with store := Mem.clear m.store 0xF800 0x800, stagingFree := some s.free }) i.r none 1)) ∧
    (s.ready c bcst none i → j.roomNext u = false → exec bcst s = .next s) ∧
    (s.ready c brcv none i → ∀ v co, j.takeVector = some (v, co) → i.inProgram (i.r.pc + 1) →
      (v.replica, v.block, v.epoch, v.phase) = (i.m.replica, i.m.block, i.r.epoch, i.r.phase) ∧
      exec brcv s = .next (i.retired (if pass then sends v.data else s) c brcv (co.setW a v.data) i.r none 1)) ∧
    (s.ready c brcv none i → j.takeVector = none →
      exec brcv s = .next (s.setCore c { i.begun c none with run := some { i.r with wait := .brcv } }))) ∧
  (∀ (s : State) (m : BcastMsg) (c j : Nat), s.directory m.slot m.replica m.block = some (c, j) →
    let co := s.core c
    let t := s.accept (.bcast m)
    let u := t.setCore c { co with vectors := co.vectors ++ [m] }
    let own := m.runGen = (s.slot m.slot).runGen ∧ co.colander = false
    (own → 4 ≤ co.vectors.length → exec (.broadcastVector m) s = .next (if .bcast m ∈ s.net then s else s.send (.bcast m))) ∧
    (¬ own ∨ co.vectors.length < 4 → s.turn (.bcast m) = false → exec (.broadcastVector m) s = .next s) ∧
    (co.colander = true → s.turn (.bcast m) = true →
      exec (.broadcastVector m) s = .next (t.colanderNotice c (t.senderCluster (.bcast m)) m.slot)) ∧
    (co.colander = false → m.runGen ≠ (s.slot m.slot).runGen → s.turn (.bcast m) = true → exec (.broadcastVector m) s = .next t) ∧
    (own → s.turn (.bcast m) = true → co.vectors.length < 4 → u.waiting c = none → exec (.broadcastVector m) s = .next u) ∧
    (own → s.turn (.bcast m) = true → co.vectors.length < 4 → ∀ i a pass v co', u.waiting c = some i → i.r.wait = .brcv →
      i.instr c = .brcv c a pass → i.takeVector = some (v, co') →
      exec (.broadcastVector m) s = .next ((if pass then (u.setCore c (co'.setW a v.data)).send (.bcast (i.vector v.data))
        else u.setCore c (co'.setW a v.data)).retire c i (.brcv c a pass) none 1)))

/-- SIG signals its count to the object a handle names; WAIT registers there and waits; a handle above 255 or unbound is
VALUE_RANGE; an object whose window the epoch lies beyond holds both back (R126, R128, R244, R246). A local signal of SIG is
one message to the object's cluster; nothing else changes (R126, R244). A SIG to an object of another module waits for its answer (log
entry 83), and without a route retires at once (R354). Where the manual is open or silent the clauses follow
the model's choice: log entry 21. -/
def Obligations.SyncInstructions : Prop :=
  (∀ (s : State) (c : Nat) (a : BitVec 5) (count : BitVec 9) (i : Issue),
    let sig := Instr.sig c a count
    let wait := Instr.wait c a
    let u := s.setCore c (i.begun c none)
    let named := i.handle (i.co.kreg a)
    let waitsFor := fun (w : CoreWait) => s.setCore c { i.begun c none with run := some { i.r with wait := w } }
    let waits := waitsFor .sync
    (s.ready c sig none i →
      (named = none → exec sig s = .next (i.faulted u c sig 0x05)) ∧
      (∀ hall, named = some hall →
        let remote := (waitsFor .signal).sendRequest .signal hall count.toNat 0 0 i.x.runGen i.r.epoch [] none
          (syncUnit (clusterOf c)) (some (c, i.r.epoch))
        (u.beyondWindow hall i.r.epoch i.x.runGen = true → exec sig s = .next s) ∧
        (u.beyondWindow hall i.r.epoch i.x.runGen = false → hallModule hall = s.fabric.moduleId → exec sig s = .next
          ((u.signalTo hall count.toNat i.r.epoch i.x.runGen i.n (syncUnit (clusterOf c)) c).retire c i sig none 1)) ∧
        (hallModule hall ≠ s.fabric.moduleId → exec sig s = .next
          (if remote.2 = none then remote.1 else remote.1.retire c i sig none 1)))) ∧
    (s.ready c wait none i →
      (named = none → exec wait s = .next (i.faulted u c wait 0x05)) ∧
      (∀ hall, named = some hall → (u.beyondWindow hall i.r.epoch i.x.runGen = true → exec wait s = .next s) ∧
        (u.beyondWindow hall i.r.epoch i.x.runGen = false → hallModule hall = s.fabric.moduleId → exec wait s = .next
          (waits.send (.waitReg { object := hall, epoch := i.r.epoch, runGen := i.x.runGen, slot := i.n,
                                  waiter := .core c i.r.epoch }))) ∧
        (u.beyondWindow hall i.r.epoch i.x.runGen = false → hallModule hall ≠ s.fabric.moduleId → exec wait s = .next
          (waits.sendRequest .waitReg hall c 0 0 i.x.runGen i.r.epoch [] none (syncUnit (clusterOf c))).1)))) ∧
  (∀ (s : State) (hall count e runGen n u c : Nat), hallModule hall = s.fabric.moduleId →
    s.signalTo hall count e runGen n u c =
      { s with net := s.net ++ [.signal { object := hall, source := c, count := count, epoch := e, runGen := runGen, slot := n }] })

/-- REDI sends a word and REDA the 64 values of an accumulator as integer partials, REDF a pair of FP32 words as a float partial,
to leaves of a tree in use; a tree or a leaf range not allowed, an integer tree for REDF, an odd word number or a NaN is
VALUE_RANGE; an infinity or an overflow sets FLOAT_SAT (R127, R128, R198, R202). -/
def Obligations.ReductionInstructions : Prop :=
  ∀ (s : State) (c : Nat) (acc : BitVec 3) (a b d : BitVec 5) (w n : BitVec 4) (i : Issue), i.inProgram (i.r.pc + 1) →
    let ta := (i.co.kreg a).toNat
    let lb := (i.co.kreg b).toNat
    let ld := (i.co.kreg d).toNat
    let allowed := fun (t leaf : Nat) => t ≤ 15 ∧ leaf < 2 ^ 24 ∧ bitAt i.x.treeMask t = 1
    let u := s.setCore c (i.begun c none)
    let j := i.seen c none
    let w0 := vecWord (i.co.wreg w) n.toNat
    let w1 := vecWord (i.co.wreg w) (n.toNat + 1)
    let p := redfWord w0
    let q := redfWord w1
    let r := normPair (p.1, q.1)
    let sat := p.2 || q.2 || r.2
    let v := packPair r.1
    let redf := Instr.redf c a b w n
    let fits := allowed ta lb ∧ 8 ≤ ta ∧ n.toNat % 2 = 0 ∧ f32IsNan w0.toNat = false ∧ f32IsNan w1.toNat = false
    (s.ready c (.redi c a b d) none i →
      (allowed ta lb → exec (.redi c a b d) s = .next (i.retired
        (s.send (i.sends u c ta lb (treeInt ta (i.co.kreg d).toInt) false)) c (.redi c a b d) (i.begun c none) i.r none 1)) ∧
      (¬ allowed ta lb → exec (.redi c a b d) s = .next (i.faulted u c (.redi c a b d) 0x05))) ∧
    (s.ready c (.reda c acc b d) none i →
      (allowed lb (ld + 63) → exec (.reda c acc b d) s = .next (i.retired ((List.range 64).foldl (fun t e =>
        t.send (i.sends u c lb (ld + e) (treeInt lb (i.co.accreg acc (e / 8) (e % 8))) false)) s) c (.reda c acc b d) (i.begun c none) i.r none 8)) ∧
      (¬ allowed lb (ld + 63) → exec (.reda c acc b d) s = .next (i.faulted u c (.reda c acc b d) 0x05))) ∧
    (s.ready c redf none i →
      (fits → exec redf s = .next (i.retired (s.send (j.sends u c ta lb (.pair v.1 v.2) sat)) c redf
        ((i.begun c none).modMember i.r.member fun _ => if sat then i.m.setSat 4 else i.m) i.r none 1)) ∧
      (¬ fits → exec redf s = .next (i.faulted u c redf 0x05)))

/-- Before its own work an instruction of a run is checked: a flipped word of the program or of the core store it works through
fences and castles the core, 2^24 retired instructions of the phase are BUDGET, a stage below the stage register is
PHASE_ORDER; the errors come in this order (R128, R131, R138, R142, R587). A core that has another instruction next, or none,
ignores the command. Where the manual is open or silent the clauses follow the model's choice: log entries 9 and 76. -/
def Obligations.IssueChecks : Prop :=
  ∀ (s : State) (c : Nat) (off : BitVec 24) (i : Issue), c < 9216 →
    let updc := Instr.updc c
    let u := s.setCore c (i.begun c (some 2))
    (s.issuing c updc = none → exec updc s = .next s) ∧
    (s.issuing c updc = some i →
      (∀ v, s.wordUpset c i.word = some (v, false) → exec updc s = .next (s.coreFault c 0x0002)) ∧
      (s.wordUpset c i.word = none → ∀ v, s.storeUpset c updc = some (v, false) → exec updc s = .next (s.coreFault c 0x0001)) ∧
      (s.wordUpset c i.word = none → s.storeUpset c updc = none →
        (2 ^ 24 ≤ i.r.retired → exec updc s = .next (i.faulted u c updc 0x08)) ∧
        (i.r.retired < 2 ^ 24 → 2 < i.r.stage → exec updc s = .next (i.faulted u c updc 0x06)))) ∧
    (∀ j, s.ready c (.jmp c off) none j →
      ((j.r.pc : Int) + 1 + off.toInt).toNat ≥ (j.x.program j.m.block).length →
      let pc := ((j.r.pc : Int) + 1 + off.toInt).toNat
      exec (.jmp c off) s = .next ((j.retired s c (.jmp c off) (j.begun c none) j.r (some off.toInt) 1).programFault c j 0x01 pc))

/-! ### What arrives at cores, clusters and parts -/

/-- A state message of another run generation, of another module, or to a block-replica that no enabled core holds, is discarded;
one to a fenced core is answered FENCED (R297). One that comes before its launch object is armed waits in the router port, one of
another configuration tag than that of the settings in force at its epoch faults the slot, any other is an input of the launch object; an
exchange result also brings its replica's rung (R162, R164, R227, R229, R235, R237). Until an earlier message on its way has arrived it
stays where it is (R285). A launch object of a core with a member that runs counts an input of its window and then tries its launch; an input more than C phases ahead of the last
phase done, or one more than the phase needs, is OVERCOUNT (R227, R228). -/
def Obligations.StateMessages : Prop :=
  (∀ (s : State) (m : StateMsg),
    let t := s.accept (.state m)
    let n := m.destSlot
    let x := s.slot n
    (s.turn (.state m) = false → exec (.stateMessage m) s = .next s) ∧
    (s.turn (.state m) = true → s.directory n m.replica m.destBlock = none → exec (.stateMessage m) s = .next t) ∧
    (∀ c j, s.turn (.state m) = true → s.directory n m.replica m.destBlock = some (c, j) →
      let taken := m.destModule = s.fabric.moduleId ∧ (s.core c).colander = false ∧ m.runGen = x.runGen ∧ (s.core c).kind = .enabled
      let tag := if m.prologue then x.configTag else (x.inForce m.epoch).tag
      let u := t.count (clusterOf c) 0x0005 1
      let u := if m.empty then u.count (clusterOf c) 0x0006 1 else u
      (m.destModule = s.fabric.moduleId → (s.core c).colander = true →
        exec (.stateMessage m) s = .next (t.colanderNotice c (t.senderCluster (.state m)) n)) ∧
      (¬ taken → ¬ (m.destModule = s.fabric.moduleId ∧ (s.core c).colander = true) → exec (.stateMessage m) s = .next t) ∧
      (taken → (s.core c).launch.armed = false →
        exec (.stateMessage m) s = .next (u.modCore c fun co => { co with parked := co.parked ++ [m] })) ∧
      (taken → (s.core c).launch.armed = true → m.configTag ≠ tag →
        exec (.stateMessage m) s = .next (u.tagFault (clusterOf c) n m.replica m.epoch m.configTag)) ∧
      (taken → (s.core c).launch.armed = true → m.configTag = tag → m.kind ≠ .exchange →
        exec (.stateMessage m) s = .next (u.onInput c n m)) ∧
      (taken → (s.core c).launch.armed = true → m.configTag = tag → m.kind = .exchange →
        exec (.stateMessage m) s = .next (((u.modSlot n fun x => x.takeRung m.epoch m.replica m.newRung).onInput c n m).settle n)))) ∧
  (∀ (s : State) (c n : Nat) (m : StateMsg), (s.core c).launch.armed = true →
    (∃ o ∈ (s.core c).members, o.replica < (s.slot n).runs) →
    let co := s.core c
    let x := s.slot n
    let l := co.launch
    let t := (m.epoch, m.phase)
    let p := sweepPred x.colours (l.nextEpoch, l.nextPhase)
    let need := if t = p then l.need x co.members t else l.inputs x co.members t + x.exchangeNeed co.members t
    let u := s.setCore c { co with launch := l.setCounter t (l.counter t + 1)
                                   held := if m.kind = .exchange then co.held else co.held ++ [m] }
    (x.colours < sweepGap x.colours p t → s.onInput c n m = s.overcount c n m.replica m.destBlock t) ∧
    (sweepGap x.colours p t ≤ x.colours → need < l.counter t + 1 → s.onInput c n m = u.overcount c n m.replica m.destBlock t) ∧
    (sweepGap x.colours p t ≤ x.colours → l.counter t + 1 ≤ need → s.onInput c n m = u.tryLaunch c))

/-- At a phase launch the scalar registers hold the phase's values and everything else of the register files is zero; the PC is
0, the stage register 2, no FLIP bit is set, and the states stay (R98, R114, R131). -/
def Obligations.LaunchRegisters : Prop :=
  ∀ (co : Core) (x : Slot) (e ph j : Nat) (m : Member), co.members[j]? = some m →
    let l := co.launchMember x (e, ph) j
    let w := fun (v : Nat) => BitVec.ofNat 32 v
    (∃ r, l.run = some r ∧ r.epoch = e ∧ r.phase = ph ∧ r.member = j ∧ r.pc = 0 ∧ r.stage = 2 ∧ r.retired = 0 ∧ r.pdone = false ∧
      r.fprDone = false ∧ r.smsgDone = false ∧ r.pushed = []) ∧
    l.kreg 1 = w ph ∧ l.kreg 2 = w e ∧ l.kreg 3 = w (e / 2 ^ 32) ∧ l.kreg 4 = w x.colours ∧ l.kreg 6 = w m.varCount ∧
      l.kreg 7 = w m.varBase ∧ l.kreg 8 = w m.replica ∧ l.kreg 9 = w x.draws ∧ l.kreg 10 = w m.block ∧
      (∀ r : BitVec 5, r ∉ [1, 2, 3, 4, 6, 7, 8, 9, 10] → l.kreg r = 0) ∧
      (∀ r : BitVec 4, l.wreg r = 0) ∧ (∀ (a : BitVec 3) r k, l.accreg a r k = 0) ∧
      ∃ n, l.members[j]? = some n ∧ (∀ k, k < 256 → n.flip k = false ∧ n.spinBit k = m.spinBit k ∧ n.field k = m.field k)

/-- A partial, a group value, a close token or an energy of another run generation, or for a slot that runs no epoch, changes
nothing. An integer partial is added at its cluster, a group's integer sum at the tree's root; a close token counts there,
and an energy joins those the exchange decision waits for (R160, R208, R211, R213, R235, R239). Each stays where it is until an earlier one
of its source, destination and channel has arrived (R285), so that a close token follows the sums of its cluster (R212). The two numbers of an integer
sum at a cluster: the values of a (slot, replica, tree, epoch) add up exactly, and LEAF_TOP is the highest leaf seen; no
other sum changes (R208, R211). Where the manual is open or silent the clauses follow the model's choice: log entries 13 and 84. -/
def Obligations.ReductionArrivals : Prop :=
  (∀ (s : State) (p : PartialMsg) (g : GroupMsg) (k : CloseMsg) (e : EnergyMsg) (v : Int),
    let runs := fun (module n runGen : Nat) => module = s.fabric.moduleId ∧ runGen = (s.slot n).runGen ∧ (s.slot n).active = true
    let own := s.fabric.moduleId
    let turns := fun (m : Msg) (c : Instr) (go : State → State) => exec c s = .next (if s.turn m = true then go (s.accept m) else s)
    (p.tree ≠ 16 → ¬ runs p.module p.slot p.runGen → turns (.part p) (.reductionPartial p) id) ∧
    (p.tree ≠ 16 → p.val = .int v → runs p.module p.slot p.runGen →
      turns (.part p) (.reductionPartial p) fun t => t.modCluster p.cluster fun c => { c.addInt p v with nodesQuiet := 0 }) ∧
    (¬ runs g.module g.slot g.runGen → turns (.group g) (.groupValue g) id) ∧
    (g.val = .int v → runs g.module g.slot g.runGen → turns (.group g) (.groupValue g) fun t =>
      ((t.modSlot g.slot fun x => x.modForm g.replica g.tree g.epoch fun f =>
        { f with leafTop := max f.leafTop g.leafTop, anyLeaf := true, floatSat := f.floatSat || g.floatSat, sum := f.sum + v }).modCluster
          ((s.slot g.slot).rootCluster g.replica g.tree) fun c => { c with combined := (c.combined + 1) % 2 ^ 32, nodesQuiet := 0 }).rootCheck
            g.slot g.replica g.tree g.epoch) ∧
    (¬ runs k.module k.slot k.runGen → turns (.close k) (.closeToken k) id) ∧
    (runs k.module k.slot k.runGen → turns (.close k) (.closeToken k) fun t =>
      (t.modSlot k.slot fun x => x.modForm k.replica k.tree k.epoch fun f =>
        { f with closes := f.closes ++ [(k.part, k.blockCount, k.closed)] }).rootCheck k.slot k.replica k.tree k.epoch) ∧
    (¬ runs own e.slot e.runGen → turns (.energy e) (.exchangeEnergy e) id) ∧
    (runs own e.slot e.runGen → turns (.energy e) (.exchangeEnergy e) fun t =>
      ((t.modSlot e.slot fun x => { x with energies := x.energies ++ [(e.epoch, e.replica, e.s, e.c)] }).exchangeDecide
        e.slot e.epoch).settle e.slot)) ∧
  (∀ (c : Cluster) (p : PartialMsg) (v : Int) (n q t e : Nat),
    let find := fun (c : Cluster) (n q t e : Nat) =>
      c.sums.find? fun r => r.slot = n && r.replica = q && r.tree = t && r.epoch = e
    let d := c.addInt p v
    (d.combined = (c.combined + 1) % 2 ^ 32 ∧ d.groups = c.groups ∧
      ((find d p.slot p.replica p.tree p.epoch).map fun r => (r.sum, r.leafTop)) = some (match find c p.slot p.replica p.tree p.epoch with
        | some r => (r.sum + v, max r.leafTop p.leaf)
        | none => (v, p.leaf))) ∧
    ((n, q, t, e) ≠ (p.slot, p.replica, p.tree, p.epoch) → find d n q t e = find c n q t e))

/-- FREEZE, FREEZE_REPLY, LIMIT, DRAINED, FAULT_NOTICE, CKPT_DONE and CKPT_COMMIT act on this module's part of the slot they
name: FREEZE makes a running slot STOPPING and takes a LOADED or STOPPED one into the stop (log entry 82), part 0 collects the replies and reports of all parts, LIMIT sets EPOCH_LIMIT and
thaws, a fault notice faults a running slot and takes any other out of the stop, and a commit order commits the checkpoint (R241, R425, R450, R590). Where the manual
is open or silent the clauses follow the model's choice: log entry 22. -/
def Obligations.PartMessages : Prop :=
  ∀ (s : State) (n part v : Nat) (d : Drain),
    let own := s.fabric.moduleId
    let x := s.slot n
    let fresh : Drain := { hard := false, disable := false, named := 0, replies := [], limitSet := false, reported := [], orders := [],
                           disableOrder := none, aborted := false, engine := false }
    let takes := x.active = true ∨ x.state = .loaded ∨ x.state = .stopped
    (¬ takes → exec (.freeze n own false) s = .next (s.arrive (.freeze n own false))) ∧
    (x.active = false → exec (.freeze n own true) s = .next ((s.arrive (.freeze n own true)).setSlot n { x with drain := none })) ∧
    (takes → x.drain = none → exec (.freeze n own false) s = .next
      (let t := ((s.arrive (.freeze n own false)).setSlot n
        { x with state := if x.active then .stopping else x.state, drain := some fresh }).freezeSlot n
       t.send (.freezeReply (t.partZero n).2 (t.partZero n).1 x.partIndex (t.freezeHighest n)))) ∧
    (x.active = true → x.drain = none → exec (.freeze n own true) s = .next
      (((((s.arrive (.freeze n own true)).setSlot n { x with state := .stopping, drain := some { fresh with hard := true, limitSet := true } }).freezeSlot
        n).modSlotCores n Core.abandon).checkHard n)) ∧
    (x.drain = some d → x.partIndex = 0 → d.hard = false → d.limitSet = false → (∀ r ∈ d.replies, r.1 ≠ part) →
      let d' := { d with replies := d.replies ++ [(part, v)] }
      let t := (s.arrive (.freezeReply n own part v)).setSlot n { x with drain := some d' }
      exec (.freezeReply n own part v) s = .next (if ∀ p < x.partCount, ∃ r ∈ d'.replies, r.1 = p
        then t.toParts n fun m k => .limit k m (min x.naturalLimit (d'.replies.foldl (fun a r => max a (r.2 + 1)) d'.named)) else t)) ∧
    (x.drain = some d → d.hard = false →
      let t := ((s.arrive (.limit n own v)).setSlot n { x with epochLimit := v, drain := some { d with limitSet := true } }).thawSlot n
      let late := (t.slotMembers n).filter fun m => m.2.2.replica < x.runs && v ≠ 0 && m.2.2.closed = some (v - 1)
      exec (.limit n own v) s = .next (((t.modSlot n fun x =>
        late.foldl (fun x m => x.collect v m.2.2.replica m.2.2.block (m.2.2.record, m.2.2.sat)) x).settle n).finishDrain n)) ∧
    (x.drain = some d → part ∉ d.reported → exec (.drained n own part) s = .next
      (((s.arrive (.drained n own part)).setSlot n { x with drain := some { d with reported := part :: d.reported } }).finishDrain n)) ∧
    (x.active = true → exec (.faultNotice n own v) s = .next ((s.arrive (.fault n own v)).slotFault n v (s.slotEpoch n) false)) ∧
    (x.active = false → exec (.faultNotice n own v) s = .next ((s.arrive (.fault n own v)).setSlot n { x with drain := none })) ∧
    (x.partIndex = 0 → x.active = true → (part, v) ∉ x.ckptDone →
      let l := x.ckptDone ++ [(part, v)]
      exec (.ckptDone n own part v) s = .next (if ∀ p < x.partCount, (p, v) ∈ l
        then ((s.arrive (.ckptDone n own part v)).setSlot n { x with ckptDone := l.filter fun d => d.2 ≠ v }).toParts n fun m k => .ckptCommit k m v
        else (s.arrive (.ckptDone n own part v)).setSlot n { x with ckptDone := l })) ∧
    exec (.ckptCommit n own v) s = .next
      (((((s.arrive (.ckptCommit n own v)).commit n v).checkpointWrite n).settle n).finishDrain n)

/-- A partner's HELLO completes a waiting LOCKSTEP_BEGIN, OK when digests and start epochs agree and LOCKSTEP_MISMATCH with the
cause otherwise; with no LOCKSTEP_BEGIN on its port it waits; an FP is kept and compared, HALT stops a running slot, LS_END ends the launch gate (R270, R272, R273, R275).
LOCKSTEP_BEGIN on a port that is up to the partner named sends this module's HELLO and waits for the partner's; a port that
is not up is LINK_DOWN, another partner BAD_PARAM. LOCKSTEP_END ends it and reports a mismatch (R270, R274, R275, R446).
Where the manual is open or silent the clauses follow the model's choice: log entry 31. -/
def Obligations.LockstepCommands : Prop :=
  (∀ (s : State) (p n id : Nat) (m : LockMsg) (k : LockStep), p < 12 → (s.slot n).lock = some k →
    (s.lockWaits p = none → exec (.hello p m) s = .next ((s.arrive (.hello p m)).send (.hello p m))) ∧
    (s.lockWaits p = some n → k.order = some id →
      let agrees := k.ownHello = (m.digest, m.value)
      let cause := if k.ownHello.1 ≠ m.digest then 1 else 2
      exec (.hello p m) s = .next (((s.arrive (.hello p m)).setSlot n { s.slot n with
        lock := some { k with order := none, active := decide agrees, partnerHello := some (m.digest, m.value), partnerSlot := m.slot } }).finishId id
        (if agrees then Ending.ok else { status := 0x36, d17 := cause }))) ∧
    (s.lockPair p m.slot = some n →
      exec (.fp p m) s = .next (((s.arrive (.fp p m)).modSlot n fun x => { x with lock := x.lock.map fun k =>
        { k with theirs := k.theirs ++ [(m.replica, m.epoch, m.phase, m.value)] } }).lockCompare n m.replica m.epoch m.phase) ∧
      ((s.slot n).active = true → exec (.halt p m) s = .next
        ((s.arrive (.halt p m)).lockHalt n 4 ((s.arrive (.halt p m)).slotEpoch n, 0, 0) 0 0 false)) ∧
      exec (.lsEnd p m) s = .next (((s.arrive (.lsEnd p m)).setSlot n { s.slot n with lock := some { k with active := false } }).tryLaunchSlot n))) ∧
  (∀ (s : State) (id : Nat) (o : Order) (k : LockStep),
    let u := s.begin o
    let p := o.begun
    let n := o.target
    let x := s.slot n
    let port := o.field 18 1
    let e := x.effective
    let digest := sha256 (e.provenance e.nextSegment.2)
    let lock : LockStep := { partner := o.field 16 2, port := port, order := some o.id, active := false, ownHello := (digest, x.resume),
                             partnerHello := none, partnerSlot := 0, mine := [], theirs := [], matched := [], report := none }
    (s.mayRun 0x50 id o → o.lawful 0 (n < 48) [(16, 3)] → port < 12 → x.state ∈ [.loaded, .stopped] → (∀ l, x.lock = some l → l.active = false) →
      ((s.port port).state ≠ .up → exec (.lockstepBegin id) s = .next (u.finish p { status := 0x35 })) ∧
      ((s.port port).state = .up → (s.port port).peerId ≠ o.field 16 2 →
        exec (.lockstepBegin id) s = .next (u.finish p (Ending.badParam 16))) ∧
      ((s.port port).state = .up → (s.port port).peerId = o.field 16 2 → s.heldHello port = none →
        exec (.lockstepBegin id) s = .next ((u.setSlot n { x with lock := some lock }).send (.lockOut 1 port (lockMsg n digest x.resume))))) ∧
    (s.mayRun 0x51 id o → o.lawful 0 (n < 48) [] → x.lock = some k → (k.active = true ∨ k.order.isSome = true ∨ k.report.isSome = true) →
      exec (.lockstepEnd id) s = .next (((u.endLock n).finish p (match k.report with
        | some r => { status := 0x36, result := r.1 }
        | none => Ending.ok)).tryLaunchSlot n)))

/-- A signal of n to a PLAIN object adds n to its count; it fires once for each THRESHOLD reached, keeps the rest, notifies at a fire
the waiters registered then, and signals its target once at each fire (R245, R246). An EPOCH object ignores a signal of
another run generation, holds back one of an epoch past its window, and faults its owner's slot at one of an epoch already
released (R235, R244). A registration at a PLAIN object takes one of its 64 places, or waits in the crossbar while they are
taken. The notice of a fire completes a SYNC_WAIT with the generation, and retires the WAIT of a core in the epoch it waits
for (R244, R246, R436). Each stays where it is until an earlier one of its source, destination and channel has arrived (R285). Where the
manual is open or silent the clauses follow the model's choice: log entry 26. -/
def Obligations.SyncObjects : Prop :=
  (∀ (s : State) (m : SyncSignal) (p : Nat × Nat) (o : SyncObj), syncAt (hallLocal m.object) = some p → s.object p = some o →
    o.mode = 1 → 0 < o.threshold → s.turn (.signal m) = true →
    let t := s.accept (.signal m)
    let c := o.count0 + m.count
    let fires := c / o.threshold
    let fired := { o with count0 := c % o.threshold, generation := (o.generation + fires) % 2 ^ 32, waiting := [] }
    let notify := fun (u : State) => o.waiting.foldl (fun u w => u.send (.notice w m.object ((o.generation + 1) % 2 ^ 32))) u
    let signals := fun (u : State) => (List.range fires).foldl (fun u _ =>
      u.signalTo o.target 1 m.epoch m.runGen m.slot (syncUnit p.1) (9216 + p.1)) u
    let ends := fun (o' : SyncObj) => exec (.syncObjectSignal m) s = .next
      (if o.target = 0 then notify (t.setObject p o') else signals (notify (t.setObject p o')))
    (c < o.threshold → c < 2 ^ 32 → exec (.syncObjectSignal m) s = .next (t.setObject p { o with count0 := c })) ∧
    (o.threshold ≤ c → o.crossbar = [] → ends fired) ∧
    (fires = 1 → o.waiting ≠ [] → ends { fired with waiting := o.crossbar.take 64, crossbar := o.crossbar.drop 64 })) ∧
  (∀ (s : State) (m : SyncSignal) (p : Nat × Nat) (o : SyncObj), syncAt (hallLocal m.object) = some p → s.object p = some o → o.mode = 2 →
    s.turn (.signal m) = true →
    let t := s.accept (.signal m)
    let gen := (s.slot o.owner).runGen
    (m.runGen ≠ gen → exec (.syncObjectSignal m) s = .next t) ∧
    (m.runGen = gen → m.epoch < o.bankEpoch → exec (.syncObjectSignal m) s = .next (t.epochObjectFault p.1 o.owner m.epoch)) ∧
    (m.runGen = gen → o.bankEpoch + 1 < m.epoch → exec (.syncObjectSignal m) s = .next (t.send (.signal m)))) ∧
  (∀ (s : State) (m : WaitReg) (p : Nat × Nat) (o : SyncObj) (c e id hall gen : Nat) (i : Issue),
    let turns := fun (m : Msg) (c : Instr) (go : State → State) => exec c s = .next (if s.turn m = true then go (s.accept m) else s)
    let register := Instr.waiterRegistration m
    syncAt (hallLocal m.object) = some p → s.object p = some o → o.mode = 1 →
    (o.waiting.length < 64 → o.crossbar = [] →
      turns (.waitReg m) register fun t => t.setObject p { o with waiting := o.waiting ++ [m.waiter], crossbar := [] }) ∧
    (64 ≤ o.waiting.length → turns (.waitReg m) register fun t => t.setObject p { o with crossbar := o.crossbar ++ [m.waiter] }) ∧
    (turns (.notice (.order id) hall gen) (.waiterNotice (.order id) hall gen) fun t =>
      t.finishId id { status := 0, result := gen }) ∧
    (s.waiting c = some i → i.r.wait = .sync → i.r.epoch = e →
      turns (.notice (.core c e) hall gen) (.waiterNotice (.core c e) hall gen) fun t => t.retire c i (i.instr c) none 1))

/-! ### Faults, mesh, memory -/

/-- An error takes the next sequence: its 64 bytes lie in the ERROR_LOG ring at that sequence, its class's counter goes up, a
fatal one is the newest fatal error, and ERROR_LOG is pending; no other memory of the module changes (R502, R585, R596). -/
def Obligations.ErrorLogEntries : Prop :=
  ∀ (s : State) (e : ErrEntry) (a : Nat),
    let n := s.host.errNewest + 1
    let t := s.logError e
    let at_ := 0x010004000000 + 64 * ((n - 1) % 2 ^ 18)
    t.host.errNewest = n ∧ bitAt t.regs.irqStatus 4 = 1 ∧
      t.host.errCorrected = (if e.cls = .corrected then satInc (2 ^ 32 - 1) s.host.errCorrected else s.host.errCorrected) ∧
      t.host.errContained = (if e.cls = .contained then satInc (2 ^ 32 - 1) s.host.errContained else s.host.errContained) ∧
      t.host.errFatal = (if e.cls = .fatal then satInc (2 ^ 32 - 1) s.host.errFatal else s.host.errFatal) ∧
      t.host.errFatalSeq = (if e.cls = .fatal then some n else s.host.errFatalSeq) ∧
      (∀ k, k < 64 → Mem.get memBackground t.mem (at_ + k) = (e.bytes n)[k]?) ∧
      ((a < at_ ∨ at_ + 64 ≤ a) → Mem.get memBackground t.mem a = Mem.get memBackground s.mem a) ∧
      t.slots = s.slots ∧ t.cores = s.cores ∧ t.clusters = s.clusters ∧ t.net = s.net

/-- A slot fault of a RUNNING or STOPPING slot makes it FAULTED with the status and the epoch, or DISABLED where a SLOT_DISABLE
drains it; it ends the stop and what is built of a checkpoint. A slot in any other state is left as it is (R427, R450, R625).
Castling moves the block-replicas of a core that holds a slot to the spare chosen, with their launch object disarmed: the
core is fenced, in colander mode and empty, with its store as it stood (R85); the spare runs for the slot, and of the members only SPILL_BASE
in their stores changes; the program windows of a cluster that is placed on for the first time are zeroed (R124, R280). With no spare
the core keeps its block-replicas and is fenced (R592, R594). A spare chosen by distance lies as near to the fenced core's cluster as any candidate, and among
those as near it is the first of the list (R592). Where the manual is open or silent the clauses follow the model's choice:
log entry 13. -/
def Obligations.FaultContainment : Prop :=
  (∀ (s : State) (n st e : Nat) (notify : Bool),
    let x := s.slot n
    let t := s.slotFault n st e notify
    (x.active = false → t = s) ∧
    (x.active = true →
      let y := t.slot n
      (y.state = if (x.drain.bind fun d => d.disableOrder).isSome then .disabled else .faulted) ∧ y.faultStatus = st ∧ y.faultEpoch = e ∧
        y.drain = none ∧ y.ckptBuilds = [] ∧ y.image = x.image ∧ y.seed = x.seed ∧ y.resume = x.resume ∧ y.runGen = x.runGen ∧
        (∀ m, m ≠ n → t.slot m = s.slot m) ∧
        ∀ c, (s.core c).slot = some n → (t.core c).launch.armed = false ∧ (t.core c).launch.frozen = true)) ∧
  (∀ (s : State) (c d n : Nat), (s.core c).slot = some n → c ≠ d → d < 9216 →
    let co := s.core c
    let t := (s.castleOnto c (some d)).1
    (s.castleOnto c (some d)).2 = (some d, some n) ∧ (s.castleOnto c none).2 = (none, some n) ∧
    (t.core c).kind = .fenced ∧ (t.core c).colander = true ∧ (t.core c).slot = none ∧ (t.core c).members = [] ∧ (t.core c).run = none ∧
    (t.core d).kind = .enabled ∧ (t.core d).slot = some n ∧ (t.core d).members.map (fun m => { m with store := [] }) = co.members.map (fun m => { m with store := [] }) ∧
    (t.core d).launch.armed = false ∧ (t.core d).run = (s.core d).run ∧
    (∀ k, k ≠ c → k ≠ d → { t.core k with window := [], windowFree := none } = { s.core k with window := [], windowFree := none }) ∧
    (∀ m, co.members[co.lastMember]? = some m → (t.core c).store = m.store) ∧
    (let u := (s.castleOnto c none).1
     (u.core c).kind = .fenced ∧ (u.core c).members = co.members ∧ (u.core c).slot = some n ∧ ∀ k, k ≠ c → u.core k = s.core k)) ∧
  (∀ (k : Nat) (cs : List Nat),
    (nearest k cs = none ↔ cs = []) ∧
    ∀ d, nearest k cs = some d → d ∈ cs ∧ (∀ e ∈ cs, meshLinks k (clusterOf d) ≤ meshLinks k (clusterOf e)) ∧
      ∀ (pre post : List Nat) (e : Nat), cs = pre ++ e :: post → d ∉ pre → d ≠ e → meshLinks k (clusterOf d) < meshLinks k (clusterOf e))

/-- In colander mode a core passes vectors of others on, answers a request for its store FENCED and counts it, discards a state
message or a vector for it with a FENCED notice to the sending cluster, and drops what it was partly sent; a core not in
colander mode takes no part. A notice ends with its arrival (R237, R297, R298). The watchdog counts the ticks in which a core
in a phase, a router, a crossbar, the nodes or an agent stood still, up to ten; whether an agent answers and which handshakes no command
shows is open (log entry 89). Then a core is fenced and castled with code 0x0009, and a router,
crossbar, node or agent is a fatal error 0x000A (R25, R586, R587). Where the manual is open or silent the clauses follow the
model's choice: log entry 59. -/
def Obligations.ColanderAndWatchdog : Prop :=
  (∀ (s : State) (c k n : Nat) (r : Request) (m : StateMsg) (v : BcastMsg) (item : ColanderItem), c < 9216 →
    let fenced := fun (t : State) => t.modCore c fun x => { x with fencedAnswers := satInc 0xFFFF x.fencedAnswers }
    (k < 144 → exec (.fencedNotice k c n) s = .next (s.accept (.fencedNotice k c n))) ∧
    ((s.core c).colander = false → exec (.colanderPacket c item) s = .next s) ∧
    ((s.core c).colander = true →
      exec (.colanderPacket c (.passing v)) s = .next s ∧
      (regionOf (hallLocal r.address) = .store c → exec (.colanderPacket c (.request r)) s = .next
        ((fenced (s.accept (.request r))).answerRequest r .fenced 0 [])) ∧
      exec (.colanderPacket c (.stateMsg m k)) s = .next ((fenced (s.accept (.state m))).send (.fencedNotice k c m.destSlot)) ∧
      exec (.colanderPacket c (.vector v k)) s = .next ((fenced (s.accept (.bcast v))).send (.fencedNotice k c v.slot)) ∧
      exec (.colanderPacket c .partlyDelivered) s = .next (s.modCore c fun x => { x with parked := [], held := [], vectors := [] }))) ∧
  (∀ (s : State) (c k part : Nat), c < 9216 → k < 144 → part < 3 →
    (s.platform.rails = true → ∃ t, exec .watchdogTick s = .next t ∧
      (∀ d, (t.core d).quietTicks = if (s.core d).run.isSome then satInc 10 (s.core d).quietTicks else 0) ∧
      ∀ j, j < 144 → let counts := fun (f : Cluster → Nat) => f (t.cluster j) = 0 ∨ f (t.cluster j) = satInc 10 (f (s.cluster j))
        counts (fun k => k.missedAcks) ∧ counts (fun k => k.routerQuiet) ∧ counts (fun k => k.crossbarQuiet) ∧ counts (fun k => k.nodesQuiet)) ∧
    exec (.coreHandshake c) s = .next (if (s.core c).run.isSome ∧ 10 ≤ (s.core c).quietTicks then s.coreFault c 0x0009 else s) ∧
    let quiet := if part = 0 then (s.cluster k).routerQuiet else if part = 1 then (s.cluster k).crossbarQuiet else (s.cluster k).nodesQuiet
    exec (.routerHandshake k part) s = .next (if 10 ≤ quiet
      then s.fatalError 0x000A (if part = 0 then 3 else 2) k else s) ∧
    exec (.agentTickTimeout k) s = .next (if 10 ≤ (s.cluster k).missedAcks then s.fatalError 0x000A 3 k else s))

/-- Dimension order brings a packet nearer with every link: where its output is a link, the next cluster is one step closer, and
it leaves by the local port or a station only at its own cluster (R283, R285, R292). A router admits a packet whose buffer
has room for its channel and then sends what is its output's turn; one that cannot be admitted waits outside, counted on
channels 2 and 3; a packet that a link brought is checked here too, and one with a control word that cannot be corrected ends with an error
(R287, R289, R290, R302). Where the manual is open or silent the clauses follow the model's choice: log entries 60 and 88. -/
def Obligations.MeshRouters : Prop :=
  (∀ (p : Packet) (k : Nat), k < 144 → p.destCluster < 144 →
    (p.destCluster ≠ k → ∃ d, meshNeighbour k (p.output k) = some d ∧ d < 144 ∧
      meshLinks d p.destCluster + 1 = meshLinks k p.destCluster) ∧
    (p.destCluster = k → p.destPort ≠ 100 → p.output k = 4)) ∧
  (∀ (s : State) (k i : Nat) (p : Packet), k < 144 → routerPort k i = true → s.platform.rails = true → s.packetGood p = true →
    let b := s.routerInput k i
    let r := s.checkFlits k i p
    let fresh := ∀ h ∈ b, h.pkt.same p = false
    ((∃ h ∈ b, h.pkt.same p = true) → (∀ h ∈ b, h.pkt.same p = true → h.checked = true) → s.entersMesh p = false →
      exec (.routerPacket k i p) s = .next (s.sendOne k (p.output k))) ∧
    (∀ h rest, b = h :: rest → h.checked = false → h.pkt.same p = true →
      let c := s.checkFlits k i { h.pkt with flits := p.flits }
      (c.2 = none → exec (.routerPacket k i p) s = .next (c.1.setInput k i rest)) ∧
      (∀ q, c.2 = some q → exec (.routerPacket k i p) s =
        .next ((c.1.setInput k i ({ h with pkt := q, checked := true } :: rest)).sendOne k (q.output k)))) ∧
    (fresh → admits b p = false → exec (.routerPacket k i p) s = .next (if 2 ≤ p.vc then s.count k 0x0015 1 else s)) ∧
    (fresh → admits b p = true →
      (r.2 = none → .badControl ∈ p.flits ∧ exec (.routerPacket k i p) s = .next r.1) ∧
      (∀ q, r.2 = some q → exec (.routerPacket k i p) s =
        .next ((r.1.setInput k i (b ++ [{ pkt := q, checked := true, reserved := takesReserved b q }])).sendOne k (q.output k)))))

/-- A read at a serving station delivers the line, corrected where one symbol is flipped, or poisoned data where it cannot be
corrected; a write is done or aborted unit by unit; a station that does not serve or has no tracker free leaves the command, and
outside HBM and the Larder an access is refused (R306, R313, R316, R324, R331). The scrubber of a station reads the next line of its lap and
counts it where it cannot be corrected, as it does a line that nothing has written, starts a lap with the ranges declared, and ends it when
no line is left; a station with nothing to scrub does nothing (R326, R328, R329). Where the manual is open or silent the clauses follow the
model's choice: log entries 5, 61 and 90. -/
def Obligations.MemoryCommands : Prop :=
  (∀ (s : State) (a : Nat) (bs : List Byte), (regionOf a).lined = false →
    exec (.memoryRead a) s = .next { s with reply := .unsupported } ∧ exec (.memoryWrite a bs) s = .next { s with reply := .unsupported }) ∧
  (∀ (s : State) (a : Nat) (bs : List Byte), (regionOf a).lined = true →
    let m := s.station (stationOf a)
    let u := if m.peak ≤ m.inUse then s.setStation (stationOf a) { m with peak := m.inUse + 1 } else s
    let serves := s.platform.rails = true ∧ m.trained = true ∧ m.selfRefresh = false ∧
      m.inUse - m.inFirmware - m.inEngine < if stationOf a < 6 then 1792 else 768
    (¬ serves → exec (.memoryRead a) s = .next s) ∧
    (serves → (∀ t d, u.readUnit (a / 64 * 64) = (t, some d) → exec (.memoryRead a) s = .next { t with reply := .data d }) ∧
      (∀ t, u.readUnit (a / 64 * 64) = (t, none) → exec (.memoryRead a) s = .next { t with reply := .poisonedData 64 })) ∧
    (serves → (regionOf (a + bs.length - 1)).lined = true → oneWindow a bs.length = true →
      exec (.memoryWrite a bs) s = .next
        { (s.writeLocal a bs).1 with reply := if (s.writeLocal a bs).2 then .written else .abort })) ∧
  (∀ (s : State) (n : Nat), n < 6 ∨ n = 8 ∨ n = 9 → s.platform.rails = true → (s.station n).trained = true →
    (s.station n).selfRefresh = false →
    let m := s.station n
    let lap := m.startLap n
    let u := s.setStation n lap
    let idle := m.ranges = [] ∧ n < 8
    (idle → exec (.scrubRead n) s = .next (s.setStation n { m with pointer := none, lapRanges := [] })) ∧
    (¬ idle → nextLine n (lap.pointer.getD 0) lap.lapRanges = none → exec (.scrubRead n) s = .next (u.endLap n)) ∧
    (¬ idle → ∀ a, nextLine n (lap.pointer.getD 0) lap.lapRanges = some a →
      let t := (u.scrubLine n a).modStation n fun m => { m with pointer := some (a + 64) }
      exec (.scrubRead n) s = .next
        (if nextLine n (a + 64) (t.station n).lapRanges = none then t.endLap n else t)) ∧
    (∀ a, let written := ∀ i < 64, (u.byteAt (a + i)).isSome = true
      let counted := fun (t : State) => t.modStation n fun m => { m with scrubUncorr := satInc 0xFFFF m.scrubUncorr }
      (written → u.scrubLine n a = if (u.readUnit a 1).2 = none then counted (u.readUnit a 1).1 else (u.readUnit a 1).1) ∧
      (¬ written → u.scrubLine n a = counted (u.uncorrectable a 1))))

/-- A whole line written to HBM reads back, whatever was flipped in it before, and no other byte of memory but the error log changes
(R313, R316, R323, R324). A line of HBM with an uncorrectable upset reads poisoned, is counted and recorded at its station, and changes no
memory but the error log (R313, R316, R585). Where the manual is open or silent the clauses follow the model's choice: log
entry 61. -/
def Obligations.MemoryReadsBack : Prop :=
  (∀ (s t : State) (a : Nat) (bs : List Byte), a % 64 = 0 → regionOf a = .hbm → bs.length = 64 → s.stationServes a = true → s.stationAdmits a .other = true →
    exec (.memoryWrite a bs) s = .next t →
    t.reply = .written ∧ (∃ u, exec (.memoryRead a) t = .next u ∧ u.reply = .data bs ∧ u.mem = t.mem) ∧
      ∀ b, b < a ∨ a + 64 ≤ b → (b < 0x010004000000 ∨ 0x010005000000 ≤ b) → Mem.get memBackground t.mem b = Mem.get memBackground s.mem b) ∧
  (∀ (s : State) (a : Nat), a % 64 = 0 → regionOf a = .hbm → s.stationServes a = true → s.stationAdmits a .other = true → .line a ∈ s.upsets →
    ∃ t, exec (.memoryRead a) s = .next t ∧ t.reply = .poisonedData 64 ∧ t.host.errContained = satInc (2 ^ 32 - 1) s.host.errContained ∧
      (t.station (stationOf a)).uncorrectable = satInc (2 ^ 16 - 1) (s.station (stationOf a)).uncorrectable ∧
      (t.station (stationOf a)).errLast = some (a, 0) ∧
      ∀ b, (b < 0x010004000000 ∨ 0x010005000000 ≤ b) → Mem.get memBackground t.mem b = Mem.get memBackground s.mem b)

/-! ### The arbiter and orders -/

/-- A doorbell within the ring takes effect, one outside it is the queue's error; while a posted write of the host is open it is
held; with the BARs down it does nothing (R391, R392). A pass with no queue that runs journals the management orders in front
of it, those of the first group before the others, and then the slot changes noted; with nothing to take or before boot is
done it does nothing (R403, R465). An order of a pass takes the next journal sequence and its entry is written there; it is
refused where R397 says so, overridden by a management order of the pass, or dispatched (R397, R405, R462, R464). The checks
before any other, in their order: a host opcode that does not exist, packet bytes 4 to 7, a privileged opcode from a queue
that is not, a slot outside the queue's mask (R397, R398). Where the manual is open or silent the clauses follow the model's
choice: log entry 41. -/
def Obligations.ArbiterCommands : Prop :=
  (∀ (s : State) (q : Nat) (v : Word), q < 64 →
    (s.barsUp = false → exec (.sqTail q v) s = .next s ∧ exec (.cqHead q v) s = .next s) ∧
    (s.barsUp = true → s.postedOpen = true →
      exec (.sqTail q v) s = .next { s with host := { s.host with doorbells := s.host.doorbells ++ [(q, true, v.toNat)] } } ∧
      exec (.cqHead q v) s = .next { s with host := { s.host with doorbells := s.host.doorbells ++ [(q, false, v.toNat)] } }) ∧
    (s.barsUp = true → s.postedOpen = false →
      exec (.sqTail q v) s = .next (if s.sqSize q ≤ v.toNat then s.queueError q 1
        else (s.modQueue q fun x => { x with sqTail := v.toNat }).fetchPacket q) ∧
      exec (.cqHead q v) s = .next (if s.cqSize q ≤ v.toNat then s.queueError q 3
        else s.modQueue q fun x => { x with cqHead := v.toNat }))) ∧
  (∀ (s : State), s.runningQueues = [] →
    let n := min 16 s.arbiter.mgmt.length + s.arbiter.noted.length
    let mg := s.arbiter.mgmt.take 16
    let first := mg.filter fun o => firstGroup.contains o.opcode
    let last := mg.filter fun o => !firstGroup.contains o.opcode
    let u := { s with arbiter := { s.arbiter with mgmt := s.arbiter.mgmt.drop 16, noted := [] } }
    (n = 0 ∨ s.platform.boot ≠ .ready → exec .arbiterPass s = .next s) ∧
    (n ≠ 0 → s.platform.boot = .ready →
      (∀ i, i < n → ∀ o, s.ringHolder (s.arbiter.newest + 1 + i) = some o → s.abortable o = true) →
      exec .arbiterPass s = .next (s.arbiter.noted.foldl State.acceptNote ((first ++ last).foldl (State.acceptOrder first) u)))) ∧
  (∀ (s : State) (mgmt : List Order) (o : Order), s.ringHolder (s.arbiter.newest + 1) = none →
    let n := s.arbiter.newest + 1
    let p := { o with seq := n }
    let digest := (sha256 ((pktBytes o.packet).drop 16)).take 16
    let u := ({ s with arbiter := { s.arbiter with newest := n } }).putWhole (journalAddr n)
      (journalEntry n o.tag o.opcode o.flags o.target o.source 1 0 0xFF 0 0 digest)
    (∀ e, u.acceptCheck p = some e → s.acceptOrder mgmt o = u.finish p e 2) ∧
    (u.acceptCheck p = none → o.source ≠ 0x80 → (∃ m ∈ mgmt, preempts m o = true) →
      s.acceptOrder mgmt o = u.finish p { status := 0x04 } 3) ∧
    (u.acceptCheck p = none → (o.source = 0x80 ∨ ∀ m ∈ mgmt, preempts m o = false) →
      s.acceptOrder mgmt o = { u with arbiter := { u.arbiter with orders := s.arbiter.orders ++ [p] } })) ∧
  (∀ (s : State) (o : Order), o.source ≠ 0x80 →
    (o.opcode ∉ hostOpcodes → s.acceptCheck o = some { status := 0x10 }) ∧
    (o.opcode ∈ hostOpcodes → o.field 4 4 ≠ 0 → s.acceptCheck o = some { status := 0x11, d17 := 4 }) ∧
    (o.opcode ∈ hostOpcodes → o.field 4 4 = 0 → o.opcode ∈ privilegedOpcodes → bitAt (s.queueCtrl o.source) 24 = 0 →
      s.acceptCheck o = some { status := 0x14 }) ∧
    (o.opcode ∈ hostOpcodes → o.field 4 4 = 0 → (o.opcode ∈ privilegedOpcodes → bitAt (s.queueCtrl o.source) 24 ≠ 0) →
      s.acceptCheck o = if o.opcode ∈ slotOpcodes ∧ o.target < 48 ∧ bitAt (s.slotMask o.source) o.target = 0
        then some { status := 0x14 } else none))

/-- A completed host packet is rewritten COMPLETE in the journal and gives one status entry in its queue's ring at the tail, with
the queue's shadow after it; the order is no longer open (R396, R400, R401, R464). -/
def Obligations.HostCompletions : Prop :=
  ∀ (s : State) (o : Order) (e : Ending), o.source < 64 → o.statusDue = true → o.generation = (s.queue o.source).generation →
    let q := o.source
    let t := s.finish o e
    let size := s.cqSize q
    t.arbiter.orders = s.arbiter.orders.filter (fun x => x.id ≠ o.id) ∧
      (t.queue q).cqTail = ((s.queue q).cqTail + 1) % size ∧ (t.queue q).reserved = (s.queue q).reserved - 1 ∧
      (t.queue q).writes = ((s.queue q).writes + 1) % 2 ^ 32 ∧ (t.queue q).sqHead = (s.queue q).sqHead ∧
      t.slots = s.slots ∧ t.cores = s.cores ∧ t.net = s.net ∧
      t.perf.rbWritten = s.perf.rbWritten + (if s.perf.rbRun then 1 else 0) ∧
      t.perf.rbMissed = s.perf.rbMissed + (if s.perf.rbRun then 0 else 1) ∧
      (o.seq ≠ 0 → ∀ k, k < 8 → Mem.get memBackground t.mem (journalAddr o.seq + k) = (leBytes 8 o.seq)[k]?)

/-- A command's parameters pass exactly when FLAGS, TARGET, the bytes outside its fields and its field checks are all good;
otherwise it ends BAD_PARAM with the lowest packet byte that fails (R409, R411, R412). An order that is not open, has
started, or is held back by FENCE, slot order or the order of fences changes nothing; after a fatal error every host command
but IDENTIFY, GET_STATUS and JOURNAL_QUERY ends INTERNAL (R395, R404, R586). Where the manual is open or silent the clauses
follow the model's choice: log entry 32. -/
def Obligations.ParameterChecks : Prop :=
  (∀ (s : State) (o : Order) (flags : Nat) (target : Bool) (fields : List (Nat × Nat)) (checks : List Check) (go : State → State),
    let fails := fun (byte : Nat) => (byte = 1 ∧ Nat.land o.flags (252 - flags) ≠ 0) ∨ (byte = 2 ∧ target = false) ∨
      (16 ≤ byte ∧ byte < 64 ∧ (∀ f ∈ fields, byte < f.1 ∨ f.1 + f.2 ≤ byte) ∧ o.field byte 1 ≠ 0) ∨
      ∃ c ∈ checks, c.byte = byte ∧ c.ok = false
    ((∀ b, ¬ fails b) → s.checked o (o.params flags target fields checks) go = go s) ∧
    (∀ b, fails b → (∀ a, fails a → b ≤ a) → ∃ r, s.checked o (o.params flags target fields checks) go =
      s.finish o { status := 0x11, d17 := b, result := r })) ∧
  (∀ (s : State) (id : Nat) (o : Order),
    ((s.arbiter.orders ++ s.mgmt.alone).find? (fun x => x.id = id) = none → exec (.slotStart id) s = .next s ∧ exec (.mgPowerCap id) s = .next s) ∧
    ((s.arbiter.orders ++ s.mgmt.alone).find? (fun x => x.id = id) = some o →
      (o.opcode = 0x19 → (o.started = true ∨ s.mayStart o = false) → exec (.slotStart id) s = .next s) ∧
      (o.opcode = 0x19 → o.started = false → s.mayStart o = true → s.platform.fatal = true → o.source ≠ 0x80 →
        exec (.slotStart id) s = .next (s.finish o { status := 0x3F }))))

/-- NOP completes OK; IDENTIFY and JOURNAL_QUERY write their record or entries to host memory and complete, JOURNAL_QUERY with
the number of entries, the newest sequence and a mark where older ones are gone; GET_STATUS completes with the status of the
slot or of the module (R409, R414 to R416). FILL and COPY on ranges they may write start their transfer; SCRUB_DECLARE enters
a range at every station that holds a line of it, or takes it out, and completes with the highest number of entries in use
(R417 to R419). A local FILL of whole lines writes its pattern over the range in one go: every byte of the range is the
pattern's byte at its place in the quadword, no other byte of memory changes, and slots, cores and messages stay (R417).
Where the manual is open or silent the clauses follow the model's choice: log entry 32. -/
def Obligations.InformationAndMemoryOrders : Prop :=
  (∀ (s : State) (id : Nat) (o : Order),
    let u := s.begin o
    let p := o.begun
    (s.mayRun 0x00 id o → o.lawful 0 (o.target = 0xFFFF) [] → exec (.nop id) s = .next (u.finish p Ending.ok)) ∧
    (s.mayRun 0x01 id o → o.lawful 0 (o.target = 0xFFFF) [(16, 16)] → o.hostRoom 16 24 128 → s.barsUp = true →
      exec (.identify id) s = .next ((u.hostWrite (o.field 16 8) u.identifyRecord).finish p Ending.ok)) ∧
    (s.mayRun 0x02 id o → o.lawful 0 (o.target < 48) [] →
      exec (.getStatus id) s = .next (u.finish p (Ending.ok (u.slotStatus o.target)))) ∧
    (s.mayRun 0x02 id o → o.lawful 0 (o.target = 0xFFFF) [] →
      exec (.getStatus id) s = .next (u.finish p (Ending.ok u.moduleStatus))) ∧
    (s.mayRun 0x03 id o → o.lawful 0 (o.target = 0xFFFF) [(16, 24)] → o.hostRoom 24 32 0 → ∀ t bs,
      let first := max (o.field 16 8) u.oldestSeq
      let n := min (o.field 32 8 / 64) (s.arbiter.newest + 1 - first)
      u.journalRead first n = (t, some bs) → t.barsUp = true →
      exec (.journalQuery id) s = .next ((t.hostWrite (o.field 24 8) bs).finish p
        { status := 0, d17 := bitOf (decide (o.field 16 8 < u.oldestSeq)), result := n + 2 ^ 32 * t.arbiter.newest }))) ∧
  (∀ (s : State) (id : Nat) (o : Order),
    let u := s.begin o
    let p := o.begun
    let f := fun (b : Nat) => o.field b 8
    let a := hallLocal (f 16)
    let ns := rangeStations a (f 24)
    let dir := o.flags / 4 % 4
    let enters := fun (remove : Bool) => ns.foldl (fun s n => s.modStation n fun m =>
      if remove then { m with ranges := m.ranges.erase (a, f 24), lapRanges := m.lapRanges.erase (a, f 24) }
      else { m with ranges := m.ranges ++ [(a, f 24)] }) u
    (s.mayRun 0x08 id o → o.lawful 0 (o.target = 0xFFFF) [(16, 24)] → f 16 ≠ 0 → f 16 % 64 = 0 → f 24 ≠ 0 → f 24 % 64 = 0 →
      (∀ c ∈ u.rangeChecks (f 16) (f 24) 16 24, c.ok = true) → u.rangeHeld (f 16) (f 24) = none →
      exec (.fill id) s = .next (u.goTransfer { order := o.id, src := .pattern (f 32), dst := .hall (f 16), length := f 24, moved := 0,
                                                data := none })) ∧
    (s.mayRun 0x09 id o → o.lawful 0x0C (o.target = 0xFFFF) [(16, 24)] → dir ≠ 3 → f 16 % 64 = 0 → f 24 % 64 = 0 → f 32 % 64 = 0 →
      (dir ≠ 0 → ∀ c ∈ u.sourceChecks (f 16) (f 32), c.ok = true) → (dir = 2 → rangesOverlap (f 16) (f 24) (f 32) = false) →
      (dir ≠ 1 → (∀ c ∈ u.rangeChecks (f 24) (f 32) 24 32, c.ok = true) ∧ u.rangeHeld (f 24) (f 32) = none) →
      exec (.copy id) s = .next (u.goTransfer { order := o.id, src := if dir = 0 then .host (f 16) else .hall (f 16),
                                                dst := if dir = 1 then .host (f 24) else .hall (f 24), length := f 32, moved := 0,
                                                data := none })) ∧
    (s.mayRun 0x0A id o → o.lawful 4 (o.target = 0xFFFF) [(16, 16)] → hallModule (f 16) = s.fabric.moduleId → f 16 % 4096 = 0 →
      scrubbable a 1 = true → f 24 ≠ 0 → f 24 % 4096 = 0 → scrubbable a (f 24) = true →
      (bitAt o.flags 2 = 0 → (∀ n ∈ ns, (s.station n).ranges.length < 16) →
        exec (.scrubDeclare id) s = .next ((enters false).finish p (Ending.ok (enters false).mostRanges))) ∧
      (bitAt o.flags 2 = 1 → ns ≠ [] → (∀ n ∈ ns, (a, f 24) ∈ (s.station n).ranges) →
        exec (.scrubDeclare id) s = .next ((enters true).finish p (Ending.ok (enters true).mostRanges))))) ∧
  (∀ (s : State) (t : Transfer) (a pat : Nat), t.src = .pattern pat → t.dst = .hall a → t.moved = 0 → t.data = none →
    t.length % 64 = 0 → hallModule a = s.fabric.moduleId → hallLocal a + t.length ≤ 2 ^ 48 →
    ∃ (v : State) (e : Transfer), s.goTransfer t = v.endTransfer e (Ending.ok 0) ∧ e.order = t.order ∧ e.moved = t.length ∧ e.dst = t.dst ∧
      (∀ k, k < t.length → Mem.get memBackground v.mem (hallLocal a + k) = (leBytes 8 pat)[k % 8]?) ∧
      (∀ b, b < hallLocal a ∨ hallLocal a + t.length ≤ b → Mem.get memBackground v.mem b = Mem.get memBackground s.mem b) ∧
      v.slots = s.slots ∧ v.cores = s.cores ∧ v.net = s.net ∧ v.arbiter = s.arbiter)

/-- MODEL_CHECK of an image that passes its checks completes with its fit report; MODEL_LOAD of one that fits as the flags allow
loads it into the EMPTY slot; a failing check or another state completes with what failed; MODEL_UNLOAD empties the slot
(R69, R77, R321, R420, R422). What MODEL_LOAD leaves: the slot is LOADED with the image, RUNS and replicas as ordered, rung r
on replica r, no exchange counted, and its CHECKPOINT area as it was; no other slot changes (R148, R156, R162, R413, R420).
Where the manual is open or silent the clauses follow the model's choice: log entries 17, 18, 19 and 20. -/
def Obligations.ModelOrders : Prop :=
  (∀ (s t : State) (id : Nat) (o : Order) (m : Loaded) (e : Ending),
    let u := s.begin o
    let p := o.begun
    let q := o.field 32 2
    let r := (t.dropRemote o.id).fitOf m.image m.tableBytes q
    let x := s.slot o.target
    (s.mayRun 0x10 id o → u.modelParams p p.noTarget = none →
      (u.readModel p false = (t, .ok m) → exec (.modelCheck id) s = .next (r.1.finish p (r.2.ending r.2.status))) ∧
      (u.readModel p false = (t, .error (some e)) → exec (.modelCheck id) s = .next ((t.dropRemote o.id).finish p e))) ∧
    (s.mayRun 0x11 id o → u.modelParams p p.slotTarget = none →
      (x.state ≠ .empty → exec (.modelLoad id) s = .next (u.finish p (Ending.badState x.state.code))) ∧
      (x.state = .empty → x.ckptReady = false → exec (.modelLoad id) s = .next (u.finish p (Ending.badState 0))) ∧
      (x.state = .empty → x.ckptReady = true → u.readModel p true = (t, .ok m) →
        exec (.modelLoad id) s = .next (if r.2.allowed (bitAt o.flags 2 = 1) (bitAt o.flags 3 = 1)
          then (r.1.loadModel o.target m q r.2).finish p (r.2.ending 0) else r.1.finish p (r.2.ending r.2.status)))) ∧
    (s.mayRun 0x12 id o → o.lawful 0 (o.target < 48) [] →
      (x.state ∈ [.loaded, .stopped, .faulted, .disabled] →
        exec (.modelUnload id) s = .next ((u.unloadSlot o.target).finish p Ending.ok)) ∧
      (x.state ∉ [.loaded, .stopped, .faulted, .disabled] →
        exec (.modelUnload id) s = .next (u.finish p (Ending.badState x.state.code))))) ∧
  (∀ (s : State) (n q : Nat) (m : Loaded) (f : FitReport),
    let t := s.loadModel n m q f
    let x := t.slot n
    x.state = .loaded ∧ x.image = some m.image ∧ x.parts = m.parts ∧ x.replicas = q ∧ x.runs = q ∧ x.startPoint = true ∧
      x.started = false ∧ x.seed = none ∧ x.resume = 0 ∧ x.completed = none ∧ x.curves = m.image.curves ∧
      x.rungs = List.range q ∧ x.exch = List.replicate q (0, 0) ∧ x.foldFactor = f.fold ∧ x.groups = f.needed ∧
      x.ckptFilled = (s.slot n).ckptFilled ∧ x.ckptReady = (s.slot n).ckptReady ∧ x.handles = [] ∧
      ∀ k, k ≠ n → t.slot k = s.slot k)

/-- SLOT_CONFIG stages the items of its block for a LOADED or STOPPED slot, a seed only before the first start. SLOT_SAVE writes
the context of a STOPPED slot, header and body, SLOT_RESTORE puts a context that passes its checks in force (R423, R426,
R452, R457 to R460). Where the manual is open or silent the clauses follow the model's choice: log entry 28. -/
def Obligations.ContextOrders : Prop :=
  ∀ (s t : State) (id : Nat) (o : Order) (g : Image) (k : Staged) (seeds : Bool) (c : List Byte),
    let u := s.begin o
    let p := o.begun
    let x := s.slot o.target
    let hall := o.field 16 8
    let len := o.field 24 8
    (s.mayRun 0x18 id o → o.lawful 0 (o.target < 48) [(16, 8)] → hallModule hall = s.fabric.moduleId → x.state ∈ [.loaded, .stopped] →
      u.readConfig p = (t, .ok (k, seeds)) →
      let y := (t.dropRemote o.id).slot o.target
      exec (.slotConfig id) s = .next (if seeds ∧ (y.state ≠ .loaded ∨ y.started) then (t.dropRemote o.id).finish p (Ending.badState y.state.code)
        else ((t.dropRemote o.id).setSlot o.target { y with staged := k }).finish p Ending.ok)) ∧
    (s.mayRun 0x1B id o → o.lawful 0 (o.target < 48) [(16, 16)] → hallModule hall = s.fabric.moduleId → hall % 64 = 0 → len % 64 = 0 →
      (∀ c ∈ u.rangeChecks hall len 16 24, c.ok = true) → u.rangeHeld hall len = none → x.image = some g →
      (contextLayout g x.replicas x.segmentSize).2.2.2.2 ≤ len → x.state = .stopped →
      let body := x.contextBody x.rungs x.exch (u.recordOf o.target)
      exec (.slotSave id) s = .next (((u.putWhole (hallLocal hall + 256) body).putWhole (hallLocal hall)
        (x.contextHeader g (u.slotSat o.target) body)).finish p (Ending.ok (256 + body.length)))) ∧
    (s.mayRun 0x1C id o → o.lawful 0 (o.target < 48) [(16, 16)] → hallModule hall = s.fabric.moduleId → x.image = some g →
      x.state ∈ [.loaded, .stopped, .faulted] → u.readContext p g = (t, .ok c) →
      exec (.slotRestore id) s = .next (if fieldAt c 24 4 = x.results then ((t.dropRemote o.id).restoreContext o.target g c).finish p Ending.ok
        else (t.dropRemote o.id).finish p (Ending.badState x.state.code)))

/-- SLOT_START of a LOADED or STOPPED slot completes with its resume epoch and starts it; it ends BAD_STATE with the reason where
a condition of R424 fails, and waits for a deferred test of its cores. A restart with RUNS unchanged and no stop under way
leaves the slot RUNNING with the staged items in force, its cores armed and not frozen, before any of them launches (R229,
R240, R424, R452). SLOT_ENABLE returns a DISABLED slot to the state it was disabled in (R428, R439). SLOT_STOP begins the stop
of a RUNNING slot, joins one under way, takes it over with HARD where the stop is not HARD, and completes at once on a STOPPED
slot; SLOT_DISABLE does the same for a slot that runs, and disables one that stands still after its earlier commands are
ABORTED (R425, R427, R455). A stop that begins makes the slot STOPPING and sends FREEZE to every part of its model, one
message each; nothing else changes (R241, R425). One that takes over is HARD and ends the orders of the stop before it; one
that joins adds its order; a slot disabled at once has its launch objects frozen and disarmed; no earlier order of the slot
stays open. Where the manual is open or silent the clauses follow the model's choice: log entries 22, 29 and 30. -/
def Obligations.SlotRunOrders : Prop :=
  (∀ (s : State) (id : Nat) (o : Order),
    let u := s.begin o
    let p := o.begun
    let x := s.slot o.target
    let why := x.effective.startRefusal
    let waits := u.testsPending.any fun t => u.testWaitsFor t o.target
    (s.mayRun 0x19 id o → o.lawful 0 (o.target < 48) [] →
      (x.state ∉ [.loaded, .stopped] → exec (.slotStart id) s = .next (u.finish p (Ending.badState x.state.code))) ∧
      (x.state ∈ [.loaded, .stopped] → why ≠ 0 →
        exec (.slotStart id) s = .next (u.finish p { status := 0x12, d17 := x.state.code, d18 := why })) ∧
      (x.state ∈ [.loaded, .stopped] → why = 0 → waits = true →
        exec (.slotStart id) s = .next (u.setSlot o.target { x with waitingStart := some o.id })) ∧
      (x.state ∈ [.loaded, .stopped] → why = 0 → waits = false →
        exec (.slotStart id) s = .next ((u.finish p (Ending.ok x.resume)).startSlot o.target))) ∧
    (s.mayRun 0x1E id o → o.lawful 0 (o.target < 48) [] →
      (x.state ≠ .disabled → exec (.slotEnable id) s = .next (u.finish p (Ending.badState x.state.code))) ∧
      (x.state = .disabled → x.disabledFaulted = true → exec (.slotEnable id) s = .next
        ((u.setSlot o.target { x with state := .faulted, disabledFaulted := false }).finish p Ending.ok)) ∧
      (x.state = .disabled → x.disabledFaulted = false → exec (.slotEnable id) s = .next
        (((u.setSlot o.target { x with state := if x.started then .stopped else .loaded, disabledFaulted := false }).thawSlot o.target).finish p
          Ending.ok)))) ∧
  (∀ (s : State) (id : Nat) (o : Order),
    let u := s.begin o
    let p := o.begun
    let n := o.target
    let x := s.slot n
    let hard := bitAt o.flags 2 = 1
    let isHard := decide hard
    let underHard := fun (x : Slot) => ∃ d, x.drain = some d ∧ d.hard = true
    let aborted := u.abortOrders n o.seq
    (s.mayRun 0x1A id o → o.lawful 4 (n < 48) [(16, 8)] →
      (x.state = .running → exec (.slotStop id) s = .next (u.beginStop n (newDrain isHard (o.field 16 8) [o.id] none))) ∧
      (x.state = .stopping → hard → ¬ underHard x → exec (.slotStop id) s = .next (u.takeOver n [o.id] none)) ∧
      (x.state = .stopping → (¬ hard ∨ underHard x) → exec (.slotStop id) s = .next (u.joinStop n o.id)) ∧
      (x.state = .stopped → exec (.slotStop id) s = .next (u.finish p (Ending.ok x.resume))) ∧
      (x.state ∉ [.running, .stopping, .stopped] → exec (.slotStop id) s = .next (u.finish p (Ending.badState x.state.code)))) ∧
    (s.mayRun 0x1D id o → o.lawful 4 (n < 48) [] →
      (x.state = .empty → exec (.slotDisable id) s = .next (u.finish p (Ending.badState 0))) ∧
      (x.state = .disabled → exec (.slotDisable id) s = .next (u.finish p Ending.ok)) ∧
      (x.state = .running → exec (.slotDisable id) s = .next (aborted.beginStop n (newDrain isHard 0 [] (some o.id)))) ∧
      (x.state = .stopping → hard → ¬ underHard (aborted.slot n) → exec (.slotDisable id) s = .next (aborted.takeOver n [] (some o.id))) ∧
      (x.state = .stopping → (¬ hard ∨ underHard (aborted.slot n)) → exec (.slotDisable id) s = .next
        (aborted.modSlot n fun x => { x with drain := x.drain.map fun d => { d with disable := true, disableOrder := some o.id } })) ∧
      (x.state ∈ [.loaded, .stopped, .faulted] → exec (.slotDisable id) s = .next ((aborted.disableNow n).finish p Ending.ok)))) ∧
  (∀ (s : State) (n : Nat) (d : Drain),
    let t := s.beginStop n d
    (t.slot n).state = .stopping ∧ (t.slot n).drain = some d ∧ (∀ k, k ≠ n → t.slot k = s.slot k) ∧ t.cores = s.cores ∧
      t.net = s.net ++ (s.partSlots n).map (fun p => .freeze p.2 p.1 d.hard)) ∧
  (∀ (s : State) (n : Nat),
    let x := s.slot n
    let y := x.effective
    x.startPoint = false → x.drain = none → (x.inForce (x.resume - 1)).runs = y.runs → (∀ c ∈ s.slotCores n, (s.core c).parked = []) →
    ∃ v : State, s.startSlot n = (v.tryLaunchSlot n).limitStop n ∧ (v.slot n).state = .running ∧ (v.slot n).started = true ∧
      (v.slot n).staged = noStaged ∧ (v.slot n).seed = y.seed ∧ (v.slot n).curves = y.curves ∧ (v.slot n).runs = y.runs ∧
      (v.slot n).topk = y.topk ∧ (v.slot n).nucleus = y.nucleus ∧ (v.slot n).treeMask = y.treeMask ∧ (v.slot n).capFirst = y.capFirst ∧
      (v.slot n).capStep = y.capStep ∧ (v.slot n).capCount = y.capCount ∧ (v.slot n).resume = x.resume ∧
      (v.slot n).completed = x.completed ∧ (v.slot n).epochLimit = y.naturalLimit ∧ (v.slot n).segment = some y.nextSegment.1 ∧
      (v.slot n).curveDigest = y.nextSegment.2 ∧ (v.slot n).configTag = y.tagOf ∧ (v.slot n).image = x.image ∧
      (∀ k, k ≠ n → v.slot k = s.slot k) ∧ v.net = s.net ∧ v.mem = s.mem ∧ v.arbiter = s.arbiter ∧
      (∀ c, (s.core c).slot = some n → (v.core c).launch.armed = true ∧ (v.core c).launch.frozen = false ∧ (v.core c).slot = some n) ∧
      ∀ c, (s.core c).slot ≠ some n → v.core c = s.core c) ∧
  (∀ (s : State) (n : Nat) (ids : List Nat) (dis : Option Nat),
    let t := s.takeOver n ids dis
    let j := fun (id : Nat) => s.joinStop n id
    let z := s.disableNow n
    let f := s.thawSlot n
    (t.slot n).state = .stopping ∧ (∃ d, (t.slot n).drain = some d ∧ d.hard = true ∧ d.orders = ids ∧ d.replies = [] ∧ d.limitSet = false) ∧
    (∀ d, (s.slot n).drain = some d → ∀ q ∈ t.arbiter.orders, q ∈ s.arbiter.orders ∧ q.id ∉ d.orders) ∧ t.cores = s.cores ∧
    (∀ id d, (s.slot n).drain = some d → ((j id).slot n).drain = some { d with orders := d.orders ++ [id] } ∧
      ((j id).slot n).state = (s.slot n).state ∧ (j id).arbiter = s.arbiter ∧ (j id).cores = s.cores ∧ (j id).net = s.net) ∧
    (z.slot n).state = .disabled ∧ ((z.slot n).disabledFaulted = true ↔ (s.slot n).state = .faulted) ∧
    (∀ c, (s.core c).slot = some n → (z.core c).launch.armed = false ∧ (z.core c).launch.frozen = true ∧ (z.core c).members = (s.core c).members) ∧
    (∀ c, (s.core c).slot = some n → (f.core c).launch = { (s.core c).launch with frozen := false }) ∧ f.slots = s.slots) ∧
  (∀ (s : State) (n seq : Nat) (q : Order),
    let t := s.abortOrders n seq
    let hit := fun (q : Order) => q.seq < seq ∧ (q.slot? = some n ∨ q.id ∈ s.objectWaits n)
    (q ∈ s.arbiter.orders → hit q → ∀ z ∈ t.arbiter.orders, z.id ≠ q.id) ∧
    (q ∈ s.arbiter.orders → (∀ y ∈ s.arbiter.orders, hit y → y.id ≠ q.id) → q ∈ t.arbiter.orders) ∧
    (t.slot n).state = (s.slot n).state ∧ t.cores = s.cores ∧ t.net = s.net)

/-- SAMPLE_READ and STATS_READ write the records of a capture to host memory, RESULT_SEAL the seal of a STOPPED slot; a signed
seal and ATTEST wait for a signature, KEY_INFO writes what WHICH names; the signature over the body with its salt answers the oldest
request whose salt is there, and other bytes answer none (R268, R430 to R433, R448, R531 to R534). ENTROPY_GET and SEED_FROM_ENTROPY join the requests that wait for entropy;
PARITY_FAULT where a mismatch stopped the source, ENTROPY_FAULT at its fault, BUSY with 64 waiting; a seed only for a LOADED
slot that never started (R173, R437, R511, R518). A request for a signature joins the 16 that may wait, with a request for
its salt; BUSY when they are 16, ENTROPY_FAULT while the source is at fault (R513, R531). Where the manual is open or silent
the clauses follow the model's choice: log entries 9, 39 and 40. -/
def Obligations.ResultOrders : Prop :=
  (∀ (s t : State) (id : Nat) (o : Order) (g : Image) (bs salt : List Byte) (q : SignReq) (rest : List SignReq),
    let u := s.begin o
    let p := o.begun
    let x := s.slot o.target
    let k := o.field 16 4
    let n := o.field 22 2
    let key := s.keyData (o.field 16 1)
    (s.mayRun 0x20 id o → o.lawful 0 (o.target < 48) [(16, 24)] → k < x.capCount → (n = 0 ∨ o.field 20 2 < x.replicas) →
      o.field 20 2 + n ≤ x.replicas → x.image = some g → o.hostRoom 24 32 (n * (64 + g.sampleSize)) → x.state ≠ .empty →
      u.sampleRecords x g k (o.field 20 2) n = (t, some bs) → t.barsUp = true →
      exec (.sampleRead id) s = .next ((t.hostWrite (o.field 24 8) bs).finish p (Ending.ok (x.readResult n (x.captureEpoch k))))) ∧
    (s.mayRun 0x21 id o → o.lawful 0 (o.target < 48) [(16, 4), (24, 16)] → k < x.capCount → o.hostRoom 24 32 x.statSize → x.state ≠ .empty →
      u.readLocal (hallLocal x.statsAddr + k * x.statSize) x.statSize = (t, some bs) → t.barsUp = true →
      exec (.statsRead id) s = .next ((t.hostWrite (o.field 24 8) bs).finish p (Ending.ok (x.readResult 1 (x.captureEpoch k))))) ∧
    (s.mayRun 0x22 id o → o.lawful 4 (o.target < 48) [(16, 16)] → o.hostRoom 16 24 576 → x.state = .stopped → x.completed.isSome = true →
      (bitAt o.flags 2 = 0 → s.barsUp = true → exec (.resultSeal id) s = .next
        ((u.hostWrite (o.field 16 8) (u.sealBody o.target ++ zeros 416)).finish p (Ending.ok (x.completed.getD 0)))) ∧
      (bitAt o.flags 2 = 1 → s.rot.bootVerified = true → s.debugLocked = true → s.testLocked = true →
        exec (.resultSeal id) s = .next (u.askSignature p false))) ∧
    (s.mayRun 0x60 id o → o.lawful 0 (o.target = 0xFFFF) [(16, 48)] → o.hostRoom 48 56 640 →
      exec (.attest id) s = .next (u.askSignature p true)) ∧
    (s.mayRun 0x61 id o → o.lawful 0 (o.target = 0xFFFF) [(16, 1), (24, 16)] → o.field 16 1 < 4 →
      o.hostRoom 24 32 (roundUp 64 key.length) → s.barsUp = true → exec (.keyInfo id) s = .next
        ((u.hostWrite (o.field 24 8) (padTo 64 key)).finish p (Ending.ok key.length))) ∧
    (s.rot.signing = q :: rest → q.salt = some salt → (s.arbiter.orders.find? fun o => o.id = q.order) = some o → s.barsUp = true →
      let v := { s with rot := { s.rot with signing := rest } }
      let body := if q.attest then s.attestBody ((pktBytes o.packet).drop 16 |>.take 32) else s.sealBody o.target
      exec (.signatureDone (attestSign body salt)) s = .next (if q.attest
        then (v.hostWrite (o.field 48 8) (signedBody body salt)).finish o (Ending.ok 640)
        else (v.hostWrite (o.field 16 8) (signedBody body salt ++ signerKeyId)).finish o (Ending.ok (x.completed.getD 0))) ∧
      (∀ sg, sg ≠ attestSign body salt → exec (.signatureDone sg) s = .next s))) ∧
  (∀ (s : State) (id : Nat) (o : Order),
    let u := s.begin o
    let p := o.begun
    let e := s.entropy
    let asks := fun (r : EntReq) => if e.parityStop then u.finish p { status := 0x32 } else if e.state = .fault then u.finish p { status := 0x30 }
      else if 64 ≤ e.host.length then u.finish p { status := 0x02 } else { u with entropy := { e with host := e.host ++ [r] } }
    let len := o.field 24 4
    let x := s.slot o.target
    (s.mayRun 0x30 id o → o.lawful 0 (o.target = 0xFFFF) [(16, 12)] → o.field 16 8 % 64 = 0 → len % 64 = 0 → 64 ≤ len → len ≤ 4096 →
      exec (.entropyGet id) s = .next (asks (.get o.id len []))) ∧
    (s.mayRun 0x31 id o → o.lawful 0 (o.target < 48) [(16, 16)] → o.hostRoom 16 24 64 → exec (.seedFromEntropy id) s = .next
      (if x.state = .loaded ∧ x.started = false then asks (.seed o.id) else u.finish p (Ending.badState x.state.code)))) ∧
  (∀ (s : State) (o : Order) (attest : Bool),
    (16 ≤ s.rot.signing.length → s.askSignature o attest = s.finish o { status := 0x02 }) ∧
    (s.rot.signing.length < 16 → s.entropy.state = .fault → s.askSignature o attest = s.finish o { status := 0x30 }) ∧
    (s.rot.signing.length < 16 → s.entropy.state ≠ .fault → s.askSignature o attest =
      { s with rot := { s.rot with signing := s.rot.signing ++ [{ order := o.id, attest := attest, salt := none }] }
               entropy := { s.entropy with rot := s.entropy.rot ++ [.salt o.id] } }))

/-- SYNC_ALLOC without BIND_ONLY writes the free object of lowest cluster and number, or the free one named, with its mode, owner,
threshold, waiters and target, count and generation zero, and completes with its address; for a slot it binds the handle as
well, and with BIND_ONLY it binds the handle alone; BUSY with no free object, BAD_STATE for a handle that is bound (R434).
SYNC_FREE frees a handle, with the object where the slot owns it, or an object of the host; a SYNC_WAIT there ends ABORTED
(R435). SYNC_SIGNAL and SYNC_WAIT on a PLAIN object of this module add to its count, which at the threshold fires it once and
notifies its waiters, or register the command as a waiter (R245, R436). Where the manual is open or silent the clauses follow
the model's choice: log entries 26 and 27. -/
def Obligations.SyncOrders : Prop :=
  (∀ (s : State) (id : Nat) (o : Order) (k : Nat × Nat),
    let u := s.begin o
    let p := o.begun
    let n := o.target
    let x := s.slot n
    let obj := o.field 16 8
    let thr := o.field 32 4
    let waiters := o.field 36 2
    let mode := o.field 38 1
    let handle := o.field 39 1
    let fits := bitAt o.flags 2 = 0 ∧ 1 ≤ thr ∧ thr ≤ 2 ^ 24 ∧ (mode = 1 ∧ waiters = 0 ∨ mode = 2 ∧ n < 48 ∧ waiters ≤ 4096)
    let taken := (obj = 0 ∧ s.freeObject = some k) ∨ (obj ≠ 0 ∧ s.ownObject obj = some k ∧ s.object k = none)
    let written := fun (owner epoch : Nat) => u.setObject k
      { mode := mode, owner := owner, waitersNeed := waiters, threshold := thr, generation := 0, count0 := 0, count1 := 0, waited0 := 0,
        waited1 := 0, bankEpoch := epoch, target := o.field 24 8, waiting := [], crossbar := [] }
    let bound := fun (v : State) (hall : Nat) => v.modSlot n fun x => { x with handles := x.handles.put handle hall }
    let hall := s.hallOf (objectAddr k)
    (s.mayRun 0x28 id o → o.lawful 4 (n = 0xFFFF) [(16, 24)] → fits → handle = 0 →
      (taken → exec (.syncAlloc id) s = .next ((written 0xFE 0).finish p (Ending.ok hall))) ∧
      (obj = 0 → s.freeObject = none → exec (.syncAlloc id) s = .next (u.finish p Ending.busy))) ∧
    (s.mayRun 0x28 id o → o.lawful 4 (n < 48) [(16, 24)] → x.state ∈ [.loaded, .stopped] →
      (fits → taken → x.handles.at handle = none → exec (.syncAlloc id) s =
        .next ((bound (written n (if mode = 2 then x.resume else 0)) hall).finish p (Ending.ok hall))) ∧
      (bitAt o.flags 2 = 1 → obj ≠ 0 → (syncAt (hallLocal obj)).isSome = true → x.handles.at handle = none →
        exec (.syncAlloc id) s = .next ((bound u obj).finish p (Ending.ok obj))) ∧
      (fits → taken → (x.handles.at handle).isSome = true → exec (.syncAlloc id) s = .next (u.finish p (Ending.badState x.state.code)))) ∧
    (s.mayRun 0x29 id o → o.lawful 0 (n < 48) [(16, 1)] → x.state ∈ [.loaded, .stopped, .faulted, .disabled] →
      exec (.syncFree id) s = .next (if (x.handles.at (o.field 16 1)).isSome = true
        then (u.freeHandle n (o.field 16 1)).finish p Ending.ok else u.finish p (Ending.badState x.state.code))) ∧
    (∀ y, s.mayRun 0x29 id o → o.lawful 0 (n = 0xFFFF) [(16, 8)] → s.ownObject obj = some k → s.object k = some y → y.owner = 0xFE →
      exec (.syncFree id) s = .next ((u.freeObjectAt k).finish p Ending.ok))) ∧
  (∀ (s : State) (k : Nat × Nat) (y : SyncObj), s.object k = some y →
    let t := s.freeObjectAt k
    t.object k = none ∧ (∀ j, j ≠ k → t.object j = s.object j) ∧ t.slots = s.slots ∧ t.cores = s.cores ∧ t.net = s.net ∧
      ∀ q ∈ t.arbiter.orders, q ∈ s.arbiter.orders ∧ .order q.id ∉ y.waiting ++ y.crossbar) ∧
  (∀ (s : State) (n h hall : Nat) (k : Nat × Nat) (y : SyncObj), (s.slot n).handles.at h = some hall →
    let t := s.freeHandle n h
    (t.slot n).handles.at h = none ∧ (s.ownObject hall = some k → s.object k = some y →
      (y.owner = n → t.object k = none) ∧ (y.owner ≠ n → t.clusters = s.clusters))) ∧
  (∀ (s : State) (id : Nat) (o : Order) (k : Nat × Nat) (y : SyncObj),
    let obj := o.field 16 8
    let c := y.count0 + o.field 24 3
    s.ownObject obj = some k → s.object k = some y → y.mode = 1 → y.threshold ≤ 2 ^ 24 → y.target = 0 →
    (s.mayRun 0x2A id o → o.lawful 0 (o.target = 0xFFFF) [(16, 11)] → o.field 24 3 ≠ 0 →
      (c < y.threshold → ∃ t : State, exec (.syncSignal id) s = .next (t.finish o.begun Ending.ok) ∧ t.object k = some { y with count0 := c } ∧
        (∀ j, j ≠ k → t.object j = s.object j) ∧ t.net = s.net ∧ t.slots = s.slots ∧ t.cores = s.cores) ∧
      (y.threshold ≤ c → c < 2 * y.threshold → y.crossbar = [] → ∃ t : State, exec (.syncSignal id) s = .next (t.finish o.begun Ending.ok) ∧
        t.object k = some { y with count0 := c - y.threshold, generation := (y.generation + 1) % 2 ^ 32, waiting := [] } ∧
        (∀ j, j ≠ k → t.object j = s.object j) ∧ t.slots = s.slots ∧ t.cores = s.cores ∧
        t.net = s.net ++ y.waiting.map fun w => .notice w obj ((y.generation + 1) % 2 ^ 32))) ∧
    (s.mayRun 0x2B id o → o.lawful 0 (o.target = 0xFFFF) [(16, 8)] → s.fabric.moduleId ≠ 0xFFFF → y.waiting.length < 64 → y.crossbar = [] →
      ∃ t, exec (.syncWait id) s = .next t ∧ t.object k = some { y with waiting := y.waiting ++ [.order o.id] } ∧
        (∀ j, j ≠ k → t.object j = s.object j) ∧ t.net = s.net ∧ t.slots = s.slots ∧ t.cores = s.cores ∧
        t.arbiter = (s.begin o).arbiter))

/-- SELFTEST, CALIBRATE and MG_SELFTEST of a unit that exists run a test that is not intrusive, defer an intrusive one without
FORCE, and with FORCE stop what is in its way first; a margin test under the safe defaults of the supply ends with status
0x32 (R438 to R440, R553, R572). CORE_FENCE and MG_FENCE fence a core and complete with the spare it went to; LIFT of a
fenced core that holds no work returns it to the spares when its self-test passes, and a core with no working lane is fenced
again; CORE_CASTLE moves a core's block-replicas to the spare named or chosen, and a source that is fenced already needs no
spare (R31, R101, R444, R445, R572). Where the manual is open or silent the clauses follow the model's choice: log entries
35 and 36. -/
def Obligations.TestAndFenceOrders : Prop :=
  (∀ (s : State) (id : Nat) (o : Order) (w : TestOutcome),
    let u := s.begin o
    let p := o.begun
    let code := o.field 16 1
    let unit := o.field 20 4
    let starts := fun (cal : Bool) (code : Nat) =>
      if u.testBlocked cal code then u.finish p { status := 0x32 }
      else if u.intrusive cal code unit = false then u.runTest p cal code unit false w
      else if bitAt o.flags 2 = 0 then u.deferTest p cal code unit
      else if u.forcedSlots cal code unit = [] ∧ laneTest cal code = false then u.runTest p cal code unit true w
      else u.forceTest p cal code unit
    (∀ r ∈ s.arbiter.runningTests, r.order ≠ id) → o.lawful 4 (o.target = 0xFFFF) [(16, 1), (20, 4)] →
      (s.mayRun 0x38 id o → 1 ≤ code → code ≤ 6 → testUnitOk false code unit = true → exec (.selftest id w) s = .next (starts false code)) ∧
      (s.mayRun 0x39 id o → 1 ≤ code → code ≤ 3 → testUnitOk true code unit = true → exec (.calibrate id w) s = .next (starts true code)) ∧
      (s.mayRun 0x88 id o → 1 ≤ code → code ≤ 6 → testUnitOk false code unit = true → exec (.mgSelftest id w) s = .next (starts false code)) ∧
      (s.mayRun 0x88 id o → 0x81 ≤ code → code ≤ 0x83 → testUnitOk true (code - 0x80) unit = true →
        exec (.mgSelftest id w) s = .next (starts true (code - 0x80)))) ∧
  (∀ (s : State) (id : Nat) (o : Order) (w : TestOutcome),
    let u := s.begin o
    let p := o.begun
    let c := o.target
    let r := u.fenceCore c false false
    let named := o.field 16 4
    let lifted := u.modCore c fun x => { x with laneOk := BitVec.ofNat 8 w.value }
    let free := (s.core c).kind = .fenced ∧ (s.core c).slot = none
    let back := if w.pass then lifted.modCore c fun x => { x with kind := .spare, colander := false, castledIn := false } else lifted
    let lifts := if free then (back.checkLanes c).finish p { status := 0, d17 := bitOf (!w.pass), result := 0xFFFFFFFF }
      else u.finish p Ending.badState
    let moves := fun (d : Option Nat) => let r := u.fenceOnto c d false
      r.1.finish p (Ending.ok (r.2.getD 0xFFFFFFFF + 2 ^ 32 * if r.2.isSome then (s.core c).members.length else 0))
    (o.lawful 4 (c < 9216) [] →
      (s.mayRun 0x48 id o → bitAt o.flags 2 = 0 → exec (.coreFence id w) s = .next (r.1.finish p (Ending.ok (r.2.getD 0xFFFFFFFF)))) ∧
      (s.mayRun 0x82 id o → bitAt o.flags 2 = 0 → exec (.mgFence id w) s = .next (r.1.finish p (Ending.ok (r.2.getD 0xFFFFFFFF)))) ∧
      (s.mayRun 0x48 id o → bitAt o.flags 2 = 1 → exec (.coreFence id w) s = .next lifts) ∧
      (s.mayRun 0x82 id o → bitAt o.flags 2 = 1 → exec (.mgFence id w) s = .next lifts)) ∧
    (s.mayRun 0x49 id o → o.lawful 0 (c < 9216) [(16, 4)] →
      (named = 0xFFFFFFFF → exec (.coreCastle id) s = .next (moves (u.chooseSpare c false))) ∧
      (named < 9216 → (s.core c).kind = .fenced ∨ (s.core named).kind = .spare ∧ named ≠ c →
        exec (.coreCastle id) s = .next (moves (some named)))))

/-- ROUTE_LOAD of a table without a fault replaces the routing table while no slot runs. PORT_STATE with action 0 reports the
port, with ENABLE it strobes the port's settings and waits; FABRIC_CONFIG of a new module ID without port changes sets it
while no port is coming up or up (R352, R441 to R443). Where the manual is open or silent the clauses follow the model's
choice: log entry 33. -/
def Obligations.FabricOrders : Prop :=
  ∀ (s t : State) (id : Nat) (o : Order) (bs : List Byte),
    let u := s.begin o
    let p := o.begun
    let n := o.target
    let busy := fun (x : Port) => x.state ∈ [.authenticating, .training, .up, .retraining]
    (s.mayRun 0x40 id o → o.lawful 4 (o.target = 0xFFFF) [(16, 3), (20, 5)] → o.field 16 2 ≠ 0xFFFF → o.field 18 1 = 1 → o.field 20 2 = 0 →
      o.field 22 2 = 0 → o.field 24 1 = 0xFF → (∀ k, k < 12 → ¬ busy (s.port k)) → bitAt o.flags 2 = 0 →
      exec (.fabricConfig id) s = .next ({ u with fabric := { u.fabric with moduleId := o.field 16 2 } }.finish p Ending.ok)) ∧
    (s.mayRun 0x41 id o → o.lawful 0 (o.target = 0xFFFF) [(16, 8)] → hallModule (o.field 16 8) = s.fabric.moduleId →
      (∀ k, k < 48 → (s.slot k).active = false) → u.readAccess (hallLocal (o.field 16 8)) 1088 = (t, .ok bs) → tableFault bs = none →
      exec (.routeLoad id) s = .next ({ t with fabric := t.fabric.withTable bs }.finish p Ending.ok)) ∧
    (s.mayRun 0x42 id o → o.lawful 4 (n < 12) [(16, 2)] → o.field 17 1 ≤ 3 →
      (o.field 16 1 = 0 → exec (.portState id) s = .next (u.finish p { (s.port n).ending with status := 0, d18 := 0 })) ∧
      (o.field 16 1 = 1 → let v := u.stagedCtrl n (some true) (o.field 17 1) none
        u.portLockBreaks n v = false → (u.strobePort n v).2 = true →
        exec (.portState id) s = .next ((u.strobePort n v).1.waitPort p n)))

/-- COUNTER_CONFIG with action 0 stages and strobes the event select of a counter, 1 clears the unit's counters, 2 and 3 stop and
run them; under COUNTER_LOCK a change is LOCKED, and a unit stopped by a mismatch answers PARITY_FAULT. TAG_CONFIG stages and
strobes the tag control (R447, R485, R576, R577, R582). Where the manual is open or silent the clauses follow the model's
choice: log entry 38. -/
def Obligations.CounterOrders : Prop :=
  ∀ (s : State) (id : Nat) (o : Order),
    let u := s.begin o
    let p := o.begun
    let cls := o.field 16 1
    let index := o.field 18 2
    let n := o.field 20 1
    let action := o.field 24 1
    let unit := if cls = 2 then index else 0x100 + index
    let key := evselKey unit n
    let v := Nat.land (u.stored key) 0xFFFF0000 + o.field 22 2
    let w := u.checkCounters unit
    let tag := Nat.land (u.stored 0x0B0008) 0xFFFF00E0 + o.field 17 1 * 256 + o.field 16 1
    (s.mayRun 0x58 id o → o.lawful 0 (o.target = 0xFFFF) [(16, 1), (18, 3), (22, 3)] → (cls = 2 ∧ index < 144 ∨ cls = 4 ∧ (index < 12 ∨ index = 15)) →
      n < 16 → action ≤ 3 → (action = 0 → eventOk (counterKind unit) (o.field 22 2) = true) →
      (action = 0 → u.secLocked 7 = true → v ≠ u.stored key → exec (.counterConfig id) s = .next (u.countLocked.finish p Ending.locked)) ∧
      ((action = 0 → u.secLocked 7 = false ∨ v = u.stored key) →
        (w.counterParity unit = true → exec (.counterConfig id) s = .next (w.finish p { status := 0x32 })) ∧
        (w.counterParity unit = false →
          (action = 0 → exec (.counterConfig id) s = .next
            (w.stageStrobe p key v 8 unit ((List.range 16).map fun i => evselKey unit i))) ∧
          (action = 1 → exec (.counterConfig id) s = .next ((w.clearCounters unit).finish p Ending.ok)) ∧
          (action = 2 → exec (.counterConfig id) s = .next ((w.runCounters unit false).finish p Ending.ok)) ∧
          (action = 3 → exec (.counterConfig id) s = .next ((w.runCounters unit true).finish p Ending.ok))))) ∧
    (s.mayRun 0x59 id o → o.lawful 0 (o.target = 0xFFFF) [(16, 2)] → tagOk (o.field 16 1) 0xFF = true → tagOk 0 (o.field 17 1) = true →
      (u.secLocked 7 = true → tag ≠ u.stored 0x0B0008 → exec (.tagConfig id) s = .next (u.countLocked.finish p Ending.locked)) ∧
      ((u.secLocked 7 = false ∨ tag = u.stored 0x0B0008) → u.checkTag.perf.tagParity = false →
        exec (.tagConfig id) s = .next (u.checkTag.stageStrobe p 0x0B0008 tag 8 0x200 [0x0B0008])))

/-- MG_TELEMETRY, MG_CORD_INFO and MG_LOG_READ write their records to the management host; MG_POWER_CAP sets or lifts its cap and
completes with the cap in force; MG_RESET completes and then resets; MG_FW_ACTIVATE completes and restarts on the staged
image; MG_FW_STAGE reads its chunk (R528, R548, R563, R565, R567 to R571). Where the manual is open or silent the clauses
follow the model's choice: log entries 42, 63, 64, 67 and 68. -/
def Obligations.ManagementOrders : Prop :=
  ∀ (s : State) (id : Nat) (o : Order),
    let u := s.begin o
    let p := o.begun
    let w := o.field 16 2
    let capped := { u with supply := { u.supply with mgmtCapW := w } }
    let nowhere := o.target = 0xFFFF
    let quiet := s.firstActive = none ∨ bitAt o.flags 2 = 1
    (s.mayRun 0x80 id o → o.lawful 0 nowhere [(16, 8)] → s.endpointUp = true → s.mgmt.telemetry ≠ [] →
      exec (.mgTelemetry id) s = .next ((u.mgmtWrite (o.field 16 8) s.mgmt.telemetry).finish p (Ending.ok 256))) ∧
    (s.mayRun 0x81 id o → o.lawful 0 nowhere [(16, 2)] → (w = 0 ∨ (500 ≤ w ∧ w ≤ 850)) →
      exec (.mgPowerCap id) s = .next (capped.finish p (Ending.ok capped.supply.capW))) ∧
    (s.mayRun 0x83 id o → o.lawful 0 nowhere [(16, 8)] → s.endpointUp = true →
      exec (.mgCordInfo id) s = .next ((u.mgmtWrite (o.field 16 8)
        (((List.range 12).flatMap fun n => leBytes 4 (s.port n).cord) ++ zeros 16 ++ (List.range 12).flatMap fun n =>
          match (s.port n).cordRecord with | some r => (r ++ zeros 64).take 64 | none => List.replicate 64 0xFF)).finish p (Ending.ok 832))) ∧
    (s.mayRun 0x87 id o → o.lawful 4 nowhere [(16, 4), (24, 16)] → o.field 32 8 % 32 = 0 → s.endpointUp = true →
      let ring := if bitAt o.flags 2 = 1 then s.mgmt.persistent else s.mgmt.log
      let rs := (ring.filter fun r => o.field 16 4 ≤ recordSeq r).take (o.field 32 8 / 32)
      let old := match ring with | r :: _ => decide (o.field 16 4 < recordSeq r) | [] => false
      exec (.mgLogRead id) s = .next ((u.mgmtWrite (o.field 24 8) rs.flatten).finish p
        { status := 0, d17 := bitOf old, result := rs.length + 2 ^ 32 * (s.mgmt.logSeq % 2 ^ 32) })) ∧
    (s.mayRun 0x86 id o → o.lawful 0x0C nowhere [(16, 1)] → (o.field 16 1 = 1 ∨ o.field 16 1 = 2) → quiet →
      (bitAt o.flags 3 = 1 → s.platform.everTrained = true) →
      exec (.mgReset id) s = .next ((u.finish p Ending.ok).resetModule (if o.field 16 1 = 1 then .warm else .module) .bist
        (bitAt o.flags 3 = 1))) ∧
    (s.mayRun 0x85 id o → o.lawful 4 nowhere [] →
      (s.rot.stageReady = false → exec (.mgFwActivate id) s = .next (u.finish p Ending.badState)) ∧
      (s.rot.stageReady = true → quiet → s.rot.headerCause = 0 →
        let b := !s.rot.runningB
        let t := (({ u with rot := { (s.rot.modOther fun x => { x with trial := true }) with stageReady := false } }).fwLog 5 b 0).finish p Ending.ok
        exec (.mgFwActivate id) s = .next ({ t with rot := { t.rot with runningB := b } }).moduleRestart)) ∧
    (s.mayRun 0x84 id o → o.lawful 0x0C nowhere [(16, 16)] → (∀ x ∈ s.mgmt.alone, x.opcode = 0x84 → x.started = true → x.id = id) →
      o.field 24 4 % 4096 = 0 → o.field 28 4 % 4096 = 0 → o.field 28 4 ≠ 0 → o.field 28 4 ≤ 2 ^ 20 →
      o.field 24 4 + o.field 28 4 ≤ imageSlotSize → s.rot.running.trial = false → s.rot.stageOpen = true → bitAt o.flags 2 = 0 →
      (∀ x ∈ s.rot.stageRanges, overlaps (o.field 24 4) (o.field 28 4) x.1 x.2 = false) → s.endpointUp = true →
      exec (.mgFwStage id) s = .next (u.hostRead (.stage o.id)))

/-! ### Registers and the window -/

/-- A write of a BAR0 register takes the bits that may be written now, by its page: value, set, clear or toggle; every other bit
of the register, every other register and every live copy stay (R473, R476, R477, R484). Where the manual is open or silent
the clauses follow the model's choice: log entry 57. -/
def Obligations.RegisterPages : Prop :=
  ∀ (s : State) (key : Nat) (page : Page) (v : Word) (d : RegDesc), regDesc key = some d → key % 4 = 0 → key < 0x0E0000 →
    bitsAt key 15 14 = 0 → s.barsUp = true → key ∉ [0x010000, 0x040004, 0x050008] → ¬ (0x060100 ≤ key ∧ key < 0x060180) →
    let offset := key + 2 ^ 14 * match page with | .value => 0 | .set => 1 | .clear => 2 | .toggle => 3
    ∃ t, exec (.registerWrite .bar0 offset v) s = .next t ∧
      (∀ b, b < 32 → (t.stored key).testBit b = if (s.writable d).testBit b then (match page with
        | .value => v.getLsbD b
        | .set => (s.stored key).testBit b || v.getLsbD b
        | .clear => (s.stored key).testBit b && !v.getLsbD b
        | .toggle => (s.stored key).testBit b != v.getLsbD b) else (s.stored key).testBit b) ∧
      (∀ k, k ≠ key → t.stored k = s.stored k) ∧ t.regs.live = s.regs.live ∧ t.slots = s.slots ∧ t.mem = s.mem ∧ t.net = s.net

/-- The rows that write one control register have its effect: Q_RUN runs or stops a queue, WIN_OPEN opens a window whose base
fits, MBX_SEL drops a capture and CAPTURE starts one, TAKE and RELEASE take and free a lock of the host, a lock bit is set
and never cleared, IRQ_ENABLE is stored, HOLD stops and restarts the entropy sources, CLEAR_ALL zeroes every counter,
FREEZE_ALL, TAG_RUN and RB_RUN follow their bits. Each changes no other part of the module than its registers and what it
governs (R398, R473, R484, R487, R489, R490, R496, R517, R579). Where the manual is open or silent the clauses follow the
model's choice: log entries 55 and 57. -/
def Obligations.ControlRegisters : Prop :=
  ∀ (s : State) (q n : Nat) (page : Page) (v : Word), s.barsUp = true →
    let b := fun (n : Nat) => decide (bitAt v.toNat n = 1)
    let x := s.queue q
    let tag := bitsAt v.toNat 23 16
    let ent := s.stored 0x08000C
    let only := fun (f : State → State) (i : Instr) (p : State → Prop) => ∃ t, exec i s = .next t ∧ t = f t ∧ p t
    let ran := only fun t => { s with regs := t.regs }
    let runs := only fun t => { s with regs := t.regs, queues := t.queues, arbiter := t.arbiter, host := t.host }
    let irq := only fun t => { s with regs := t.regs, host := t.host }
    let holds := only fun t => { s with regs := t.regs, entropy := t.entropy }
    let counts := only fun t => { s with regs := t.regs, cores := t.cores, clusters := t.clusters, ports := t.ports, perf := t.perf }
    (q < 64 →
      (pageBit page x.run (b 0) = false → runs (.run q page v) fun t => (t.queue q).run = false ∧ (t.queue q).sqHead = x.sqHead) ∧
      (pageBit page x.run (b 0) = true → x.parityStop = false → runs (.run q page v) fun t => (t.queue q).run = true)) ∧
    ran (.winOpen page v) (fun t => t.regs.winOpen = (pageBit page s.regs.winOpen (b 0) && decide (s.winBase % 2 ^ s.platform.bar4Log2 = 0) &&
      !s.regs.winParityStop && !s.liveBad 2 0)) ∧
    ran (.mbxSel page v) (fun t => t.regs.mbxValid = false ∧ t.regs.mbxBusy = false) ∧
    (b 31 = true → ran (.capture v) fun t => t.regs.mbxBusy = true ∧ t.regs.mbxValid = false ∧ t.regs.mbxErr = 0 ∧ t.regs.mbxData = []) ∧
    (16 ≤ n → n < 32 → b 8 = true → b 9 = false → s.regs.locks.at n = none →
      ran (.take n v) fun t => t.regs.locks = s.regs.locks.put n (1, tag)) ∧
    (16 ≤ n → n < 32 → b 8 = false → b 9 = true → s.regs.locks.at n = some (1, tag) →
      ran (.release n v) fun t => t.regs.locks = s.regs.locks.del n) ∧
    (∀ p ∈ [(Instr.queueLock page, 0), (.windowLock page, 1), (.coreLock page, 2), (.portLock page, 3), (.cordLock page, 4),
        (.supplyLock page, 5), (.entropyLock page, 6), (.counterLock page, 7), (.testLock page, 8), (.debugLock page, 9)],
      ran p.1 fun t => t.regs.secLock = if page = .clear then s.regs.secLock else Nat.lor s.regs.secLock (2 ^ p.2)) ∧
    irq (.irqEnable .value v) (fun t => t.stored 0x020004 % 2 ^ 10 = v.toNat % 2 ^ 10) ∧
    (b 4 = true → bitAt ent 4 = 0 → holds (.hold .set v) fun t => t.entropy.state = .stopped ∧ t.entropy.pool = []) ∧
    (b 4 = true → bitAt ent 4 = 1 → s.entropy.parityStop = false →
      holds (.hold .clear v) fun t => t.entropy.state = .startup ∧ t.entropy.pool = [] ∧ t.entropy.consec = 0) ∧
    (b 8 = true → counts (.clearAll .value v) fun t => (∀ k, (t.cluster k).counters = []) ∧ (∀ p, (t.port p).counters = []) ∧
      t.perf.hostCounters = [] ∧ ∀ c k, (t.core c).counter k = 0) ∧
    counts (.freezeAll page v) (fun t => t.perf.freezeAll = pageBit page s.perf.freezeAll (b 0)) ∧
    counts (.tagRun page v) (fun t => t.perf.tagRun = pageBit page s.perf.tagRun (b 1)) ∧
    counts (.rbRun page v) (fun t => t.perf.rbRun = pageBit page s.perf.rbRun (b 2))

/-- A strobe of an instance that exists copies its shadows to the live registers at once when its function does not run, the
shadows' parity is good and they hold allowed values; else it is refused with the reason, counted and signalled, and no live
register changes (R478, R479, R482). Where the manual is open or silent the clauses follow the model's choice: log entry 55. -/
def Obligations.Strobes : Prop :=
  ∀ (s : State) (v : Word) (keys : List Nat), s.barsUp = true →
    let d := bitsAt v.toNat 31 16
    let i := v.toNat % 2 ^ 16
    let refused := fun (reason : Nat) => ∃ t, exec (.cfgUpdate v) s = .next t ∧ t.regs.live = s.regs.live ∧ t.regs.file = s.regs.file ∧
      t.regs.pendingCfg = s.regs.pendingCfg ∧ t.regs.rejects = satInc 0xFFFF s.regs.rejects ∧ bitAt t.regs.irqStatus 6 = 1 ∧
      (bitAt s.regs.reject.toNat 31 = 0 → bitAt t.regs.reject.toNat 31 = 1 ∧ bitsAt t.regs.reject.toNat 27 24 = reason ∧
        bitsAt t.regs.reject.toNat 23 16 = d % 256 ∧ bitsAt t.regs.reject.toNat 15 0 = i)
    (domainKeys d i = none → refused 4) ∧
    (domainKeys d i = some keys →
      (s.functionRuns d i = true → refused 1) ∧
      (s.functionRuns d i = false → .cfgShadow d i ∈ s.upsets → refused 2) ∧
      (s.functionRuns d i = false → .cfgShadow d i ∉ s.upsets → s.shadowsOk d i = false → refused 3) ∧
      (s.functionRuns d i = false → .cfgShadow d i ∉ s.upsets → s.shadowsOk d i = true →
        let t := s.copyShadows d i keys
        exec (.cfgUpdate v) s = .next (t.strobed d i) ∧ (∀ k ∈ keys, t.liveReg k = s.stored k % 2 ^ 32) ∧
          (∀ k, k ∉ keys → t.liveReg k = s.liveReg k) ∧ (d, i) ∉ t.regs.pendingCfg ∧ t.liveBad d i = false ∧
          t.regs.file = s.regs.file))

/-- A capture under way ends with VALID, the words and GEN one higher, or with ERR and no words: 1 for a selector that does not
exist, 2 for an index out of range. A read or write of IND_DATA acts on the register that IND_ADDR names and advances it, or
fails with LAST_ERR; the two time-outs and the lock access of management as well (R472, R487, R489 to R491, R493, R495,
R496). Where the manual is open or silent the clauses follow the model's choice: log entry 56. -/
def Obligations.MailboxAndIndirect : Prop :=
  ∀ (s : State) (v : Word) (write : Bool) (lock tag : Nat),
    let sel := s.regOr 0x040000 0
    let r := s.capture (bitsAt sel 31 24) (sel % 2 ^ 24)
    let done := exec .mailboxCaptureDone s
    let failed := fun (t : State) (err : Nat) => t.regs.indErr = true ∧ t.regs.indLastErr = err ∧
      t.regs.indErrors = satInc 0xFFFF s.regs.indErrors ∧ t.regs.file = s.regs.file
    (s.regs.mbxBusy = false → done = .next s) ∧
    (s.regs.mbxBusy = true →
      (r.2.1 = 0 → ∃ t, done = .next t ∧ t.regs.mbxBusy = false ∧ t.regs.mbxValid = true ∧ t.regs.mbxErr = 0 ∧
        t.regs.mbxGen = (s.regs.mbxGen + 1) % 256 ∧ t.regs.mbxData = r.2.2.map (BitVec.ofNat 32)) ∧
      (r.2.1 ≠ 0 → ∃ t, done = .next t ∧ t.regs.mbxBusy = false ∧ t.regs.mbxErr = r.2.1) ∧
      (bitsAt sel 31 24 = 0xFF → ∃ t, done = .next t ∧ t.regs.mbxErr = 1) ∧
      (bitsAt sel 31 24 = 0x22 → 48 ≤ sel % 2 ^ 24 → ∃ t, done = .next t ∧ t.regs.mbxErr = 2)) ∧
    (s.barsUp = true →
      (∀ e, s.indFault = some e → (∃ t, exec .indDataRead s = .next t ∧ failed t e ∧ t.regs.indData = 0xFFFFFFFF) ∧
        ∃ t, exec (.indDataWrite v) s = .next t ∧ failed t e ∧ t.regs.indData = s.regs.indData) ∧
      (s.indFault = none → (∀ d i, s.liveBad d i = false) → ∃ t, exec .indDataRead s = .next t ∧
        t.regs.indData = BitVec.ofNat 32 (s.readReg s.indKey) ∧ (bitAt (s.regOr 0x050004 0x200) 0 = 0 → t.regs.file = s.regs.file) ∧
        (bitAt (s.regOr 0x050004 0x200) 0 = 1 → let a := s.regOr 0x050000 0
          t.regOr 0x050000 0 = a / 2 ^ 28 * 2 ^ 28 + (a % 2 ^ 28 + 2 ^ bitsAt (s.regOr 0x050004 0x200) 12 8) % 2 ^ 28)) ∧
      (s.indFault = none → exec (.indDataWrite v) s = .next ((s.writeReg s.indKey s.writeOp v.toNat).indAdvance)) ∧
      (∃ t, exec (.indNoAnswer write) s = .next t ∧ failed t (s.indFault.getD 3) ∧
        t.regs.indData = if write then s.regs.indData else 0xFFFFFFFF) ∧
      (∃ t, exec (.supAccessTimeout write) s = .next t ∧ t.host.errContained = satInc (2 ^ 32 - 1) s.host.errContained ∧
        t.regs.indLastErr = s.regs.indLastErr ∧ t.reply = if write then s.reply else .data (List.replicate 4 0xFF))) ∧
    (lock < 32 → s.platform.aux = true →
      (s.regs.locks.at lock = none → ∃ t, exec (.managementLockAccess lock tag false) s = .next t ∧
        t.regs.locks = s.regs.locks.put lock (3, tag % 256)) ∧
      (s.regs.locks.at lock = some (3, tag % 256) → ∃ t, exec (.managementLockAccess lock tag true) s = .next t ∧
        t.regs.locks = s.regs.locks.del lock ∧ (16 ≤ lock → bitAt t.regs.irqStatus 9 = 1)) ∧
      (∀ l, s.regs.locks.at lock = some l → exec (.managementLockAccess lock tag false) s = .next s ∧
        (l ≠ (3, tag % 256) → exec (.managementLockAccess lock tag true) s = .next s)))

/-- A read through an open window gives the bytes at the hall address and a closed one an unsupported request, which AER reports; a
read that finds the 1,216 trackers of the host station taken waits; a poisoned write or one to a closed window is counted and
not done; a piece inside one line of this module is written; a time-out ends an access that left the module; a resize closes a
window whose base does not fit (R388, R393, R394, R398, R399, R406). Where the manual is open or silent the clauses follow the
model's choice: log entries 49 and 54. -/
def Obligations.WindowAccesses : Prop :=
  ∀ (s : State) (offset len tag log2 : Nat) (bytes : List Byte) (b : Bar4Access), s.liveBad 2 0 = false →
    let hall := s.winAddr offset
    let first := hallLocal (hall / 64 * 64)
    let open_ := s.regs.winOpen = true ∧ s.platform.boot = .ready
    let h := s.host
    let inWindow := len ≠ 0 ∧ offset + len ≤ 2 ^ s.platform.bar4Log2 ∧ linesOf offset len ≤ 64
    (inWindow → s.barsUp = false → exec (.bar4Read offset len) s = .next { s with reply := .unsupported }) ∧
    (inWindow → s.barsUp = true → ¬ open_ → ∃ t, exec (.bar4Read offset len) s = .next t ∧ t.reply = .unsupported ∧
      t.host.bar4Ur = satInc 0xFF h.bar4Ur ∧ t.host.aer = .unsupportedRequest :: h.aer ∧ t.slots = s.slots ∧ t.cores = s.cores) ∧
    (inWindow → s.barsUp = true → open_ → 1216 ≤ (h.bar4Open.filter fun b => !b.write).length → exec (.bar4Read offset len) s = .next s) ∧
    (inWindow → s.barsUp = true → open_ → (h.bar4Open.filter fun b => !b.write).length < 1216 → s.far hall = false →
      let u := { s with host := { h with peak := max h.peak (h.inUse + 1) } }
      ∀ t bs, u.readAccess first (64 * linesOf hall len) = (t, .ok bs) → exec (.bar4Read offset len) s =
        .next { t with reply := .data ((bs.drop (hall - hall / 64 * 64)).take len) }) ∧
    (bytes ≠ [] → offset + bytes.length ≤ 2 ^ s.platform.bar4Log2 → s.barsUp = true →
      (∃ t, exec (.bar4Write offset bytes true) s = .next t ∧ t.host.bar4EpIn = satInc 0xFF h.bar4EpIn ∧
        t.host.errContained = satInc (2 ^ 32 - 1) h.errContained ∧ t.host.aer = .poisonedTlp :: h.aer ∧ t.slots = s.slots ∧
        t.cores = s.cores) ∧
      (¬ open_ → ∃ t, exec (.bar4Write offset bytes false) s = .next t ∧ t.host.bar4Ur = satInc 0xFF h.bar4Ur ∧ t.slots = s.slots ∧
        t.cores = s.cores) ∧
      (open_ → s.far hall = false → linesOf hall bytes.length = 1 → exec (.bar4Write offset bytes false) s =
        .next ((s.writeAccess (hallLocal hall) bytes).1.bar4Fail (s.writeAccess (hallLocal hall) bytes).2 hall))) ∧
    ((h.bar4Open.find? fun b => b.tag = tag) = none → exec (.bar4Timeout tag) s = .next s) ∧
    ((h.bar4Open.find? fun b => b.tag = tag) = some b → b.write = false → exec (.bar4Timeout tag) s = .next
      (({ s with host := { h with bar4Open := h.bar4Open.filter fun x => x.tag ≠ tag, inUse := h.inUse - 1 } }).bar4ReadDone b.address
        b.length (.unreachable 4) []).releaseDoorbells) ∧
    (36 ≤ log2 → log2 ≤ 39 → ∃ t, exec (.bar4Resize log2) s = .next t ∧ t.platform.bar4Log2 = log2 ∧
      t.regs.winOpen = (s.regs.winOpen && decide (s.winBase % 2 ^ log2 = 0)) ∧ t.host = s.host ∧ t.slots = s.slots)

/-! ### Platform, management and supply -/

/-- The ring starts with good bases and size and stops when RUN is cleared; its tail and head outside the ring are errors; the
pin resets the endpoint. SMBus reads the FRU from its offset, which wraps; the debug port halts, reads and writes while it is
open, steps nothing, and answers no more once DEBUG_LOCK is set; a sample of telemetry and a microsecond are taken (R391,
R535, R556 to R559, R563, R566). Where the manual is open or silent the clauses follow the model's choice: log entries 11, 72
and 73. -/
def Obligations.ManagementPort : Prop :=
  ∀ (s : State) (v : Word) (x : Byte) (n k a : Nat) (level : Bool) (sample : TelemetryIn),
    let m := s.mgmt
    let ran := fun (i : Instr) (p : State → Prop) => ∃ t, exec i s = .next t ∧
      t = { s with mgmt := t.mgmt, arbiter := t.arbiter, supply := t.supply, rot := t.rot, reply := t.reply, platform := t.platform } ∧ p t
    (s.endpointUp = false → ∀ i ∈ [Instr.mgRingRun v, .mgSqTail v, .mgCqHead v], exec i s = .next s) ∧
    (s.endpointUp = true →
      (m.run = true → bitAt v.toNat 0 = 0 → ran (.mgRingRun v) fun t => t.mgmt.run = false ∧ t.mgmt.fetchNext = m.sqHead) ∧
      (m.run = true → bitAt v.toNat 0 = 1 → exec (.mgRingRun v) s = .next s) ∧
      (m.run = false → bitAt v.toNat 0 = 1 → let size := bitsAt v.toNat 11 8
        (4 ≤ size → size ≤ 8 → m.sqTail < 2 ^ size → m.cqHead < 2 ^ size → ran (.mgRingRun v) fun t => t.mgmt.run = true ∧
          t.mgmt.err = 0 ∧ t.mgmt.sqHead = 0 ∧ t.mgmt.cqTail = 0 ∧ t.mgmt.ringLog2 = size ∧ t.mgmt.ringSq = m.sqBase ∧
          t.mgmt.ringCq = m.cqBase) ∧
        (size < 4 ∨ 8 < size → ran (.mgRingRun v) fun t => t.mgmt.run = false ∧ t.mgmt.err = 4)) ∧
      (m.run = true → v.toNat < 2 ^ m.ringLog2 → ran (.mgSqTail v) fun t => t.mgmt.sqTail = v.toNat ∧ t.mgmt.run = true) ∧
      (m.run = true → 2 ^ m.ringLog2 ≤ v.toNat → ran (.mgSqTail v) (fun t => t.mgmt.run = false ∧ t.mgmt.err = 1 ∧ t.mgmt.sqTail = m.sqTail) ∧
        ran (.mgCqHead v) fun t => t.mgmt.run = false ∧ t.mgmt.err = 3 ∧ t.mgmt.cqHead = m.cqHead) ∧
      (m.run = true → v.toNat < 2 ^ m.ringLog2 → m.fetched = [] → ran (.mgCqHead v) fun t => t.mgmt.cqHead = v.toNat ∧ t.mgmt.run = true)) ∧
    ran (.mgmtPerstN false level) (fun t => t.platform.mgmtPerstHigh = level) ∧
    (s.endpointUp = true → ran (.mgmtPerstN true level) fun t => t.mgmt.run = false ∧ t.mgmt.events = 0 ∧ t.mgmt.enable = 0x3FF ∧
      t.mgmt.sqBase = 0 ∧ t.mgmt.cqBase = 0 ∧ t.mgmt.sizeLog2 = 4 ∧ t.mgmt.err = 0) ∧
    (s.platform.aux = true →
      exec (.smbusRead n) s = .next { s with reply := .data ((List.range n).map fun i => Config.fruByte ((m.fruOffset + i) % 256)),
                                             mgmt := { m with fruOffset := (m.fruOffset + n) % 256 } } ∧
      exec (.smbusOffsetWrite x) s = .next { s with mgmt := { m with fruOffset := x.toNat } } ∧
      ran .localCounterCopy (fun t => t.mgmt.counter = (m.counter + 1) % 2 ^ 64 ∧ (s.platform.rails = true →
        t.mgmt.counterCopy = (m.counter + 1) % 2 ^ 64)) ∧
      ran (.telemetrySample sample) (fun t => t.supply.mainMv = sample.mainMv ∧ t.supply.inlet = sample.inlet ∧
        t.supply.outlet = sample.outlet ∧ t.mgmt.telemetry.take 4 = leBytes 4 1 ∧ t.mgmt.telemetry.length = 256)) ∧
    (k < 5 → s.endpointUp = true →
      (bitAt s.regs.secLock 9 = 0 →
        ran (.debugRequest (.halt k)) (fun t => k ∈ t.rot.debugHalted) ∧
        exec (.debugRequest (.step k)) s = .refused .debugStep ∧
        ran (.debugRequest (.write k a x)) (fun t => t.reply = .written ∧
          ∃ u, exec (.debugRequest (.read k a)) t = .next u ∧ u.reply = .data [x])) ∧
      (bitAt s.regs.secLock 9 = 1 → ∀ r ∈ [DebugReq.halt k, .step k, .read k a, .write k a x],
        ran (.debugRequest r) fun t => t.reply = .nack ∧ t.rot.debugHalted = [] ∧ t.mgmt.logSeq = m.logSeq + 1))

/-- A warm reset holds the package until PERST_N rises, ends the slots and orders and keeps the locks, the clusters' lasting
counts and what lies in HBM and the Larder; PERST_N low does no more with the rails down, and takes only the link down while a
module reset or an aligned reset is under way; an FLR puts the host interface back and leaves slots, cores and memory alone;
an aligned release starts every island at a fill of 8 (R408, R598, R602 to R607). Where the manual is open or silent the
clauses follow the model's choice: log entries 63, 69 and 92. -/
def Obligations.Resets : Prop :=
  ∀ (s : State),
    let p := s.platform
    (p.rails = false → exec .warmReset s = .next { s with platform := { p with perstHigh := false } }) ∧
    (p.rails = true → p.boot ≠ .ready → (p.lastReset = 2 ∨ p.alignedWait = true) → exec .warmReset s =
      .next { s with platform := { p with perstHigh := false, linkSpeed := 0, linkWidth := 0, linkFlit := false, pcie := PcieControl.reset } }) ∧
    (p.rails = true → (p.boot = .ready ∨ (p.lastReset ≠ 2 ∧ p.alignedWait = false)) → s.rot.running.trial = false → ∃ t, exec .warmReset s = .next t ∧
      t.platform.boot = .held ∧ t.platform.lastReset = 3 ∧ t.platform.perstHigh = false ∧ t.regs.secLock = s.regs.secLock ∧
      t.queues = [] ∧ t.arbiter.orders = [] ∧ (∀ n, (t.slot n).state = .empty) ∧
      (∀ c, (t.core c).kind = (s.core c).kind ∧ (t.core c).slot = none ∧ (t.core c).run = none) ∧
      (∀ a, a < 0x010000000000 → Mem.get memBackground t.mem a = Mem.get memBackground s.mem a) ∧ t.supply = s.supply) ∧
    (p.perstHigh = true → exec .perstNRelease s = .next s) ∧
    (p.perstHigh = false → p.boot = .held →
      exec .perstNRelease s = .next { s with platform := { p with perstHigh := true, boot := .bist } }) ∧
    (p.perstHigh = false → p.boot = .holdPerst → p.alignedWait = true →
      exec .perstNRelease s = .next { s with platform := { p with perstHigh := true, alignedEdge := true } }) ∧
    (p.perstHigh = false → p.boot = .holdPerst → p.alignedWait = false → ∃ t, exec .perstNRelease s = .next t ∧
      t.platform.boot = .ready ∧ t.platform.perstHigh = true) ∧
    (p.boot = .holdPerst → p.alignedWait = true → p.alignedEdge = true → ∃ t, exec .alignedRelease s = .next t ∧
      t.platform.boot = .ready ∧ t.platform.alignedStart = true ∧ t.platform.fifoFill = 8) ∧
    (¬ (p.boot = .holdPerst ∧ p.alignedWait = true ∧ p.alignedEdge = true) → exec .alignedRelease s = .next s) ∧
    (p.rails = true → p.linkSpeed ≠ 0 → (p.boot = .ready ∨ (p.lastReset ≠ 2 ∧ p.lastReset ≠ 3)) → s.arbiter.orders = [] →
      ∃ t, exec .flr s = .next t ∧ t.platform.lastReset = 4 ∧ t.platform.boot = p.boot ∧ t.platform.bar4Log2 = 36 ∧ t.queues = [] ∧
        t.regs.winOpen = false ∧ t.regs.secLock = s.regs.secLock ∧ t.slots = s.slots ∧ t.cores = s.cores ∧ t.mem = s.mem ∧
        t.clusters = s.clusters ∧ t.ports = s.ports ∧ t.mgmt = s.mgmt ∧ t.supply = s.supply)

/-- With AUX_3V3 the module controller boots; MAIN_54V brings the rails up, tests the cores and starts the entropy source;
memories that all train make the module ready, one that does not is fatal; losing AUX_3V3 or a supply out of bounds takes
everything that hangs on MAIN_54V away; a TRIAL image that is not ready in time is reverted (R319, R527, R528, R543 to R547,
R550, R598, R599, R603). Where the manual is open or silent the clauses follow the model's choice: log entries 64, 68 and 70. -/
def Obligations.StartUp : Prop :=
  ∀ (s : State) (boot : BootOutcome) (failed : List Nat) (b : BistOutcome),
    let p := s.platform
    let lost := fun (t : State) => t.platform.rails = false ∧ t.platform.boot = .off ∧ t.mem = [] ∧ t.cores = [] ∧ t.slots = [] ∧ t.net = []
    let reset := fun (i : Instr) (cause : Nat) => ∃ t, exec i s = .next t ∧ lost t ∧ t.platform.vsagLow = true ∧ t.platform.lastReset = 1 ∧
      t.supply.mainOk = decide (cause ≠ 1)
    (p.aux = true → exec (.aux3v3Valid boot) s = .next s) ∧
    (p.aux = false → ∃ t, exec (.aux3v3Valid boot) s = .next t ∧ t.platform.aux = true ∧ t.platform.mgmtReady = !t.rot.recovery ∧
      t.platform.lastReset = 0 ∧ t.mgmt.auxBoots = s.mgmt.auxBoots + 1 ∧ t.regs.locks = []) ∧
    (p.aux = false → exec .aux3v3Loss s = .next s) ∧
    (p.aux = true → ∃ t, exec .aux3v3Loss s = .next t ∧ lost t ∧ t.platform.aux = false ∧ t.platform.mgmtReady = false ∧ t.mgmt.run = false) ∧
    (p.rails = false → p.aux = true → p.mgmtReady = true → b.fwGood = true → ∃ t, exec (.main54vQualify b) s = .next t ∧
      t.platform.rails = true ∧ t.platform.main = true ∧ t.platform.boot = .training ∧ t.rot.bootVerified = true ∧
      t.entropy.state = .startup) ∧
    (p.boot ≠ .training → exec (.memoryTrainingDone failed) s = .next s) ∧
    (p.boot = .training → p.alignedWait = false → (p.lastReset ≠ 2 ∨ p.perstHigh = true) →
      (∀ n ∈ [0, 1, 2, 3, 4, 5, 8, 9], n ∉ failed) → ∃ t, exec (.memoryTrainingDone failed) s = .next t ∧ t.platform.boot = .ready ∧
        t.platform.hbmTrained = true ∧ t.platform.larderTrained = true ∧
        ∀ n ∈ [0, 1, 2, 3, 4, 5, 8, 9], (t.station n).trained = true ∧ (t.station n).selfRefresh = false) ∧
    (p.boot = .training → p.fatal = false → (∃ n ∈ [0, 1, 2, 3, 4, 5, 8, 9], n ∈ failed) →
      ∃ t, exec (.memoryTrainingDone failed) s = .next t ∧ t.platform.fatal = true ∧ t.platform.boot = .training) ∧
    (p.aux = true → s.rot.running.trial = true → p.boot ≠ .ready → ∃ t, exec .trialTimeout s = .next t ∧ t.rot.runningB ≠ s.rot.runningB) ∧
    (s.rot.running.trial = false → exec .trialTimeout s = .next s) ∧
    (p.rails = true → reset .vcoreLow 2 ∧ reset .thermalTrip 3 ∧ reset .main54vHigh 4 ∧ reset .vsagReset 1)

/-- The applied target never lies above the lowest limit after a step of the supervisor that may lower it, falls at once with it,
and a measurement raises it by at most 5 mV; CAP falls by 25 mV for each millisecond over the cap, THERMAL by 10 mV for each
at 100 °C or more, to 0.62 V at a critical die; a sag warns host and management (R541, R543, R549, R550). Where the manual is
open or silent the clauses follow the model's choice: log entry 62. -/
def Obligations.SupplyLimits : Prop :=
  ∀ (s : State) (mW : Nat) (tj : List Int), s.platform.rails = true → s.liveBad 6 0 = false →
    let p := s.supply
    let ran := fun (i : Instr) (q : State → Prop) => ∃ t, exec i s = .next t ∧
      t = { s with supply := t.supply, regs := t.regs, mgmt := t.mgmt } ∧ t.supply.appliedMv ≤ t.targetMv ∧ q t
    let p1 := p.sumMw / max 1 p.sumCount
    let cap := (if p.mgmtCapW = 0 then 850 else min 850 p.mgmtCapW) * 1000
    ran (.powerMeasurement mW) (fun t => t.supply.appliedMv ≤ p.appliedMv + 5 ∧ t.supply.thermalMv = p.thermalMv ∧
      (1000000 < mW → t.supply.capMv = max 620 (p.appliedMv - 50))) ∧
    ran .capBoundary (fun t => t.supply.p1 = p1 ∧ t.supply.sumMw = 0 ∧ t.supply.sumCount = 0 ∧ t.supply.appliedMv ≤ p.appliedMv ∧
      (cap < p1 → t.supply.capMv = max 620 (p.capMv - 25)) ∧ (p1 ≤ cap → p.capMv ≤ t.supply.capMv ∨ 850 < p.capMv)) ∧
    (tj.length = 4 → ran (.thermalBoundary tj) fun t => t.supply.tj = tj ∧ t.supply.appliedMv ≤ p.appliedMv ∧
      (t.supply.throttling = true ↔ ∃ x ∈ tj, 1600 ≤ x) ∧
      ((∃ x ∈ tj, 1600 ≤ x) → t.supply.thermalMv = max 620 (p.thermalMv - 10))) ∧
    ran .thermalCrit (fun t => t.supply.thermalMv = 620 ∧ t.supply.thermalCrit = true ∧ t.supply.appliedMv ≤ 620) ∧
    exec .vcoreRampDone s = .next { s with supply := { p with ramping := false, vcoreMv := p.appliedMv } } ∧
    (p.warn = false → ∃ t, exec .vsagWarn s = .next t ∧ t.supply.warn = true ∧ t.supply.warns = p.warns + 1 ∧ t.platform.vsagLow = true ∧
      bitAt t.regs.irqStatus 0 = 1 ∧ bitAt t.mgmt.events 0 = 1) ∧
    (p.warn = true → exec .vsagWarn s = .next s ∧ exec .vsagWarnDeassert s =
      .next { s with supply := { p with warn := false }, platform := { s.platform with vsagLow := false } })

/-! ### Fabric and entropy -/

/-- A cord that is plugged in starts the exchange of a port that waits for it; its answer brings TRAINING with the wear it
states, or DOWN with AUTH_FAIL or CORD_EXPIRED; a poll keeps the newest record; taking it out leaves the port without a cord;
an overcurrent turns VCORD off (R336, R376, R377, R379, R380, R382, R385, R618). Training chooses the widest of 8, 4 and 2
lanes that the port may use and that trained, no wider than before where no bring-up or order widens it; the peer's identity
brings the port UP with its credits full, or DOWN with SELF where it is this module's; a lane that loses lock retrains the port, a failed or disabled link takes it DOWN with its reason
(R335, R336, R338, R339, R350). Where the manual is open or silent the clauses follow the model's choice: log entries 50, 51
and 53. -/
def Obligations.CordsAndPorts : Prop :=
  (∀ (s : State) (n kind : Nat) (a : CordAnswer) (rec : List Byte), n < 12 →
    let x := s.port n
    let ran := fun (i : Instr) (p : State → Port → Prop) => ∃ t, exec i s = .next t ∧ p t (t.port n)
    let challenged := x.state = .authenticating ∧ x.cordStep = .challenged
    let r := a.record
    let chained := chainGood a.chain
    let signed := fun (c : CordCert) => rsaVerify c.modulus c.exponent (x.nonce ++ r) a.signature
    let named := fun (c : CordCert) => fieldAt r 0 4 = 1 ∧ subjectNames c.subject (fieldAt r 8 8) (fieldAt r 24 1) = true ∧ fieldAt r 23 1 = x.cordKind
    let fails := fun (cause : Nat) => ran (.cordAnswer n a) fun _ y => y.state = .down ∧ y.downReason = 1 ∧ y.cordCause = cause
    let wear := fun (r : List Byte) => if fieldAt r 23 1 = 2 then 0 else if 221184000000 ≤ fieldAt r 32 6 then 2
      else if 176947200000 ≤ fieldAt r 32 6 then 1 else 0
    let refuse := bitAt (s.liveReg (cordPolicyKey n)) 0 = 1
    (x.cordPresent = false → (kind = 1 ∨ kind = 2) → s.platform.aux = true → ran (.cordPresent n kind) fun t y => y.cordPresent = true ∧
      y.cordKind = kind ∧ y.cordAuth = false ∧ (x.state = .noCord → y.state = .authenticating ∧ .nonce n ∈ t.entropy.rot) ∧
      (x.state ≠ .noCord → y.state = x.state)) ∧
    (x.cordPresent = true → exec (.cordPresent n kind) s = .next s) ∧
    (x.cordPresent = true → let y := { x with cordPresent := false, cordKind := 0, cordAuth := false, cordWear := 3, cordPct := 0, vcordOff := false }
      (x.state = .disabled → exec (.cordRemoved n) s = .next (s.setPort n y)) ∧
      (x.state ≠ .disabled → x.state.carries = true → exec (.cordRemoved n) s = .next ((s.setPort n y).stopPort n .noCord 0)) ∧
      (x.state ≠ .disabled → x.state.carries = false → exec (.cordRemoved n) s = .next (((s.setPort n y).stopPort n .noCord 0).linkLoss n))) ∧
    (challenged → r.length = 64 → x.vcordOff = false →
      (a.chain = [] ∨ chained = false → fails 2) ∧
      (∀ c rest, a.chain = c :: rest → chained = true →
        (signed c = false → fails 3) ∧ (signed c = true → ¬ named c → fails 4) ∧
        (signed c = true → named c → s.liveBad 5 n = false → wear r = 2 → refuse →
          ran (.cordAnswer n a) fun _ y => y.state = .down ∧ y.downReason = 4 ∧ y.cordCause = 5) ∧
        (signed c = true → named c → s.liveBad 5 n = false → (wear r ≠ 2 ∨ ¬ refuse) → ran (.cordAnswer n a) fun _ y => y.state = .training ∧
          y.cordAuth = true ∧ y.cordRecord = some r ∧ y.cordWear = wear r))) ∧
    (challenged → ran (.cordNoAnswer n) fun _ y => y.state = .down ∧ y.downReason = 1 ∧ y.cordCause = 1) ∧
    (x.state.carries = true → rec.length = 64 → ran (.cordRecordPoll n rec) fun _ y => y.cordRecord = some rec ∧ y.cordWear = wear rec ∧
      y.state = x.state) ∧
    (x.vcordOff = false → s.platform.rails = true → ran (.vcordOvercurrent n) fun t y => y.vcordOff = true ∧
      t.host.errContained = satInc (2 ^ 32 - 1) s.host.errContained)) ∧
  (∀ (s : State) (n lanes lane : Nat) (f : AlignFrame), n < 12 → s.liveBad 4 n = false →
    let x := s.port n
    let ran := fun (i : Instr) (p : State → Port → Prop) => ∃ t, exec i s = .next t ∧ p t (t.port n)
    let asked := bitsAt (s.liveReg (portCtrlKey n)) 5 4
    let most := if x.widen then asked else min x.width asked
    let may := 1 ≤ lanes ∧ lanes ≤ 15 ∧ Nat.land lanes (15 - x.lanesOut) ≠ 0
    let has := fun (m : Nat) => Nat.land (Nat.land lanes (15 - x.lanesOut)) m = m
    let width := fun (y : Port) => if most = 3 ∧ has 15 then y.width = 3 ∧ y.lanesUsed = 15
      else if 2 ≤ most ∧ has 3 then y.width = 2 ∧ y.lanesUsed = 3 else if 2 ≤ most ∧ has 12 then y.width = 2 ∧ y.lanesUsed = 12
      else y.width ≤ 1
    let goesDown := fun (i : Instr) (reason : Nat) => ran i fun _ y => y.state = .down ∧ y.downReason = reason ∧ y.lanesUsed = 0
    (∀ k, k ≠ n → ∀ t, (exec (.lanesTrained n lanes) s = .next t ∨ exec (.laneLockLoss n lane) s = .next t ∨
      exec (.retrainDone n lanes) s = .next t) → t.port k = s.port k ∧ t.slots = s.slots ∧ t.cores = s.cores ∧ t.net = s.net) ∧
    (∀ t, (exec (.lanesTrained n lanes) s = .next t ∨ exec (.laneLockLoss n lane) s = .next t) → t.mem = s.mem) ∧
    (x.state = .training → x.aligned = false → may → ran (.lanesTrained n lanes) fun _ y => y.aligned = true ∧
      y.lanesOk = lanes ∧ y.state = .training ∧ width y) ∧
    (x.state = .training → x.aligned = false → goesDown (.trainFail n) 2 ∧ ran (.trainFail n) fun _ y => y.lanesOk = 0) ∧
    (x.state = .training → x.aligned = true →
      (f.moduleId ≠ s.fabric.moduleId → ran (.alignmentFrame n f) fun _ y => y.state = .up ∧ y.peerId = f.moduleId ∧ y.peerPort = f.port ∧
        y.txNext = 0 ∧ y.rxNext = 0 ∧ y.creditPool = 3967 ∧ y.creditVc1 = 65 ∧ y.creditVc0 = 64) ∧
      (f.moduleId = s.fabric.moduleId → goesDown (.alignmentFrame n f) 3)) ∧
    (x.state = .up → lane < 4 → bitAt x.lanesUsed lane = 1 → ran (.laneLockLoss n lane) fun _ y => y.state = .retraining ∧
      y.aligned = false ∧ y.replayBuf = x.replayBuf ∧ y.retrains = satInc 0xFF x.retrains) ∧
    (x.state = .retraining → may → ran (.retrainDone n lanes) fun _ y =>
      y.state = .up ∧ y.lanesOk = lanes ∧ y.replayFrom = some x.txAck ∧ y.replayBuf = x.replayBuf ∧ width y) ∧
    (x.state = .retraining → exec (.retrainFail n) s = .next ((s.setPort n { x with lanesOk := 0 }).portDown n 5)) ∧
    (x.state.carries = true → exec (.peerDisabled n) s = .next (s.portDown n 6)) ∧
    (x.state.carries = false → exec (.peerDisabled n) s = .next s ∧ exec (.laneLockLoss n lane) s = .next s))

/-- A frame with a codeword of more than 7 bad symbols cannot be corrected; it, or an out-of-order one after it, is asked for again
with one NAK and is not accepted; a good next frame is accepted and a packet of one flit in it is buffered; a repeat of the NAK comes after 1,024 frames. Every 64th position sends an
alignment frame with the number of the next frame, every other one a data frame of twenty slots (R340, R342 to R345,
R347). Where the manual is open or silent the clauses follow the model's choice: log entry 15. -/
def Obligations.FrameCommands : Prop :=
  ∀ (s : State) (n : Nat) (f : DataFrame), n < 12 → (s.port n).state = .up →
    let x := s.port n
    let ran := fun (i : Instr) (p : Port → Prop) => ∃ t, exec i s = .next t ∧ p (t.port n) ∧
      (∀ k, k ≠ n → t.port k = s.port k) ∧ t.slots = s.slots ∧ t.cores = s.cores ∧ t.net = s.net
    let good := f.lostWords = [] ∧ (∀ q ∈ f.slots, q.tag ≠ .unused)
    let last := x.rxNak = none ∧ x.rxHigh ≤ x.rxNext ∧ x.overLimit = false
    (∀ k, k ∈ f.lostWords ↔ k < 4 ∧ (k ∈ f.bad ∨ 7 < (f.corrected[k]?).getD 0)) ∧
    (¬ good → ran (.dataFrame n f) fun y => y.framesUncorr = satInc 0xFFFF x.framesUncorr ∧ y.rxNext = x.rxNext ∧
      y.rxHigh = x.rxHigh ∧ y.accepted = x.accepted ∧ y.rxBuf = x.rxBuf ∧ y.rxNak = some (x.rxNak.getD x.rxNext)) ∧
    (∀ (m : Msg) (hops dest : Nat), f.lostWords = [] → last →
      f.slots = { tag := .single 0, link := none, msg := some m, index := 0, hops := hops, destModule := dest } :: List.replicate 19 idleSlot →
      ran (.dataFrame n f) fun y => y.rxNext = x.rxNext + 1 ∧ y.accepted = x.accepted + 1 ∧ y.rxBuf = x.rxBuf ++
        [{ vc := 0, flits := 1, hops := hops, destModule := dest, poison := false, pooled := false, arrival := none, msg := m }]) ∧
    (f.lostWords = [] → f.slots = List.replicate 20 idleSlot → x.overLimit = false →
      (last → ran (.dataFrame n f) fun y => y.rxNext = x.rxNext + 1 ∧ y.rxHigh = x.rxNext + 1 ∧
        y.accepted = x.accepted + 1) ∧
      (∀ k, x.rxNak = some k → ran (.dataFrame n f) fun y => y.rxNak = some k ∧ y.rxNext = x.rxNext ∧ y.accepted = x.accepted ∧
        y.rxNakCount = x.rxNakCount + 1)) ∧
    (x.rxNak.isSome = true → 1024 ≤ x.rxNakCount → exec (.nakRepeat n) s =
      .next (s.setPort n { x with rxNakDue := true, rxNakCount := 0 })) ∧
    (x.rxNak = none ∨ x.rxNakCount < 1024 → exec (.nakRepeat n) s = .next s) ∧
    (x.position % 64 = 0 → x.replayFrom = none → ran (.frameSend n) fun y => y.position = x.position + 1 ∧ y.sent = x.sent ∧
      y.rxNakDue = false ∧ ∃ g, y.sentAlign = some g ∧ g.moduleId = s.fabric.moduleId ∧ g.port = n ∧ g.lanes = x.lanesUsed ∧
        g.nextFrame = (x.txNext - x.replaySend.length) % 2 ^ 32) ∧
    (x.position % 64 ≠ 0 → x.replayFrom = none → x.replaySend = [] → x.txRest = [] → x.txQueue = [] → s.lockPackets n = [] →
      x.linkDue < 7 → x.rxNakDue = false → s.liveBad 8 (0x100 + n) = false → ran (.frameSend n) fun y => y.position = x.position + 1 ∧
        y.sent = x.sent + 1 ∧ y.txNext = x.txNext + 1 ∧ y.linkDue = x.linkDue + 1 ∧ y.replayBuf = x.replayBuf ∧
        y.sentData = some (x.txNext, List.replicate 20 idleSlot)) ∧
    (∀ k, x.position % 64 ≠ 0 → x.replayFrom = some k → s.liveBad 8 (0x100 + n) = false → ran (.frameSend n) fun y =>
      y.position = x.position + 1 ∧ y.sent = x.sent + 1 ∧ y.txNext = x.txNext ∧ y.replayFrom = none ∧
        y.replaySend.length = x.txNext - k)

/-- What a remote operation on a word of HBM, of the Larder's GENERAL region, of a free slice or of a free core store does to its
eight bytes and what it answers (R359, R362). A READ elsewhere answers the word read, of a sync object its bytes; a BULK_READ
answers the bytes read; a BULK_WRITE into HBM or GENERAL writes its lines; a SIGNAL, or an ADD on a PLAIN object, signals a
general object, and a registration registers there; each answers its sender but for the registration. An address that is not
aligned is refused 5; a range that may not be written is refused and nothing of it is written. A command for another module,
for another operation, or behind an earlier request of its requester, and a SIGNAL beyond its object's window change nothing
(R244 to R246, R359, R361, R363). Where the manual is open or silent the clauses follow the model's choice: log entries 26 and
83. -/
def Obligations.RemoteOperations : Prop :=
  (∀ (s : State) (r : Request) (old : List Byte),
    let a := hallLocal r.address
    let w := leNat old
    let unit := a / unitSize a * unitSize a
    let free := regionOf a = .hbm ∨ regionOf a = .general ∨ (∃ k n, regionOf a = .slice k n ∧ n < 28 ∧ (s.cluster k).sliceSlot.at n = none) ∨
      ∃ c, regionOf a = .store c ∧ (s.core c).slot = none ∧ (s.core c).colander = false ∧ (s.core c).members = []
    let does := fun (i : Instr) (op : RemoteOp) (new value : Nat) => r.op = op → ∃ t, exec i s = .next t ∧
      (∀ k, k < 8 → t.byteAt (a + k) = (leBytes 8 new)[k]?) ∧ (∀ b, b < a ∨ a + 8 ≤ b → t.byteAt b = s.byteAt b) ∧
      t.slots = s.slots ∧ t.net = s.net.erase (.request r) ++ [.response (r.answer s.fabric.moduleId .ok value [])]
    hallModule r.address = s.fabric.moduleId → s.fabric.moduleId ≠ 0xFFFF → r.srcModule ≠ s.fabric.moduleId → s.servedLater r = false →
    a % 8 = 0 → free → s.upsetAt unit = false → (∀ u ∈ s.upsets, u.correctable unit = false) → (∀ k, k < 144 → s.liveBad 8 k = false) →
    (∀ i, i < unitSize a → (s.byteAt (unit + i)).isSome = true) → (List.range 8).map (fun i => s.byteAt (a + i)) = old.map some →
    r.operandA < 2 ^ 64 → r.operandB < 2 ^ 64 →
      does (.remoteRead r) .read w w ∧ does (.remoteWrite r) .write r.operandA 0 ∧ does (.remoteAdd r) .add ((w + r.operandA) % 2 ^ 64) w ∧
      does (.remoteMaxu r) .maxu (max w r.operandA) w ∧
      does (.remoteMaxs r) .maxs (if (BitVec.ofNat 64 w).toInt < (BitVec.ofNat 64 r.operandA).toInt then r.operandA else w) w ∧
      does (.remoteCas r) .cas (if w = r.operandB then r.operandA else w) w) ∧
  (∀ (s : State) (r : Request) (p : Nat × Nat) (o : SyncObj),
    let here := hallModule r.address = s.fabric.moduleId
    let a := hallLocal r.address
    let n := 64 * (r.linesM1 + 1)
    let u := s.accept (.request r)
    let answers := fun (t : State) (st : RStatus) (value : Nat) (bs : List Byte) => t.answerRequest r st value bs
    let forms := [(RemoteOp.read, Instr.remoteRead r), (.write, .remoteWrite r), (.add, .remoteAdd r), (.maxu, .remoteMaxu r), (.maxs, .remoteMaxs r),
      (.cas, .remoteCas r), (.bulkRead, .remoteBulkRead r), (.bulkWrite, .remoteBulkWrite r), (.signal, .remoteSignal r), (.waitReg, .remoteWaitReg r)]
    let words := [(RemoteOp.write, Instr.remoteWrite r), (.add, .remoteAdd r), (.maxu, .remoteMaxu r), (.maxs, .remoteMaxs r), (.cas, .remoteCas r)]
    let sig := fun (count epoch gen : Nat) => u.signalArrive { object := r.address, count := count, epoch := epoch, runGen := gen, slot := 0xFE }
    (∀ f ∈ forms, ¬ here ∨ r.op ≠ f.1 ∨ s.servedLater r = true ∨ s.signalHeld r = true → exec f.2 s = .next s) ∧
    (here → s.servedLater r = false → s.signalHeld r = false →
      (∀ f ∈ forms, r.op = f.1 → a % f.1.align ≠ 0 → exec f.2 s = .next (answers u (.refused 5) 0 [])) ∧
      (r.op = .read → a % 8 = 0 → (∀ t bs, u.readAccess a 8 = (t, .ok bs) → exec (.remoteRead r) s = .next (answers t .ok (leNat bs) [])) ∧
        (∀ t e, u.readAccess a 8 = (t, .error e) → exec (.remoteRead r) s = .next (answers t e 0 []))) ∧
      (∀ f ∈ words, ∀ e, r.op = f.1 → a % 8 = 0 → (∀ k x, regionOf a ≠ .sync k x) → u.writeRefusal a 8 = some e →
        exec f.2 s = .next (answers (u.logDiscarded a e) e 0 [])) ∧
      (∀ f ∈ words, ∀ k x, r.op = f.1 → f.1 ≠ .add → a % 8 = 0 → regionOf a = .sync k x → exec f.2 s = .next (answers u (.refused 3) 0 [])) ∧
      (r.op = .bulkRead → a % 64 = 0 → (∀ t bs, u.readAccess a n = (t, .ok bs) → exec (.remoteBulkRead r) s = .next (answers t .ok 0 bs)) ∧
        (∀ t e, u.readAccess a n = (t, .error e) → exec (.remoteBulkRead r) s = .next (answers t e 0 []))) ∧
      (r.op = .bulkWrite → a % 64 = 0 → inData a n = true → r.data.length = n → (∀ i, i ≤ r.linesM1 → .linkError (a + 64 * i) ∉ s.upsets) →
        ∃ t, exec (.remoteBulkWrite r) s = .next (answers t .ok 0 []) ∧ (∀ k, k < n → t.byteAt (a + k) = r.data[k]?) ∧
          (∀ b, b < a ∨ a + n ≤ b → t.byteAt b = u.byteAt b) ∧ t.net = u.net) ∧
      (∀ i e, r.op = .bulkWrite → a % 64 = 0 → oneWindow a n = true → i ≤ r.linesM1 → u.writeRefusal (a + 64 * i) 64 = some e →
        (∀ j, j < i → u.writeRefusal (a + 64 * j) 64 = none) →
        exec (.remoteBulkWrite r) s = .next (answers (u.logDiscarded (a + 64 * i) e) e 0 [])) ∧
      (r.op = .signal → a % 8 = 0 → syncAt a = some p → u.object p = some o →
        exec (.remoteSignal r) s = .next (answers (sig (r.operandA % 512) r.epoch r.runGen) .ok 0 [])) ∧
      (r.op = .signal → a % 8 = 0 → syncAt a = none → exec (.remoteSignal r) s = .next (answers u (.refused 3) 0 [])) ∧
      (r.op = .add → a % 8 = 0 → syncAt a = some p → u.object p = some o → exec (.remoteAdd r) s =
        .next (if o.mode = 1 then answers (sig (r.operandA % 2 ^ 24) 0 0) .ok 0 [] else answers u (.refused 3) 0 [])) ∧
      (r.op = .waitReg → a % 8 = 0 → syncAt a = some p → u.object p = some o → exec (.remoteWaitReg r) s =
        .next (u.waitArrive { object := r.address, epoch := r.epoch, runGen := r.runGen, slot := 0xFE,
                              waiter := .remote r.srcModule r.operandA r.epoch }))))

/-- A packet for this module is delivered, one for another goes out by the port its route gives with one hop more, and is dropped
past 32; a message of this module enters the fabric at its turn; a response completes the request of its tag, one without is
late; a time-out ends it unreachable; a FENCE waits for the open requests and broadcasts of its unit; a broadcast is applied
here and sent on, one of this module waits behind a FENCE of its unit, and an ADD or SIGNAL to a sync object that is not PLAIN
is refused 6 (R349, R354, R361, R363 to R366). Where the manual is open or silent the clauses follow the model's choice: log
entries 13, 45, 46 and 88. -/
def Obligations.PacketsAndFences : Prop :=
  ∀ (s : State) (port q dest hops tag unit : Nat) (pooled : Bool) (m : Msg) (r : Request) (p : Response) (t : Tracker), port < 12 →
    let x := s.port port
    let own := s.fabric.moduleId
    let k : FabricPacket := { m.packet dest hops false with pooled := pooled }
    let waits := x.rxBuf.find? (fun p => p.vc = m.channel.1) = some k
    let took := s.setPort port ({ x with rxBuf := x.rxBuf.erase k }.giveBack k)
    let mine := fun (t : Tracker) => t.tag = tag ∧ t.held.isNone = true
    (waits → dest = own → own ≠ 0xFFFF → (∀ r, m = .request r → hallModule r.address ≠ 0xFFFF) → exec (.packetRoute port dest hops false m) s = .next (took.send m)) ∧
    (waits → dest ≠ own → dest ≠ 0xFFFF → took.route dest (some port) = .via q → exec (.packetRoute port dest hops false m) s = .next
      (if 32 ≤ hops then (took.modPort q fun y => { y with hopLimit := satInc 0xFF y.hopLimit }).dropPacket k 2
       else (took.leavesBy m q).modPort q fun y =>
         { y with txQueue := y.txQueue ++ [{ m.packet dest (hops + 1) false with arrival := some port }] })) ∧
    (m ∈ s.net → (∀ r, m ≠ .request r) → (∀ p, m ≠ .response p) → s.injectTurn dest m = true) ∧
    (m.module = some dest → dest ≠ own →
      (s.injectTurn dest m = true → exec (.packetRoute 12 dest hops false m) s = .next ((s.arrive m).routePacket (m.packet dest 0 false) none)) ∧
      (s.injectTurn dest m = false → exec (.packetRoute 12 dest hops false m) s = .next s)) ∧
    (x.rxBuf = [] → exec (.packetRoute port dest hops false m) s = .next s) ∧
    (p.destModule ≠ own → exec (.remoteResponse p) s = .next s) ∧
    (p.destModule = own → (∀ t ∈ s.fabric.trackers, ¬ (t.tag = p.tag ∧ t.held.isNone = true)) → p.tag / 4096 < 12 →
      exec (.remoteResponse p) s = .next ((s.arrive (.response p)).modPort (p.tag / 4096) fun y => { y with late := satInc 0xFF y.late })) ∧
    (p.destModule = own → p.tag = tag → s.fabric.trackers.find? (fun t => t.tag = tag && t.held.isNone) = some t →
      exec (.remoteResponse p) s = .next ((s.arrive (.response p)).completeRequest t p.status p.value p.data)) ∧
    (s.fabric.trackers.find? (fun t => t.tag = tag && t.held.isNone) = some t →
      exec (.requestTimeout tag) s = .next (s.completeRequest t (.unreachable 4) 0 [])) ∧
    ((∀ t ∈ s.fabric.trackers, ¬ mine t) → exec (.requestTimeout tag) s = .next s) ∧
    ((∀ f ∈ s.fabric.fences, f.unit ≠ unit) → ∃ u, exec (.remoteFence unit) s = .next u ∧
      ({ unit := unit, tags := (s.fabric.trackers.filter fun t => t.unit = unit).map fun t => t.tag, broadcasts := s.broadcastsOpen unit } ∈ u.fabric.fences ↔
        (∃ t ∈ s.fabric.trackers, t.unit = unit) ∨ s.broadcastsOpen unit ≠ []) ∧ u.fabric.trackers = s.fabric.trackers ∧ u.net = s.net) ∧
    (hallModule r.address = 0xFFFF → exec (.broadcastReceive port r hops) s = .next
      (let u := (s.arrive (.broadcast port r hops)).applyBroadcast r
       let k := { (Msg.request r).packet 0xFFFF hops false with arrival := some port }
       ((u.broadcastPorts port).foldl (fun u p => u.transmit k p) u).endFences)) ∧
    (s.broadcastFenced r = true → exec (.broadcastReceive 12 r hops) s = .next s) ∧
    (∀ op a b c, hallModule r.address = 0xFFFF → op = .add ∨ op = .signal → (∃ k i, regionOf (hallLocal r.address) = .sync k i) →
      s.plainAt (hallLocal r.address) = false →
      s.sendRequest op r.address a b 0 c 0 [] none unit = (s, some (.refused 6))) ∧
    (hallModule r.address ≠ 0xFFFF → exec (.broadcastReceive port r hops) s = .next s)

/-- A start-up round that all enabled pairs pass releases the source, a failing one is counted and at LIMIT a fault; a good block
goes conditioned into the pool while it has room, a bad one is discarded and counted; the pool serves the root of trust
before the host, one output at a time (R506 to R512, R515, R516). Where the manual is open or silent the clauses follow the
model's choice: log entry 39. -/
def Obligations.EntropyCommands : Prop :=
  ∀ (s : State) (blocks : List (List RawBlock)) (n : Nat) (b : RawBlock), s.liveBad 7 0 = false →
    let e := s.entropy
    let ran := fun (i : Instr) (p : Entropy → Prop) => ∃ t, exec i s = .next t ∧ p t.entropy ∧ t.slots = s.slots ∧ t.cores = s.cores ∧ t.net = s.net
    let pairs := (List.range 4).filter fun n => bitAt (s.liveOr 0x08000C 0xF) n = 1
    let whole := ∀ n ∈ pairs, ((blocks[n]?).getD []).length = 8 ∧ ∀ b ∈ (blocks[n]?).getD [], b.samples.length = 128
    let good := ∀ n ∈ pairs, ∀ b ∈ (blocks[n]?).getD [], b.passes = true
    let limit := s.liveOr 0x080008 0x08 % 256
    (e.state = .startup → whole →
      (good → ran (.entropyStartupRound blocks) fun f => f.state = .released ∧ f.consec = 0 ∧
        f.rawSamples = e.rawSamples + 1024 * pairs.length) ∧
      (¬ good → ran (.entropyStartupRound blocks) fun f => f.failsStartup = satInc 0xFFFF e.failsStartup ∧
        f.consec = satInc 0xFF e.consec ∧ (f.state = .fault ↔ limit ≤ satInc 0xFF e.consec))) ∧
    (e.state = .stopped ∨ e.state = .released → exec (.entropyStartupRound blocks) s = .next s) ∧
    (e.state = .released → n ∈ pairs → b.samples.length = 128 →
      (b.passes = true → ran (.entropyBlock n b) fun f => f.rawSamples = e.rawSamples + 128 ∧ f.state = .released ∧
        f.pool = (if e.pool.length < 128 then e.pool ++ [sha256 b.samples] else e.pool) ∧ f.discarded = e.discarded) ∧
      (b.passes = false → ran (.entropyBlock n b) fun f => f.discarded = e.discarded + 1 ∧ f.pool = e.pool ∧
        f.discards.at n = some ((e.discards.at n).getD 0 + 1))) ∧
    (e.pool = [] → exec .entropyServe s = .next s) ∧
    (∀ out pool, e.pool = out :: pool → e.state = .released →
      (e.rot = [] → e.host = [] → exec .entropyServe s = .next s) ∧
      (∀ id rest, e.rot = .salt id :: rest → ∃ t, exec .entropyServe s = .next t ∧ t.entropy.pool = pool ∧ t.entropy.rot = rest ∧
        t.entropy.host = e.host ∧ t.entropy.delivered = e.delivered + 32 ∧ ∀ q ∈ t.rot.signing, q.order = id → q.salt = some out) ∧
      (∀ id need got rest, e.rot = [] → e.host = .get id need got :: rest → 32 < need → ran .entropyServe fun f => f.pool = pool ∧
        f.host = .get id (need - 32) (got ++ out.take need) :: rest ∧ f.delivered = e.delivered + 32))

/-- A deferred test runs once nothing makes it intrusive, leaves the list, and its outcome is logged and journalled; a completion
of host memory ends its read and goes to what sent it, a failure is reported through AER, and none times out while the host has
the completion timeout disabled; the host link trains where it may, goes down, and its function moves between D0 and D3hot
(R386, R387, R399, R407, R439, R598). Where the manual is open or silent the clauses follow the model's choice: log entries 8,
16, 74 and 91. -/
def Obligations.PlatformEvents : Prop :=
  ∀ (s : State) (w : TestOutcome) (tag speed width i q : Nat) (flit d3 : Bool) (res : ReadResult),
    let p := s.platform
    (p.boot ≠ .ready ∨ s.arbiter.tests.find? s.testReady = none → exec (.deferredTestRun w) s = .next s) ∧
    (∀ k, p.boot = .ready → s.arbiter.tests.find? s.testReady = some k →
      let e := s.testEnding k.calibrate k.code w
      let u := { s with arbiter := { s.arbiter with tests := s.arbiter.tests.erase k } }
      let u := if e.status = 0 then u.applyTest k.calibrate k.code k.unit w else u
      let v := u.logError { cls := .test, code := 0x0018, action := 5, unitKind := testUnitKind k.calibrate k.code, unit := k.unit,
                            info := e.result + k.code * 2 ^ 32 + (if e.status ≠ 0 ∨ w.pass = false then 2 ^ 40 else 0), seq := k.seq }
      exec (.deferredTestRun w) s = .next (v.note { opcode := 0xC4, target := k.unit % 2 ^ 16, status := e.status, detail := e.d17,
                                                    result := k.seq }).retryStarts) ∧
    (s.arbiter.reads.find? (fun x => x.1 = tag) = none → exec (.hostMemoryCompletion tag res) s = .next s) ∧
    (∀ r, s.arbiter.reads.find? (fun x => x.1 = tag) = some (tag, r) → r.ofMgmt = false →
      let v := (s.endRead tag).reportRead res
      (res = .timeout → p.pcie.timeoutOff = true → exec (.hostMemoryCompletion tag res) s = .next s) ∧
      (res ≠ .timeout ∨ p.pcie.timeoutOff = false →
        v.host.aer = (match res with | .data _ => s.host.aer | .error => .errorCompletion :: s.host.aer | .timeout => .completionTimeout :: s.host.aer) ∧
        (r = .packet q i → exec (.hostMemoryCompletion tag res) s = .next (v.packetFetched q i res)) ∧
        (∀ o, r = .copy o → exec (.hostMemoryCompletion tag res) s = .next (match res with
          | .data bs => v.transferData o bs
          | .error | .timeout => v.transferError o)))) ∧
    (p.rails = true → p.linkSpeed ≠ 0 → exec (.d3hotTransition d3) s = .next { s with platform := { p with d3hot := d3 } }) ∧
    exec (.hostLinkChange 0 width flit) s =
      .next { s with platform := { p with linkSpeed := 0, linkWidth := 0, linkFlit := false, pcie := PcieControl.reset } } ∧
    (p.rails = true → p.perstHigh = true → p.alignedWait = false → (p.boot = .training ∨ p.boot = .ready) → speed ∈ [4, 5, 6] →
      width ∈ [1, 2, 4, 8, 16] → ∃ k : PcieControl, k.maxPayload ∈ [128, 256, 512] ∧ k.maxRead ∈ [128, 256, 512, 1024, 2048, 4096] ∧
        exec (.hostLinkChange speed width flit) s = .next { s with free := s.free + 1, platform := { p with linkSpeed := speed, linkWidth := width, linkFlit := flit || decide (speed = 6), pcie := k } }) ∧
    (speed ≠ 0 → (p.rails = false ∨ p.perstHigh = false ∨ p.alignedWait = true) → exec (.hostLinkChange speed width flit) s = .next s)
end

