-- ==== Sys2Proof/Laws/Dispatch.lean ====
section
/-! SUPPORT. Laws/Dispatch.lean: what exec is at each command, and what a step is. -/

namespace Sys2Proof.Machine

@[simp] theorem exec_nop (id : Nat) (s : State) : exec (.nop id) s = execNop id s := rfl
@[simp] theorem exec_identify (id : Nat) (s : State) : exec (.identify id) s = execIdentify id s := rfl
@[simp] theorem exec_getStatus (id : Nat) (s : State) : exec (.getStatus id) s = execGetStatus id s := rfl
@[simp] theorem exec_journalQuery (id : Nat) (s : State) : exec (.journalQuery id) s = execJournalQuery id s := rfl
@[simp] theorem exec_fill (id : Nat) (s : State) : exec (.fill id) s = execFill id s := rfl
@[simp] theorem exec_copy (id : Nat) (s : State) : exec (.copy id) s = execCopy id s := rfl
@[simp] theorem exec_scrubDeclare (id : Nat) (s : State) : exec (.scrubDeclare id) s = execScrubDeclare id s := rfl
@[simp] theorem exec_modelCheck (id : Nat) (s : State) : exec (.modelCheck id) s = execModelCheck id s := rfl
@[simp] theorem exec_modelLoad (id : Nat) (s : State) : exec (.modelLoad id) s = execModelLoad id s := rfl
@[simp] theorem exec_modelUnload (id : Nat) (s : State) : exec (.modelUnload id) s = execModelUnload id s := rfl
@[simp] theorem exec_slotConfig (id : Nat) (s : State) : exec (.slotConfig id) s = execSlotConfig id s := rfl
@[simp] theorem exec_slotStart (id : Nat) (s : State) : exec (.slotStart id) s = execSlotStart id s := rfl
@[simp] theorem exec_slotStop (id : Nat) (s : State) : exec (.slotStop id) s = execSlotStop id s := rfl
@[simp] theorem exec_slotSave (id : Nat) (s : State) : exec (.slotSave id) s = execSlotSave id s := rfl
@[simp] theorem exec_slotRestore (id : Nat) (s : State) : exec (.slotRestore id) s = execSlotRestore id s := rfl
@[simp] theorem exec_slotDisable (id : Nat) (s : State) : exec (.slotDisable id) s = execSlotDisable id s := rfl
@[simp] theorem exec_slotEnable (id : Nat) (s : State) : exec (.slotEnable id) s = execSlotEnable id s := rfl
@[simp] theorem exec_sampleRead (id : Nat) (s : State) : exec (.sampleRead id) s = execSampleRead id s := rfl
@[simp] theorem exec_statsRead (id : Nat) (s : State) : exec (.statsRead id) s = execStatsRead id s := rfl
@[simp] theorem exec_resultSeal (id : Nat) (s : State) : exec (.resultSeal id) s = execResultSeal id s := rfl
@[simp] theorem exec_syncAlloc (id : Nat) (s : State) : exec (.syncAlloc id) s = execSyncAlloc id s := rfl
@[simp] theorem exec_syncFree (id : Nat) (s : State) : exec (.syncFree id) s = execSyncFree id s := rfl
@[simp] theorem exec_syncSignal (id : Nat) (s : State) : exec (.syncSignal id) s = execSyncSignal id s := rfl
@[simp] theorem exec_syncWait (id : Nat) (s : State) : exec (.syncWait id) s = execSyncWait id s := rfl
@[simp] theorem exec_entropyGet (id : Nat) (s : State) : exec (.entropyGet id) s = execEntropyGet id s := rfl
@[simp] theorem exec_seedFromEntropy (id : Nat) (s : State) : exec (.seedFromEntropy id) s = execSeedFromEntropy id s := rfl
@[simp] theorem exec_selftest (id : Nat) (outcome : TestOutcome) (s : State) : exec (.selftest id outcome) s = execSelftest id outcome s := rfl
@[simp] theorem exec_calibrate (id : Nat) (outcome : TestOutcome) (s : State) : exec (.calibrate id outcome) s = execCalibrate id outcome s := rfl
@[simp] theorem exec_fabricConfig (id : Nat) (s : State) : exec (.fabricConfig id) s = execFabricConfig id s := rfl
@[simp] theorem exec_routeLoad (id : Nat) (s : State) : exec (.routeLoad id) s = execRouteLoad id s := rfl
@[simp] theorem exec_portState (id : Nat) (s : State) : exec (.portState id) s = execPortState id s := rfl
@[simp] theorem exec_coreFence (id : Nat) (outcome : TestOutcome) (s : State) : exec (.coreFence id outcome) s = execCoreFence id outcome s := rfl
@[simp] theorem exec_coreCastle (id : Nat) (s : State) : exec (.coreCastle id) s = execCoreCastle id s := rfl
@[simp] theorem exec_lockstepBegin (id : Nat) (s : State) : exec (.lockstepBegin id) s = execLockstepBegin id s := rfl
@[simp] theorem exec_lockstepEnd (id : Nat) (s : State) : exec (.lockstepEnd id) s = execLockstepEnd id s := rfl
@[simp] theorem exec_counterConfig (id : Nat) (s : State) : exec (.counterConfig id) s = execCounterConfig id s := rfl
@[simp] theorem exec_tagConfig (id : Nat) (s : State) : exec (.tagConfig id) s = execTagConfig id s := rfl
@[simp] theorem exec_attest (id : Nat) (s : State) : exec (.attest id) s = execAttest id s := rfl
@[simp] theorem exec_keyInfo (id : Nat) (s : State) : exec (.keyInfo id) s = execKeyInfo id s := rfl
@[simp] theorem exec_mgTelemetry (id : Nat) (s : State) : exec (.mgTelemetry id) s = execMgTelemetry id s := rfl
@[simp] theorem exec_mgPowerCap (id : Nat) (s : State) : exec (.mgPowerCap id) s = execMgPowerCap id s := rfl
@[simp] theorem exec_mgFence (id : Nat) (outcome : TestOutcome) (s : State) : exec (.mgFence id outcome) s = execMgFence id outcome s := rfl
@[simp] theorem exec_mgCordInfo (id : Nat) (s : State) : exec (.mgCordInfo id) s = execMgCordInfo id s := rfl
@[simp] theorem exec_mgFwStage (id : Nat) (s : State) : exec (.mgFwStage id) s = execMgFwStage id s := rfl
@[simp] theorem exec_mgFwActivate (id : Nat) (s : State) : exec (.mgFwActivate id) s = execMgFwActivate id s := rfl
@[simp] theorem exec_mgReset (id : Nat) (s : State) : exec (.mgReset id) s = execMgReset id s := rfl
@[simp] theorem exec_mgLogRead (id : Nat) (s : State) : exec (.mgLogRead id) s = execMgLogRead id s := rfl
@[simp] theorem exec_mgSelftest (id : Nat) (outcome : TestOutcome) (s : State) : exec (.mgSelftest id outcome) s = execMgSelftest id outcome s := rfl
@[simp] theorem exec_instrNop (core : Nat) (s : State) : exec (.instrNop core) s = execInstrNop core s := rfl
@[simp] theorem exec_endPhase (core : Nat) (s : State) : exec (.endPhase core) s = execEndPhase core s := rfl
@[simp] theorem exec_jmp (core : Nat) (off : BitVec 24) (s : State) : exec (.jmp core off) s = execJmp core off s := rfl
@[simp] theorem exec_bz (core : Nat) (a : BitVec 5) (off : BitVec 19) (s : State) : exec (.bz core a off) s = execBz core a off s := rfl
@[simp] theorem exec_bnz (core : Nat) (a : BitVec 5) (off : BitVec 19) (s : State) : exec (.bnz core a off) s = execBnz core a off s := rfl
@[simp] theorem exec_blt (core : Nat) (a : BitVec 5) (b : BitVec 5) (off : BitVec 14) (s : State) : exec (.blt core a b off) s = execBlt core a b off s := rfl
@[simp] theorem exec_loop (core : Nat) (a : BitVec 5) (off : BitVec 19) (s : State) : exec (.loop core a off) s = execLoop core a off s := rfl
@[simp] theorem exec_add (core : Nat) (a : BitVec 5) (b : BitVec 5) (c : BitVec 5) (s : State) : exec (.add core a b c) s = execAdd core a b c s := rfl
@[simp] theorem exec_sub (core : Nat) (a : BitVec 5) (b : BitVec 5) (c : BitVec 5) (s : State) : exec (.sub core a b c) s = execSub core a b c s := rfl
@[simp] theorem exec_and (core : Nat) (a : BitVec 5) (b : BitVec 5) (c : BitVec 5) (s : State) : exec (.and core a b c) s = execAnd core a b c s := rfl
@[simp] theorem exec_or (core : Nat) (a : BitVec 5) (b : BitVec 5) (c : BitVec 5) (s : State) : exec (.or core a b c) s = execOr core a b c s := rfl
@[simp] theorem exec_xor (core : Nat) (a : BitVec 5) (b : BitVec 5) (c : BitVec 5) (s : State) : exec (.xor core a b c) s = execXor core a b c s := rfl
@[simp] theorem exec_shl (core : Nat) (a : BitVec 5) (b : BitVec 5) (c : BitVec 5) (s : State) : exec (.shl core a b c) s = execShl core a b c s := rfl
@[simp] theorem exec_shr (core : Nat) (a : BitVec 5) (b : BitVec 5) (c : BitVec 5) (s : State) : exec (.shr core a b c) s = execShr core a b c s := rfl
@[simp] theorem exec_sra (core : Nat) (a : BitVec 5) (b : BitVec 5) (c : BitVec 5) (s : State) : exec (.sra core a b c) s = execSra core a b c s := rfl
@[simp] theorem exec_addi (core : Nat) (a : BitVec 5) (b : BitVec 5) (imm : BitVec 14) (s : State) : exec (.addi core a b imm) s = execAddi core a b imm s := rfl
@[simp] theorem exec_movi (core : Nat) (a : BitVec 5) (imm : BitVec 19) (s : State) : exec (.movi core a imm) s = execMovi core a imm s := rfl
@[simp] theorem exec_movhi (core : Nat) (a : BitVec 5) (imm : BitVec 16) (s : State) : exec (.movhi core a imm) s = execMovhi core a imm s := rfl
@[simp] theorem exec_mvs (core : Nat) (acc : BitVec 3) (b : BitVec 5) (row : BitVec 3) (s : State) : exec (.mvs core acc b row) s = execMvs core acc b row s := rfl
@[simp] theorem exec_mvw (core : Nat) (acc : BitVec 3) (b : BitVec 4) (c : BitVec 4) (row : BitVec 3) (n : BitVec 3) (s : State) : exec (.mvw core acc b c row n) s = execMvw core acc b c row n s := rfl
@[simp] theorem exec_mop (core : Nat) (acc : BitVec 3) (b : BitVec 4) (c : BitVec 4) (n : BitVec 3) (m : BitVec 3) (s : State) : exec (.mop core acc b c n m) s = execMop core acc b c n m s := rfl
@[simp] theorem exec_aclr (core : Nat) (acc : BitVec 3) (s : State) : exec (.aclr core acc) s = execAclr core acc s := rfl
@[simp] theorem exec_fdp (core : Nat) (a : BitVec 5) (s : State) : exec (.fdp core a) s = execFdp core a s := rfl
@[simp] theorem exec_finca (core : Nat) (denseOff : Bool) (s : State) : exec (.finca core denseOff) s = execFinca core denseOff s := rfl
@[simp] theorem exec_ldf (core : Nat) (a : BitVec 5) (b : BitVec 5) (s : State) : exec (.ldf core a b) s = execLdf core a b s := rfl
@[simp] theorem exec_updc (core : Nat) (s : State) : exec (.updc core) s = execUpdc core s := rfl
@[simp] theorem exec_updm (core : Nat) (a : BitVec 5) (b : BitVec 4) (n : BitVec 3) (s : State) : exec (.updm core a b n) s = execUpdm core a b n s := rfl
@[simp] theorem exec_rlxc (core : Nat) (s : State) : exec (.rlxc core) s = execRlxc core s := rfl
@[simp] theorem exec_draw (core : Nat) (a : BitVec 5) (b : BitVec 5) (s : State) : exec (.draw core a b) s = execDraw core a b s := rfl
@[simp] theorem exec_mask (core : Nat) (a : BitVec 4) (b : BitVec 5) (c : BitVec 5) (n : BitVec 3) (s : State) : exec (.mask core a b c n) s = execMask core a b c n s := rfl
@[simp] theorem exec_sievec (core : Nat) (s : State) : exec (.sievec core) s = execSievec core s := rfl
@[simp] theorem exec_ldk (core : Nat) (a : BitVec 5) (b : BitVec 5) (imm : BitVec 14) (s : State) : exec (.ldk core a b imm) s = execLdk core a b imm s := rfl
@[simp] theorem exec_stk (core : Nat) (a : BitVec 5) (b : BitVec 5) (imm : BitVec 14) (s : State) : exec (.stk core a b imm) s = execStk core a b imm s := rfl
@[simp] theorem exec_ldw (core : Nat) (a : BitVec 4) (b : BitVec 5) (imm : BitVec 14) (s : State) : exec (.ldw core a b imm) s = execLdw core a b imm s := rfl
@[simp] theorem exec_stw (core : Nat) (a : BitVec 4) (b : BitVec 5) (imm : BitVec 14) (s : State) : exec (.stw core a b imm) s = execStw core a b imm s := rfl
@[simp] theorem exec_ldsl (core : Nat) (a : BitVec 4) (b : BitVec 5) (imm : BitVec 14) (s : State) : exec (.ldsl core a b imm) s = execLdsl core a b imm s := rfl
@[simp] theorem exec_stsl (core : Nat) (a : BitVec 4) (b : BitVec 5) (imm : BitVec 14) (s : State) : exec (.stsl core a b imm) s = execStsl core a b imm s := rfl
@[simp] theorem exec_wget (core : Nat) (a : BitVec 5) (b : BitVec 4) (n : BitVec 4) (s : State) : exec (.wget core a b n) s = execWget core a b n s := rfl
@[simp] theorem exec_wput (core : Nat) (a : BitVec 4) (b : BitVec 5) (n : BitVec 4) (s : State) : exec (.wput core a b n) s = execWput core a b n s := rfl
@[simp] theorem exec_accst (core : Nat) (acc : BitVec 3) (b : BitVec 5) (s : State) : exec (.accst core acc b) s = execAccst core acc b s := rfl
@[simp] theorem exec_smsg (core : Nat) (s : State) : exec (.smsg core) s = execSmsg core s := rfl
@[simp] theorem exec_bcst (core : Nat) (a : BitVec 4) (s : State) : exec (.bcst core a) s = execBcst core a s := rfl
@[simp] theorem exec_brcv (core : Nat) (a : BitVec 4) (pass : Bool) (s : State) : exec (.brcv core a pass) s = execBrcv core a pass s := rfl
@[simp] theorem exec_sig (core : Nat) (a : BitVec 5) (count : BitVec 9) (s : State) : exec (.sig core a count) s = execSig core a count s := rfl
@[simp] theorem exec_wait (core : Nat) (a : BitVec 5) (s : State) : exec (.wait core a) s = execWait core a s := rfl
@[simp] theorem exec_pdone (core : Nat) (s : State) : exec (.pdone core) s = execPdone core s := rfl
@[simp] theorem exec_redi (core : Nat) (a : BitVec 5) (b : BitVec 5) (c : BitVec 5) (s : State) : exec (.redi core a b c) s = execRedi core a b c s := rfl
@[simp] theorem exec_redf (core : Nat) (a : BitVec 5) (b : BitVec 5) (c : BitVec 4) (n : BitVec 4) (s : State) : exec (.redf core a b c n) s = execRedf core a b c n s := rfl
@[simp] theorem exec_reda (core : Nat) (acc : BitVec 3) (b : BitVec 5) (c : BitVec 5) (s : State) : exec (.reda core acc b c) s = execReda core acc b c s := rfl
@[simp] theorem exec_fpr (core : Nat) (s : State) : exec (.fpr core) s = execFpr core s := rfl
@[simp] theorem exec_stateMessage (m : StateMsg) (s : State) : exec (.stateMessage m) s = execStateMessage m s := rfl
@[simp] theorem exec_broadcastVector (m : BcastMsg) (s : State) : exec (.broadcastVector m) s = execBroadcastVector m s := rfl
@[simp] theorem exec_sieveRequest (cluster : Nat) (s : State) : exec (.sieveRequest cluster) s = execSieveRequest cluster s := rfl
@[simp] theorem exec_reductionPartial (m : PartialMsg) (s : State) : exec (.reductionPartial m) s = execReductionPartial m s := rfl
@[simp] theorem exec_groupValue (m : GroupMsg) (s : State) : exec (.groupValue m) s = execGroupValue m s := rfl
@[simp] theorem exec_closeToken (m : CloseMsg) (s : State) : exec (.closeToken m) s = execCloseToken m s := rfl
@[simp] theorem exec_exchangeEnergy (m : EnergyMsg) (s : State) : exec (.exchangeEnergy m) s = execExchangeEnergy m s := rfl
@[simp] theorem exec_freeze (slot : Nat) (module : Nat) (hard : Bool) (s : State) : exec (.freeze slot module hard) s = execFreeze slot module hard s := rfl
@[simp] theorem exec_freezeReply (slot : Nat) (module : Nat) (part : Nat) (highest : Nat) (s : State) : exec (.freezeReply slot module part highest) s = execFreezeReply slot module part highest s := rfl
@[simp] theorem exec_limit (slot : Nat) (module : Nat) (epochLimit : Nat) (s : State) : exec (.limit slot module epochLimit) s = execLimit slot module epochLimit s := rfl
@[simp] theorem exec_drained (slot : Nat) (module : Nat) (part : Nat) (s : State) : exec (.drained slot module part) s = execDrained slot module part s := rfl
@[simp] theorem exec_faultNotice (slot : Nat) (module : Nat) (status : Nat) (s : State) : exec (.faultNotice slot module status) s = execFaultNotice slot module status s := rfl
@[simp] theorem exec_ckptDone (slot : Nat) (module : Nat) (part : Nat) (epoch : Nat) (s : State) : exec (.ckptDone slot module part epoch) s = execCkptDone slot module part epoch s := rfl
@[simp] theorem exec_ckptCommit (slot : Nat) (module : Nat) (epoch : Nat) (s : State) : exec (.ckptCommit slot module epoch) s = execCkptCommit slot module epoch s := rfl
@[simp] theorem exec_hello (port : Nat) (m : LockMsg) (s : State) : exec (.hello port m) s = execHello port m s := rfl
@[simp] theorem exec_fp (port : Nat) (m : LockMsg) (s : State) : exec (.fp port m) s = execFp port m s := rfl
@[simp] theorem exec_halt (port : Nat) (m : LockMsg) (s : State) : exec (.halt port m) s = execHalt port m s := rfl
@[simp] theorem exec_lsEnd (port : Nat) (m : LockMsg) (s : State) : exec (.lsEnd port m) s = execLsEnd port m s := rfl
@[simp] theorem exec_syncObjectSignal (m : SyncSignal) (s : State) : exec (.syncObjectSignal m) s = execSyncObjectSignal m s := rfl
@[simp] theorem exec_waiterRegistration (m : WaitReg) (s : State) : exec (.waiterRegistration m) s = execWaiterRegistration m s := rfl
@[simp] theorem exec_waiterNotice (w : Waiter) (object : Nat) (generation : Nat) (s : State) : exec (.waiterNotice w object generation) s = execWaiterNotice w object generation s := rfl
@[simp] theorem exec_colanderPacket (core : Nat) (item : ColanderItem) (s : State) : exec (.colanderPacket core item) s = execColanderPacket core item s := rfl
@[simp] theorem exec_fencedNotice (cluster : Nat) (core : Nat) (slot : Nat) (s : State) : exec (.fencedNotice cluster core slot) s = execFencedNotice cluster core slot s := rfl
@[simp] theorem exec_routerPacket (cluster : Nat) (input : Nat) (pkt : Packet) (s : State) : exec (.routerPacket cluster input pkt) s = execRouterPacket cluster input pkt s := rfl
@[simp] theorem exec_coreHandshake (core : Nat) (s : State) : exec (.coreHandshake core) s = execCoreHandshake core s := rfl
@[simp] theorem exec_routerHandshake (cluster : Nat) (part : Nat) (s : State) : exec (.routerHandshake cluster part) s = execRouterHandshake cluster part s := rfl
@[simp] theorem exec_agentTickTimeout (cluster : Nat) (s : State) : exec (.agentTickTimeout cluster) s = execAgentTickTimeout cluster s := rfl
@[simp] theorem exec_watchdogTick (s : State) : exec (.watchdogTick) s = execWatchdogTick s := rfl
@[simp] theorem exec_memoryRead (address : Nat) (s : State) : exec (.memoryRead address) s = execMemoryRead address s := rfl
@[simp] theorem exec_memoryWrite (address : Nat) (bytes : List Byte) (s : State) : exec (.memoryWrite address bytes) s = execMemoryWrite address bytes s := rfl
@[simp] theorem exec_scrubRead (station : Nat) (s : State) : exec (.scrubRead station) s = execScrubRead station s := rfl
@[simp] theorem exec_arbiterPass (s : State) : exec (.arbiterPass) s = execArbiterPass s := rfl
@[simp] theorem exec_deferredTestRun (outcome : TestOutcome) (s : State) : exec (.deferredTestRun outcome) s = execDeferredTestRun outcome s := rfl
@[simp] theorem exec_sqTail (queue : Nat) (v : Word) (s : State) : exec (.sqTail queue v) s = execSqTail queue v s := rfl
@[simp] theorem exec_cqHead (queue : Nat) (v : Word) (s : State) : exec (.cqHead queue v) s = execCqHead queue v s := rfl
@[simp] theorem exec_run (queue : Nat) (page : Page) (v : Word) (s : State) : exec (.run queue page v) s = execRun queue page v s := rfl
@[simp] theorem exec_winOpen (page : Page) (v : Word) (s : State) : exec (.winOpen page v) s = execWinOpen page v s := rfl
@[simp] theorem exec_cfgUpdate (v : Word) (s : State) : exec (.cfgUpdate v) s = execCfgUpdate v s := rfl
@[simp] theorem exec_mbxSel (page : Page) (v : Word) (s : State) : exec (.mbxSel page v) s = execMbxSel page v s := rfl
@[simp] theorem exec_capture (v : Word) (s : State) : exec (.capture v) s = execCapture v s := rfl
@[simp] theorem exec_mailboxCaptureDone (s : State) : exec (.mailboxCaptureDone) s = execMailboxCaptureDone s := rfl
@[simp] theorem exec_indDataRead (s : State) : exec (.indDataRead) s = execIndDataRead s := rfl
@[simp] theorem exec_indDataWrite (v : Word) (s : State) : exec (.indDataWrite v) s = execIndDataWrite v s := rfl
@[simp] theorem exec_indNoAnswer (write : Bool) (s : State) : exec (.indNoAnswer write) s = execIndNoAnswer write s := rfl
@[simp] theorem exec_supAccessTimeout (write : Bool) (s : State) : exec (.supAccessTimeout write) s = execSupAccessTimeout write s := rfl
@[simp] theorem exec_take (lock : Nat) (v : Word) (s : State) : exec (.take lock v) s = execTake lock v s := rfl
@[simp] theorem exec_release (lock : Nat) (v : Word) (s : State) : exec (.release lock v) s = execRelease lock v s := rfl
@[simp] theorem exec_debugLock (page : Page) (s : State) : exec (.debugLock page) s = execDebugLock page s := rfl
@[simp] theorem exec_testLock (page : Page) (s : State) : exec (.testLock page) s = execTestLock page s := rfl
@[simp] theorem exec_counterLock (page : Page) (s : State) : exec (.counterLock page) s = execCounterLock page s := rfl
@[simp] theorem exec_entropyLock (page : Page) (s : State) : exec (.entropyLock page) s = execEntropyLock page s := rfl
@[simp] theorem exec_supplyLock (page : Page) (s : State) : exec (.supplyLock page) s = execSupplyLock page s := rfl
@[simp] theorem exec_cordLock (page : Page) (s : State) : exec (.cordLock page) s = execCordLock page s := rfl
@[simp] theorem exec_portLock (page : Page) (s : State) : exec (.portLock page) s = execPortLock page s := rfl
@[simp] theorem exec_coreLock (page : Page) (s : State) : exec (.coreLock page) s = execCoreLock page s := rfl
@[simp] theorem exec_windowLock (page : Page) (s : State) : exec (.windowLock page) s = execWindowLock page s := rfl
@[simp] theorem exec_queueLock (page : Page) (s : State) : exec (.queueLock page) s = execQueueLock page s := rfl
@[simp] theorem exec_irqEnable (page : Page) (v : Word) (s : State) : exec (.irqEnable page v) s = execIrqEnable page v s := rfl
@[simp] theorem exec_hold (page : Page) (v : Word) (s : State) : exec (.hold page v) s = execHold page v s := rfl
@[simp] theorem exec_clearAll (page : Page) (v : Word) (s : State) : exec (.clearAll page v) s = execClearAll page v s := rfl
@[simp] theorem exec_freezeAll (page : Page) (v : Word) (s : State) : exec (.freezeAll page v) s = execFreezeAll page v s := rfl
@[simp] theorem exec_tagRun (page : Page) (v : Word) (s : State) : exec (.tagRun page v) s = execTagRun page v s := rfl
@[simp] theorem exec_rbRun (page : Page) (v : Word) (s : State) : exec (.rbRun page v) s = execRbRun page v s := rfl
@[simp] theorem exec_mgRingRun (v : Word) (s : State) : exec (.mgRingRun v) s = execMgRingRun v s := rfl
@[simp] theorem exec_mgSqTail (v : Word) (s : State) : exec (.mgSqTail v) s = execMgSqTail v s := rfl
@[simp] theorem exec_mgCqHead (v : Word) (s : State) : exec (.mgCqHead v) s = execMgCqHead v s := rfl
@[simp] theorem exec_registerWrite (space : RegSpace) (offset : Nat) (v : Word) (s : State) : exec (.registerWrite space offset v) s = execRegisterWrite space offset v s := rfl
@[simp] theorem exec_bar4Read (offset : Nat) (len : Nat) (s : State) : exec (.bar4Read offset len) s = execBar4Read offset len s := rfl
@[simp] theorem exec_bar4Write (offset : Nat) (bytes : List Byte) (ep : Bool) (s : State) : exec (.bar4Write offset bytes ep) s = execBar4Write offset bytes ep s := rfl
@[simp] theorem exec_bar4Timeout (tag : Nat) (s : State) : exec (.bar4Timeout tag) s = execBar4Timeout tag s := rfl
@[simp] theorem exec_bar4Resize (log2 : Nat) (s : State) : exec (.bar4Resize log2) s = execBar4Resize log2 s := rfl
@[simp] theorem exec_smbusRead (len : Nat) (s : State) : exec (.smbusRead len) s = execSmbusRead len s := rfl
@[simp] theorem exec_smbusOffsetWrite (v : Byte) (s : State) : exec (.smbusOffsetWrite v) s = execSmbusOffsetWrite v s := rfl
@[simp] theorem exec_debugRequest (r : DebugReq) (s : State) : exec (.debugRequest r) s = execDebugRequest r s := rfl
@[simp] theorem exec_flr (s : State) : exec (.flr) s = execFlr s := rfl
@[simp] theorem exec_mgmtPerstN (flr : Bool) (level : Bool) (s : State) : exec (.mgmtPerstN flr level) s = execMgmtPerstN flr level s := rfl
@[simp] theorem exec_warmReset (s : State) : exec (.warmReset) s = execWarmReset s := rfl
@[simp] theorem exec_perstNRelease (s : State) : exec (.perstNRelease) s = execPerstNRelease s := rfl
@[simp] theorem exec_alignedRelease (s : State) : exec (.alignedRelease) s = execAlignedRelease s := rfl
@[simp] theorem exec_aux3v3Valid (boot : BootOutcome) (s : State) : exec (.aux3v3Valid boot) s = execAux3v3Valid boot s := rfl
@[simp] theorem exec_aux3v3Loss (s : State) : exec (.aux3v3Loss) s = execAux3v3Loss s := rfl
@[simp] theorem exec_main54vQualify (bist : BistOutcome) (s : State) : exec (.main54vQualify bist) s = execMain54vQualify bist s := rfl
@[simp] theorem exec_memoryTrainingDone (failed : List Nat) (s : State) : exec (.memoryTrainingDone failed) s = execMemoryTrainingDone failed s := rfl
@[simp] theorem exec_trialTimeout (s : State) : exec (.trialTimeout) s = execTrialTimeout s := rfl
@[simp] theorem exec_vsagWarn (s : State) : exec (.vsagWarn) s = execVsagWarn s := rfl
@[simp] theorem exec_vsagWarnDeassert (s : State) : exec (.vsagWarnDeassert) s = execVsagWarnDeassert s := rfl
@[simp] theorem exec_vsagReset (s : State) : exec (.vsagReset) s = execVsagReset s := rfl
@[simp] theorem exec_vcoreLow (s : State) : exec (.vcoreLow) s = execVcoreLow s := rfl
@[simp] theorem exec_main54vHigh (s : State) : exec (.main54vHigh) s = execMain54vHigh s := rfl
@[simp] theorem exec_thermalTrip (s : State) : exec (.thermalTrip) s = execThermalTrip s := rfl
@[simp] theorem exec_thermalCrit (s : State) : exec (.thermalCrit) s = execThermalCrit s := rfl
@[simp] theorem exec_powerMeasurement (mW : Nat) (s : State) : exec (.powerMeasurement mW) s = execPowerMeasurement mW s := rfl
@[simp] theorem exec_capBoundary (s : State) : exec (.capBoundary) s = execCapBoundary s := rfl
@[simp] theorem exec_thermalBoundary (tj : List Int) (s : State) : exec (.thermalBoundary tj) s = execThermalBoundary tj s := rfl
@[simp] theorem exec_localCounterCopy (s : State) : exec (.localCounterCopy) s = execLocalCounterCopy s := rfl
@[simp] theorem exec_telemetrySample (sample : TelemetryIn) (s : State) : exec (.telemetrySample sample) s = execTelemetrySample sample s := rfl
@[simp] theorem exec_cordPresent (port : Nat) (kind : Nat) (s : State) : exec (.cordPresent port kind) s = execCordPresent port kind s := rfl
@[simp] theorem exec_cordRemoved (port : Nat) (s : State) : exec (.cordRemoved port) s = execCordRemoved port s := rfl
@[simp] theorem exec_cordAnswer (port : Nat) (answer : CordAnswer) (s : State) : exec (.cordAnswer port answer) s = execCordAnswer port answer s := rfl
@[simp] theorem exec_cordNoAnswer (port : Nat) (s : State) : exec (.cordNoAnswer port) s = execCordNoAnswer port s := rfl
@[simp] theorem exec_lanesTrained (port : Nat) (lanes : Nat) (s : State) : exec (.lanesTrained port lanes) s = execLanesTrained port lanes s := rfl
@[simp] theorem exec_trainFail (port : Nat) (s : State) : exec (.trainFail port) s = execTrainFail port s := rfl
@[simp] theorem exec_alignmentFrame (port : Nat) (frame : AlignFrame) (s : State) : exec (.alignmentFrame port frame) s = execAlignmentFrame port frame s := rfl
@[simp] theorem exec_dataFrame (port : Nat) (frame : DataFrame) (s : State) : exec (.dataFrame port frame) s = execDataFrame port frame s := rfl
@[simp] theorem exec_nakRepeat (port : Nat) (s : State) : exec (.nakRepeat port) s = execNakRepeat port s := rfl
@[simp] theorem exec_frameSend (port : Nat) (s : State) : exec (.frameSend port) s = execFrameSend port s := rfl
@[simp] theorem exec_laneLockLoss (port : Nat) (lane : Nat) (s : State) : exec (.laneLockLoss port lane) s = execLaneLockLoss port lane s := rfl
@[simp] theorem exec_retrainDone (port : Nat) (lanes : Nat) (s : State) : exec (.retrainDone port lanes) s = execRetrainDone port lanes s := rfl
@[simp] theorem exec_retrainFail (port : Nat) (s : State) : exec (.retrainFail port) s = execRetrainFail port s := rfl
@[simp] theorem exec_peerDisabled (port : Nat) (s : State) : exec (.peerDisabled port) s = execPeerDisabled port s := rfl
@[simp] theorem exec_packetRoute (port : Nat) (destModule : Nat) (hops : Nat) (poison : Bool) (m : Msg) (s : State) : exec (.packetRoute port destModule hops poison m) s = execPacketRoute port destModule hops poison m s := rfl
@[simp] theorem exec_broadcastReceive (port : Nat) (r : Request) (hops : Nat) (s : State) : exec (.broadcastReceive port r hops) s = execBroadcastReceive port r hops s := rfl
@[simp] theorem exec_remoteRead (r : Request) (s : State) : exec (.remoteRead r) s = execRemoteRead r s := rfl
@[simp] theorem exec_remoteWrite (r : Request) (s : State) : exec (.remoteWrite r) s = execRemoteWrite r s := rfl
@[simp] theorem exec_remoteAdd (r : Request) (s : State) : exec (.remoteAdd r) s = execRemoteAdd r s := rfl
@[simp] theorem exec_remoteMaxu (r : Request) (s : State) : exec (.remoteMaxu r) s = execRemoteMaxu r s := rfl
@[simp] theorem exec_remoteMaxs (r : Request) (s : State) : exec (.remoteMaxs r) s = execRemoteMaxs r s := rfl
@[simp] theorem exec_remoteCas (r : Request) (s : State) : exec (.remoteCas r) s = execRemoteCas r s := rfl
@[simp] theorem exec_remoteBulkRead (r : Request) (s : State) : exec (.remoteBulkRead r) s = execRemoteBulkRead r s := rfl
@[simp] theorem exec_remoteBulkWrite (r : Request) (s : State) : exec (.remoteBulkWrite r) s = execRemoteBulkWrite r s := rfl
@[simp] theorem exec_remoteSignal (r : Request) (s : State) : exec (.remoteSignal r) s = execRemoteSignal r s := rfl
@[simp] theorem exec_remoteWaitReg (r : Request) (s : State) : exec (.remoteWaitReg r) s = execRemoteWaitReg r s := rfl
@[simp] theorem exec_remoteResponse (r : Response) (s : State) : exec (.remoteResponse r) s = execRemoteResponse r s := rfl
@[simp] theorem exec_requestTimeout (tag : Nat) (s : State) : exec (.requestTimeout tag) s = execRequestTimeout tag s := rfl
@[simp] theorem exec_remoteFence (unit : Nat) (s : State) : exec (.remoteFence unit) s = execRemoteFence unit s := rfl
@[simp] theorem exec_cordRecordPoll (port : Nat) (record : List Byte) (s : State) : exec (.cordRecordPoll port record) s = execCordRecordPoll port record s := rfl
@[simp] theorem exec_vcordOvercurrent (port : Nat) (s : State) : exec (.vcordOvercurrent port) s = execVcordOvercurrent port s := rfl
@[simp] theorem exec_entropyStartupRound (blocks : List (List RawBlock)) (s : State) : exec (.entropyStartupRound blocks) s = execEntropyStartupRound blocks s := rfl
@[simp] theorem exec_entropyBlock (pair : Nat) (block : RawBlock) (s : State) : exec (.entropyBlock pair block) s = execEntropyBlock pair block s := rfl
@[simp] theorem exec_entropyServe (s : State) : exec (.entropyServe) s = execEntropyServe s := rfl
@[simp] theorem exec_signatureDone (signature : List Byte) (s : State) : exec (.signatureDone signature) s = execSignatureDone signature s := rfl
@[simp] theorem exec_hostMemoryCompletion (tag : Nat) (r : ReadResult) (s : State) : exec (.hostMemoryCompletion tag r) s = execHostMemoryCompletion tag r s := rfl
@[simp] theorem exec_vcoreRampDone (s : State) : exec (.vcoreRampDone) s = execVcoreRampDone s := rfl
@[simp] theorem exec_d3hotTransition (d3hot : Bool) (s : State) : exec (.d3hotTransition d3hot) s = execD3hotTransition d3hot s := rfl
@[simp] theorem exec_managementLockAccess (lock : Nat) (tag : Nat) (release : Bool) (s : State) : exec (.managementLockAccess lock tag release) s = execManagementLockAccess lock tag release s := rfl
@[simp] theorem exec_hostLinkChange (speed : Nat) (width : Nat) (flit : Bool) (s : State) : exec (.hostLinkChange speed width flit) s = execHostLinkChange speed width flit s := rfl

/-- A step on an empty queue idles. -/
theorem step_idle (s : State) (h : s.pending = []) : step s = .next s := by simp [step, h]

end Sys2Proof.Machine
end

