-- ==== Sys2Proof/Laws/Memory.lean ====
section
/-! SUPPORT. Laws/Memory.lean: a table or a memory after a write, and the canonical form that every memory operation keeps. -/

namespace Sys2Proof.Machine

/-! ### Tables -/

@[simp] theorem Tbl.at_nil {α : Type} (i : Nat) : Tbl.at ([] : Tbl α) i = none := rfl

theorem Tbl.at_cons {α : Type} (k i : Nat) (v : α) (t : Tbl α) :
    Tbl.at ((k, v) :: t) i = if k = i then some v else Tbl.at t i := by
  simp [Tbl.at]

/-- The entry that was written is read back. -/
@[simp] theorem Tbl.at_put_self {α : Type} (t : Tbl α) (i : Nat) (v : α) : (t.put i v).at i = some v := by
  induction t with
  | nil => simp [Tbl.put, Tbl.at]
  | cons p t ih =>
    obtain ⟨k, w⟩ := p
    simp only [Tbl.put]
    split
    · simp [Tbl.at]
    · split
      · simp [Tbl.at]
      · rename_i h1 h2
        simp only [Tbl.at, h2]
        simpa using ih

/-- A write leaves every other entry alone. -/
theorem Tbl.at_put_of_ne {α : Type} (t : Tbl α) {i j : Nat} (v : α) (h : i ≠ j) : (t.put i v).at j = t.at j := by
  induction t with
  | nil => simp [Tbl.put, Tbl.at, h]
  | cons p t ih =>
    obtain ⟨k, w⟩ := p
    simp only [Tbl.put]
    split
    · simp [Tbl.at, h]
    · split
      · rename_i h1 h2
        have hk : k = i := by simpa using h2
        simp [Tbl.at, h, hk]
      · simp only [Tbl.at, ih]

theorem Tbl.at_put {α : Type} (t : Tbl α) (i j : Nat) (v : α) : (t.put i v).at j = if i = j then some v else t.at j := by
  split
  · subst_vars; exact Tbl.at_put_self ..
  · exact Tbl.at_put_of_ne _ _ ‹_›

/-- A second write of an entry replaces the first. -/
@[simp] theorem Tbl.put_put {α : Type} (t : Tbl α) (i : Nat) (v w : α) : (t.put i v).put i w = t.put i w := by
  induction t with
  | nil => simp [Tbl.put]
  | cons p t ih =>
    obtain ⟨k, u⟩ := p
    by_cases h1 : i < k
    · simp [Tbl.put, h1]
    · by_cases h2 : k = i
      · simp [Tbl.put, h2]
      · have e : Tbl.put ((k, u) :: t) i v = (k, u) :: Tbl.put t i v := by simp [Tbl.put, h1, h2]
        have e' : Tbl.put ((k, u) :: t) i w = (k, u) :: Tbl.put t i w := by simp [Tbl.put, h1, h2]
        rw [e, e', ← ih]
        simp [Tbl.put, h1, h2]

theorem Tbl.at_filter {α : Type} (t : Tbl α) (p : Nat → Bool) (i : Nat) :
    Tbl.at (t.filter fun c => p c.1) i = if p i then t.at i else none := by
  induction t with
  | nil => simp [Tbl.at]
  | cons c t ih =>
    obtain ⟨k, w⟩ := c
    by_cases hp : p k = true
    · rw [List.filter_cons_of_pos (by simpa using hp)]
      simp only [Tbl.at, ih]
      by_cases hk : k = i
      · subst hk; simp [hp]
      · simp [hk]
    · rw [List.filter_cons_of_neg (by simpa using hp)]
      rw [ih]
      by_cases hk : k = i
      · subst hk; simp [hp]
      · simp [Tbl.at, hk]

theorem Tbl.at_append {α : Type} (t u : Tbl α) (i : Nat) : Tbl.at (t ++ u) i = (t.at i).or (u.at i) := by
  induction t with
  | nil => simp
  | cons c t ih =>
    obtain ⟨k, w⟩ := c
    simp only [List.cons_append, Tbl.at]
    split <;> simp_all

/-! ### A read after a write -/

theorem Mem.at_cellsOf_outside (bg : Background) (a i : Nat) (bs : List Byte) (h : i < a ∨ a + bs.length ≤ i) :
    Tbl.at (Mem.cellsOf bg a bs) i = none := by
  induction bs generalizing a with
  | nil => rfl
  | cons b bs ih =>
    simp only [List.length_cons] at h
    simp only [Mem.cellsOf]
    split
    · exact ih _ (by omega)
    · rw [Tbl.at_cons, if_neg (by omega)]; exact ih _ (by omega)

theorem Mem.at_cellsOf_inside (bg : Background) (a i : Nat) (bs : List Byte) (h1 : a ≤ i) (h2 : i - a < bs.length) :
    Tbl.at (Mem.cellsOf bg a bs) i = if bg i = some bs[i - a] then none else some bs[i - a] := by
  induction bs generalizing a with
  | nil => simp at h2
  | cons b bs ih =>
    simp only [List.length_cons] at h2
    by_cases hi : i = a
    · subst hi
      simp only [Nat.sub_self, List.getElem_cons_zero, Mem.cellsOf]
      split
      · exact Mem.at_cellsOf_outside _ _ _ _ (by omega)
      · rw [Tbl.at_cons, if_pos rfl]
    · have hc : Tbl.at (Mem.cellsOf bg a (b :: bs)) i = Tbl.at (Mem.cellsOf bg (a + 1) bs) i := by
        simp only [Mem.cellsOf]
        split
        · rfl
        · rw [Tbl.at_cons, if_neg (by omega)]
      have e : (b :: bs)[i - a] = bs[i - (a + 1)]'(by omega) := by
        rw [List.getElem_cons, dif_neg (by omega)]; congr 1
      rw [hc, ih (a + 1) (by omega) (by omega), e]

theorem Mem.at_write (bg : Background) (m : Mem) (a i : Nat) (bs : List Byte) :
    Tbl.at (Mem.write bg m a bs) i =
      ((if i < a then Tbl.at m i else none).or (Tbl.at (Mem.cellsOf bg a bs) i)).or (if a + bs.length ≤ i then Tbl.at m i else none) := by
  unfold Mem.write
  rw [Tbl.at_append, Tbl.at_append, Tbl.at_filter m (fun x => decide (x < a)), Tbl.at_filter m (fun x => decide (a + bs.length ≤ x))]
  simp

/-- A byte that was written is read back. -/
theorem Mem.get_write_inside (bg : Background) (m : Mem) (a i : Nat) (bs : List Byte) (h1 : a ≤ i) (h2 : i - a < bs.length) :
    Mem.get bg (Mem.write bg m a bs) i = some bs[i - a] := by
  unfold Mem.get
  have g1 : ¬ i < a := by omega
  have g2 : ¬ a + bs.length ≤ i := by omega
  rw [Mem.at_write, Mem.at_cellsOf_inside bg a i bs h1 h2]
  by_cases hb : bg i = some bs[i - a] <;> simp [g1, g2, hb]

/-- A write leaves every byte outside it alone. -/
theorem Mem.get_write_outside (bg : Background) (m : Mem) (a i : Nat) (bs : List Byte) (h : i < a ∨ a + bs.length ≤ i) :
    Mem.get bg (Mem.write bg m a bs) i = Mem.get bg m i := by
  have e : Tbl.at (Mem.write bg m a bs) i = Tbl.at m i := by
    rw [Mem.at_write, Mem.at_cellsOf_outside bg a i bs h]
    rcases h with h | h
    · rw [if_pos h, if_neg (by omega)]; simp
    · rw [if_pos h, if_neg (by omega)]; simp
  simp only [Mem.get, e]

/-! ### The canonical form -/

theorem Mem.sortedFrom_mono {lo lo' : Nat} {m : Mem} (hl : lo' ≤ lo) (h : Mem.sortedFrom lo m = true) : Mem.sortedFrom lo' m = true := by
  cases m with
  | nil => rfl
  | cons c m => obtain ⟨a, b⟩ := c; simp only [Mem.sortedFrom, Bool.and_eq_true, decide_eq_true_eq] at *; exact ⟨by omega, h.2⟩

theorem Mem.sortedFrom_filter {lo : Nat} {m : Mem} (p : Host.Cell → Bool) (h : Mem.sortedFrom lo m = true) :
    Mem.sortedFrom lo (m.filter p) = true := by
  induction m generalizing lo with
  | nil => rfl
  | cons c m ih =>
    obtain ⟨a, b⟩ := c
    simp only [Mem.sortedFrom, Bool.and_eq_true, decide_eq_true_eq] at h
    by_cases hp : p (a, b) = true
    · rw [List.filter_cons_of_pos hp]
      simp only [Mem.sortedFrom, Bool.and_eq_true, decide_eq_true_eq]
      exact ⟨h.1, ih h.2⟩
    · rw [List.filter_cons_of_neg hp]
      exact Mem.sortedFrom_mono (by omega) (ih h.2)

theorem Mem.sortedFrom_of_bound {lo hi : Nat} {m : Mem} (h : Mem.sortedFrom lo m = true) (hb : ∀ c ∈ m, hi ≤ c.1) :
    Mem.sortedFrom hi m = true := by
  cases m with
  | nil => rfl
  | cons c m =>
    obtain ⟨a, b⟩ := c
    simp only [Mem.sortedFrom, Bool.and_eq_true, decide_eq_true_eq] at *
    exact ⟨hb (a, b) (by simp), h.2⟩

theorem Mem.sortedFrom_append {lo mid : Nat} {m n : Mem} (hm : Mem.sortedFrom lo m = true) (hb : ∀ c ∈ m, c.1 < mid) (hlo : lo ≤ mid)
    (hn : Mem.sortedFrom mid n = true) : Mem.sortedFrom lo (m ++ n) = true := by
  induction m generalizing lo with
  | nil => exact Mem.sortedFrom_mono hlo hn
  | cons c m ih =>
    obtain ⟨a, b⟩ := c
    simp only [List.cons_append, Mem.sortedFrom, Bool.and_eq_true, decide_eq_true_eq] at *
    have ha := hb (a, b) (by simp)
    exact ⟨hm.1, ih hm.2 (fun c hc => hb c (by simp [hc])) (by have : a < mid := ha; omega)⟩

theorem Mem.sortedFrom_cellsOf (bg : Background) (a : Nat) (bs : List Byte) : Mem.sortedFrom a (Mem.cellsOf bg a bs) = true := by
  induction bs generalizing a with
  | nil => rfl
  | cons b bs ih =>
    simp only [Mem.cellsOf]
    split
    · exact Mem.sortedFrom_mono (by omega) (ih _)
    · simp only [Mem.sortedFrom, Bool.and_eq_true, decide_eq_true_eq]; exact ⟨by omega, ih _⟩

theorem Mem.mem_cellsOf {bg : Background} {a : Nat} {bs : List Byte} {c : Host.Cell} (h : c ∈ Mem.cellsOf bg a bs) :
    c.1 < a + bs.length ∧ bg c.1 ≠ some c.2 := by
  induction bs generalizing a with
  | nil => simp [Mem.cellsOf] at h
  | cons b bs ih =>
    simp only [Mem.cellsOf] at h
    split at h
    · have := ih h; simp only [List.length_cons]; exact ⟨by omega, this.2⟩
    · rcases List.mem_cons.mp h with rfl | h
      · rename_i hb
        simp only [List.length_cons]
        exact ⟨by omega, hb⟩
      · have := ih h; simp only [List.length_cons]; exact ⟨by omega, this.2⟩

@[simp] theorem Mem.wf_nil (bg : Background) : Mem.wf bg [] = true := rfl

/-- A write keeps the canonical form. -/
theorem Mem.wf_write (bg : Background) (m : Mem) (a : Nat) (bs : List Byte) (h : Mem.wf bg m = true) :
    Mem.wf bg (Mem.write bg m a bs) = true := by
  simp only [Mem.wf, Bool.and_eq_true, List.all_eq_true, decide_eq_true_eq] at *
  obtain ⟨hs, hb⟩ := h
  refine ⟨?_, ?_⟩
  · unfold Mem.write
    have h3 : Mem.sortedFrom (a + bs.length) (m.filter fun c => decide (a + bs.length ≤ c.1)) = true :=
      Mem.sortedFrom_of_bound (Mem.sortedFrom_filter _ hs) (by intro c hc; simpa using (List.mem_filter.mp hc).2)
    have h12 : Mem.sortedFrom 0 ((m.filter fun c => decide (c.1 < a)) ++ Mem.cellsOf bg a bs) = true :=
      Mem.sortedFrom_append (Mem.sortedFrom_filter _ hs) (by intro c hc; simpa using (List.mem_filter.mp hc).2) (by omega)
        (Mem.sortedFrom_cellsOf bg a bs)
    refine Mem.sortedFrom_append h12 ?_ (by omega) h3
    intro c hc
    rcases List.mem_append.mp hc with hc | hc
    · have : c.1 < a := by simpa using (List.mem_filter.mp hc).2
      omega
    · exact (Mem.mem_cellsOf hc).1
  · intro c hc
    unfold Mem.write at hc
    rcases List.mem_append.mp hc with hc | hc
    · rcases List.mem_append.mp hc with hc | hc
      · exact hb c (List.mem_filter.mp hc).1
      · exact (Mem.mem_cellsOf hc).2
    · exact hb c (List.mem_filter.mp hc).1

/-- Dropping entries keeps the canonical form. -/
theorem Mem.wf_filter (bg : Background) (m : Mem) (p : Host.Cell → Bool) (h : Mem.wf bg m = true) : Mem.wf bg (m.filter p) = true := by
  simp only [Mem.wf, Bool.and_eq_true, List.all_eq_true, decide_eq_true_eq] at *
  exact ⟨Mem.sortedFrom_filter _ h.1, fun c hc => h.2 c (List.mem_filter.mp hc).1⟩

/-- Clearing a range keeps the canonical form. -/
theorem Mem.wf_clear (bg : Background) (m : Mem) (a n : Nat) (h : Mem.wf bg m = true) : Mem.wf bg (Mem.clear m a n) = true :=
  Mem.wf_filter bg m _ h

end Sys2Proof.Machine
end

