-- ==== Sys2Proof/Laws/State.lean ====
section
/-! SUPPORT. Laws/State.lean: each named update of the state, field by field, and a unit read after a unit was written. -/

namespace Sys2Proof.Machine

variable (s : State)

/-! ### setCore -/

@[simp] theorem State.setCore_pending (c : Nat) (x : Core) : (s.setCore c x).pending = s.pending := rfl
@[simp] theorem State.setCore_free (c : Nat) (x : Core) : (s.setCore c x).free = s.free := rfl
@[simp] theorem State.setCore_platform (c : Nat) (x : Core) : (s.setCore c x).platform = s.platform := rfl
@[simp] theorem State.setCore_supply (c : Nat) (x : Core) : (s.setCore c x).supply = s.supply := rfl
@[simp] theorem State.setCore_entropy (c : Nat) (x : Core) : (s.setCore c x).entropy = s.entropy := rfl
@[simp] theorem State.setCore_regs (c : Nat) (x : Core) : (s.setCore c x).regs = s.regs := rfl
@[simp] theorem State.setCore_queues (c : Nat) (x : Core) : (s.setCore c x).queues = s.queues := rfl
@[simp] theorem State.setCore_arbiter (c : Nat) (x : Core) : (s.setCore c x).arbiter = s.arbiter := rfl
@[simp] theorem State.setCore_slots (c : Nat) (x : Core) : (s.setCore c x).slots = s.slots := rfl
@[simp] theorem State.setCore_clusters (c : Nat) (x : Core) : (s.setCore c x).clusters = s.clusters := rfl
@[simp] theorem State.setCore_mem (c : Nat) (x : Core) : (s.setCore c x).mem = s.mem := rfl
@[simp] theorem State.setCore_stations (c : Nat) (x : Core) : (s.setCore c x).stations = s.stations := rfl
@[simp] theorem State.setCore_ports (c : Nat) (x : Core) : (s.setCore c x).ports = s.ports := rfl
@[simp] theorem State.setCore_fabric (c : Nat) (x : Core) : (s.setCore c x).fabric = s.fabric := rfl
@[simp] theorem State.setCore_rot (c : Nat) (x : Core) : (s.setCore c x).rot = s.rot := rfl
@[simp] theorem State.setCore_mgmt (c : Nat) (x : Core) : (s.setCore c x).mgmt = s.mgmt := rfl
@[simp] theorem State.setCore_perf (c : Nat) (x : Core) : (s.setCore c x).perf = s.perf := rfl
@[simp] theorem State.setCore_host (c : Nat) (x : Core) : (s.setCore c x).host = s.host := rfl
@[simp] theorem State.setCore_net (c : Nat) (x : Core) : (s.setCore c x).net = s.net := rfl
@[simp] theorem State.setCore_upsets (c : Nat) (x : Core) : (s.setCore c x).upsets = s.upsets := rfl
@[simp] theorem State.setCore_reply (c : Nat) (x : Core) : (s.setCore c x).reply = s.reply := rfl

/-! ### setCluster -/

@[simp] theorem State.setCluster_pending (k : Nat) (x : Cluster) : (s.setCluster k x).pending = s.pending := rfl
@[simp] theorem State.setCluster_free (k : Nat) (x : Cluster) : (s.setCluster k x).free = s.free := rfl
@[simp] theorem State.setCluster_platform (k : Nat) (x : Cluster) : (s.setCluster k x).platform = s.platform := rfl
@[simp] theorem State.setCluster_supply (k : Nat) (x : Cluster) : (s.setCluster k x).supply = s.supply := rfl
@[simp] theorem State.setCluster_entropy (k : Nat) (x : Cluster) : (s.setCluster k x).entropy = s.entropy := rfl
@[simp] theorem State.setCluster_regs (k : Nat) (x : Cluster) : (s.setCluster k x).regs = s.regs := rfl
@[simp] theorem State.setCluster_queues (k : Nat) (x : Cluster) : (s.setCluster k x).queues = s.queues := rfl
@[simp] theorem State.setCluster_arbiter (k : Nat) (x : Cluster) : (s.setCluster k x).arbiter = s.arbiter := rfl
@[simp] theorem State.setCluster_slots (k : Nat) (x : Cluster) : (s.setCluster k x).slots = s.slots := rfl
@[simp] theorem State.setCluster_cores (k : Nat) (x : Cluster) : (s.setCluster k x).cores = s.cores := rfl
@[simp] theorem State.setCluster_mem (k : Nat) (x : Cluster) : (s.setCluster k x).mem = s.mem := rfl
@[simp] theorem State.setCluster_stations (k : Nat) (x : Cluster) : (s.setCluster k x).stations = s.stations := rfl
@[simp] theorem State.setCluster_ports (k : Nat) (x : Cluster) : (s.setCluster k x).ports = s.ports := rfl
@[simp] theorem State.setCluster_fabric (k : Nat) (x : Cluster) : (s.setCluster k x).fabric = s.fabric := rfl
@[simp] theorem State.setCluster_rot (k : Nat) (x : Cluster) : (s.setCluster k x).rot = s.rot := rfl
@[simp] theorem State.setCluster_mgmt (k : Nat) (x : Cluster) : (s.setCluster k x).mgmt = s.mgmt := rfl
@[simp] theorem State.setCluster_perf (k : Nat) (x : Cluster) : (s.setCluster k x).perf = s.perf := rfl
@[simp] theorem State.setCluster_host (k : Nat) (x : Cluster) : (s.setCluster k x).host = s.host := rfl
@[simp] theorem State.setCluster_net (k : Nat) (x : Cluster) : (s.setCluster k x).net = s.net := rfl
@[simp] theorem State.setCluster_upsets (k : Nat) (x : Cluster) : (s.setCluster k x).upsets = s.upsets := rfl
@[simp] theorem State.setCluster_reply (k : Nat) (x : Cluster) : (s.setCluster k x).reply = s.reply := rfl

/-! ### setSlot -/

@[simp] theorem State.setSlot_pending (n : Nat) (x : Slot) : (s.setSlot n x).pending = s.pending := rfl
@[simp] theorem State.setSlot_free (n : Nat) (x : Slot) : (s.setSlot n x).free = s.free := rfl
@[simp] theorem State.setSlot_platform (n : Nat) (x : Slot) : (s.setSlot n x).platform = s.platform := rfl
@[simp] theorem State.setSlot_supply (n : Nat) (x : Slot) : (s.setSlot n x).supply = s.supply := rfl
@[simp] theorem State.setSlot_entropy (n : Nat) (x : Slot) : (s.setSlot n x).entropy = s.entropy := rfl
@[simp] theorem State.setSlot_regs (n : Nat) (x : Slot) : (s.setSlot n x).regs = s.regs := rfl
@[simp] theorem State.setSlot_queues (n : Nat) (x : Slot) : (s.setSlot n x).queues = s.queues := rfl
@[simp] theorem State.setSlot_arbiter (n : Nat) (x : Slot) : (s.setSlot n x).arbiter = s.arbiter := rfl
@[simp] theorem State.setSlot_cores (n : Nat) (x : Slot) : (s.setSlot n x).cores = s.cores := rfl
@[simp] theorem State.setSlot_clusters (n : Nat) (x : Slot) : (s.setSlot n x).clusters = s.clusters := rfl
@[simp] theorem State.setSlot_mem (n : Nat) (x : Slot) : (s.setSlot n x).mem = s.mem := rfl
@[simp] theorem State.setSlot_stations (n : Nat) (x : Slot) : (s.setSlot n x).stations = s.stations := rfl
@[simp] theorem State.setSlot_ports (n : Nat) (x : Slot) : (s.setSlot n x).ports = s.ports := rfl
@[simp] theorem State.setSlot_fabric (n : Nat) (x : Slot) : (s.setSlot n x).fabric = s.fabric := rfl
@[simp] theorem State.setSlot_rot (n : Nat) (x : Slot) : (s.setSlot n x).rot = s.rot := rfl
@[simp] theorem State.setSlot_mgmt (n : Nat) (x : Slot) : (s.setSlot n x).mgmt = s.mgmt := rfl
@[simp] theorem State.setSlot_perf (n : Nat) (x : Slot) : (s.setSlot n x).perf = s.perf := rfl
@[simp] theorem State.setSlot_host (n : Nat) (x : Slot) : (s.setSlot n x).host = s.host := rfl
@[simp] theorem State.setSlot_net (n : Nat) (x : Slot) : (s.setSlot n x).net = s.net := rfl
@[simp] theorem State.setSlot_upsets (n : Nat) (x : Slot) : (s.setSlot n x).upsets = s.upsets := rfl
@[simp] theorem State.setSlot_reply (n : Nat) (x : Slot) : (s.setSlot n x).reply = s.reply := rfl

/-! ### setQueue -/

@[simp] theorem State.setQueue_pending (n : Nat) (x : Queue) : (s.setQueue n x).pending = s.pending := rfl
@[simp] theorem State.setQueue_free (n : Nat) (x : Queue) : (s.setQueue n x).free = s.free := rfl
@[simp] theorem State.setQueue_platform (n : Nat) (x : Queue) : (s.setQueue n x).platform = s.platform := rfl
@[simp] theorem State.setQueue_supply (n : Nat) (x : Queue) : (s.setQueue n x).supply = s.supply := rfl
@[simp] theorem State.setQueue_entropy (n : Nat) (x : Queue) : (s.setQueue n x).entropy = s.entropy := rfl
@[simp] theorem State.setQueue_regs (n : Nat) (x : Queue) : (s.setQueue n x).regs = s.regs := rfl
@[simp] theorem State.setQueue_arbiter (n : Nat) (x : Queue) : (s.setQueue n x).arbiter = s.arbiter := rfl
@[simp] theorem State.setQueue_slots (n : Nat) (x : Queue) : (s.setQueue n x).slots = s.slots := rfl
@[simp] theorem State.setQueue_cores (n : Nat) (x : Queue) : (s.setQueue n x).cores = s.cores := rfl
@[simp] theorem State.setQueue_clusters (n : Nat) (x : Queue) : (s.setQueue n x).clusters = s.clusters := rfl
@[simp] theorem State.setQueue_mem (n : Nat) (x : Queue) : (s.setQueue n x).mem = s.mem := rfl
@[simp] theorem State.setQueue_stations (n : Nat) (x : Queue) : (s.setQueue n x).stations = s.stations := rfl
@[simp] theorem State.setQueue_ports (n : Nat) (x : Queue) : (s.setQueue n x).ports = s.ports := rfl
@[simp] theorem State.setQueue_fabric (n : Nat) (x : Queue) : (s.setQueue n x).fabric = s.fabric := rfl
@[simp] theorem State.setQueue_rot (n : Nat) (x : Queue) : (s.setQueue n x).rot = s.rot := rfl
@[simp] theorem State.setQueue_mgmt (n : Nat) (x : Queue) : (s.setQueue n x).mgmt = s.mgmt := rfl
@[simp] theorem State.setQueue_perf (n : Nat) (x : Queue) : (s.setQueue n x).perf = s.perf := rfl
@[simp] theorem State.setQueue_host (n : Nat) (x : Queue) : (s.setQueue n x).host = s.host := rfl
@[simp] theorem State.setQueue_net (n : Nat) (x : Queue) : (s.setQueue n x).net = s.net := rfl
@[simp] theorem State.setQueue_upsets (n : Nat) (x : Queue) : (s.setQueue n x).upsets = s.upsets := rfl
@[simp] theorem State.setQueue_reply (n : Nat) (x : Queue) : (s.setQueue n x).reply = s.reply := rfl

/-! ### setPort -/

@[simp] theorem State.setPort_pending (n : Nat) (x : Port) : (s.setPort n x).pending = s.pending := rfl
@[simp] theorem State.setPort_free (n : Nat) (x : Port) : (s.setPort n x).free = s.free := rfl
@[simp] theorem State.setPort_platform (n : Nat) (x : Port) : (s.setPort n x).platform = s.platform := rfl
@[simp] theorem State.setPort_supply (n : Nat) (x : Port) : (s.setPort n x).supply = s.supply := rfl
@[simp] theorem State.setPort_entropy (n : Nat) (x : Port) : (s.setPort n x).entropy = s.entropy := rfl
@[simp] theorem State.setPort_regs (n : Nat) (x : Port) : (s.setPort n x).regs = s.regs := rfl
@[simp] theorem State.setPort_queues (n : Nat) (x : Port) : (s.setPort n x).queues = s.queues := rfl
@[simp] theorem State.setPort_arbiter (n : Nat) (x : Port) : (s.setPort n x).arbiter = s.arbiter := rfl
@[simp] theorem State.setPort_slots (n : Nat) (x : Port) : (s.setPort n x).slots = s.slots := rfl
@[simp] theorem State.setPort_cores (n : Nat) (x : Port) : (s.setPort n x).cores = s.cores := rfl
@[simp] theorem State.setPort_clusters (n : Nat) (x : Port) : (s.setPort n x).clusters = s.clusters := rfl
@[simp] theorem State.setPort_mem (n : Nat) (x : Port) : (s.setPort n x).mem = s.mem := rfl
@[simp] theorem State.setPort_stations (n : Nat) (x : Port) : (s.setPort n x).stations = s.stations := rfl
@[simp] theorem State.setPort_fabric (n : Nat) (x : Port) : (s.setPort n x).fabric = s.fabric := rfl
@[simp] theorem State.setPort_rot (n : Nat) (x : Port) : (s.setPort n x).rot = s.rot := rfl
@[simp] theorem State.setPort_mgmt (n : Nat) (x : Port) : (s.setPort n x).mgmt = s.mgmt := rfl
@[simp] theorem State.setPort_perf (n : Nat) (x : Port) : (s.setPort n x).perf = s.perf := rfl
@[simp] theorem State.setPort_host (n : Nat) (x : Port) : (s.setPort n x).host = s.host := rfl
@[simp] theorem State.setPort_net (n : Nat) (x : Port) : (s.setPort n x).net = s.net := rfl
@[simp] theorem State.setPort_upsets (n : Nat) (x : Port) : (s.setPort n x).upsets = s.upsets := rfl
@[simp] theorem State.setPort_reply (n : Nat) (x : Port) : (s.setPort n x).reply = s.reply := rfl

/-! ### setStation -/

@[simp] theorem State.setStation_pending (n : Nat) (x : MemStation) : (s.setStation n x).pending = s.pending := rfl
@[simp] theorem State.setStation_free (n : Nat) (x : MemStation) : (s.setStation n x).free = s.free := rfl
@[simp] theorem State.setStation_platform (n : Nat) (x : MemStation) : (s.setStation n x).platform = s.platform := rfl
@[simp] theorem State.setStation_supply (n : Nat) (x : MemStation) : (s.setStation n x).supply = s.supply := rfl
@[simp] theorem State.setStation_entropy (n : Nat) (x : MemStation) : (s.setStation n x).entropy = s.entropy := rfl
@[simp] theorem State.setStation_regs (n : Nat) (x : MemStation) : (s.setStation n x).regs = s.regs := rfl
@[simp] theorem State.setStation_queues (n : Nat) (x : MemStation) : (s.setStation n x).queues = s.queues := rfl
@[simp] theorem State.setStation_arbiter (n : Nat) (x : MemStation) : (s.setStation n x).arbiter = s.arbiter := rfl
@[simp] theorem State.setStation_slots (n : Nat) (x : MemStation) : (s.setStation n x).slots = s.slots := rfl
@[simp] theorem State.setStation_cores (n : Nat) (x : MemStation) : (s.setStation n x).cores = s.cores := rfl
@[simp] theorem State.setStation_clusters (n : Nat) (x : MemStation) : (s.setStation n x).clusters = s.clusters := rfl
@[simp] theorem State.setStation_mem (n : Nat) (x : MemStation) : (s.setStation n x).mem = s.mem := rfl
@[simp] theorem State.setStation_ports (n : Nat) (x : MemStation) : (s.setStation n x).ports = s.ports := rfl
@[simp] theorem State.setStation_fabric (n : Nat) (x : MemStation) : (s.setStation n x).fabric = s.fabric := rfl
@[simp] theorem State.setStation_rot (n : Nat) (x : MemStation) : (s.setStation n x).rot = s.rot := rfl
@[simp] theorem State.setStation_mgmt (n : Nat) (x : MemStation) : (s.setStation n x).mgmt = s.mgmt := rfl
@[simp] theorem State.setStation_perf (n : Nat) (x : MemStation) : (s.setStation n x).perf = s.perf := rfl
@[simp] theorem State.setStation_host (n : Nat) (x : MemStation) : (s.setStation n x).host = s.host := rfl
@[simp] theorem State.setStation_net (n : Nat) (x : MemStation) : (s.setStation n x).net = s.net := rfl
@[simp] theorem State.setStation_upsets (n : Nat) (x : MemStation) : (s.setStation n x).upsets = s.upsets := rfl
@[simp] theorem State.setStation_reply (n : Nat) (x : MemStation) : (s.setStation n x).reply = s.reply := rfl

/-! ### modCore -/

@[simp] theorem State.modCore_pending (c : Nat) (f : Core → Core) : (s.modCore c f).pending = s.pending := rfl
@[simp] theorem State.modCore_free (c : Nat) (f : Core → Core) : (s.modCore c f).free = s.free := rfl
@[simp] theorem State.modCore_platform (c : Nat) (f : Core → Core) : (s.modCore c f).platform = s.platform := rfl
@[simp] theorem State.modCore_supply (c : Nat) (f : Core → Core) : (s.modCore c f).supply = s.supply := rfl
@[simp] theorem State.modCore_entropy (c : Nat) (f : Core → Core) : (s.modCore c f).entropy = s.entropy := rfl
@[simp] theorem State.modCore_regs (c : Nat) (f : Core → Core) : (s.modCore c f).regs = s.regs := rfl
@[simp] theorem State.modCore_queues (c : Nat) (f : Core → Core) : (s.modCore c f).queues = s.queues := rfl
@[simp] theorem State.modCore_arbiter (c : Nat) (f : Core → Core) : (s.modCore c f).arbiter = s.arbiter := rfl
@[simp] theorem State.modCore_slots (c : Nat) (f : Core → Core) : (s.modCore c f).slots = s.slots := rfl
@[simp] theorem State.modCore_clusters (c : Nat) (f : Core → Core) : (s.modCore c f).clusters = s.clusters := rfl
@[simp] theorem State.modCore_mem (c : Nat) (f : Core → Core) : (s.modCore c f).mem = s.mem := rfl
@[simp] theorem State.modCore_stations (c : Nat) (f : Core → Core) : (s.modCore c f).stations = s.stations := rfl
@[simp] theorem State.modCore_ports (c : Nat) (f : Core → Core) : (s.modCore c f).ports = s.ports := rfl
@[simp] theorem State.modCore_fabric (c : Nat) (f : Core → Core) : (s.modCore c f).fabric = s.fabric := rfl
@[simp] theorem State.modCore_rot (c : Nat) (f : Core → Core) : (s.modCore c f).rot = s.rot := rfl
@[simp] theorem State.modCore_mgmt (c : Nat) (f : Core → Core) : (s.modCore c f).mgmt = s.mgmt := rfl
@[simp] theorem State.modCore_perf (c : Nat) (f : Core → Core) : (s.modCore c f).perf = s.perf := rfl
@[simp] theorem State.modCore_host (c : Nat) (f : Core → Core) : (s.modCore c f).host = s.host := rfl
@[simp] theorem State.modCore_net (c : Nat) (f : Core → Core) : (s.modCore c f).net = s.net := rfl
@[simp] theorem State.modCore_upsets (c : Nat) (f : Core → Core) : (s.modCore c f).upsets = s.upsets := rfl
@[simp] theorem State.modCore_reply (c : Nat) (f : Core → Core) : (s.modCore c f).reply = s.reply := rfl

/-! ### modCluster -/

@[simp] theorem State.modCluster_pending (k : Nat) (f : Cluster → Cluster) : (s.modCluster k f).pending = s.pending := rfl
@[simp] theorem State.modCluster_free (k : Nat) (f : Cluster → Cluster) : (s.modCluster k f).free = s.free := rfl
@[simp] theorem State.modCluster_platform (k : Nat) (f : Cluster → Cluster) : (s.modCluster k f).platform = s.platform := rfl
@[simp] theorem State.modCluster_supply (k : Nat) (f : Cluster → Cluster) : (s.modCluster k f).supply = s.supply := rfl
@[simp] theorem State.modCluster_entropy (k : Nat) (f : Cluster → Cluster) : (s.modCluster k f).entropy = s.entropy := rfl
@[simp] theorem State.modCluster_regs (k : Nat) (f : Cluster → Cluster) : (s.modCluster k f).regs = s.regs := rfl
@[simp] theorem State.modCluster_queues (k : Nat) (f : Cluster → Cluster) : (s.modCluster k f).queues = s.queues := rfl
@[simp] theorem State.modCluster_arbiter (k : Nat) (f : Cluster → Cluster) : (s.modCluster k f).arbiter = s.arbiter := rfl
@[simp] theorem State.modCluster_slots (k : Nat) (f : Cluster → Cluster) : (s.modCluster k f).slots = s.slots := rfl
@[simp] theorem State.modCluster_cores (k : Nat) (f : Cluster → Cluster) : (s.modCluster k f).cores = s.cores := rfl
@[simp] theorem State.modCluster_mem (k : Nat) (f : Cluster → Cluster) : (s.modCluster k f).mem = s.mem := rfl
@[simp] theorem State.modCluster_stations (k : Nat) (f : Cluster → Cluster) : (s.modCluster k f).stations = s.stations := rfl
@[simp] theorem State.modCluster_ports (k : Nat) (f : Cluster → Cluster) : (s.modCluster k f).ports = s.ports := rfl
@[simp] theorem State.modCluster_fabric (k : Nat) (f : Cluster → Cluster) : (s.modCluster k f).fabric = s.fabric := rfl
@[simp] theorem State.modCluster_rot (k : Nat) (f : Cluster → Cluster) : (s.modCluster k f).rot = s.rot := rfl
@[simp] theorem State.modCluster_mgmt (k : Nat) (f : Cluster → Cluster) : (s.modCluster k f).mgmt = s.mgmt := rfl
@[simp] theorem State.modCluster_perf (k : Nat) (f : Cluster → Cluster) : (s.modCluster k f).perf = s.perf := rfl
@[simp] theorem State.modCluster_host (k : Nat) (f : Cluster → Cluster) : (s.modCluster k f).host = s.host := rfl
@[simp] theorem State.modCluster_net (k : Nat) (f : Cluster → Cluster) : (s.modCluster k f).net = s.net := rfl
@[simp] theorem State.modCluster_upsets (k : Nat) (f : Cluster → Cluster) : (s.modCluster k f).upsets = s.upsets := rfl
@[simp] theorem State.modCluster_reply (k : Nat) (f : Cluster → Cluster) : (s.modCluster k f).reply = s.reply := rfl

/-! ### modSlot -/

@[simp] theorem State.modSlot_pending (n : Nat) (f : Slot → Slot) : (s.modSlot n f).pending = s.pending := rfl
@[simp] theorem State.modSlot_free (n : Nat) (f : Slot → Slot) : (s.modSlot n f).free = s.free := rfl
@[simp] theorem State.modSlot_platform (n : Nat) (f : Slot → Slot) : (s.modSlot n f).platform = s.platform := rfl
@[simp] theorem State.modSlot_supply (n : Nat) (f : Slot → Slot) : (s.modSlot n f).supply = s.supply := rfl
@[simp] theorem State.modSlot_entropy (n : Nat) (f : Slot → Slot) : (s.modSlot n f).entropy = s.entropy := rfl
@[simp] theorem State.modSlot_regs (n : Nat) (f : Slot → Slot) : (s.modSlot n f).regs = s.regs := rfl
@[simp] theorem State.modSlot_queues (n : Nat) (f : Slot → Slot) : (s.modSlot n f).queues = s.queues := rfl
@[simp] theorem State.modSlot_arbiter (n : Nat) (f : Slot → Slot) : (s.modSlot n f).arbiter = s.arbiter := rfl
@[simp] theorem State.modSlot_cores (n : Nat) (f : Slot → Slot) : (s.modSlot n f).cores = s.cores := rfl
@[simp] theorem State.modSlot_clusters (n : Nat) (f : Slot → Slot) : (s.modSlot n f).clusters = s.clusters := rfl
@[simp] theorem State.modSlot_mem (n : Nat) (f : Slot → Slot) : (s.modSlot n f).mem = s.mem := rfl
@[simp] theorem State.modSlot_stations (n : Nat) (f : Slot → Slot) : (s.modSlot n f).stations = s.stations := rfl
@[simp] theorem State.modSlot_ports (n : Nat) (f : Slot → Slot) : (s.modSlot n f).ports = s.ports := rfl
@[simp] theorem State.modSlot_fabric (n : Nat) (f : Slot → Slot) : (s.modSlot n f).fabric = s.fabric := rfl
@[simp] theorem State.modSlot_rot (n : Nat) (f : Slot → Slot) : (s.modSlot n f).rot = s.rot := rfl
@[simp] theorem State.modSlot_mgmt (n : Nat) (f : Slot → Slot) : (s.modSlot n f).mgmt = s.mgmt := rfl
@[simp] theorem State.modSlot_perf (n : Nat) (f : Slot → Slot) : (s.modSlot n f).perf = s.perf := rfl
@[simp] theorem State.modSlot_host (n : Nat) (f : Slot → Slot) : (s.modSlot n f).host = s.host := rfl
@[simp] theorem State.modSlot_net (n : Nat) (f : Slot → Slot) : (s.modSlot n f).net = s.net := rfl
@[simp] theorem State.modSlot_upsets (n : Nat) (f : Slot → Slot) : (s.modSlot n f).upsets = s.upsets := rfl
@[simp] theorem State.modSlot_reply (n : Nat) (f : Slot → Slot) : (s.modSlot n f).reply = s.reply := rfl

/-! ### modQueue -/

@[simp] theorem State.modQueue_pending (n : Nat) (f : Queue → Queue) : (s.modQueue n f).pending = s.pending := rfl
@[simp] theorem State.modQueue_free (n : Nat) (f : Queue → Queue) : (s.modQueue n f).free = s.free := rfl
@[simp] theorem State.modQueue_platform (n : Nat) (f : Queue → Queue) : (s.modQueue n f).platform = s.platform := rfl
@[simp] theorem State.modQueue_supply (n : Nat) (f : Queue → Queue) : (s.modQueue n f).supply = s.supply := rfl
@[simp] theorem State.modQueue_entropy (n : Nat) (f : Queue → Queue) : (s.modQueue n f).entropy = s.entropy := rfl
@[simp] theorem State.modQueue_regs (n : Nat) (f : Queue → Queue) : (s.modQueue n f).regs = s.regs := rfl
@[simp] theorem State.modQueue_arbiter (n : Nat) (f : Queue → Queue) : (s.modQueue n f).arbiter = s.arbiter := rfl
@[simp] theorem State.modQueue_slots (n : Nat) (f : Queue → Queue) : (s.modQueue n f).slots = s.slots := rfl
@[simp] theorem State.modQueue_cores (n : Nat) (f : Queue → Queue) : (s.modQueue n f).cores = s.cores := rfl
@[simp] theorem State.modQueue_clusters (n : Nat) (f : Queue → Queue) : (s.modQueue n f).clusters = s.clusters := rfl
@[simp] theorem State.modQueue_mem (n : Nat) (f : Queue → Queue) : (s.modQueue n f).mem = s.mem := rfl
@[simp] theorem State.modQueue_stations (n : Nat) (f : Queue → Queue) : (s.modQueue n f).stations = s.stations := rfl
@[simp] theorem State.modQueue_ports (n : Nat) (f : Queue → Queue) : (s.modQueue n f).ports = s.ports := rfl
@[simp] theorem State.modQueue_fabric (n : Nat) (f : Queue → Queue) : (s.modQueue n f).fabric = s.fabric := rfl
@[simp] theorem State.modQueue_rot (n : Nat) (f : Queue → Queue) : (s.modQueue n f).rot = s.rot := rfl
@[simp] theorem State.modQueue_mgmt (n : Nat) (f : Queue → Queue) : (s.modQueue n f).mgmt = s.mgmt := rfl
@[simp] theorem State.modQueue_perf (n : Nat) (f : Queue → Queue) : (s.modQueue n f).perf = s.perf := rfl
@[simp] theorem State.modQueue_host (n : Nat) (f : Queue → Queue) : (s.modQueue n f).host = s.host := rfl
@[simp] theorem State.modQueue_net (n : Nat) (f : Queue → Queue) : (s.modQueue n f).net = s.net := rfl
@[simp] theorem State.modQueue_upsets (n : Nat) (f : Queue → Queue) : (s.modQueue n f).upsets = s.upsets := rfl
@[simp] theorem State.modQueue_reply (n : Nat) (f : Queue → Queue) : (s.modQueue n f).reply = s.reply := rfl

/-! ### modPort -/

@[simp] theorem State.modPort_pending (n : Nat) (f : Port → Port) : (s.modPort n f).pending = s.pending := rfl
@[simp] theorem State.modPort_free (n : Nat) (f : Port → Port) : (s.modPort n f).free = s.free := rfl
@[simp] theorem State.modPort_platform (n : Nat) (f : Port → Port) : (s.modPort n f).platform = s.platform := rfl
@[simp] theorem State.modPort_supply (n : Nat) (f : Port → Port) : (s.modPort n f).supply = s.supply := rfl
@[simp] theorem State.modPort_entropy (n : Nat) (f : Port → Port) : (s.modPort n f).entropy = s.entropy := rfl
@[simp] theorem State.modPort_regs (n : Nat) (f : Port → Port) : (s.modPort n f).regs = s.regs := rfl
@[simp] theorem State.modPort_queues (n : Nat) (f : Port → Port) : (s.modPort n f).queues = s.queues := rfl
@[simp] theorem State.modPort_arbiter (n : Nat) (f : Port → Port) : (s.modPort n f).arbiter = s.arbiter := rfl
@[simp] theorem State.modPort_slots (n : Nat) (f : Port → Port) : (s.modPort n f).slots = s.slots := rfl
@[simp] theorem State.modPort_cores (n : Nat) (f : Port → Port) : (s.modPort n f).cores = s.cores := rfl
@[simp] theorem State.modPort_clusters (n : Nat) (f : Port → Port) : (s.modPort n f).clusters = s.clusters := rfl
@[simp] theorem State.modPort_mem (n : Nat) (f : Port → Port) : (s.modPort n f).mem = s.mem := rfl
@[simp] theorem State.modPort_stations (n : Nat) (f : Port → Port) : (s.modPort n f).stations = s.stations := rfl
@[simp] theorem State.modPort_fabric (n : Nat) (f : Port → Port) : (s.modPort n f).fabric = s.fabric := rfl
@[simp] theorem State.modPort_rot (n : Nat) (f : Port → Port) : (s.modPort n f).rot = s.rot := rfl
@[simp] theorem State.modPort_mgmt (n : Nat) (f : Port → Port) : (s.modPort n f).mgmt = s.mgmt := rfl
@[simp] theorem State.modPort_perf (n : Nat) (f : Port → Port) : (s.modPort n f).perf = s.perf := rfl
@[simp] theorem State.modPort_host (n : Nat) (f : Port → Port) : (s.modPort n f).host = s.host := rfl
@[simp] theorem State.modPort_net (n : Nat) (f : Port → Port) : (s.modPort n f).net = s.net := rfl
@[simp] theorem State.modPort_upsets (n : Nat) (f : Port → Port) : (s.modPort n f).upsets = s.upsets := rfl
@[simp] theorem State.modPort_reply (n : Nat) (f : Port → Port) : (s.modPort n f).reply = s.reply := rfl

/-! ### modStation -/

@[simp] theorem State.modStation_pending (n : Nat) (f : MemStation → MemStation) : (s.modStation n f).pending = s.pending := rfl
@[simp] theorem State.modStation_free (n : Nat) (f : MemStation → MemStation) : (s.modStation n f).free = s.free := rfl
@[simp] theorem State.modStation_platform (n : Nat) (f : MemStation → MemStation) : (s.modStation n f).platform = s.platform := rfl
@[simp] theorem State.modStation_supply (n : Nat) (f : MemStation → MemStation) : (s.modStation n f).supply = s.supply := rfl
@[simp] theorem State.modStation_entropy (n : Nat) (f : MemStation → MemStation) : (s.modStation n f).entropy = s.entropy := rfl
@[simp] theorem State.modStation_regs (n : Nat) (f : MemStation → MemStation) : (s.modStation n f).regs = s.regs := rfl
@[simp] theorem State.modStation_queues (n : Nat) (f : MemStation → MemStation) : (s.modStation n f).queues = s.queues := rfl
@[simp] theorem State.modStation_arbiter (n : Nat) (f : MemStation → MemStation) : (s.modStation n f).arbiter = s.arbiter := rfl
@[simp] theorem State.modStation_slots (n : Nat) (f : MemStation → MemStation) : (s.modStation n f).slots = s.slots := rfl
@[simp] theorem State.modStation_cores (n : Nat) (f : MemStation → MemStation) : (s.modStation n f).cores = s.cores := rfl
@[simp] theorem State.modStation_clusters (n : Nat) (f : MemStation → MemStation) : (s.modStation n f).clusters = s.clusters := rfl
@[simp] theorem State.modStation_mem (n : Nat) (f : MemStation → MemStation) : (s.modStation n f).mem = s.mem := rfl
@[simp] theorem State.modStation_ports (n : Nat) (f : MemStation → MemStation) : (s.modStation n f).ports = s.ports := rfl
@[simp] theorem State.modStation_fabric (n : Nat) (f : MemStation → MemStation) : (s.modStation n f).fabric = s.fabric := rfl
@[simp] theorem State.modStation_rot (n : Nat) (f : MemStation → MemStation) : (s.modStation n f).rot = s.rot := rfl
@[simp] theorem State.modStation_mgmt (n : Nat) (f : MemStation → MemStation) : (s.modStation n f).mgmt = s.mgmt := rfl
@[simp] theorem State.modStation_perf (n : Nat) (f : MemStation → MemStation) : (s.modStation n f).perf = s.perf := rfl
@[simp] theorem State.modStation_host (n : Nat) (f : MemStation → MemStation) : (s.modStation n f).host = s.host := rfl
@[simp] theorem State.modStation_net (n : Nat) (f : MemStation → MemStation) : (s.modStation n f).net = s.net := rfl
@[simp] theorem State.modStation_upsets (n : Nat) (f : MemStation → MemStation) : (s.modStation n f).upsets = s.upsets := rfl
@[simp] theorem State.modStation_reply (n : Nat) (f : MemStation → MemStation) : (s.modStation n f).reply = s.reply := rfl

/-! ### send -/

@[simp] theorem State.send_pending (m : Msg) : (s.send m).pending = s.pending := rfl
@[simp] theorem State.send_free (m : Msg) : (s.send m).free = s.free := rfl
@[simp] theorem State.send_platform (m : Msg) : (s.send m).platform = s.platform := rfl
@[simp] theorem State.send_supply (m : Msg) : (s.send m).supply = s.supply := rfl
@[simp] theorem State.send_entropy (m : Msg) : (s.send m).entropy = s.entropy := rfl
@[simp] theorem State.send_regs (m : Msg) : (s.send m).regs = s.regs := rfl
@[simp] theorem State.send_queues (m : Msg) : (s.send m).queues = s.queues := rfl
@[simp] theorem State.send_arbiter (m : Msg) : (s.send m).arbiter = s.arbiter := rfl
@[simp] theorem State.send_slots (m : Msg) : (s.send m).slots = s.slots := rfl
@[simp] theorem State.send_cores (m : Msg) : (s.send m).cores = s.cores := rfl
@[simp] theorem State.send_clusters (m : Msg) : (s.send m).clusters = s.clusters := rfl
@[simp] theorem State.send_mem (m : Msg) : (s.send m).mem = s.mem := rfl
@[simp] theorem State.send_stations (m : Msg) : (s.send m).stations = s.stations := rfl
@[simp] theorem State.send_ports (m : Msg) : (s.send m).ports = s.ports := rfl
@[simp] theorem State.send_fabric (m : Msg) : (s.send m).fabric = s.fabric := rfl
@[simp] theorem State.send_rot (m : Msg) : (s.send m).rot = s.rot := rfl
@[simp] theorem State.send_mgmt (m : Msg) : (s.send m).mgmt = s.mgmt := rfl
@[simp] theorem State.send_perf (m : Msg) : (s.send m).perf = s.perf := rfl
@[simp] theorem State.send_host (m : Msg) : (s.send m).host = s.host := rfl
@[simp] theorem State.send_upsets (m : Msg) : (s.send m).upsets = s.upsets := rfl
@[simp] theorem State.send_reply (m : Msg) : (s.send m).reply = s.reply := rfl

/-! ### arrive -/

@[simp] theorem State.arrive_pending (m : Msg) : (s.arrive m).pending = s.pending := rfl
@[simp] theorem State.arrive_free (m : Msg) : (s.arrive m).free = s.free := rfl
@[simp] theorem State.arrive_platform (m : Msg) : (s.arrive m).platform = s.platform := rfl
@[simp] theorem State.arrive_supply (m : Msg) : (s.arrive m).supply = s.supply := rfl
@[simp] theorem State.arrive_entropy (m : Msg) : (s.arrive m).entropy = s.entropy := rfl
@[simp] theorem State.arrive_regs (m : Msg) : (s.arrive m).regs = s.regs := rfl
@[simp] theorem State.arrive_queues (m : Msg) : (s.arrive m).queues = s.queues := rfl
@[simp] theorem State.arrive_arbiter (m : Msg) : (s.arrive m).arbiter = s.arbiter := rfl
@[simp] theorem State.arrive_slots (m : Msg) : (s.arrive m).slots = s.slots := rfl
@[simp] theorem State.arrive_cores (m : Msg) : (s.arrive m).cores = s.cores := rfl
@[simp] theorem State.arrive_clusters (m : Msg) : (s.arrive m).clusters = s.clusters := rfl
@[simp] theorem State.arrive_mem (m : Msg) : (s.arrive m).mem = s.mem := rfl
@[simp] theorem State.arrive_stations (m : Msg) : (s.arrive m).stations = s.stations := rfl
@[simp] theorem State.arrive_ports (m : Msg) : (s.arrive m).ports = s.ports := rfl
@[simp] theorem State.arrive_fabric (m : Msg) : (s.arrive m).fabric = s.fabric := rfl
@[simp] theorem State.arrive_rot (m : Msg) : (s.arrive m).rot = s.rot := rfl
@[simp] theorem State.arrive_mgmt (m : Msg) : (s.arrive m).mgmt = s.mgmt := rfl
@[simp] theorem State.arrive_perf (m : Msg) : (s.arrive m).perf = s.perf := rfl
@[simp] theorem State.arrive_host (m : Msg) : (s.arrive m).host = s.host := rfl
@[simp] theorem State.arrive_upsets (m : Msg) : (s.arrive m).upsets = s.upsets := rfl
@[simp] theorem State.arrive_reply (m : Msg) : (s.arrive m).reply = s.reply := rfl

/-! ### poke -/

@[simp] theorem State.poke_pending (a : Nat) (bs : List Byte) : (s.poke a bs).pending = s.pending := rfl
@[simp] theorem State.poke_free (a : Nat) (bs : List Byte) : (s.poke a bs).free = s.free := rfl
@[simp] theorem State.poke_platform (a : Nat) (bs : List Byte) : (s.poke a bs).platform = s.platform := rfl
@[simp] theorem State.poke_supply (a : Nat) (bs : List Byte) : (s.poke a bs).supply = s.supply := rfl
@[simp] theorem State.poke_entropy (a : Nat) (bs : List Byte) : (s.poke a bs).entropy = s.entropy := rfl
@[simp] theorem State.poke_regs (a : Nat) (bs : List Byte) : (s.poke a bs).regs = s.regs := rfl
@[simp] theorem State.poke_queues (a : Nat) (bs : List Byte) : (s.poke a bs).queues = s.queues := rfl
@[simp] theorem State.poke_arbiter (a : Nat) (bs : List Byte) : (s.poke a bs).arbiter = s.arbiter := rfl
@[simp] theorem State.poke_slots (a : Nat) (bs : List Byte) : (s.poke a bs).slots = s.slots := rfl
@[simp] theorem State.poke_cores (a : Nat) (bs : List Byte) : (s.poke a bs).cores = s.cores := rfl
@[simp] theorem State.poke_clusters (a : Nat) (bs : List Byte) : (s.poke a bs).clusters = s.clusters := rfl
@[simp] theorem State.poke_stations (a : Nat) (bs : List Byte) : (s.poke a bs).stations = s.stations := rfl
@[simp] theorem State.poke_ports (a : Nat) (bs : List Byte) : (s.poke a bs).ports = s.ports := rfl
@[simp] theorem State.poke_fabric (a : Nat) (bs : List Byte) : (s.poke a bs).fabric = s.fabric := rfl
@[simp] theorem State.poke_rot (a : Nat) (bs : List Byte) : (s.poke a bs).rot = s.rot := rfl
@[simp] theorem State.poke_mgmt (a : Nat) (bs : List Byte) : (s.poke a bs).mgmt = s.mgmt := rfl
@[simp] theorem State.poke_perf (a : Nat) (bs : List Byte) : (s.poke a bs).perf = s.perf := rfl
@[simp] theorem State.poke_host (a : Nat) (bs : List Byte) : (s.poke a bs).host = s.host := rfl
@[simp] theorem State.poke_net (a : Nat) (bs : List Byte) : (s.poke a bs).net = s.net := rfl
@[simp] theorem State.poke_upsets (a : Nat) (bs : List Byte) : (s.poke a bs).upsets = s.upsets := rfl
@[simp] theorem State.poke_reply (a : Nat) (bs : List Byte) : (s.poke a bs).reply = s.reply := rfl

/-! ### putWhole -/

@[simp] theorem State.putWhole_pending (a : Nat) (bs : List Byte) : (s.putWhole a bs).pending = s.pending := rfl
@[simp] theorem State.putWhole_free (a : Nat) (bs : List Byte) : (s.putWhole a bs).free = s.free := rfl
@[simp] theorem State.putWhole_platform (a : Nat) (bs : List Byte) : (s.putWhole a bs).platform = s.platform := rfl
@[simp] theorem State.putWhole_supply (a : Nat) (bs : List Byte) : (s.putWhole a bs).supply = s.supply := rfl
@[simp] theorem State.putWhole_entropy (a : Nat) (bs : List Byte) : (s.putWhole a bs).entropy = s.entropy := rfl
@[simp] theorem State.putWhole_regs (a : Nat) (bs : List Byte) : (s.putWhole a bs).regs = s.regs := rfl
@[simp] theorem State.putWhole_queues (a : Nat) (bs : List Byte) : (s.putWhole a bs).queues = s.queues := rfl
@[simp] theorem State.putWhole_arbiter (a : Nat) (bs : List Byte) : (s.putWhole a bs).arbiter = s.arbiter := rfl
@[simp] theorem State.putWhole_slots (a : Nat) (bs : List Byte) : (s.putWhole a bs).slots = s.slots := rfl
@[simp] theorem State.putWhole_cores (a : Nat) (bs : List Byte) : (s.putWhole a bs).cores = s.cores := rfl
@[simp] theorem State.putWhole_clusters (a : Nat) (bs : List Byte) : (s.putWhole a bs).clusters = s.clusters := rfl
@[simp] theorem State.putWhole_stations (a : Nat) (bs : List Byte) : (s.putWhole a bs).stations = s.stations := rfl
@[simp] theorem State.putWhole_ports (a : Nat) (bs : List Byte) : (s.putWhole a bs).ports = s.ports := rfl
@[simp] theorem State.putWhole_fabric (a : Nat) (bs : List Byte) : (s.putWhole a bs).fabric = s.fabric := rfl
@[simp] theorem State.putWhole_rot (a : Nat) (bs : List Byte) : (s.putWhole a bs).rot = s.rot := rfl
@[simp] theorem State.putWhole_mgmt (a : Nat) (bs : List Byte) : (s.putWhole a bs).mgmt = s.mgmt := rfl
@[simp] theorem State.putWhole_perf (a : Nat) (bs : List Byte) : (s.putWhole a bs).perf = s.perf := rfl
@[simp] theorem State.putWhole_host (a : Nat) (bs : List Byte) : (s.putWhole a bs).host = s.host := rfl
@[simp] theorem State.putWhole_net (a : Nat) (bs : List Byte) : (s.putWhole a bs).net = s.net := rfl
@[simp] theorem State.putWhole_reply (a : Nat) (bs : List Byte) : (s.putWhole a bs).reply = s.reply := rfl

/-! ### hostWrite -/

@[simp] theorem State.hostWrite_pending (a : Nat) (bs : List Byte) : (s.hostWrite a bs).pending = s.pending := rfl
@[simp] theorem State.hostWrite_free (a : Nat) (bs : List Byte) : (s.hostWrite a bs).free = s.free := rfl
@[simp] theorem State.hostWrite_platform (a : Nat) (bs : List Byte) : (s.hostWrite a bs).platform = s.platform := rfl
@[simp] theorem State.hostWrite_supply (a : Nat) (bs : List Byte) : (s.hostWrite a bs).supply = s.supply := rfl
@[simp] theorem State.hostWrite_entropy (a : Nat) (bs : List Byte) : (s.hostWrite a bs).entropy = s.entropy := rfl
@[simp] theorem State.hostWrite_regs (a : Nat) (bs : List Byte) : (s.hostWrite a bs).regs = s.regs := rfl
@[simp] theorem State.hostWrite_queues (a : Nat) (bs : List Byte) : (s.hostWrite a bs).queues = s.queues := rfl
@[simp] theorem State.hostWrite_arbiter (a : Nat) (bs : List Byte) : (s.hostWrite a bs).arbiter = s.arbiter := rfl
@[simp] theorem State.hostWrite_slots (a : Nat) (bs : List Byte) : (s.hostWrite a bs).slots = s.slots := rfl
@[simp] theorem State.hostWrite_cores (a : Nat) (bs : List Byte) : (s.hostWrite a bs).cores = s.cores := rfl
@[simp] theorem State.hostWrite_clusters (a : Nat) (bs : List Byte) : (s.hostWrite a bs).clusters = s.clusters := rfl
@[simp] theorem State.hostWrite_mem (a : Nat) (bs : List Byte) : (s.hostWrite a bs).mem = s.mem := rfl
@[simp] theorem State.hostWrite_stations (a : Nat) (bs : List Byte) : (s.hostWrite a bs).stations = s.stations := rfl
@[simp] theorem State.hostWrite_ports (a : Nat) (bs : List Byte) : (s.hostWrite a bs).ports = s.ports := rfl
@[simp] theorem State.hostWrite_fabric (a : Nat) (bs : List Byte) : (s.hostWrite a bs).fabric = s.fabric := rfl
@[simp] theorem State.hostWrite_rot (a : Nat) (bs : List Byte) : (s.hostWrite a bs).rot = s.rot := rfl
@[simp] theorem State.hostWrite_mgmt (a : Nat) (bs : List Byte) : (s.hostWrite a bs).mgmt = s.mgmt := rfl
@[simp] theorem State.hostWrite_perf (a : Nat) (bs : List Byte) : (s.hostWrite a bs).perf = s.perf := rfl
@[simp] theorem State.hostWrite_net (a : Nat) (bs : List Byte) : (s.hostWrite a bs).net = s.net := rfl
@[simp] theorem State.hostWrite_upsets (a : Nat) (bs : List Byte) : (s.hostWrite a bs).upsets = s.upsets := rfl
@[simp] theorem State.hostWrite_reply (a : Nat) (bs : List Byte) : (s.hostWrite a bs).reply = s.reply := rfl

/-! ### mgmtWrite -/

@[simp] theorem State.mgmtWrite_pending (a : Nat) (bs : List Byte) : (s.mgmtWrite a bs).pending = s.pending := rfl
@[simp] theorem State.mgmtWrite_free (a : Nat) (bs : List Byte) : (s.mgmtWrite a bs).free = s.free := rfl
@[simp] theorem State.mgmtWrite_platform (a : Nat) (bs : List Byte) : (s.mgmtWrite a bs).platform = s.platform := rfl
@[simp] theorem State.mgmtWrite_supply (a : Nat) (bs : List Byte) : (s.mgmtWrite a bs).supply = s.supply := rfl
@[simp] theorem State.mgmtWrite_entropy (a : Nat) (bs : List Byte) : (s.mgmtWrite a bs).entropy = s.entropy := rfl
@[simp] theorem State.mgmtWrite_regs (a : Nat) (bs : List Byte) : (s.mgmtWrite a bs).regs = s.regs := rfl
@[simp] theorem State.mgmtWrite_queues (a : Nat) (bs : List Byte) : (s.mgmtWrite a bs).queues = s.queues := rfl
@[simp] theorem State.mgmtWrite_arbiter (a : Nat) (bs : List Byte) : (s.mgmtWrite a bs).arbiter = s.arbiter := rfl
@[simp] theorem State.mgmtWrite_slots (a : Nat) (bs : List Byte) : (s.mgmtWrite a bs).slots = s.slots := rfl
@[simp] theorem State.mgmtWrite_cores (a : Nat) (bs : List Byte) : (s.mgmtWrite a bs).cores = s.cores := rfl
@[simp] theorem State.mgmtWrite_clusters (a : Nat) (bs : List Byte) : (s.mgmtWrite a bs).clusters = s.clusters := rfl
@[simp] theorem State.mgmtWrite_mem (a : Nat) (bs : List Byte) : (s.mgmtWrite a bs).mem = s.mem := rfl
@[simp] theorem State.mgmtWrite_stations (a : Nat) (bs : List Byte) : (s.mgmtWrite a bs).stations = s.stations := rfl
@[simp] theorem State.mgmtWrite_ports (a : Nat) (bs : List Byte) : (s.mgmtWrite a bs).ports = s.ports := rfl
@[simp] theorem State.mgmtWrite_fabric (a : Nat) (bs : List Byte) : (s.mgmtWrite a bs).fabric = s.fabric := rfl
@[simp] theorem State.mgmtWrite_rot (a : Nat) (bs : List Byte) : (s.mgmtWrite a bs).rot = s.rot := rfl
@[simp] theorem State.mgmtWrite_perf (a : Nat) (bs : List Byte) : (s.mgmtWrite a bs).perf = s.perf := rfl
@[simp] theorem State.mgmtWrite_host (a : Nat) (bs : List Byte) : (s.mgmtWrite a bs).host = s.host := rfl
@[simp] theorem State.mgmtWrite_net (a : Nat) (bs : List Byte) : (s.mgmtWrite a bs).net = s.net := rfl
@[simp] theorem State.mgmtWrite_upsets (a : Nat) (bs : List Byte) : (s.mgmtWrite a bs).upsets = s.upsets := rfl
@[simp] theorem State.mgmtWrite_reply (a : Nat) (bs : List Byte) : (s.mgmtWrite a bs).reply = s.reply := rfl

/-! ### note -/

@[simp] theorem State.note_pending (c : NotedChange) : (s.note c).pending = s.pending := rfl
@[simp] theorem State.note_free (c : NotedChange) : (s.note c).free = s.free := rfl
@[simp] theorem State.note_platform (c : NotedChange) : (s.note c).platform = s.platform := rfl
@[simp] theorem State.note_supply (c : NotedChange) : (s.note c).supply = s.supply := rfl
@[simp] theorem State.note_entropy (c : NotedChange) : (s.note c).entropy = s.entropy := rfl
@[simp] theorem State.note_regs (c : NotedChange) : (s.note c).regs = s.regs := rfl
@[simp] theorem State.note_queues (c : NotedChange) : (s.note c).queues = s.queues := rfl
@[simp] theorem State.note_slots (c : NotedChange) : (s.note c).slots = s.slots := rfl
@[simp] theorem State.note_cores (c : NotedChange) : (s.note c).cores = s.cores := rfl
@[simp] theorem State.note_clusters (c : NotedChange) : (s.note c).clusters = s.clusters := rfl
@[simp] theorem State.note_mem (c : NotedChange) : (s.note c).mem = s.mem := rfl
@[simp] theorem State.note_stations (c : NotedChange) : (s.note c).stations = s.stations := rfl
@[simp] theorem State.note_ports (c : NotedChange) : (s.note c).ports = s.ports := rfl
@[simp] theorem State.note_fabric (c : NotedChange) : (s.note c).fabric = s.fabric := rfl
@[simp] theorem State.note_rot (c : NotedChange) : (s.note c).rot = s.rot := rfl
@[simp] theorem State.note_mgmt (c : NotedChange) : (s.note c).mgmt = s.mgmt := rfl
@[simp] theorem State.note_perf (c : NotedChange) : (s.note c).perf = s.perf := rfl
@[simp] theorem State.note_host (c : NotedChange) : (s.note c).host = s.host := rfl
@[simp] theorem State.note_net (c : NotedChange) : (s.note c).net = s.net := rfl
@[simp] theorem State.note_upsets (c : NotedChange) : (s.note c).upsets = s.upsets := rfl
@[simp] theorem State.note_reply (c : NotedChange) : (s.note c).reply = s.reply := rfl

/-! ### mgLog -/

@[simp] theorem State.mgLog_pending (k : Nat) (p : Bool) (d : List Byte) : (s.mgLog k p d).pending = s.pending := by simp only [State.mgLog]
@[simp] theorem State.mgLog_free (k : Nat) (p : Bool) (d : List Byte) : (s.mgLog k p d).free = s.free := by simp only [State.mgLog]
@[simp] theorem State.mgLog_platform (k : Nat) (p : Bool) (d : List Byte) : (s.mgLog k p d).platform = s.platform := by simp only [State.mgLog]
@[simp] theorem State.mgLog_supply (k : Nat) (p : Bool) (d : List Byte) : (s.mgLog k p d).supply = s.supply := by simp only [State.mgLog]
@[simp] theorem State.mgLog_entropy (k : Nat) (p : Bool) (d : List Byte) : (s.mgLog k p d).entropy = s.entropy := by simp only [State.mgLog]
@[simp] theorem State.mgLog_regs (k : Nat) (p : Bool) (d : List Byte) : (s.mgLog k p d).regs = s.regs := by simp only [State.mgLog]
@[simp] theorem State.mgLog_queues (k : Nat) (p : Bool) (d : List Byte) : (s.mgLog k p d).queues = s.queues := by simp only [State.mgLog]
@[simp] theorem State.mgLog_arbiter (k : Nat) (p : Bool) (d : List Byte) : (s.mgLog k p d).arbiter = s.arbiter := by simp only [State.mgLog]
@[simp] theorem State.mgLog_slots (k : Nat) (p : Bool) (d : List Byte) : (s.mgLog k p d).slots = s.slots := by simp only [State.mgLog]
@[simp] theorem State.mgLog_cores (k : Nat) (p : Bool) (d : List Byte) : (s.mgLog k p d).cores = s.cores := by simp only [State.mgLog]
@[simp] theorem State.mgLog_clusters (k : Nat) (p : Bool) (d : List Byte) : (s.mgLog k p d).clusters = s.clusters := by simp only [State.mgLog]
@[simp] theorem State.mgLog_mem (k : Nat) (p : Bool) (d : List Byte) : (s.mgLog k p d).mem = s.mem := by simp only [State.mgLog]
@[simp] theorem State.mgLog_stations (k : Nat) (p : Bool) (d : List Byte) : (s.mgLog k p d).stations = s.stations := by simp only [State.mgLog]
@[simp] theorem State.mgLog_ports (k : Nat) (p : Bool) (d : List Byte) : (s.mgLog k p d).ports = s.ports := by simp only [State.mgLog]
@[simp] theorem State.mgLog_fabric (k : Nat) (p : Bool) (d : List Byte) : (s.mgLog k p d).fabric = s.fabric := by simp only [State.mgLog]
@[simp] theorem State.mgLog_rot (k : Nat) (p : Bool) (d : List Byte) : (s.mgLog k p d).rot = s.rot := by simp only [State.mgLog]
@[simp] theorem State.mgLog_perf (k : Nat) (p : Bool) (d : List Byte) : (s.mgLog k p d).perf = s.perf := by simp only [State.mgLog]
@[simp] theorem State.mgLog_host (k : Nat) (p : Bool) (d : List Byte) : (s.mgLog k p d).host = s.host := by simp only [State.mgLog]
@[simp] theorem State.mgLog_net (k : Nat) (p : Bool) (d : List Byte) : (s.mgLog k p d).net = s.net := by simp only [State.mgLog]
@[simp] theorem State.mgLog_upsets (k : Nat) (p : Bool) (d : List Byte) : (s.mgLog k p d).upsets = s.upsets := by simp only [State.mgLog]
@[simp] theorem State.mgLog_reply (k : Nat) (p : Bool) (d : List Byte) : (s.mgLog k p d).reply = s.reply := by simp only [State.mgLog]

/-! ### Fields that an update changes -/

@[simp] theorem State.send_net (m : Msg) : (s.send m).net = s.net ++ [m] := rfl
@[simp] theorem State.arrive_net (m : Msg) : (s.arrive m).net = s.net.erase m := rfl
@[simp] theorem State.poke_mem (a : Nat) (bs : List Byte) : (s.poke a bs).mem = Mem.write memBackground s.mem a bs := rfl
@[simp] theorem State.putWhole_mem (a : Nat) (bs : List Byte) : (s.putWhole a bs).mem = Mem.write memBackground s.mem a bs := rfl
@[simp] theorem State.hostWrite_mem' (a : Nat) (bs : List Byte) :
    (s.hostWrite a bs).host.mem = Mem.write noBackground s.host.mem a bs := rfl
@[simp] theorem State.mgmtWrite_dest (a : Nat) (bs : List Byte) :
    (s.mgmtWrite a bs).mgmt.dest = Mem.write noBackground s.mgmt.dest a bs := rfl

/-! ### A unit after a write of a unit -/

@[simp] theorem State.core_setCore (n : Nat) (x : Core) : (s.setCore n x).core n = x := by
  simp [State.core, State.setCore]

theorem State.core_setCore_of_ne {n m : Nat} (x : Core) (h : n ≠ m) : (s.setCore n x).core m = s.core m := by
  simp [State.core, State.setCore, Tbl.at_put_of_ne _ _ h]

@[simp] theorem State.core_modCore (n : Nat) (f : Core → Core) : (s.modCore n f).core n = f (s.core n) := by
  simp [State.modCore]

theorem State.core_modCore_of_ne {n m : Nat} (f : Core → Core) (h : n ≠ m) : (s.modCore n f).core m = s.core m :=
  State.core_setCore_of_ne s _ h

/-- A second write of the unit replaces the first. -/
@[simp] theorem State.setCore_setCore (n : Nat) (x y : Core) : (s.setCore n x).setCore n y = s.setCore n y := by
  simp [State.setCore]

@[simp] theorem State.cluster_setCluster (n : Nat) (x : Cluster) : (s.setCluster n x).cluster n = x := by
  simp [State.cluster, State.setCluster]

theorem State.cluster_setCluster_of_ne {n m : Nat} (x : Cluster) (h : n ≠ m) : (s.setCluster n x).cluster m = s.cluster m := by
  simp [State.cluster, State.setCluster, Tbl.at_put_of_ne _ _ h]

@[simp] theorem State.cluster_modCluster (n : Nat) (f : Cluster → Cluster) : (s.modCluster n f).cluster n = f (s.cluster n) := by
  simp [State.modCluster]

theorem State.cluster_modCluster_of_ne {n m : Nat} (f : Cluster → Cluster) (h : n ≠ m) : (s.modCluster n f).cluster m = s.cluster m :=
  State.cluster_setCluster_of_ne s _ h

/-- A second write of the unit replaces the first. -/
@[simp] theorem State.setCluster_setCluster (n : Nat) (x y : Cluster) : (s.setCluster n x).setCluster n y = s.setCluster n y := by
  simp [State.setCluster]

@[simp] theorem State.slot_setSlot (n : Nat) (x : Slot) : (s.setSlot n x).slot n = x := by
  simp [State.slot, State.setSlot]

theorem State.slot_setSlot_of_ne {n m : Nat} (x : Slot) (h : n ≠ m) : (s.setSlot n x).slot m = s.slot m := by
  simp [State.slot, State.setSlot, Tbl.at_put_of_ne _ _ h]

@[simp] theorem State.slot_modSlot (n : Nat) (f : Slot → Slot) : (s.modSlot n f).slot n = f (s.slot n) := by
  simp [State.modSlot]

theorem State.slot_modSlot_of_ne {n m : Nat} (f : Slot → Slot) (h : n ≠ m) : (s.modSlot n f).slot m = s.slot m :=
  State.slot_setSlot_of_ne s _ h

/-- A second write of the unit replaces the first. -/
@[simp] theorem State.setSlot_setSlot (n : Nat) (x y : Slot) : (s.setSlot n x).setSlot n y = s.setSlot n y := by
  simp [State.setSlot]

@[simp] theorem State.queue_setQueue (n : Nat) (x : Queue) : (s.setQueue n x).queue n = x := by
  simp [State.queue, State.setQueue]

theorem State.queue_setQueue_of_ne {n m : Nat} (x : Queue) (h : n ≠ m) : (s.setQueue n x).queue m = s.queue m := by
  simp [State.queue, State.setQueue, Tbl.at_put_of_ne _ _ h]

@[simp] theorem State.queue_modQueue (n : Nat) (f : Queue → Queue) : (s.modQueue n f).queue n = f (s.queue n) := by
  simp [State.modQueue]

theorem State.queue_modQueue_of_ne {n m : Nat} (f : Queue → Queue) (h : n ≠ m) : (s.modQueue n f).queue m = s.queue m :=
  State.queue_setQueue_of_ne s _ h

/-- A second write of the unit replaces the first. -/
@[simp] theorem State.setQueue_setQueue (n : Nat) (x y : Queue) : (s.setQueue n x).setQueue n y = s.setQueue n y := by
  simp [State.setQueue]

@[simp] theorem State.port_setPort (n : Nat) (x : Port) : (s.setPort n x).port n = x := by
  simp [State.port, State.setPort]

theorem State.port_setPort_of_ne {n m : Nat} (x : Port) (h : n ≠ m) : (s.setPort n x).port m = s.port m := by
  simp [State.port, State.setPort, Tbl.at_put_of_ne _ _ h]

@[simp] theorem State.port_modPort (n : Nat) (f : Port → Port) : (s.modPort n f).port n = f (s.port n) := by
  simp [State.modPort]

theorem State.port_modPort_of_ne {n m : Nat} (f : Port → Port) (h : n ≠ m) : (s.modPort n f).port m = s.port m :=
  State.port_setPort_of_ne s _ h

/-- A second write of the unit replaces the first. -/
@[simp] theorem State.setPort_setPort (n : Nat) (x y : Port) : (s.setPort n x).setPort n y = s.setPort n y := by
  simp [State.setPort]

@[simp] theorem State.station_setStation (n : Nat) (x : MemStation) : (s.setStation n x).station n = x := by
  simp [State.station, State.setStation]

theorem State.station_setStation_of_ne {n m : Nat} (x : MemStation) (h : n ≠ m) : (s.setStation n x).station m = s.station m := by
  simp [State.station, State.setStation, Tbl.at_put_of_ne _ _ h]

@[simp] theorem State.station_modStation (n : Nat) (f : MemStation → MemStation) : (s.modStation n f).station n = f (s.station n) := by
  simp [State.modStation]

theorem State.station_modStation_of_ne {n m : Nat} (f : MemStation → MemStation) (h : n ≠ m) : (s.modStation n f).station m = s.station m :=
  State.station_setStation_of_ne s _ h

/-- A second write of the unit replaces the first. -/
@[simp] theorem State.setStation_setStation (n : Nat) (x y : MemStation) : (s.setStation n x).setStation n y = s.setStation n y := by
  simp [State.setStation]

/-! ### A unit after an update of something else -/

@[simp] theorem State.setCore_cluster (c : Nat) (x : Core) (i : Nat) : (s.setCore c x).cluster i = s.cluster i := rfl
@[simp] theorem State.setCore_slot (c : Nat) (x : Core) (i : Nat) : (s.setCore c x).slot i = s.slot i := rfl
@[simp] theorem State.setCore_queue (c : Nat) (x : Core) (i : Nat) : (s.setCore c x).queue i = s.queue i := rfl
@[simp] theorem State.setCore_port (c : Nat) (x : Core) (i : Nat) : (s.setCore c x).port i = s.port i := rfl
@[simp] theorem State.setCore_station (c : Nat) (x : Core) (i : Nat) : (s.setCore c x).station i = s.station i := rfl
@[simp] theorem State.setCluster_core (k : Nat) (x : Cluster) (i : Nat) : (s.setCluster k x).core i = s.core i := rfl
@[simp] theorem State.setCluster_slot (k : Nat) (x : Cluster) (i : Nat) : (s.setCluster k x).slot i = s.slot i := rfl
@[simp] theorem State.setCluster_queue (k : Nat) (x : Cluster) (i : Nat) : (s.setCluster k x).queue i = s.queue i := rfl
@[simp] theorem State.setCluster_port (k : Nat) (x : Cluster) (i : Nat) : (s.setCluster k x).port i = s.port i := rfl
@[simp] theorem State.setCluster_station (k : Nat) (x : Cluster) (i : Nat) : (s.setCluster k x).station i = s.station i := rfl
@[simp] theorem State.setSlot_core (n : Nat) (x : Slot) (i : Nat) : (s.setSlot n x).core i = s.core i := rfl
@[simp] theorem State.setSlot_cluster (n : Nat) (x : Slot) (i : Nat) : (s.setSlot n x).cluster i = s.cluster i := rfl
@[simp] theorem State.setSlot_queue (n : Nat) (x : Slot) (i : Nat) : (s.setSlot n x).queue i = s.queue i := rfl
@[simp] theorem State.setSlot_port (n : Nat) (x : Slot) (i : Nat) : (s.setSlot n x).port i = s.port i := rfl
@[simp] theorem State.setSlot_station (n : Nat) (x : Slot) (i : Nat) : (s.setSlot n x).station i = s.station i := rfl
@[simp] theorem State.setQueue_core (n : Nat) (x : Queue) (i : Nat) : (s.setQueue n x).core i = s.core i := rfl
@[simp] theorem State.setQueue_cluster (n : Nat) (x : Queue) (i : Nat) : (s.setQueue n x).cluster i = s.cluster i := rfl
@[simp] theorem State.setQueue_slot (n : Nat) (x : Queue) (i : Nat) : (s.setQueue n x).slot i = s.slot i := rfl
@[simp] theorem State.setQueue_port (n : Nat) (x : Queue) (i : Nat) : (s.setQueue n x).port i = s.port i := rfl
@[simp] theorem State.setQueue_station (n : Nat) (x : Queue) (i : Nat) : (s.setQueue n x).station i = s.station i := rfl
@[simp] theorem State.setPort_core (n : Nat) (x : Port) (i : Nat) : (s.setPort n x).core i = s.core i := rfl
@[simp] theorem State.setPort_cluster (n : Nat) (x : Port) (i : Nat) : (s.setPort n x).cluster i = s.cluster i := rfl
@[simp] theorem State.setPort_slot (n : Nat) (x : Port) (i : Nat) : (s.setPort n x).slot i = s.slot i := rfl
@[simp] theorem State.setPort_queue (n : Nat) (x : Port) (i : Nat) : (s.setPort n x).queue i = s.queue i := rfl
@[simp] theorem State.setPort_station (n : Nat) (x : Port) (i : Nat) : (s.setPort n x).station i = s.station i := rfl
@[simp] theorem State.setStation_core (n : Nat) (x : MemStation) (i : Nat) : (s.setStation n x).core i = s.core i := rfl
@[simp] theorem State.setStation_cluster (n : Nat) (x : MemStation) (i : Nat) : (s.setStation n x).cluster i = s.cluster i := rfl
@[simp] theorem State.setStation_slot (n : Nat) (x : MemStation) (i : Nat) : (s.setStation n x).slot i = s.slot i := rfl
@[simp] theorem State.setStation_queue (n : Nat) (x : MemStation) (i : Nat) : (s.setStation n x).queue i = s.queue i := rfl
@[simp] theorem State.setStation_port (n : Nat) (x : MemStation) (i : Nat) : (s.setStation n x).port i = s.port i := rfl
@[simp] theorem State.modCore_cluster (c : Nat) (f : Core → Core) (i : Nat) : (s.modCore c f).cluster i = s.cluster i := rfl
@[simp] theorem State.modCore_slot (c : Nat) (f : Core → Core) (i : Nat) : (s.modCore c f).slot i = s.slot i := rfl
@[simp] theorem State.modCore_queue (c : Nat) (f : Core → Core) (i : Nat) : (s.modCore c f).queue i = s.queue i := rfl
@[simp] theorem State.modCore_port (c : Nat) (f : Core → Core) (i : Nat) : (s.modCore c f).port i = s.port i := rfl
@[simp] theorem State.modCore_station (c : Nat) (f : Core → Core) (i : Nat) : (s.modCore c f).station i = s.station i := rfl
@[simp] theorem State.modCluster_core (k : Nat) (f : Cluster → Cluster) (i : Nat) : (s.modCluster k f).core i = s.core i := rfl
@[simp] theorem State.modCluster_slot (k : Nat) (f : Cluster → Cluster) (i : Nat) : (s.modCluster k f).slot i = s.slot i := rfl
@[simp] theorem State.modCluster_queue (k : Nat) (f : Cluster → Cluster) (i : Nat) : (s.modCluster k f).queue i = s.queue i := rfl
@[simp] theorem State.modCluster_port (k : Nat) (f : Cluster → Cluster) (i : Nat) : (s.modCluster k f).port i = s.port i := rfl
@[simp] theorem State.modCluster_station (k : Nat) (f : Cluster → Cluster) (i : Nat) : (s.modCluster k f).station i = s.station i := rfl
@[simp] theorem State.modSlot_core (n : Nat) (f : Slot → Slot) (i : Nat) : (s.modSlot n f).core i = s.core i := rfl
@[simp] theorem State.modSlot_cluster (n : Nat) (f : Slot → Slot) (i : Nat) : (s.modSlot n f).cluster i = s.cluster i := rfl
@[simp] theorem State.modSlot_queue (n : Nat) (f : Slot → Slot) (i : Nat) : (s.modSlot n f).queue i = s.queue i := rfl
@[simp] theorem State.modSlot_port (n : Nat) (f : Slot → Slot) (i : Nat) : (s.modSlot n f).port i = s.port i := rfl
@[simp] theorem State.modSlot_station (n : Nat) (f : Slot → Slot) (i : Nat) : (s.modSlot n f).station i = s.station i := rfl
@[simp] theorem State.modQueue_core (n : Nat) (f : Queue → Queue) (i : Nat) : (s.modQueue n f).core i = s.core i := rfl
@[simp] theorem State.modQueue_cluster (n : Nat) (f : Queue → Queue) (i : Nat) : (s.modQueue n f).cluster i = s.cluster i := rfl
@[simp] theorem State.modQueue_slot (n : Nat) (f : Queue → Queue) (i : Nat) : (s.modQueue n f).slot i = s.slot i := rfl
@[simp] theorem State.modQueue_port (n : Nat) (f : Queue → Queue) (i : Nat) : (s.modQueue n f).port i = s.port i := rfl
@[simp] theorem State.modQueue_station (n : Nat) (f : Queue → Queue) (i : Nat) : (s.modQueue n f).station i = s.station i := rfl
@[simp] theorem State.modPort_core (n : Nat) (f : Port → Port) (i : Nat) : (s.modPort n f).core i = s.core i := rfl
@[simp] theorem State.modPort_cluster (n : Nat) (f : Port → Port) (i : Nat) : (s.modPort n f).cluster i = s.cluster i := rfl
@[simp] theorem State.modPort_slot (n : Nat) (f : Port → Port) (i : Nat) : (s.modPort n f).slot i = s.slot i := rfl
@[simp] theorem State.modPort_queue (n : Nat) (f : Port → Port) (i : Nat) : (s.modPort n f).queue i = s.queue i := rfl
@[simp] theorem State.modPort_station (n : Nat) (f : Port → Port) (i : Nat) : (s.modPort n f).station i = s.station i := rfl
@[simp] theorem State.modStation_core (n : Nat) (f : MemStation → MemStation) (i : Nat) : (s.modStation n f).core i = s.core i := rfl
@[simp] theorem State.modStation_cluster (n : Nat) (f : MemStation → MemStation) (i : Nat) : (s.modStation n f).cluster i = s.cluster i := rfl
@[simp] theorem State.modStation_slot (n : Nat) (f : MemStation → MemStation) (i : Nat) : (s.modStation n f).slot i = s.slot i := rfl
@[simp] theorem State.modStation_queue (n : Nat) (f : MemStation → MemStation) (i : Nat) : (s.modStation n f).queue i = s.queue i := rfl
@[simp] theorem State.modStation_port (n : Nat) (f : MemStation → MemStation) (i : Nat) : (s.modStation n f).port i = s.port i := rfl
@[simp] theorem State.send_core (m : Msg) (i : Nat) : (s.send m).core i = s.core i := rfl
@[simp] theorem State.send_cluster (m : Msg) (i : Nat) : (s.send m).cluster i = s.cluster i := rfl
@[simp] theorem State.send_slot (m : Msg) (i : Nat) : (s.send m).slot i = s.slot i := rfl
@[simp] theorem State.send_queue (m : Msg) (i : Nat) : (s.send m).queue i = s.queue i := rfl
@[simp] theorem State.send_port (m : Msg) (i : Nat) : (s.send m).port i = s.port i := rfl
@[simp] theorem State.send_station (m : Msg) (i : Nat) : (s.send m).station i = s.station i := rfl
@[simp] theorem State.arrive_core (m : Msg) (i : Nat) : (s.arrive m).core i = s.core i := rfl
@[simp] theorem State.arrive_cluster (m : Msg) (i : Nat) : (s.arrive m).cluster i = s.cluster i := rfl
@[simp] theorem State.arrive_slot (m : Msg) (i : Nat) : (s.arrive m).slot i = s.slot i := rfl
@[simp] theorem State.arrive_queue (m : Msg) (i : Nat) : (s.arrive m).queue i = s.queue i := rfl
@[simp] theorem State.arrive_port (m : Msg) (i : Nat) : (s.arrive m).port i = s.port i := rfl
@[simp] theorem State.arrive_station (m : Msg) (i : Nat) : (s.arrive m).station i = s.station i := rfl
@[simp] theorem State.poke_core (a : Nat) (bs : List Byte) (i : Nat) : (s.poke a bs).core i = s.core i := rfl
@[simp] theorem State.poke_cluster (a : Nat) (bs : List Byte) (i : Nat) : (s.poke a bs).cluster i = s.cluster i := rfl
@[simp] theorem State.poke_slot (a : Nat) (bs : List Byte) (i : Nat) : (s.poke a bs).slot i = s.slot i := rfl
@[simp] theorem State.poke_queue (a : Nat) (bs : List Byte) (i : Nat) : (s.poke a bs).queue i = s.queue i := rfl
@[simp] theorem State.poke_port (a : Nat) (bs : List Byte) (i : Nat) : (s.poke a bs).port i = s.port i := rfl
@[simp] theorem State.poke_station (a : Nat) (bs : List Byte) (i : Nat) : (s.poke a bs).station i = s.station i := rfl
@[simp] theorem State.putWhole_core (a : Nat) (bs : List Byte) (i : Nat) : (s.putWhole a bs).core i = s.core i := rfl
@[simp] theorem State.putWhole_cluster (a : Nat) (bs : List Byte) (i : Nat) : (s.putWhole a bs).cluster i = s.cluster i := rfl
@[simp] theorem State.putWhole_slot (a : Nat) (bs : List Byte) (i : Nat) : (s.putWhole a bs).slot i = s.slot i := rfl
@[simp] theorem State.putWhole_queue (a : Nat) (bs : List Byte) (i : Nat) : (s.putWhole a bs).queue i = s.queue i := rfl
@[simp] theorem State.putWhole_port (a : Nat) (bs : List Byte) (i : Nat) : (s.putWhole a bs).port i = s.port i := rfl
@[simp] theorem State.putWhole_station (a : Nat) (bs : List Byte) (i : Nat) : (s.putWhole a bs).station i = s.station i := rfl
@[simp] theorem State.hostWrite_core (a : Nat) (bs : List Byte) (i : Nat) : (s.hostWrite a bs).core i = s.core i := rfl
@[simp] theorem State.hostWrite_cluster (a : Nat) (bs : List Byte) (i : Nat) : (s.hostWrite a bs).cluster i = s.cluster i := rfl
@[simp] theorem State.hostWrite_slot (a : Nat) (bs : List Byte) (i : Nat) : (s.hostWrite a bs).slot i = s.slot i := rfl
@[simp] theorem State.hostWrite_queue (a : Nat) (bs : List Byte) (i : Nat) : (s.hostWrite a bs).queue i = s.queue i := rfl
@[simp] theorem State.hostWrite_port (a : Nat) (bs : List Byte) (i : Nat) : (s.hostWrite a bs).port i = s.port i := rfl
@[simp] theorem State.hostWrite_station (a : Nat) (bs : List Byte) (i : Nat) : (s.hostWrite a bs).station i = s.station i := rfl
@[simp] theorem State.mgmtWrite_core (a : Nat) (bs : List Byte) (i : Nat) : (s.mgmtWrite a bs).core i = s.core i := rfl
@[simp] theorem State.mgmtWrite_cluster (a : Nat) (bs : List Byte) (i : Nat) : (s.mgmtWrite a bs).cluster i = s.cluster i := rfl
@[simp] theorem State.mgmtWrite_slot (a : Nat) (bs : List Byte) (i : Nat) : (s.mgmtWrite a bs).slot i = s.slot i := rfl
@[simp] theorem State.mgmtWrite_queue (a : Nat) (bs : List Byte) (i : Nat) : (s.mgmtWrite a bs).queue i = s.queue i := rfl
@[simp] theorem State.mgmtWrite_port (a : Nat) (bs : List Byte) (i : Nat) : (s.mgmtWrite a bs).port i = s.port i := rfl
@[simp] theorem State.mgmtWrite_station (a : Nat) (bs : List Byte) (i : Nat) : (s.mgmtWrite a bs).station i = s.station i := rfl
@[simp] theorem State.note_core (c : NotedChange) (i : Nat) : (s.note c).core i = s.core i := rfl
@[simp] theorem State.note_cluster (c : NotedChange) (i : Nat) : (s.note c).cluster i = s.cluster i := rfl
@[simp] theorem State.note_slot (c : NotedChange) (i : Nat) : (s.note c).slot i = s.slot i := rfl
@[simp] theorem State.note_queue (c : NotedChange) (i : Nat) : (s.note c).queue i = s.queue i := rfl
@[simp] theorem State.note_port (c : NotedChange) (i : Nat) : (s.note c).port i = s.port i := rfl
@[simp] theorem State.note_station (c : NotedChange) (i : Nat) : (s.note c).station i = s.station i := rfl
@[simp] theorem State.mgLog_core (k : Nat) (p : Bool) (d : List Byte) (i : Nat) : (s.mgLog k p d).core i = s.core i := by simp only [State.core, State.mgLog_cores]
@[simp] theorem State.mgLog_cluster (k : Nat) (p : Bool) (d : List Byte) (i : Nat) : (s.mgLog k p d).cluster i = s.cluster i := by simp only [State.cluster, State.mgLog_clusters]
@[simp] theorem State.mgLog_slot (k : Nat) (p : Bool) (d : List Byte) (i : Nat) : (s.mgLog k p d).slot i = s.slot i := by simp only [State.slot, State.mgLog_slots]
@[simp] theorem State.mgLog_queue (k : Nat) (p : Bool) (d : List Byte) (i : Nat) : (s.mgLog k p d).queue i = s.queue i := by simp only [State.queue, State.mgLog_queues]
@[simp] theorem State.mgLog_port (k : Nat) (p : Bool) (d : List Byte) (i : Nat) : (s.mgLog k p d).port i = s.port i := by simp only [State.port, State.mgLog_ports]
@[simp] theorem State.mgLog_station (k : Nat) (p : Bool) (d : List Byte) (i : Nat) : (s.mgLog k p d).station i = s.station i := by simp only [State.station, State.mgLog_stations]

end Sys2Proof.Machine
end

