-- ==== Sys2Proof/Laws/Issue.lean ====
section
/-! SUPPORT. Laws/Issue.lean: what issuing an instruction does, by how its own work ends, and what retiring does. -/

namespace Sys2Proof.Machine

variable {s u : State} {c : Nat} {ins : Instr} {stage : Option Nat} {i : Issue} {body : State → Issue → Done}

/-- Issuing a ready instruction is its own work, and what follows from how that ends. -/
theorem issueOn_ready (h : s.ready c ins stage i) : issueOn c ins stage s body =
    .next (match body (s.setCore c (i.begun c stage)) (i.seen c stage) with
      | .again => s
      | .hold t => t
      | .ended t => ((t.modCore c fun co => { co with retired := (co.retired + 1) % 2 ^ 48 }).tag c i ins 1 1).endMember c
      | .retire t off beats => t.retire c i ins off beats
      | .fault t code => (t.programFault c i code i.r.pc).tag c i ins 2 1) := by
  obtain ⟨h1, h2, h3, h4, h5, h6⟩ := h
  have e5 : ¬ (2 ^ 24 ≤ i.r.retired) := by omega
  have e6 : ¬ (stage.getD i.r.stage < i.r.stage) := by omega
  simp only [issueOn, Machine.unit, h1, decide_true, if_true, State.issue, h2, h3, h4, if_neg e5, if_neg e6]
  rfl

/-- An instruction that retires at a place of the program moves the core on, and tagging follows. -/
theorem State.retire_inProgram {r : Run} {off : Option Int} {beats : Nat} (hr : (u.core c).run = some r)
    (hp : i.inProgram (i.pcAfter off)) :
    u.retire c i ins off beats = (u.setCore c ((u.core c).moved r (i.pcAfter off) beats off.isSome)).tag c i ins 1 beats := by
  have hp' : ¬ (i.x.program i.m.block).length ≤ i.pcAfter off := by unfold Issue.inProgram at hp; omega
  cases off <;> simp only [State.retire, hr, Issue.pcAfter] at * <;> rw [if_neg hp'] <;> rfl

theorem issueOn_retire {t : State} {r : Run} {off : Option Int} {beats : Nat} (h : s.ready c ins stage i)
    (hb : body (s.setCore c (i.begun c stage)) (i.seen c stage) = .retire t off beats) (hr : (t.core c).run = some r)
    (hp : i.inProgram (i.pcAfter off)) :
    issueOn c ins stage s body = .next (i.retired t c ins (t.core c) r off beats) := by
  rw [issueOn_ready h, hb]
  simp only [State.retire_inProgram hr hp, Issue.retired]

/-- An instruction that only changes its core. -/
theorem issueOn_onCore {co : Core} {r : Run} {beats : Nat} (h : s.ready c ins stage i)
    (hb : body (s.setCore c (i.begun c stage)) (i.seen c stage) = onCore c (s.setCore c (i.begun c stage)) co beats)
    (hr : co.run = some r) (hp : i.inProgram (i.r.pc + 1)) :
    issueOn c ins stage s body = .next (i.retired s c ins co r none beats) := by
  rw [issueOn_retire (off := none) (r := r) h hb (by simpa using hr) hp]
  simp [Issue.retired]

theorem issueOn_hold {t : State} (h : s.ready c ins stage i)
    (hb : body (s.setCore c (i.begun c stage)) (i.seen c stage) = .hold t) : issueOn c ins stage s body = .next t := by
  rw [issueOn_ready h, hb]

theorem issueOn_again (h : s.ready c ins stage i)
    (hb : body (s.setCore c (i.begun c stage)) (i.seen c stage) = .again) : issueOn c ins stage s body = .next s := by
  rw [issueOn_ready h, hb]

theorem issueOn_fault {t : State} {code : Nat} (h : s.ready c ins stage i)
    (hb : body (s.setCore c (i.begun c stage)) (i.seen c stage) = .fault t code) :
    issueOn c ins stage s body = .next (i.faulted t c ins code) := by
  rw [issueOn_ready h, hb]; rfl

theorem issueOn_ended {t : State} (h : s.ready c ins stage i)
    (hb : body (s.setCore c (i.begun c stage)) (i.seen c stage) = .ended t) :
    issueOn c ins stage s body =
      .next (((t.modCore c fun co => { co with retired := (co.retired + 1) % 2 ^ 48 }).tag c i ins 1 1).endMember c) := by
  rw [issueOn_ready h, hb]

@[simp] theorem Core.setK_run (co : Core) (a : BitVec 5) (v : Word) : (co.setK a v).run = co.run := by
  unfold Core.setK; split <;> rfl

@[simp] theorem Core.setW_run (co : Core) (a : BitVec 4) (v : BitVec 512) : (co.setW a v).run = co.run := rfl

@[simp] theorem Issue.begun_run (i : Issue) (c : Nat) (stage : Option Nat) : (i.begun c stage).run = some (i.run stage) := rfl

@[simp] theorem Issue.begun_kreg (i : Issue) (c : Nat) (stage : Option Nat) (r : BitVec 5) :
    (i.begun c stage).kreg r = i.co.kreg r := rfl

@[simp] theorem Issue.begun_wreg (i : Issue) (c : Nat) (stage : Option Nat) (r : BitVec 4) :
    (i.begun c stage).wreg r = i.co.wreg r := rfl

@[simp] theorem Issue.run_none (i : Issue) : i.run none = i.r := rfl

@[simp] theorem Issue.seen_co (i : Issue) (c : Nat) (stage : Option Nat) : (i.seen c stage).co = i.begun c stage := rfl

@[simp] theorem Issue.seen_m (i : Issue) (c : Nat) (stage : Option Nat) : (i.seen c stage).m = i.m := rfl

@[simp] theorem Issue.seen_x (i : Issue) (c : Nat) (stage : Option Nat) : (i.seen c stage).x = i.x := rfl

@[simp] theorem Issue.seen_n (i : Issue) (c : Nat) (stage : Option Nat) : (i.seen c stage).n = i.n := rfl

@[simp] theorem Issue.seen_r (i : Issue) (c : Nat) (stage : Option Nat) : (i.seen c stage).r = i.run stage := rfl

/-! ### Sending from the issuing core -/

theorem State.setCore_send (s : State) (c : Nat) (x : Core) (m : Msg) : (s.setCore c x).send m = (s.send m).setCore c x := rfl

/-- Messages sent one after another from a core leave the same state whether the core is set before or after. -/
theorem State.setCore_sendAll {α : Type} (s : State) (c : Nat) (x : Core) (f : α → Msg) (l : List α) :
    l.foldl (fun t e => t.send (f e)) (s.setCore c x) = (l.foldl (fun t e => t.send (f e)) s).setCore c x := by
  induction l generalizing s with
  | nil => rfl
  | cons a t ih => simp only [List.foldl_cons, State.setCore_send, ih]

/-- An instruction that sets its core and sends one message. -/
theorem issueOn_send {co : Core} {r : Run} {m : Msg} {beats : Nat} (h : s.ready c ins stage i)
    (hb : body (s.setCore c (i.begun c stage)) (i.seen c stage) =
      .retire (((s.setCore c (i.begun c stage)).setCore c co).send m) none beats)
    (hr : co.run = some r) (hp : i.inProgram (i.r.pc + 1)) :
    issueOn c ins stage s body = .next (i.retired (s.send m) c ins co r none beats) := by
  rw [issueOn_retire (off := none) (r := r) h hb (by simp [State.setCore_send, hr]) hp]
  simp [Issue.retired, State.setCore_send]

/-- An instruction that sets its core and sends messages. -/
theorem issueOn_sendAll {α : Type} {co : Core} {r : Run} {f : α → Msg} {l : List α} {beats : Nat} (h : s.ready c ins stage i)
    (hb : body (s.setCore c (i.begun c stage)) (i.seen c stage) =
      .retire (l.foldl (fun t e => t.send (f e)) ((s.setCore c (i.begun c stage)).setCore c co)) none beats)
    (hr : co.run = some r) (hp : i.inProgram (i.r.pc + 1)) :
    issueOn c ins stage s body = .next (i.retired (l.foldl (fun t e => t.send (f e)) s) c ins co r none beats) := by
  rw [issueOn_retire (off := none) (r := r) h hb (by simp [State.setCore_sendAll, hr]) hp]
  simp [Issue.retired, State.setCore_sendAll]

/-! ### Accumulators keep what is not theirs -/

@[simp] theorem Core.setAcc_run (co : Core) (a : BitVec 3) (n m : Nat) (v : Int) : (co.setAcc a n m v).run = co.run := rfl

@[simp] theorem Core.modMember_run (co : Core) (n : Nat) (f : Member → Member) : (co.modMember n f).run = co.run := rfl

@[simp] theorem Issue.accumulateAll_run (i : Issue) (a : BitVec 3) (ds : List (Nat × Nat × Int)) :
    (i.accumulateAll a ds).co.run = i.co.run := by
  unfold Issue.accumulateAll
  induction ds generalizing i with
  | nil => rfl
  | cons d t ih => rw [List.foldl_cons, ih]; rfl

@[simp] theorem Issue.accumulateAll_r (i : Issue) (a : BitVec 3) (ds : List (Nat × Nat × Int)) :
    (i.accumulateAll a ds).r = i.r := by
  unfold Issue.accumulateAll
  induction ds generalizing i with
  | nil => rfl
  | cons d t ih => rw [List.foldl_cons, ih]; rfl

end Sys2Proof.Machine
end

