-- ==== Sys2Proof/Laws/Order.lean ====
section
/-! SUPPORT. Laws/Order.lean: when an order runs, and when its parameter checks pass. -/

namespace Sys2Proof.Machine

variable {s : State} {opcode id : Nat} {o : Order} {body : State → Order → State}

/-- An order that may run is marked as started, and its body is all that happens. -/
theorem runOrder_mayRun (h : s.mayRun opcode id o) : runOrder opcode id s body = .next (body (s.begin o) o.begun) := by
  obtain ⟨h1, h2, h3, h4, h5⟩ := h
  have e1 : ¬ ((decide (o.opcode ≠ opcode) || o.started || !s.mayStart o) = true) := by simp [h2, h3, h4]
  have e2 : ¬ ((s.platform.fatal && decide (o.source ≠ 0x80) && !([1, 2, 3].contains opcode)) = true) := by
    intro hc
    simp only [Bool.and_eq_true, Bool.not_eq_true', decide_eq_true_eq] at hc
    rcases h5 hc.1.1 with h | h
    · exact hc.1.2 h
    · simp only [List.contains_eq_mem, h, decide_true] at hc
      exact absurd hc.2 (by decide)
  simp only [runOrder, h1, if_neg e1, if_neg e2]
  rfl

/-- An order that cannot run yet, or is not open, is left as it is. -/
theorem runOrder_notOpen (h : (s.arbiter.orders ++ s.mgmt.alone).find? (fun o => o.id = id) = none) :
    runOrder opcode id s body = .next s := by simp only [runOrder, h]

@[simp] theorem Order.begun_field (a b : Nat) : o.begun.field a b = o.field a b := rfl
@[simp] theorem Order.begun_flags : o.begun.flags = o.flags := rfl
@[simp] theorem Order.begun_target : o.begun.target = o.target := rfl
@[simp] theorem Order.begun_id : o.begun.id = o.id := rfl
@[simp] theorem Order.begun_seq : o.begun.seq = o.seq := rfl
@[simp] theorem Order.begun_source : o.begun.source = o.source := rfl
@[simp] theorem Order.begun_packet : o.begun.packet = o.packet := rfl
@[simp] theorem Order.begun_noTarget : o.begun.noTarget = o.noTarget := rfl
@[simp] theorem Order.begun_slotTarget : o.begun.slotTarget = o.slotTarget := rfl

@[simp] theorem State.begin_slots : (s.begin o).slots = s.slots := rfl
@[simp] theorem State.begin_slot (n : Nat) : (s.begin o).slot n = s.slot n := rfl
@[simp] theorem State.begin_cores : (s.begin o).cores = s.cores := rfl
@[simp] theorem State.begin_core (n : Nat) : (s.begin o).core n = s.core n := rfl
@[simp] theorem State.begin_fabric : (s.begin o).fabric = s.fabric := rfl
@[simp] theorem State.begin_platform : (s.begin o).platform = s.platform := rfl

theorem lowestFail_none {cs : List Check} : lowestFail cs = none ↔ ∀ c ∈ cs, c.ok = true := by
  have step : ∀ (l : List Check) (a : Check), l.foldl (fun a c =>
      match a with | none => some c | some b => if c.byte < b.byte then some c else some b) (some a) ≠ none := by
    intro l
    induction l with
    | nil => intro a; simp
    | cons b t ih => intro a; simp only [List.foldl_cons]; split <;> exact ih _
  unfold lowestFail
  constructor
  · intro h c hc
    cases hn : c.ok with
    | true => rfl
    | false =>
      have hm : c ∈ cs.filter fun c => !c.ok := by simp [List.mem_filter, hc, hn]
      cases hl : cs.filter fun c => !c.ok with
      | nil => rw [hl] at hm; cases hm
      | cons a t => rw [hl, List.foldl_cons] at h; exact absurd h (step t a)
  · intro h
    have : (cs.filter fun c => !c.ok) = [] := by simp [List.filter_eq_nil_iff]; exact h
    rw [this]; rfl

theorem Order.stray_none {fields : List (Nat × Nat)} : o.stray fields = none ↔
    ∀ i, 16 ≤ i → i < 64 → (∀ f ∈ fields, i < f.1 ∨ f.1 + f.2 ≤ i) → o.field i 1 = 0 := by
  unfold Order.stray
  rw [List.find?_eq_none]
  have key : ∀ i, (fields.any fun f => decide (f.1 ≤ i) && decide (i < f.1 + f.2)) = false ↔
      ∀ f ∈ fields, i < f.1 ∨ f.1 + f.2 ≤ i := by
    intro i
    simp only [List.any_eq_false, Bool.and_eq_true, decide_eq_true_eq]
    exact ⟨fun h f hf => by have := h f hf; omega, fun h f hf => by have := h f hf; omega⟩
  constructor
  · intro h i h1 h2 hf
    have := h i (List.mem_map.mpr ⟨i - 16, by simp; omega, by omega⟩)
    simpa [(key i).mpr hf] using this
  · intro h x hx hc
    obtain ⟨j, hj, rfl⟩ := List.mem_map.mp hx
    simp only [List.mem_range] at hj
    simp only [Bool.and_eq_true, Bool.not_eq_true', decide_eq_true_eq] at hc
    exact hc.1 (h _ (by omega) (by omega) ((key _).mp hc.2))

/-- The parameter checks of a command pass when its packet is lawful and every check of a field holds. -/
theorem Order.params_none {flags : Nat} {target : Bool} {fields : List (Nat × Nat)} {checks : List Check} :
    o.params flags target fields checks = none ↔ o.lawful flags (target = true) fields ∧ ∀ c ∈ checks, c.ok = true := by
  unfold Order.params Order.lawful
  rw [Option.map_eq_none_iff, lowestFail_none, ← Order.stray_none]
  constructor
  · intro h
    refine ⟨⟨?_, ?_, ?_⟩, fun c hc => h c (by simp [hc])⟩
    · simpa using h { byte := 1, ok := Nat.land o.flags (252 - flags) = 0 } (by simp)
    · simpa using h { byte := 2, ok := target } (by simp)
    · cases hs : o.stray fields with
      | none => rfl
      | some i => exact absurd (h { byte := i, ok := false } (by simp [hs])) (by simp)
  · rintro ⟨⟨h1, h2, h3⟩, h4⟩ c hc
    rw [h3] at hc
    simp only [List.append_nil, List.mem_append, List.mem_cons, List.not_mem_nil, or_false] at hc
    rcases hc with (rfl | rfl) | hc
    · simpa using h1
    · exact h2
    · exact h4 c hc

end Sys2Proof.Machine
end

