-- ==== Sys2Proof/Laws/PerInstr.lean ====
section
/-! SUPPORT. Laws/PerInstr.lean: what holds of every command as syntax, one lemma for each constructor. -/

namespace Sys2Proof.Laws.Opcode

open Machine

/-- The word of a stage-program instruction carries its opcode in bits 31 to 24, and no other command has a word
(R116, R119 to R127). -/
def Statement (i : Instr) : Prop := (encodeStage i).map (fun w => w.extractLsb' 24 8) = stageOpcode i

/-- The opcode of a word of format R. -/
@[simp] theorem opcode_wordR (op : BitVec 8) (a b c : BitVec 5) (x : BitVec 9) : (wordR op a b c x).extractLsb' 24 8 = op := by
  show (op ++ a ++ b ++ c ++ x : BitVec (8 + 5 + 5 + 5 + 9)).extractLsb' 24 8 = op
  ext i hi
  simp only [BitVec.getElem_extractLsb', BitVec.getLsbD_append]
  simp (disch := omega) only [if_neg, BitVec.getLsbD_eq_getElem]
  congr 1; omega

/-- The opcode of a word of format I. -/
@[simp] theorem opcode_wordI (op : BitVec 8) (a b : BitVec 5) (x : BitVec 14) : (wordI op a b x).extractLsb' 24 8 = op := by
  show (op ++ a ++ b ++ x : BitVec (8 + 5 + 5 + 14)).extractLsb' 24 8 = op
  ext i hi
  simp only [BitVec.getElem_extractLsb', BitVec.getLsbD_append]
  simp (disch := omega) only [if_neg, BitVec.getLsbD_eq_getElem]
  congr 1; omega

/-- The opcode of a word of format L. -/
@[simp] theorem opcode_wordL (op : BitVec 8) (a : BitVec 5) (x : BitVec 19) : (wordL op a x).extractLsb' 24 8 = op := by
  show (op ++ a ++ x : BitVec (8 + 5 + 19)).extractLsb' 24 8 = op
  ext i hi
  simp only [BitVec.getElem_extractLsb', BitVec.getLsbD_append]
  simp (disch := omega) only [if_neg, BitVec.getLsbD_eq_getElem]
  congr 1; omega

/-- The opcode of a word of format J or N. -/
@[simp] theorem opcode_wordJ (op : BitVec 8) (x : BitVec 24) : (wordJ op x).extractLsb' 24 8 = op := by
  show (op ++ x : BitVec (8 + 24)).extractLsb' 24 8 = op
  ext i hi
  simp only [BitVec.getElem_extractLsb', BitVec.getLsbD_append]
  simp (disch := omega) only [if_neg, BitVec.getLsbD_eq_getElem]
  congr 1; omega

theorem nop (id : Nat) : Statement (.nop id) := rfl
theorem identify (id : Nat) : Statement (.identify id) := rfl
theorem getStatus (id : Nat) : Statement (.getStatus id) := rfl
theorem journalQuery (id : Nat) : Statement (.journalQuery id) := rfl
theorem fill (id : Nat) : Statement (.fill id) := rfl
theorem copy (id : Nat) : Statement (.copy id) := rfl
theorem scrubDeclare (id : Nat) : Statement (.scrubDeclare id) := rfl
theorem modelCheck (id : Nat) : Statement (.modelCheck id) := rfl
theorem modelLoad (id : Nat) : Statement (.modelLoad id) := rfl
theorem modelUnload (id : Nat) : Statement (.modelUnload id) := rfl
theorem slotConfig (id : Nat) : Statement (.slotConfig id) := rfl
theorem slotStart (id : Nat) : Statement (.slotStart id) := rfl
theorem slotStop (id : Nat) : Statement (.slotStop id) := rfl
theorem slotSave (id : Nat) : Statement (.slotSave id) := rfl
theorem slotRestore (id : Nat) : Statement (.slotRestore id) := rfl
theorem slotDisable (id : Nat) : Statement (.slotDisable id) := rfl
theorem slotEnable (id : Nat) : Statement (.slotEnable id) := rfl
theorem sampleRead (id : Nat) : Statement (.sampleRead id) := rfl
theorem statsRead (id : Nat) : Statement (.statsRead id) := rfl
theorem resultSeal (id : Nat) : Statement (.resultSeal id) := rfl
theorem syncAlloc (id : Nat) : Statement (.syncAlloc id) := rfl
theorem syncFree (id : Nat) : Statement (.syncFree id) := rfl
theorem syncSignal (id : Nat) : Statement (.syncSignal id) := rfl
theorem syncWait (id : Nat) : Statement (.syncWait id) := rfl
theorem entropyGet (id : Nat) : Statement (.entropyGet id) := rfl
theorem seedFromEntropy (id : Nat) : Statement (.seedFromEntropy id) := rfl
theorem selftest (id : Nat) (outcome : TestOutcome) : Statement (.selftest id outcome) := rfl
theorem calibrate (id : Nat) (outcome : TestOutcome) : Statement (.calibrate id outcome) := rfl
theorem fabricConfig (id : Nat) : Statement (.fabricConfig id) := rfl
theorem routeLoad (id : Nat) : Statement (.routeLoad id) := rfl
theorem portState (id : Nat) : Statement (.portState id) := rfl
theorem coreFence (id : Nat) (outcome : TestOutcome) : Statement (.coreFence id outcome) := rfl
theorem coreCastle (id : Nat) : Statement (.coreCastle id) := rfl
theorem lockstepBegin (id : Nat) : Statement (.lockstepBegin id) := rfl
theorem lockstepEnd (id : Nat) : Statement (.lockstepEnd id) := rfl
theorem counterConfig (id : Nat) : Statement (.counterConfig id) := rfl
theorem tagConfig (id : Nat) : Statement (.tagConfig id) := rfl
theorem attest (id : Nat) : Statement (.attest id) := rfl
theorem keyInfo (id : Nat) : Statement (.keyInfo id) := rfl
theorem mgTelemetry (id : Nat) : Statement (.mgTelemetry id) := rfl
theorem mgPowerCap (id : Nat) : Statement (.mgPowerCap id) := rfl
theorem mgFence (id : Nat) (outcome : TestOutcome) : Statement (.mgFence id outcome) := rfl
theorem mgCordInfo (id : Nat) : Statement (.mgCordInfo id) := rfl
theorem mgFwStage (id : Nat) : Statement (.mgFwStage id) := rfl
theorem mgFwActivate (id : Nat) : Statement (.mgFwActivate id) := rfl
theorem mgReset (id : Nat) : Statement (.mgReset id) := rfl
theorem mgLogRead (id : Nat) : Statement (.mgLogRead id) := rfl
theorem mgSelftest (id : Nat) (outcome : TestOutcome) : Statement (.mgSelftest id outcome) := rfl
theorem instrNop (core : Nat) : Statement (.instrNop core) := congrArg some (opcode_wordJ _ _)
theorem endPhase (core : Nat) : Statement (.endPhase core) := congrArg some (opcode_wordJ _ _)
theorem jmp (core : Nat) (off : BitVec 24) : Statement (.jmp core off) := congrArg some (opcode_wordJ _ _)
theorem bz (core : Nat) (a : BitVec 5) (off : BitVec 19) : Statement (.bz core a off) := congrArg some (opcode_wordL _ _ _)
theorem bnz (core : Nat) (a : BitVec 5) (off : BitVec 19) : Statement (.bnz core a off) := congrArg some (opcode_wordL _ _ _)
theorem blt (core : Nat) (a : BitVec 5) (b : BitVec 5) (off : BitVec 14) : Statement (.blt core a b off) := congrArg some (opcode_wordI _ _ _ _)
theorem loop (core : Nat) (a : BitVec 5) (off : BitVec 19) : Statement (.loop core a off) := congrArg some (opcode_wordL _ _ _)
theorem add (core : Nat) (a : BitVec 5) (b : BitVec 5) (c : BitVec 5) : Statement (.add core a b c) := congrArg some (opcode_wordR _ _ _ _ _)
theorem sub (core : Nat) (a : BitVec 5) (b : BitVec 5) (c : BitVec 5) : Statement (.sub core a b c) := congrArg some (opcode_wordR _ _ _ _ _)
theorem and (core : Nat) (a : BitVec 5) (b : BitVec 5) (c : BitVec 5) : Statement (.and core a b c) := congrArg some (opcode_wordR _ _ _ _ _)
theorem or (core : Nat) (a : BitVec 5) (b : BitVec 5) (c : BitVec 5) : Statement (.or core a b c) := congrArg some (opcode_wordR _ _ _ _ _)
theorem xor (core : Nat) (a : BitVec 5) (b : BitVec 5) (c : BitVec 5) : Statement (.xor core a b c) := congrArg some (opcode_wordR _ _ _ _ _)
theorem shl (core : Nat) (a : BitVec 5) (b : BitVec 5) (c : BitVec 5) : Statement (.shl core a b c) := congrArg some (opcode_wordR _ _ _ _ _)
theorem shr (core : Nat) (a : BitVec 5) (b : BitVec 5) (c : BitVec 5) : Statement (.shr core a b c) := congrArg some (opcode_wordR _ _ _ _ _)
theorem sra (core : Nat) (a : BitVec 5) (b : BitVec 5) (c : BitVec 5) : Statement (.sra core a b c) := congrArg some (opcode_wordR _ _ _ _ _)
theorem addi (core : Nat) (a : BitVec 5) (b : BitVec 5) (imm : BitVec 14) : Statement (.addi core a b imm) := congrArg some (opcode_wordI _ _ _ _)
theorem movi (core : Nat) (a : BitVec 5) (imm : BitVec 19) : Statement (.movi core a imm) := congrArg some (opcode_wordL _ _ _)
theorem movhi (core : Nat) (a : BitVec 5) (imm : BitVec 16) : Statement (.movhi core a imm) := congrArg some (opcode_wordL _ _ _)
theorem mvs (core : Nat) (acc : BitVec 3) (b : BitVec 5) (row : BitVec 3) : Statement (.mvs core acc b row) := congrArg some (opcode_wordR _ _ _ _ _)
theorem mvw (core : Nat) (acc : BitVec 3) (b : BitVec 4) (c : BitVec 4) (row : BitVec 3) (n : BitVec 3) : Statement (.mvw core acc b c row n) := congrArg some (opcode_wordR _ _ _ _ _)
theorem mop (core : Nat) (acc : BitVec 3) (b : BitVec 4) (c : BitVec 4) (n : BitVec 3) (m : BitVec 3) : Statement (.mop core acc b c n m) := congrArg some (opcode_wordR _ _ _ _ _)
theorem aclr (core : Nat) (acc : BitVec 3) : Statement (.aclr core acc) := congrArg some (opcode_wordR _ _ _ _ _)
theorem fdp (core : Nat) (a : BitVec 5) : Statement (.fdp core a) := congrArg some (opcode_wordR _ _ _ _ _)
theorem finca (core : Nat) (denseOff : Bool) : Statement (.finca core denseOff) := congrArg some (opcode_wordR _ _ _ _ _)
theorem ldf (core : Nat) (a : BitVec 5) (b : BitVec 5) : Statement (.ldf core a b) := congrArg some (opcode_wordR _ _ _ _ _)
theorem updc (core : Nat) : Statement (.updc core) := congrArg some (opcode_wordJ _ _)
theorem updm (core : Nat) (a : BitVec 5) (b : BitVec 4) (n : BitVec 3) : Statement (.updm core a b n) := congrArg some (opcode_wordR _ _ _ _ _)
theorem rlxc (core : Nat) : Statement (.rlxc core) := congrArg some (opcode_wordJ _ _)
theorem draw (core : Nat) (a : BitVec 5) (b : BitVec 5) : Statement (.draw core a b) := congrArg some (opcode_wordR _ _ _ _ _)
theorem mask (core : Nat) (a : BitVec 4) (b : BitVec 5) (c : BitVec 5) (n : BitVec 3) : Statement (.mask core a b c n) := congrArg some (opcode_wordR _ _ _ _ _)
theorem sievec (core : Nat) : Statement (.sievec core) := congrArg some (opcode_wordJ _ _)
theorem ldk (core : Nat) (a : BitVec 5) (b : BitVec 5) (imm : BitVec 14) : Statement (.ldk core a b imm) := congrArg some (opcode_wordI _ _ _ _)
theorem stk (core : Nat) (a : BitVec 5) (b : BitVec 5) (imm : BitVec 14) : Statement (.stk core a b imm) := congrArg some (opcode_wordI _ _ _ _)
theorem ldw (core : Nat) (a : BitVec 4) (b : BitVec 5) (imm : BitVec 14) : Statement (.ldw core a b imm) := congrArg some (opcode_wordI _ _ _ _)
theorem stw (core : Nat) (a : BitVec 4) (b : BitVec 5) (imm : BitVec 14) : Statement (.stw core a b imm) := congrArg some (opcode_wordI _ _ _ _)
theorem ldsl (core : Nat) (a : BitVec 4) (b : BitVec 5) (imm : BitVec 14) : Statement (.ldsl core a b imm) := congrArg some (opcode_wordI _ _ _ _)
theorem stsl (core : Nat) (a : BitVec 4) (b : BitVec 5) (imm : BitVec 14) : Statement (.stsl core a b imm) := congrArg some (opcode_wordI _ _ _ _)
theorem wget (core : Nat) (a : BitVec 5) (b : BitVec 4) (n : BitVec 4) : Statement (.wget core a b n) := congrArg some (opcode_wordR _ _ _ _ _)
theorem wput (core : Nat) (a : BitVec 4) (b : BitVec 5) (n : BitVec 4) : Statement (.wput core a b n) := congrArg some (opcode_wordR _ _ _ _ _)
theorem accst (core : Nat) (acc : BitVec 3) (b : BitVec 5) : Statement (.accst core acc b) := congrArg some (opcode_wordR _ _ _ _ _)
theorem smsg (core : Nat) : Statement (.smsg core) := congrArg some (opcode_wordJ _ _)
theorem bcst (core : Nat) (a : BitVec 4) : Statement (.bcst core a) := congrArg some (opcode_wordR _ _ _ _ _)
theorem brcv (core : Nat) (a : BitVec 4) (pass : Bool) : Statement (.brcv core a pass) := congrArg some (opcode_wordR _ _ _ _ _)
theorem sig (core : Nat) (a : BitVec 5) (count : BitVec 9) : Statement (.sig core a count) := congrArg some (opcode_wordR _ _ _ _ _)
theorem wait (core : Nat) (a : BitVec 5) : Statement (.wait core a) := congrArg some (opcode_wordR _ _ _ _ _)
theorem pdone (core : Nat) : Statement (.pdone core) := congrArg some (opcode_wordJ _ _)
theorem redi (core : Nat) (a : BitVec 5) (b : BitVec 5) (c : BitVec 5) : Statement (.redi core a b c) := congrArg some (opcode_wordR _ _ _ _ _)
theorem redf (core : Nat) (a : BitVec 5) (b : BitVec 5) (c : BitVec 4) (n : BitVec 4) : Statement (.redf core a b c n) := congrArg some (opcode_wordR _ _ _ _ _)
theorem reda (core : Nat) (acc : BitVec 3) (b : BitVec 5) (c : BitVec 5) : Statement (.reda core acc b c) := congrArg some (opcode_wordR _ _ _ _ _)
theorem fpr (core : Nat) : Statement (.fpr core) := congrArg some (opcode_wordJ _ _)
theorem stateMessage (m : StateMsg) : Statement (.stateMessage m) := rfl
theorem broadcastVector (m : BcastMsg) : Statement (.broadcastVector m) := rfl
theorem sieveRequest (cluster : Nat) : Statement (.sieveRequest cluster) := rfl
theorem reductionPartial (m : PartialMsg) : Statement (.reductionPartial m) := rfl
theorem groupValue (m : GroupMsg) : Statement (.groupValue m) := rfl
theorem closeToken (m : CloseMsg) : Statement (.closeToken m) := rfl
theorem exchangeEnergy (m : EnergyMsg) : Statement (.exchangeEnergy m) := rfl
theorem freeze (slot : Nat) (module : Nat) (hard : Bool) : Statement (.freeze slot module hard) := rfl
theorem freezeReply (slot : Nat) (module : Nat) (part : Nat) (highest : Nat) : Statement (.freezeReply slot module part highest) := rfl
theorem limit (slot : Nat) (module : Nat) (epochLimit : Nat) : Statement (.limit slot module epochLimit) := rfl
theorem drained (slot : Nat) (module : Nat) (part : Nat) : Statement (.drained slot module part) := rfl
theorem faultNotice (slot : Nat) (module : Nat) (status : Nat) : Statement (.faultNotice slot module status) := rfl
theorem ckptDone (slot : Nat) (module : Nat) (part : Nat) (epoch : Nat) : Statement (.ckptDone slot module part epoch) := rfl
theorem ckptCommit (slot : Nat) (module : Nat) (epoch : Nat) : Statement (.ckptCommit slot module epoch) := rfl
theorem hello (port : Nat) (m : LockMsg) : Statement (.hello port m) := rfl
theorem fp (port : Nat) (m : LockMsg) : Statement (.fp port m) := rfl
theorem halt (port : Nat) (m : LockMsg) : Statement (.halt port m) := rfl
theorem lsEnd (port : Nat) (m : LockMsg) : Statement (.lsEnd port m) := rfl
theorem syncObjectSignal (m : SyncSignal) : Statement (.syncObjectSignal m) := rfl
theorem waiterRegistration (m : WaitReg) : Statement (.waiterRegistration m) := rfl
theorem waiterNotice (w : Waiter) (object : Nat) (generation : Nat) : Statement (.waiterNotice w object generation) := rfl
theorem colanderPacket (core : Nat) (item : ColanderItem) : Statement (.colanderPacket core item) := rfl
theorem fencedNotice (cluster : Nat) (core : Nat) (slot : Nat) : Statement (.fencedNotice cluster core slot) := rfl
theorem routerPacket (cluster : Nat) (input : Nat) (pkt : Packet) : Statement (.routerPacket cluster input pkt) := rfl
theorem coreHandshake (core : Nat) : Statement (.coreHandshake core) := rfl
theorem routerHandshake (cluster : Nat) (part : Nat) : Statement (.routerHandshake cluster part) := rfl
theorem agentTickTimeout (cluster : Nat) : Statement (.agentTickTimeout cluster) := rfl
theorem watchdogTick : Statement (.watchdogTick) := rfl
theorem memoryRead (address : Nat) : Statement (.memoryRead address) := rfl
theorem memoryWrite (address : Nat) (bytes : List Byte) : Statement (.memoryWrite address bytes) := rfl
theorem scrubRead (station : Nat) : Statement (.scrubRead station) := rfl
theorem arbiterPass : Statement (.arbiterPass) := rfl
theorem deferredTestRun (outcome : TestOutcome) : Statement (.deferredTestRun outcome) := rfl
theorem sqTail (queue : Nat) (v : Word) : Statement (.sqTail queue v) := rfl
theorem cqHead (queue : Nat) (v : Word) : Statement (.cqHead queue v) := rfl
theorem run (queue : Nat) (page : Page) (v : Word) : Statement (.run queue page v) := rfl
theorem winOpen (page : Page) (v : Word) : Statement (.winOpen page v) := rfl
theorem cfgUpdate (v : Word) : Statement (.cfgUpdate v) := rfl
theorem mbxSel (page : Page) (v : Word) : Statement (.mbxSel page v) := rfl
theorem capture (v : Word) : Statement (.capture v) := rfl
theorem mailboxCaptureDone : Statement (.mailboxCaptureDone) := rfl
theorem indDataRead : Statement (.indDataRead) := rfl
theorem indDataWrite (v : Word) : Statement (.indDataWrite v) := rfl
theorem indNoAnswer (write : Bool) : Statement (.indNoAnswer write) := rfl
theorem supAccessTimeout (write : Bool) : Statement (.supAccessTimeout write) := rfl
theorem take (lock : Nat) (v : Word) : Statement (.take lock v) := rfl
theorem release (lock : Nat) (v : Word) : Statement (.release lock v) := rfl
theorem debugLock (page : Page) : Statement (.debugLock page) := rfl
theorem testLock (page : Page) : Statement (.testLock page) := rfl
theorem counterLock (page : Page) : Statement (.counterLock page) := rfl
theorem entropyLock (page : Page) : Statement (.entropyLock page) := rfl
theorem supplyLock (page : Page) : Statement (.supplyLock page) := rfl
theorem cordLock (page : Page) : Statement (.cordLock page) := rfl
theorem portLock (page : Page) : Statement (.portLock page) := rfl
theorem coreLock (page : Page) : Statement (.coreLock page) := rfl
theorem windowLock (page : Page) : Statement (.windowLock page) := rfl
theorem queueLock (page : Page) : Statement (.queueLock page) := rfl
theorem irqEnable (page : Page) (v : Word) : Statement (.irqEnable page v) := rfl
theorem hold (page : Page) (v : Word) : Statement (.hold page v) := rfl
theorem clearAll (page : Page) (v : Word) : Statement (.clearAll page v) := rfl
theorem freezeAll (page : Page) (v : Word) : Statement (.freezeAll page v) := rfl
theorem tagRun (page : Page) (v : Word) : Statement (.tagRun page v) := rfl
theorem rbRun (page : Page) (v : Word) : Statement (.rbRun page v) := rfl
theorem mgRingRun (v : Word) : Statement (.mgRingRun v) := rfl
theorem mgSqTail (v : Word) : Statement (.mgSqTail v) := rfl
theorem mgCqHead (v : Word) : Statement (.mgCqHead v) := rfl
theorem registerWrite (space : RegSpace) (offset : Nat) (v : Word) : Statement (.registerWrite space offset v) := rfl
theorem bar4Read (offset : Nat) (len : Nat) : Statement (.bar4Read offset len) := rfl
theorem bar4Write (offset : Nat) (bytes : List Byte) (ep : Bool) : Statement (.bar4Write offset bytes ep) := rfl
theorem bar4Timeout (tag : Nat) : Statement (.bar4Timeout tag) := rfl
theorem bar4Resize (log2 : Nat) : Statement (.bar4Resize log2) := rfl
theorem smbusRead (len : Nat) : Statement (.smbusRead len) := rfl
theorem smbusOffsetWrite (v : Byte) : Statement (.smbusOffsetWrite v) := rfl
theorem debugRequest (r : DebugReq) : Statement (.debugRequest r) := rfl
theorem flr : Statement (.flr) := rfl
theorem mgmtPerstN (flr : Bool) (level : Bool) : Statement (.mgmtPerstN flr level) := rfl
theorem warmReset : Statement (.warmReset) := rfl
theorem perstNRelease : Statement (.perstNRelease) := rfl
theorem alignedRelease : Statement (.alignedRelease) := rfl
theorem aux3v3Valid (boot : BootOutcome) : Statement (.aux3v3Valid boot) := rfl
theorem aux3v3Loss : Statement (.aux3v3Loss) := rfl
theorem main54vQualify (bist : BistOutcome) : Statement (.main54vQualify bist) := rfl
theorem memoryTrainingDone (failed : List Nat) : Statement (.memoryTrainingDone failed) := rfl
theorem trialTimeout : Statement (.trialTimeout) := rfl
theorem vsagWarn : Statement (.vsagWarn) := rfl
theorem vsagWarnDeassert : Statement (.vsagWarnDeassert) := rfl
theorem vsagReset : Statement (.vsagReset) := rfl
theorem vcoreLow : Statement (.vcoreLow) := rfl
theorem main54vHigh : Statement (.main54vHigh) := rfl
theorem thermalTrip : Statement (.thermalTrip) := rfl
theorem thermalCrit : Statement (.thermalCrit) := rfl
theorem powerMeasurement (mW : Nat) : Statement (.powerMeasurement mW) := rfl
theorem capBoundary : Statement (.capBoundary) := rfl
theorem thermalBoundary (tj : List Int) : Statement (.thermalBoundary tj) := rfl
theorem localCounterCopy : Statement (.localCounterCopy) := rfl
theorem telemetrySample (sample : TelemetryIn) : Statement (.telemetrySample sample) := rfl
theorem cordPresent (port : Nat) (kind : Nat) : Statement (.cordPresent port kind) := rfl
theorem cordRemoved (port : Nat) : Statement (.cordRemoved port) := rfl
theorem cordAnswer (port : Nat) (answer : CordAnswer) : Statement (.cordAnswer port answer) := rfl
theorem cordNoAnswer (port : Nat) : Statement (.cordNoAnswer port) := rfl
theorem lanesTrained (port : Nat) (lanes : Nat) : Statement (.lanesTrained port lanes) := rfl
theorem trainFail (port : Nat) : Statement (.trainFail port) := rfl
theorem alignmentFrame (port : Nat) (frame : AlignFrame) : Statement (.alignmentFrame port frame) := rfl
theorem dataFrame (port : Nat) (frame : DataFrame) : Statement (.dataFrame port frame) := rfl
theorem nakRepeat (port : Nat) : Statement (.nakRepeat port) := rfl
theorem frameSend (port : Nat) : Statement (.frameSend port) := rfl
theorem laneLockLoss (port : Nat) (lane : Nat) : Statement (.laneLockLoss port lane) := rfl
theorem retrainDone (port : Nat) (lanes : Nat) : Statement (.retrainDone port lanes) := rfl
theorem retrainFail (port : Nat) : Statement (.retrainFail port) := rfl
theorem peerDisabled (port : Nat) : Statement (.peerDisabled port) := rfl
theorem packetRoute (port : Nat) (destModule : Nat) (hops : Nat) (poison : Bool) (m : Msg) : Statement (.packetRoute port destModule hops poison m) := rfl
theorem broadcastReceive (port : Nat) (r : Request) (hops : Nat) : Statement (.broadcastReceive port r hops) := rfl
theorem remoteRead (r : Request) : Statement (.remoteRead r) := rfl
theorem remoteWrite (r : Request) : Statement (.remoteWrite r) := rfl
theorem remoteAdd (r : Request) : Statement (.remoteAdd r) := rfl
theorem remoteMaxu (r : Request) : Statement (.remoteMaxu r) := rfl
theorem remoteMaxs (r : Request) : Statement (.remoteMaxs r) := rfl
theorem remoteCas (r : Request) : Statement (.remoteCas r) := rfl
theorem remoteBulkRead (r : Request) : Statement (.remoteBulkRead r) := rfl
theorem remoteBulkWrite (r : Request) : Statement (.remoteBulkWrite r) := rfl
theorem remoteSignal (r : Request) : Statement (.remoteSignal r) := rfl
theorem remoteWaitReg (r : Request) : Statement (.remoteWaitReg r) := rfl
theorem remoteResponse (r : Response) : Statement (.remoteResponse r) := rfl
theorem requestTimeout (tag : Nat) : Statement (.requestTimeout tag) := rfl
theorem remoteFence (unit : Nat) : Statement (.remoteFence unit) := rfl
theorem cordRecordPoll (port : Nat) (record : List Byte) : Statement (.cordRecordPoll port record) := rfl
theorem vcordOvercurrent (port : Nat) : Statement (.vcordOvercurrent port) := rfl
theorem entropyStartupRound (blocks : List (List RawBlock)) : Statement (.entropyStartupRound blocks) := rfl
theorem entropyBlock (pair : Nat) (block : RawBlock) : Statement (.entropyBlock pair block) := rfl
theorem entropyServe : Statement (.entropyServe) := rfl
theorem signatureDone (signature : List Byte) : Statement (.signatureDone signature) := rfl
theorem hostMemoryCompletion (tag : Nat) (r : ReadResult) : Statement (.hostMemoryCompletion tag r) := rfl
theorem vcoreRampDone : Statement (.vcoreRampDone) := rfl
theorem d3hotTransition (d3hot : Bool) : Statement (.d3hotTransition d3hot) := rfl
theorem managementLockAccess (lock : Nat) (tag : Nat) (release : Bool) : Statement (.managementLockAccess lock tag release) := rfl
theorem hostLinkChange (speed : Nat) (width : Nat) (flit : Bool) : Statement (.hostLinkChange speed width flit) := rfl

end Sys2Proof.Laws.Opcode
end

