-- ==== Sys2Proof/Laws/Read.lean ====
section
/-! SUPPORT. Laws/Read.lean: what a read of HBM answers where no bit is flipped and every byte was written (R306, R324). -/

namespace Sys2Proof.Machine

/-- An address of HBM. -/
theorem regionOf_hbm {a : Nat} (h : a < 0x004800000000) : regionOf a = .hbm := by simp [regionOf, h]

/-- A read corrects nothing where no flipped bit lies in the unit. -/
theorem State.correctAll_clean {s : State} {a : Nat} (h : ∀ u ∈ s.upsets, u.correctable a = false) : s.correctAll a = s := by
  have : (s.upsets.filter fun u => u.correctable a) = [] := List.filter_eq_nil_iff.mpr fun u hu => by simp [h u hu]
  simp [State.correctAll, this]

/-- A station that held as many requests before notes no new peak. -/
theorem State.tracked_peak {s : State} {a : Nat} (h : (s.station (stationOf a)).inUse < (s.station (stationOf a)).peak) : s.tracked a = s := by
  simp only [State.tracked]
  rw [if_neg (by simp; omega)]

/-- An address of HBM lies in one of the six HBM stations. -/
theorem stationOf_hbm {a : Nat} (h : a < 0x004800000000) : stationOf a < 6 := by
  simp only [stationOf, if_pos (show a < larderBase by unfold larderBase; omega)]; omega

/-- A line of HBM with no flipped bit and every byte written reads as those bytes, and nothing changes. -/
theorem State.readUnit_hbm {s : State} {a flags : Nat} {bs : List Byte} (hu : s.upsets = []) (ha : a + 64 ≤ 0x004800000000)
    (hl : bs.length = 64) (hb : ∀ i, i < 64 → s.byteAt (a + i) = bs[i]?) : s.readUnit a flags = (s, some bs) := by
  have hn : unitSize a = 64 := by simp [unitSize, regionOf_hbm (show a < 0x004800000000 by omega), Region.lined]
  have h1 : s.upsetAt a = false := by simp [State.upsetAt, hu]
  have h2 : s.correctAll a = s := State.correctAll_clean (by simp [hu])
  have h3 : ((List.range 64).all fun i => (s.byteAt (a + i)).isSome) = true := by
    simp only [List.all_eq_true, List.mem_range]
    intro i hi
    rw [hb i hi, List.getElem?_eq_getElem (by omega)]; rfl
  have h4 : s.unitData a 64 = bs := by
    apply List.ext_getElem
    · simp [State.unitData, hl]
    · intro i hi hj
      simp only [State.unitData, List.getElem_map, List.getElem_range, hb i (by omega), List.getElem?_eq_getElem hj]
  simp only [State.readUnit, hn, h1, h2, h3, h4, if_true, if_false, Bool.false_eq_true]

/-- Lines of HBM with no flipped bit and every byte written, at stations whose peak is noted, read as those bytes, and nothing changes. -/
theorem State.readUnits_hbm {s : State} {flags : Nat} (hu : s.upsets = []) (hp : ∀ n, n < 6 → (s.station n).inUse < (s.station n).peak) : ∀ (k a : Nat) (bs : List Byte),
    a + 64 * k ≤ 0x004800000000 → bs.length = 64 * k → (∀ i, i < 64 * k → s.byteAt (a + i) = bs[i]?) →
    s.readUnits flags a k = (s, some bs)
  | 0, a, bs, _, hl, _ => by simp [State.readUnits, List.length_eq_zero_iff.mp (by omega : bs.length = 0)]
  | k + 1, a, bs, ha, hl, hb => by
    have hn : unitSize a = 64 := by simp [unitSize, regionOf_hbm (show a < 0x004800000000 by omega), Region.lined]
    have h1 : s.readUnit a flags = (s, some (bs.take 64)) :=
      readUnit_hbm hu (by omega) (by simp; omega) fun i hi => by rw [hb i (by omega), List.getElem?_take_of_lt hi]
    have h2 : s.readUnits flags (a + 64) k = (s, some (bs.drop 64)) :=
      readUnits_hbm hu hp k (a + 64) (bs.drop 64) (by omega) (by simp; omega) fun i hi => by
        rw [List.getElem?_drop, ← hb (64 + i) (by omega), Nat.add_assoc]
    have h3 : s.tracked a = s := State.tracked_peak (hp _ (stationOf_hbm (by omega)))
    simp only [State.readUnits, h3, h1, hn, h2, List.take_append_drop]

/-- Whole lines of HBM with no flipped bit and every byte written, at stations whose peak is noted, read as those bytes, and nothing
changes. -/
theorem State.readLocal_hbm {s : State} {a k : Nat} {bs : List Byte} (hu : s.upsets = []) (hp : ∀ n, n < 6 → (s.station n).inUse < (s.station n).peak)
    (hm : a % 64 = 0)
    (ha : a + 64 * k ≤ 0x004800000000) (hk : 0 < k) (hl : bs.length = 64 * k) (hb : ∀ i, i < 64 * k → s.byteAt (a + i) = bs[i]?) :
    s.readLocal a (64 * k) = (s, some bs) := by
  have hn : unitSize a = 64 := by simp [unitSize, regionOf_hbm (show a < 0x004800000000 by omega), Region.lined]
  have h1 : a / 64 * 64 = a := by omega
  have h2 : roundUp 64 (a + 64 * k - a) / 64 = k := by simp only [roundUp]; omega
  simp only [State.readLocal, hn, h1, h2, State.readUnits_hbm hu hp k a bs ha hl hb, Nat.sub_self, slice, List.drop_zero]
  rw [List.take_of_length_le (by omega)]

end Sys2Proof.Machine
end

