-- ==== Sys2Proof/Tests/Slice0.lean ====
section
/-! SUPPORT. Tests/Slice0.lean: small tests of the model, and a witness for the hypotheses of each statement. -/

namespace Sys2Proof.Tests

open Machine

set_option Elab.async false

/-! ### Well-formedness: a term that each check refuses -/

/-- A state message of two binary members. -/
def message : StateMsg :=
  { configTag := 0, epoch := 0, phase := 0, kind := .binary, prologue := false, empty := false, runGen := 0, keyBase := 0, srcPart := 0,
    srcVarBase := 0, destBlock := 0, replica := 0, newRung := 0, destPart := 0, destSlot := 0, destModule := 0, member := [0, 1],
    vals := [1, -1], flip := [true, false] }
/-- A broadcast vector of slot 0. -/
def vector : BcastMsg := { slot := 0, replica := 0, block := 0, epoch := 0, phase := 0, runGen := 0, data := 7 }
/-- A lock-step message of slot 0. -/
def lockMessage : LockMsg := { slot := 0, digest := List.replicate 32 0, value := 1, epoch := 0, replica := 0, phase := 0, cause := 0 }
/-- A request of module 5 for the word at local address 0x1000 of module 0. -/
def request : Request :=
  { op := .read, address := 0x1000, operandA := 0, operandB := 0, srcModule := 5, tag := 3, linesM1 := 0, runGen := 0, epoch := 0, data := [] }
/-- A packet of one flit for a cluster. -/
def packet (vc dest : Nat) : Packet :=
  { vc := vc, destCluster := dest, destPort := 0, poison := false, flits := [.good], payload := none }
/-- A data frame of idle slots. -/
def idleFrame : DataFrame := { slots := List.replicate 20 idleSlot, corrected := [], bad := [] }
/-- What a telemetry sample brings. -/
def sampleIn : TelemetryIn := { mainMv := 54000, auxMv := 3300, vcoreMv := 750, inlet := 400, outlet := 500, tj := [900, 900, 900, 900] }

/-- The last core, cluster and queue, port, lock, pair and station exist (R18, R28, R334, R389, R487, R504). -/
theorem test_wellFormed_last_units : (Instr.instrNop 9215).wellFormed ∧ (Instr.sieveRequest 143).wellFormed ∧ (Instr.sqTail 63 0).wellFormed ∧
    (Instr.cordRemoved 11).wellFormed ∧ (Instr.take 31 0).wellFormed ∧ (Instr.scrubRead 9).wellFormed ∧
    (Instr.memoryWrite 0x0047FFFFFFFF [0]).wellFormed ∧ (Instr.stateMessage message).wellFormed ∧
    (Instr.routerPacket 0 1 (packet 0 143)).wellFormed := by decide
theorem test_wellFormed_core : (Instr.instrNop 9216).wellFormed = false := by decide
theorem test_wellFormed_cluster : (Instr.sieveRequest 144).wellFormed = false ∧ (Instr.agentTickTimeout 144).wellFormed = false ∧
    (Instr.fencedNotice 144 0 0).wellFormed = false ∧ (Instr.routerHandshake 0 3).wellFormed = false ∧
    (Instr.routerHandshake 144 0).wellFormed = false ∧ (Instr.routerPacket 144 4 (packet 0 0)).wellFormed = false ∧
    (Instr.routerPacket 0 0 (packet 0 0)).wellFormed = false := by decide
theorem test_wellFormed_memory : (Instr.memoryRead 0x004800000000).wellFormed = false ∧ (Instr.memoryWrite 0 []).wellFormed = false ∧
    (Instr.memoryWrite 0x0047FFFFFFFF [0, 0]).wellFormed = false ∧ (Instr.scrubRead 6).wellFormed = false := by decide
theorem test_wellFormed_queue : (Instr.sqTail 64 0).wellFormed = false ∧ (Instr.cqHead 64 0).wellFormed = false ∧
    (Instr.run 64 .value 0).wellFormed = false := by decide
theorem test_wellFormed_lock : (Instr.take 32 0).wellFormed = false ∧ (Instr.release 32 0).wellFormed = false ∧
    (Instr.managementLockAccess 32 0 false).wellFormed = false := by decide
theorem test_wellFormed_port : (Instr.hello 12 lockMessage).wellFormed = false ∧ (Instr.cordPresent 12 1).wellFormed = false ∧
    (Instr.frameSend 12).wellFormed = false ∧ (Instr.dataFrame 12 idleFrame).wellFormed = false ∧
    (Instr.broadcastReceive 13 request 0).wellFormed = false := by decide
theorem test_wellFormed_pair_and_debug : (Instr.entropyBlock 4 { samples := List.replicate 128 0 }).wellFormed = false ∧
    (Instr.debugRequest (.halt 5)).wellFormed = false := by decide
theorem test_wellFormed_messages : (Instr.stateMessage { message with destSlot := 48 }).wellFormed = false ∧
    (Instr.stateMessage { message with vals := [1] }).wellFormed = false ∧ (Instr.stateMessage { message with flip := [] }).wellFormed = false ∧
    (Instr.broadcastVector { vector with slot := 48 }).wellFormed = false ∧ (Instr.freeze 48 0 false).wellFormed = false ∧
    (Instr.fencedNotice 0 0 48).wellFormed = false ∧ (Instr.hello 0 { lockMessage with slot := 48 }).wellFormed = false ∧
    (Instr.fp 0 { lockMessage with digest := [] }).wellFormed = false := by decide
theorem test_wellFormed_packets : (Instr.routerPacket 0 4 { packet 0 0 with vc := 4 }).wellFormed = false ∧
    (Instr.routerPacket 0 4 { packet 0 0 with flits := [] }).wellFormed = false ∧ (Instr.remoteRead { request with linesM1 := 64 }).wellFormed = false ∧
    (Instr.remoteBulkWrite { request with op := .bulkWrite, data := [0] }).wellFormed = false := by decide
theorem test_wellFormed_registers : (Instr.registerWrite .bar0 2 0).wellFormed = false ∧ (Instr.bar4Read 0 0).wellFormed = false ∧
    (Instr.bar4Write 0 [] false).wellFormed = false ∧ (Instr.bar4Resize 35).wellFormed = false ∧ (Instr.bar4Resize 40).wellFormed = false ∧
    (Instr.smbusRead 0).wellFormed = false := by decide
theorem test_wellFormed_platform : (Instr.thermalBoundary [0]).wellFormed = false ∧
    (Instr.telemetrySample { sampleIn with tj := [] }).wellFormed = false ∧
    (Instr.cordAnswer 0 { chain := [], signature := [], record := [] }).wellFormed = false ∧
    (Instr.cordRecordPoll 0 []).wellFormed = false ∧ (Instr.laneLockLoss 0 8).wellFormed = false ∧
    (Instr.dataFrame 0 { idleFrame with slots := [] }).wellFormed = false ∧ (Instr.entropyStartupRound [[]]).wellFormed = false ∧
    (Instr.entropyBlock 0 { samples := [] }).wellFormed = false ∧ (Instr.signatureDone []).wellFormed = false := by decide

/-! ### Words and worked examples of the manual -/

/-- The program of the manual's example in 04_stage_programs.md, word by word (R116, R119, R121, R122, R126, R127). -/
theorem test_program_words : [0x30000000#32, 0x25000000#32, 0xA0000000#32, 0x70000000#32, 0x82000000#32, 0x01000000#32].map (decodeStage 3) =
    [some (.updc 3), some (.finca 3 false), some (.fpr 3), some (.smsg 3), some (.pdone 3), some (.endPhase 3)] := by decide
/-- Control and scalar words, field by field (R119, R120). -/
theorem test_control_words : decodeStage 0 0b00000011000010000000000000000101#32 = some (.bz 0 1 5) ∧
    decodeStage 0 0b00000110111110000000000000000001#32 = some (.loop 0 31 1) ∧
    decodeStage 0 0b00010001000010001000011000000000#32 = some (.sub 0 1 2 3) := by decide
/-- Memory words: kA or wA in the top field, kB, and a signed offset (R123, R124, R125). -/
theorem test_memory_words : encodeStage (.ldk 0 1 2 (-4)) ≠ encodeStage (.stk 0 1 2 (-4)) ∧
    (encodeStage (.ldk 0 1 2 (-4))).map (·.toNat % 2 ^ 24) = some 0b000010001011111111111100 := by decide
/-- A word with a bit set outside the fields of its instruction is no instruction (R117). -/
theorem test_unused_bits : decodeStage 0 0x30000001#32 = none ∧ decodeStage 0 0x82800000#32 = none ∧ decodeStage 0 0xFF000000#32 = none := by
  decide

/-- Hall address 0x002A_0100_0000_4000: module 42, local address 0x0100_0000_4000 (R10). -/
theorem test_hall_address : hallModule 0x002A010000004000 = 42 ∧ hallLocal 0x002A010000004000 = 0x010000004000 := by decide
/-- Core 1,298 lies in cluster 18, is its core 42, and its store begins at 0x0300_0512_0000 (R18, R78). -/
theorem test_core_place : clusterOf 1298 = 18 ∧ coreInCluster 1298 = 42 ∧ storeBase + 0x10000 * 1298 = 0x030005120000 := by decide
/-- Local address 0x0012_3456_7A40 is in HBM 1, at stack address 0x3_08B9_1A40 (R28, R308). -/
theorem test_memory_station : stationOf 0x001234567A40 = 1 ∧ stackAddress 0x001234567A40 = 0x308B91A40 := by decide
/-- The largest mesh distance from a cluster to the far corner (R283). -/
theorem test_mesh_links : meshLinks 143 0 = 22 ∧ meshLinks 0 143 = 22 ∧ meshLinks 18 18 = 0 := by decide

/-- The logistic argument of exponent -6 and field 13: B = 1.5 gives 156 / 256 in table steps, and less at a higher temperature; a large
field clips at 4,096 (R93). -/
theorem test_logistic_argument : logisticArg 0x180 13 (-6) = 156 ∧ logisticArg 0x10 13 (-6) = 6 ∧ logisticArg 0x30 13 (-6) = 20 ∧
    logisticArg 0x180 2000 (-6) = 4096 := by decide
/-- LOGISTIC[4252] = 0xA5D61B, the last entry 16,777,214 (R94). -/
theorem test_logistic_table : logistic 4252 = 0xA5D61B ∧ logistic 8192 = 16777214 := by decide +kernel
/-- The weight of distance one half (R186). -/
theorem test_weight : weight 128 = 10175896 ∧ weight 0 = 2 ^ 24 ∧ weight 4437 = 0 := by decide +kernel
/-- The Gipol stream from state 1: its first outputs, and the fifth state (R167, R168). -/
theorem test_gipol_stream : gipolOutput 1 = 0xB5A7C3D1 ∧ gipolOutput (gipolStep 1) = 0x9E4F6A2B ∧
    gipolStep (gipolStep (gipolStep (gipolStep 1))) = 0x28000005 ∧ gipolOutput 0x28000005 = 0x4D033BAE ∧
    gipolOutput (gipolStep 0x28000005) = 0xCF8D12D7 := by decide
/-- The sieve's worked example: states 1 and 4 survive top-k 3 and the nucleus; the draw picks 1, one with bit 31 set picks 4 (R187). -/
theorem test_sieve_draw : (sieveDraw [256, 512, 384, 0, 512] 0x100 3 0xC000 0x5B2E9047#32).1 = 1 ∧
    (sieveDraw [256, 512, 384, 0, 512] 0x100 3 0xC000 0xDB2E9047#32).1 = 4 := by decide +kernel
/-- The largest integer leaf as a pair of FP32 words (R202). -/
theorem test_leaf_pair : treeInt 0 (2 ^ 31 - 1) = .int (2 ^ 31 - 1) ∧ treeInt 8 (2 ^ 31 - 1) = .pair 0x4F000000 0xBF800000 := by
  decide +kernel

/-- The float tree of the worked example, group pairs 0 to 3 and its top (R201, R203). -/
theorem test_tree_nodes :
    let g := fun (l : List Word) => ((List.range l.length).zip l).map fun p => (p.1, unpackPair (p.2, 0))
    let groups := g [0x4B800000, 0x3F800000, 0x3F800000, 0xCB800000, 0x40400000, 0x3F000000, 0x4C000000, 0xCC000000]
    ((treeEval 1 (groups.take 2)).1.map packPair = some (0x4B800000, 0x3F800000)) ∧
      ((treeEval 1 (g [0x3F800000, 0xCB800000])).1.map packPair = some (0xCB7FFFFF, 0)) ∧
      ((treeEval 2 (groups.take 4)).1.map packPair = some (0x40000000, 0)) ∧
      ((treeEval 3 groups).1.map packPair = some (0x40B00000, 0)) := by decide +kernel
/-- Local 51 of the turbine block: couplings -3 and 2 from DENSE bytes 6,553 and 6,554, bias 4, field 13 (R80, R81). -/
theorem test_turbine_field :
    let m : Member := { replica := 0, block := 17, used := [], partners := [], old := [], energySent := none, closed := none, faulted := false,
                        scratchFree := none, stagingFree := none,
                        store := [(6553, 0x0D), (6554, 0x02), (0xD0CC, 0x0D), (0xD833, 0x04), (0xDA00 + 25, 0x02), (0xDA00 + 26, 0x01)] }
    m.dense 51 50 = -3 ∧ m.dense 51 52 = 2 ∧ m.bias 51 = 4 ∧ m.field 51 = 13 ∧ m.colour 50 = 2 ∧ m.colour 51 = 0 ∧ m.colour 52 = 1 := by decide
/-- The ladder's scaling of the exchange example: 256 by 12,288 / 2^14 is 192 (R156). -/
theorem test_rung_scaling : rhe (256 * 12288) 14 = 192 := by decide
/-- The next state of a command, or the state itself. -/
def after (i : Instr) (s : State) : State := match exec i s with | .next t => t | _ => s
/-- The supply example's module: the voltage applied, CAP, and ten measurements of a power before. -/
def supplied (mv cap mW : Nat) : State :=
  { State.reset with
    supply := { Supply.idle with appliedMv := mv, capMv := cap, samples := List.replicate 10 mW, sinceCut := 9, sumMw := 855000, sumCount := 1 }
    regs := { Regs.reset with live := [(0x07000C, 0x352)] } }
/-- The supply example: a measurement below 950 W raises 750 mV by 5; an average above 950 W at 805 mV cuts CAP to 755; at 755 mV a
millisecond at 855 W cuts it to 730 (R549). -/
theorem test_supply_example : (after (.powerMeasurement 840000) (supplied 750 850 840000)).supply.appliedMv = 755 ∧
    (after (.powerMeasurement 955000) (supplied 805 850 955000)).supply.capMv = 755 ∧
    (after .capBoundary (supplied 755 755 855000)).supply.capMv = 730 := by decide +kernel
/-- The queue example: Q_CTRL of queue 3 resets to 0x0044_000F; a strobe while the queue runs is refused, reason 1, domain 1, instance 3
(R398, R478, R479). -/
theorem test_queue_example :
    let s := { State.reset with queues := [(3, { Queue.idle with run := true })] }
    (regDesc 0x0300D8).map (·.reset) = some 0x0044000F ∧ (after (.cfgUpdate 0x00010003#32) s).regs.reject = 0x81010003#32 := by
  decide +kernel

/-- The head flit of a packet of two flits on channel 2 from anywhere to the last port of cluster 143, and its tail flit (R286). -/
theorem test_control_word_fields : ({ packet 2 143 with destPort := 100, flits := [.good, .good] } : Packet).controlWords =
    [0b10_1_0_0_10001111_1100100_00000001_0000#32, 0b10_0_1_0_00000000_0000000_00000000_0000#32] := by decide
/-- Bytes of the header flit of a state message: DEST_SLOT in byte 25, EPOCH in bytes 59 to 52, KIND in byte 50, MEMBERS_M1 in byte 48 (R234). -/
theorem test_state_header : let h := ({ message with destSlot := 47, epoch := 0x0102, kind := .relaxation } : StateMsg).header
    h / 256 ^ 25 % 256 = 47 ∧ h / 256 ^ 52 % 256 ^ 8 = 0x0102 ∧ h / 256 ^ 50 % 256 = 1 ∧ h / 256 ^ 48 % 256 = 1 := by decide
/-- A message followed by its parity is zero at every root of the generator (R343). -/
theorem test_codeword_roots : ∀ i ∈ List.range 14, wordAt ([1, 2, 1023] ++ rsParity [1, 2, 1023]) (symPow i) = 0 := by decide +kernel
/-- The powers of the root: α^10 = α^3 + 1, and α^1023 = 1 (R343). -/
theorem test_root_powers : symPow 10 = 9 ∧ symPow 1023 = 1 ∧ symPow 341 ≠ 1 := by decide +kernel
/-- Twenty-one stations, each at a cluster of its own (R291). -/
theorem test_station_places : stations.length = 21 ∧ (stations.map Station.cluster).Nodup ∧ ∀ t ∈ stations, t.cluster < 144 := by decide
/-- A subject "0000000000000007-A" names end A of serial 7 and no other (R376). -/
theorem test_cord_subject : let n := (List.replicate 15 0x30 ++ [0x37, 0x2D, 0x41] : List Byte)
    subjectNames n 7 0 = true ∧ subjectNames n 7 1 = false ∧ subjectNames n 8 0 = false := by decide
/-! ### Witnesses: steps, commands, stage programs

A witness meets the hypotheses of a statement in a concrete state. `issueOf` is core 0 of slot 0 at the first word of a program of
two words, an instruction and NOP, with one block-replica of two binary variables. -/

/-- The queue holds one command; the queue is empty. -/
theorem witness_StepRunsTheFrontCommand : State.reset.pending = [] := rfl
/-- A command of units that exist, one that steps a processor at the open debug port, one of a core that does not exist. -/
theorem witness_CommandsGoOn :
    ((Instr.watchdogTick).unitsExist = true ∧ State.reset.stepsProcessor .watchdogTick = false) ∧
    ((Instr.debugRequest (.step 4)).unitsExist = true ∧ State.reset.stepsProcessor (.debugRequest (.step 4)) = true) ∧
    (Instr.updc 9216).unitsExist = false ∧ exec (.updc 9216) State.reset = .next State.reset :=
  ⟨by decide, by decide, by decide, rfl⟩
/-- A command in the queue has its next state, from memories in canonical form. -/
theorem witness_StepKeepsMemory : ∃ s t : State, s.pending = [.powerMeasurement 840000, .watchdogTick] ∧ step s = .next t ∧ s.memorySafe = true :=
  ⟨{ State.reset with pending := [.powerMeasurement 840000, .watchdogTick] }, _, rfl, rfl, by decide⟩
/-- An instruction with a word, a word that decodes, and an opcode that no instruction has. -/
theorem witness_StageRoundTrip : encodeStage (.updc 7) = some 0x30000000#32 ∧ decodeStage 7 0x30000000#32 = some (.updc 7) ∧
    ∀ i, stageOpcode i ≠ some ((0xFF000000#32).extractLsb' 24 8) :=
  ⟨by decide, by decide, by intro i; cases i <;> simp [stageOpcode]⟩

/-- Two binary variables. -/
def binaryBlock : Block :=
  { varBase := 0, varCount := 2, exponent := 0, program := 0, categorical := false, noDense := false, edgeFirst := 0, edges := [],
    blob := [], colours := [0, 0], init := [] }
/-- An image of one block that runs an instruction and NOP. -/
def imageOf (ins : Instr) : Image :=
  { address := 0, size := 4096, relax := false, syncDynamics := false, layered := false, categorical := false, foreign := false,
    partIndex := 0, partCount := 1, modelVariables := 2, partVariables := 2, colourCount := 1, draws := 2, blocks := [binaryBlock],
    cats := [], factors := [], programs := [[(encodeStage ins).getD 0, 0]], curves := noCurves, programDigest := zeros 32,
    initDigest := zeros 32, modelDigest := zeros 32, imageDigest := zeros 32 }
/-- A RUNNING slot of that image, with trees 0 and 8 in use and handle 1 bound. -/
def slotOf (ins : Instr) : Slot :=
  { Slot.empty with state := .running, image := some (imageOf ins), replicas := 1, runs := 1, treeMask := 0x101, started := true,
                    handles := [(1, 0x040000004000)] }
/-- Block 0 of replica 0. -/
def memberOf : Member :=
  { replica := 0, block := 0, store := [(0xDA84, 2)], used := [], partners := [], old := [], energySent := none, closed := none,
    scratchFree := none, stagingFree := none, faulted := false }
/-- Epoch 0, phase 0, at the first word. -/
def runOf : Run :=
  { epoch := 0, phase := 0, member := 0, pc := 0, stage := 0, fprDone := false, smsgDone := false, pdone := false, pushed := [],
    queued := false, retired := 0, wait := .none }
/-- The issue of an instruction, with changes to the member, the run, the core and the slot. -/
def issueOf (ins : Instr) (m : Member → Member := id) (r : Run → Run := id) (co : Core → Core := id) (x : Slot → Slot := id) : Issue :=
  { n := 0, x := x (slotOf ins), r := r runOf, m := m memberOf
    co := co { Core.idle .enabled with
      slot := some 0, members := [m memberOf], run := some (r runOf), instrs := [(0, (encodeStage ins).getD 0)] } }
/-- A state in which core 0 has an issue next; its cluster holds block-replicas. -/
def running (i : Issue) : State :=
  { State.reset with slots := [(0, i.x)], cores := [(0, i.co)], clusters := [(0, { Cluster.idle with placed := true })] }
/-- A core with k2 set. -/
def withK2 (v : Word) (co : Core) : Core := { co with k := [(2, v)] }
/-- A core with k1, k2 and k3 set. -/
def withK (a b c : Word) (co : Core) : Core := { co with k := [(1, a), (2, b), (3, c)] }

/-- An instruction that its core has next, within the budget and in stage order, is ready. -/
theorem ready_of {i : Issue} {ins : Instr} {st : Option Nat} (h : (running i).issuing 0 ins = some i) (hr : i.r.retired < 2 ^ 24)
    (hs : i.r.stage ≤ st.getD i.r.stage) : (running i).ready 0 ins st i :=
  ⟨by decide, h, rfl, rfl, hr, hs⟩

theorem witness_ScalarInstructions : ∀ ins ∈ [Instr.add 0 1 2 3, .sub 0 1 2 3, .and 0 1 2 3, .or 0 1 2 3, .xor 0 1 2 3, .shl 0 1 2 3,
    .shr 0 1 2 3, .sra 0 1 2 3, .addi 0 1 2 (-8192), .movi 0 0 (-1), .movhi 0 31 0xFFFF],
    (issueOf ins).inProgram 1 ∧ (running (issueOf ins)).ready 0 ins none (issueOf ins) := by
  intro ins h
  simp only [List.mem_cons, List.not_mem_nil, or_false] at h
  rcases h with rfl | rfl | rfl | rfl | rfl | rfl | rfl | rfl | rfl | rfl | rfl <;>
    exact ⟨Nat.lt_add_one 1, ready_of rfl (by decide) (by decide)⟩
theorem witness_Branches : (∀ ins ∈ [Instr.instrNop 0, .jmp 0 0, .bz 0 1 0, .bnz 0 1 0, .blt 0 1 2 0, .loop 0 1 0],
      (issueOf ins).inProgram ((issueOf ins).pcAfter none) ∧ (issueOf ins).inProgram ((issueOf ins).pcAfter (some 0)) ∧
        (running (issueOf ins)).ready 0 ins none (issueOf ins)) ∧
    (running (issueOf (.endPhase 0))).ready 0 (.endPhase 0) none (issueOf (.endPhase 0)) := by
  refine ⟨fun ins h => ?_, ready_of rfl (by decide) (by decide)⟩
  simp only [List.mem_cons, List.not_mem_nil, or_false] at h
  rcases h with rfl | rfl | rfl | rfl | rfl | rfl <;>
    exact ⟨Nat.lt_add_one 1, Nat.lt_add_one 1, ready_of rfl (by decide) (by decide)⟩
/-- Rows and columns at the ends of their range. -/
theorem witness_RegisterFiles : ∃ n m n' m' : Nat, n < 8 ∧ m < 8 ∧ n' < 8 ∧ m' < 8 ∧ (n, m) ≠ (n', m') := ⟨7, 7, 0, 7, by decide⟩

/-- A core store with no flipped word. -/
theorem storeSound_running (i : Issue) (c : Nat) : (running i).storeSound c := fun _ _ => ⟨rfl, rfl⟩
/-- Accesses at the ends of the core store and of the writable range. -/
theorem witness_CoreStoreAccesses_done :
    (running (issueOf (.ldk 0 1 2 0))).storeSound 0 ∧
    (∀ p : Int, p ∈ [0, 0xFFFC] → storeFault p 4 4 false = none) ∧ (∀ p : Int, p ∈ [0xE000, 0xF7FC] → storeFault p 4 4 true = none) ∧
    (∀ p : Int, p ∈ [0, 0xFFC0] → storeFault p 64 64 false = none) ∧ (∀ p : Int, p ∈ [0xE000, 0xF7C0] → storeFault p 64 64 true = none) ∧
    (∀ p : Int, p ∈ [0xE000, 0xF700] → storeFault p 64 256 true = none) ∧
    (∀ ins ∈ [Instr.ldk 0 1 2 0, .stk 0 1 2 0, .ldw 0 1 2 0, .stw 0 1 2 0, .accst 0 1 2, .wget 0 1 2 15, .wput 0 1 2 15],
      let i := issueOf ins (co := withK2 0xE000)
      i.inProgram 1 ∧ (running i).ready 0 ins none i) := by
  refine ⟨storeSound_running _ _, by decide, by decide, by decide, by decide, by decide, fun ins h => ?_⟩
  simp only [List.mem_cons, List.not_mem_nil, or_false] at h
  rcases h with rfl | rfl | rfl | rfl | rfl | rfl | rfl <;>
    exact ⟨Nat.lt_add_one 1, ready_of rfl (by decide) (by decide)⟩
/-- Below and above the store, not aligned, and before and after the writable range. -/
theorem witness_CoreStoreAccesses_faults : ∀ e ∈ [(Instr.ldk 0 1 2 0, 0xFFFFFFFC#32), (.ldk 0 1 2 0, 0x10000#32), (.ldk 0 1 2 0, 2#32),
      (.stk 0 1 2 0, 0xDFFC#32), (.stk 0 1 2 0, 0xF800#32), (.ldw 0 1 2 0, 4#32), (.stw 0 1 2 0, 0xF800#32)],
    let i := issueOf e.1 (co := withK2 e.2)
    (running i).ready 0 e.1 none i := by
  intro e h
  simp only [List.mem_cons, List.not_mem_nil, or_false] at h
  rcases h with rfl | rfl | rfl | rfl | rfl | rfl | rfl <;> exact ready_of rfl (by decide) (by decide)
/-- The first and the last line of the window, one past it, and one not aligned. -/
theorem witness_CoreStoreAccesses_window : (∀ p : Int, p ∈ [0, 4032] → windowFault p = none) ∧
    (∀ ins ∈ [Instr.ldsl 0 1 2 0, .stsl 0 1 2 0], ∀ v ∈ [0#32, 4032#32, 4096#32, 0xFFFFFFC0#32, 4#32],
      let i := issueOf ins (co := withK2 v)
      i.inProgram 1 ∧ (running i).ready 0 ins none i) ∧
    (let i := issueOf (.ldsl 0 1 2 0)
     ∃ t bs, ((running i).setCore 0 (i.begun 0 none)).readLocal (windowAddr 0 0) 64 = (t, some bs)) := by
  refine ⟨by decide, fun ins h v hv => ?_, ?_⟩
  · simp only [List.mem_cons, List.not_mem_nil, or_false] at h hv
    rcases h with rfl | rfl <;> rcases hv with rfl | rfl | rfl | rfl | rfl <;>
      exact ⟨Nat.lt_add_one 1, ready_of rfl (by decide) (by decide)⟩
  · have h : (((running (issueOf (.ldsl 0 1 2 0))).setCore 0 ((issueOf (.ldsl 0 1 2 0)).begun 0 none)).readLocal (windowAddr 0 0) 64).2.isSome =
        true := by decide +kernel
    obtain ⟨bs, hb⟩ := Option.isSome_iff_exists.mp h
    exact ⟨_, bs, Prod.ext rfl hb⟩

/-- The last tile and one past it; every product instruction; values in range at the ends. -/
theorem witness_MacInstructions : (∀ v ∈ [1023#32, 1024#32], let i := issueOf (.mvs 0 1 2 7) (co := withK2 v)
      i.inProgram 1 ∧ (running i).ready 0 (.mvs 0 1 2 7) none i) ∧
    (∀ ins ∈ [Instr.mvw 0 1 2 3 7 7, .mop 0 1 2 3 7 7, .aclr 0 7], (issueOf ins).inProgram 1 ∧ (running (issueOf ins)).ready 0 ins none (issueOf ins)) ∧
    ∃ r k r' k' : Nat, r < 8 ∧ k < 8 ∧ r' < 8 ∧ k' < 8 := by
  refine ⟨fun v h => ?_, fun ins h => ?_, 0, 7, 7, 0, by decide⟩
  · simp only [List.mem_cons, List.not_mem_nil, or_false] at h
    rcases h with rfl | rfl <;> exact ⟨Nat.lt_add_one 1, ready_of rfl (by decide) (by decide)⟩
  · simp only [List.mem_cons, List.not_mem_nil, or_false] at h
    rcases h with rfl | rfl | rfl <;> exact ⟨Nat.lt_add_one 1, ready_of rfl (by decide) (by decide)⟩
/-- The last column group, one past it, one that was pushed; the field of the last variable and one past it. -/
theorem witness_FieldInstructions : (∀ v ∈ [0#32, 31#32, 32#32], let i := issueOf (.fdp 0 2) (r := fun r => { r with pushed := [0] }) (co := withK2 v)
      i.inProgram 1 ∧ (running i).ready 0 (.fdp 0 2) (some 3) i) ∧
    (∀ b : Bool, (running (issueOf (.finca 0 b))).ready 0 (.finca 0 b) (some 3) (issueOf (.finca 0 b))) ∧
    (∀ v ∈ [1#32, 2#32], let i := issueOf (.ldf 0 1 2) (co := withK2 v)
      (running i).ready 0 (.ldf 0 1 2) none i) ∧
    (memberOf.varCount ≤ 256 ∧ 255 < 256 ∧ 1 < memberOf.varCount) := by
  refine ⟨fun v h => ?_, fun b => ?_, fun v h => ?_, by decide⟩
  · simp only [List.mem_cons, List.not_mem_nil, or_false] at h
    rcases h with rfl | rfl | rfl <;> exact ⟨Nat.lt_add_one 1, ready_of rfl (by decide) (by decide)⟩
  · cases b <;> exact ready_of rfl (by decide) (by decide)
  · simp only [List.mem_cons, List.not_mem_nil, or_false] at h
    rcases h with rfl | rfl <;> exact ready_of rfl (by decide) (by decide)
/-- The first and the last index, with a draw left and with none. -/
theorem witness_GibbsUpdate : ∃ j k : Nat, j < 256 ∧ k < 256 ∧ j ≠ k ∧ 0 ≤ (memberOf.used.at j).getD 0 ∧ (memberOf.used.at j).getD 0 < 1 :=
  ⟨255, 0, by decide⟩

/-- A member with its variables in relaxation, and its curves. -/
def relaxing (x : Slot) : Slot := { x with curves := { noCurves with relax := some { dt := 1, a0 := 0, c := 1, interval := 100 } } }
theorem witness_StochasticInstructions_updates :
    (running (issueOf (.updc 0))).tableUpset 0 = false ∧
    (∀ ins ∈ [Instr.updc 0, .updm 0 2 1 7], ∀ v ∈ [64#32, 1#32], let i := issueOf ins (co := withK2 v)
      i.inProgram 1 ∧ (running i).ready 0 ins (some 2) i) ∧
    (let i := issueOf (.rlxc 0) (x := relaxing)
     i.x.curves.relax.isSome = true ∧ (running i).ready 0 (.rlxc 0) (some 2) i) := by
  refine ⟨rfl, fun ins h v hv => ?_, rfl, ready_of rfl (by decide) (by decide)⟩
  simp only [List.mem_cons, List.not_mem_nil, or_false] at h hv
  rcases h with rfl | rfl <;> rcases hv with rfl | rfl <;> exact ⟨Nat.lt_add_one 1, ready_of rfl (by decide) (by decide)⟩
/-- The last variable and one past it; no draw, one draw and two draws used of two; the largest probability and one past it. -/
theorem witness_StochasticInstructions_draws : ∀ ins ∈ [Instr.draw 0 1 2, .mask 0 1 2 3 7], ∀ v ∈ [1#32, 2#32], ∀ p ∈ [0xFFFF#32, 0x10000#32],
    ∀ u ∈ [0, 1, 2], let i := issueOf ins (m := fun m => { m with used := [(1, u)] }) (co := withK 0 v p)
      i.inProgram 1 ∧ i.m.varCount = 2 ∧ i.x.draws = 2 ∧ (running i).ready 0 ins (some 2) i := by
  intro ins h v hv p hp u hu
  simp only [List.mem_cons, List.not_mem_nil, or_false] at h hv hp hu
  rcases h with rfl | rfl <;> rcases hv with rfl | rfl <;> rcases hp with rfl | rfl <;> rcases hu with rfl | rfl | rfl <;>
    exact ⟨Nat.lt_add_one 1, by decide, by decide, ready_of rfl (by decide) (by decide)⟩
/-- Variable 0 as a categorical variable of two states. -/
def categories (x : Slot) : Slot :=
  { x with image := x.image.map fun g => { g with categorical := true, cats := [{ var := 0, states := 2, unary := [0, 0] }] } }
/-- A request of core 0 that waits in the sieve of cluster 0. -/
def sieveRequest : SieveReq := { core := 0, member := 0, index := 0, draw := 0x5B2E9047 }
/-- A member with variables to hand over, one with none; an empty queue, a sieve out of use, a request to serve; one log-potential. -/
theorem witness_SieveCommands :
    (let i := issueOf (.sievec 0)
     (running i).ready 0 (.sievec 0) (some 2) i ∧ i.inProgram 1 ∧
      ∃ m reqs, i.m.handAll i.x.draws (i.m.ofColour i.r.phase) = some (m, reqs) ∧ reqs ≠ []) ∧
    (let i := issueOf (.sievec 0) (r := fun r => { r with phase := 1 })
     (running i).ready 0 (.sievec 0) (some 2) i ∧ i.inProgram 1 ∧ i.m.handAll i.x.draws (i.m.ofColour i.r.phase) = some (i.m, [])) ∧
    (143 < 144 ∧ (State.reset.cluster 143).sieveQueue = [] ∧ (({ State.reset with clusters := [(143, { Cluster.idle with sieveOut := true })] }).cluster
      143).sieveOut = true) ∧
    (let i := issueOf (.sievec 0) (x := categories)
     let s := { running i with clusters := [(0, { Cluster.idle with sieveQueue := [sieveRequest] })] }
     (s.cluster 0).sieveQueue = sieveRequest :: [] ∧ (s.cluster 0).sieveOut = false ∧ .weight 0 ∉ s.upsets ∧ (s.core 0).slot = some 0 ∧
      (s.core 0).members[0]? = some i.m ∧ (s.core 0).run = some i.r ∧ (s.slot 0).image = i.x.image ∧ i.x.image.isSome = true ∧
      (i.x.image.bind fun g => g.cats.find? fun v => v.var = i.m.varBase + 0).isSome = true) ∧
    [(0 : Int)] ≠ [] := by
  refine ⟨⟨ready_of rfl (by decide) (by decide), Nat.lt_add_one 1, ?_⟩, ⟨ready_of rfl (by decide) (by decide), Nat.lt_add_one 1, rfl⟩,
    by decide, ?_, by decide⟩
  · exact ⟨_, _, rfl, by decide⟩
  · exact ⟨rfl, rfl, by decide, rfl, rfl, rfl, rfl, rfl, by decide⟩

/-- A slot with a second block, and an edge between the two. -/
def neighbours (x : Slot) : Slot :=
  { x with image := x.image.map fun g => { g with
      blocks := [{ binaryBlock with edges := [{ neighbour := 2, weight := 1, index := 0 }] },
                 { binaryBlock with varBase := 2, edges := [{ neighbour := 0, weight := 1, index := 0 }] }] } }
/-- A first and a second SMSG, alone and in a group; a first and a second FPR. -/
theorem witness_PhaseCompletion_messages :
    (∀ done : Bool, let i := issueOf (.smsg 0) (r := fun r => { r with smsgDone := done })
      (running i).ready 0 (.smsg 0) (some 4) i ∧ i.r.smsgDone = done ∧ i.inProgram 1 ∧ i.co.members.length = 1) ∧
    (let i := issueOf (.smsg 0) (co := fun co => { co with members := [memberOf, { memberOf with replica := 1 }] })
     (running i).ready 0 (.smsg 0) (some 4) i ∧ i.r.smsgDone = false ∧ i.inProgram 1 ∧ i.co.members.length ≠ 1) ∧
    (∀ done : Bool, let i := issueOf (.fpr 0) (r := fun r => { r with fprDone := done })
      (running i).ready 0 (.fpr 0) (some 3) i ∧ i.inProgram 1) := by
  refine ⟨fun b => ?_, ⟨ready_of rfl (by decide) (by decide), rfl, Nat.lt_add_one 1, by decide⟩, fun b => ?_⟩
  · cases b <;> exact ⟨ready_of rfl (by decide) (by decide), rfl, Nat.lt_add_one 1, rfl⟩
  · cases b <;> exact ⟨ready_of rfl (by decide) (by decide), Nat.lt_add_one 1⟩
/-- Each way PDONE is out of order, and PDONE in order. -/
theorem witness_PhaseCompletion_pdone :
    (let i := issueOf (.pdone 0) (r := fun r => { r with pdone := true })
     (running i).ready 0 (.pdone 0) (some 5) i ∧ i.r.pdone = true) ∧
    (let i := issueOf (.pdone 0)
     (running i).ready 0 (.pdone 0) (some 5) i ∧ i.r.fprDone = false) ∧
    (let i := issueOf (.pdone 0) (x := neighbours)
     (running i).ready 0 (.pdone 0) (some 5) i ∧ i.r.smsgDone = false ∧ (i.seen 0 (some 5)).destinations false ≠ []) ∧
    (let i := issueOf (.pdone 0) (m := fun m => { m with store := [(0xDA84, 2), (0xDAC0, 2)] })
     (running i).ready 0 (.pdone 0) (some 5) i ∧ i.m.kind ≠ 1 ∧ ∃ j, j < min i.m.varCount 256 ∧ i.m.flip j = true ∧ j / 8 ∉ i.r.pushed) ∧
    (let i := issueOf (.pdone 0) (r := fun r => { r with fprDone := true, smsgDone := true })
     (running i).ready 0 (.pdone 0) (some 5) i ∧ (i.seen 0 (some 5)).pdoneBreaks = false) := by
  refine ⟨⟨ready_of rfl (by decide) (by decide), rfl⟩, ⟨ready_of rfl (by decide) (by decide), rfl⟩,
    ⟨ready_of rfl (by decide) (by decide), rfl, by decide⟩, ⟨ready_of rfl (by decide) (by decide), by decide, 1, by decide⟩,
    ready_of rfl (by decide) (by decide), by decide +kernel⟩

/-- Room at the next core and none; a vector of the phase and none. -/
theorem witness_BroadcastVectors_issue :
    (let i := issueOf (.bcst 0 1)
     (running i).ready 0 (.bcst 0 1) none i ∧ (i.seen 0 none).roomNext ((running i).setCore 0 (i.begun 0 none)) = true ∧ i.inProgram 1) ∧
    (let i := issueOf (.bcst 0 1) (co := fun co => { co with vectors := List.replicate 4 vector })
     (running i).ready 0 (.bcst 0 1) none i ∧ (i.seen 0 none).roomNext ((running i).setCore 0 (i.begun 0 none)) = false) ∧
    (∀ pass : Bool, let i := issueOf (.brcv 0 1 pass) (co := fun co => { co with vectors := [vector] })
     (running i).ready 0 (.brcv 0 1 pass) none i ∧ (∃ v co, (i.seen 0 none).takeVector = some (v, co)) ∧ i.inProgram 1) ∧
    (let i := issueOf (.brcv 0 1 true)
     (running i).ready 0 (.brcv 0 1 true) none i ∧ (i.seen 0 none).takeVector = none) := by
  refine ⟨⟨ready_of rfl (by decide) (by decide), by decide, Nat.lt_add_one 1⟩, ⟨ready_of rfl (by decide) (by decide), by decide⟩, fun b => ?_,
    ready_of rfl (by decide) (by decide), rfl⟩
  cases b <;> exact ⟨ready_of rfl (by decide) (by decide), ⟨_, _, rfl⟩, Nat.lt_add_one 1⟩
/-- A vector of another run generation, one for a full core, one that is held, one that a BRCV waits for. -/
theorem witness_BroadcastVectors_arrive :
    let i := issueOf (.brcv 0 1 true) (r := fun r => { r with wait := .brcv })
    let s := running i
    (s.directory vector.slot vector.replica vector.block = some (0, 0)) ∧
    ({ vector with runGen := 1 } : BcastMsg).runGen ≠ (s.slot 0).runGen ∧
    (vector.runGen = (s.slot 0).runGen ∧ (s.core 0).vectors.length < 4) ∧
    (let t := running (issueOf (.brcv 0 1 true) (co := fun co => { co with vectors := List.replicate 4 vector }))
     t.directory 0 0 0 = some (0, 0) ∧ vector.runGen = (t.slot 0).runGen ∧ 4 ≤ (t.core 0).vectors.length) ∧
    (let t := running (issueOf (.brcv 0 1 true))
     ((t.arrive (.bcast vector)).setCore 0 { t.core 0 with vectors := [vector] }).waiting 0 = none) ∧
    ∃ j, ((s.arrive (.bcast vector)).setCore 0 { s.core 0 with vectors := [vector] }).waiting 0 = some j ∧ j.r.wait = .brcv ∧
      j.instr 0 = .brcv 0 1 true ∧ j.takeVector.isSome = true :=
  ⟨by decide, by decide, by decide, by decide, rfl, _, rfl, rfl, by decide, by decide⟩
/-- A general object in PLAIN mode with a threshold, counts and waiters. -/
def object : SyncObj :=
  { mode := 1, owner := 0, waitersNeed := 1, threshold := 2, generation := 0, count0 := 1, count1 := 0, waited0 := 0,
    waited1 := 0, bankEpoch := 0, target := 0, waiting := [], crossbar := [] }
/-- A state with an object as object 64 of cluster 0, at local address 0x0400_0000_4000. -/
def withObject (o : SyncObj) (s : State) : State := { s with clusters := [(0, { Cluster.idle with placed := true, objects := [(64, o)] })] }
/-- A slot whose handle 1 names an object of module 5. -/
def farHandle (x : Slot) : Slot := { x with handles := [(1, 0x0005040000004000)] }
/-- An unbound handle, one past the last, an object of this module with and without a window that the epoch lies beyond, one of another,
with a route to it and without. -/
theorem witness_SyncInstructions :
    (∀ ins ∈ [Instr.sig 0 2 511, .wait 0 2], ∀ v ∈ [0#32, 256#32, 1#32], let i := issueOf ins (co := withK2 v)
      (running i).ready 0 ins none i ∧ i.handle v = (if v = 1 then some 0x040000004000 else none)) ∧
    (∀ ins ∈ [Instr.sig 0 2 511, .wait 0 2], let i := issueOf ins (co := withK2 1)
      ((running i).setCore 0 (i.begun 0 none)).beyondWindow 0x040000004000 0 0 = false ∧ hallModule 0x040000004000 = (running i).fabric.moduleId) ∧
    (∀ ins ∈ [Instr.sig 0 2 511, .wait 0 2], let i := issueOf ins (r := fun r => { r with epoch := 2 }) (co := withK2 1)
      let s := withObject { object with mode := 2 } (running i)
      s.ready 0 ins none i ∧ (s.setCore 0 (i.begun 0 none)).beyondWindow 0x040000004000 2 0 = true) ∧
    (∀ ins ∈ [Instr.sig 0 2 511, .wait 0 2], let i := issueOf ins (co := withK2 1) (x := farHandle)
     (running i).ready 0 ins none i ∧ i.handle 1 = some 0x0005040000004000 ∧
      ((running i).setCore 0 (i.begun 0 none)).beyondWindow 0x0005040000004000 0 0 = false ∧
      hallModule 0x0005040000004000 ≠ (running i).fabric.moduleId) := by
  refine ⟨fun ins h v hv => ?_, fun ins h => ?_, fun ins h => ?_, fun ins h => ?_⟩ <;>
    simp only [List.mem_cons, List.not_mem_nil, or_false] at h
  · simp only [List.mem_cons, List.not_mem_nil, or_false] at hv
    rcases h with rfl | rfl <;> rcases hv with rfl | rfl | rfl <;> exact ⟨ready_of rfl (by decide) (by decide), by decide⟩
  · rcases h with rfl | rfl <;> exact ⟨by decide, by decide⟩
  · rcases h with rfl | rfl <;> exact ⟨⟨by decide, rfl, rfl, rfl, by decide, by decide⟩, by decide⟩
  · rcases h with rfl | rfl <;> exact ⟨ready_of rfl (by decide) (by decide), rfl, by decide, by decide⟩

/-- The last leaf of pass 0 and one past it, a tree in use and one that is not, for each instruction; a pair of numbers and a NaN. -/
theorem witness_ReductionInstructions :
    (∀ b ∈ [0xFFFFFF#32, 0x1000000#32], ∀ a ∈ [0#32, 1#32], let i := issueOf (.redi 0 1 2 3) (co := withK a b 7)
      (running i).ready 0 (.redi 0 1 2 3) none i) ∧
    (∀ l ∈ [0xFFFFC0#32, 0xFFFFC1#32], ∀ t ∈ [0#32, 8#32, 1#32], let i := issueOf (.reda 0 1 2 3) (co := withK 0 t l)
      (running i).ready 0 (.reda 0 1 2 3) none i) ∧
    (∀ a ∈ [8#32, 0#32], ∀ n ∈ [14#4, 1#4], ∀ w ∈ [0#512, BitVec.ofNat 512 (0x7FC00000 * 2 ^ 448)],
      let i := issueOf (.redf 0 1 2 3 n) (co := fun co => { withK a 0 0 co with w := [(3, w)] })
      (running i).ready 0 (.redf 0 1 2 3 n) none i) ∧
    bitAt (slotOf (.fpr 0)).treeMask 0 = 1 ∧ bitAt (slotOf (.fpr 0)).treeMask 8 = 1 ∧ bitAt (slotOf (.fpr 0)).treeMask 1 = 0 ∧
    f32IsNan 0 = false ∧ f32IsNan 0x7FC00000 = true := by
  refine ⟨fun b hb a ha => ?_, fun b hb a ha => ?_, fun a ha n hn w hw => ?_, by decide, by decide, by decide, by decide, by decide⟩
  · simp only [List.mem_cons, List.not_mem_nil, or_false] at hb ha
    rcases hb with rfl | rfl <;> rcases ha with rfl | rfl <;> exact ready_of rfl (by decide) (by decide)
  · simp only [List.mem_cons, List.not_mem_nil, or_false] at hb ha
    rcases hb with rfl | rfl <;> rcases ha with rfl | rfl | rfl <;> exact ready_of rfl (by decide) (by decide)
  · simp only [List.mem_cons, List.not_mem_nil, or_false] at ha hn hw
    rcases ha with rfl | rfl <;> rcases hn with rfl | rfl <;> rcases hw with rfl | rfl <;> exact ready_of rfl (by decide) (by decide)

/-- No instruction to issue; a bad word of the program; a bad word of the core store; the budget used up; a stage gone by; a jump past
the last word. -/
theorem witness_IssueChecks :
    (9215 < 9216 ∧ State.reset.issuing 9215 (.updc 9215) = none) ∧
    (∀ us ∈ [[Upset.instrWord 0 0 false], [.coreWord 0 0xC000 false], []],
      let i := issueOf (.updc 0) (r := fun r => { r with retired := 2 ^ 24 - (if us = [] then 0 else 1) })
      let s := { running i with upsets := us }
      s.issuing 0 (.updc 0) = some i ∧
        (us = [.instrWord 0 0 false] → s.wordUpset 0 i.r.pc = some (.instrWord 0 0 false, false)) ∧
        (us = [.coreWord 0 0xC000 false] → s.wordUpset 0 i.r.pc = none ∧ s.storeUpset 0 (.updc 0) = some (.coreWord 0 0xC000 false, false)) ∧
        (us = [] → s.wordUpset 0 i.r.pc = none ∧ s.storeUpset 0 (.updc 0) = none ∧ 2 ^ 24 ≤ i.r.retired)) ∧
    (let i := issueOf (.updc 0) (r := fun r => { r with retired := 2 ^ 24 - 1, stage := 3 })
     (running i).issuing 0 (.updc 0) = some i ∧ i.r.retired < 2 ^ 24 ∧ 2 < i.r.stage) ∧
    (let i := issueOf (.jmp 0 1)
     (running i).ready 0 (.jmp 0 1) none i ∧ ((i.r.pc : Int) + 1 + (1#24).toInt).toNat ≥ (i.x.program i.m.block).length) := by
  refine ⟨⟨by decide, rfl⟩, fun us h => ?_, ⟨rfl, by decide, by decide⟩, ready_of rfl (by decide) (by decide), by decide⟩
  simp only [List.mem_cons, List.not_mem_nil, or_false] at h
  rcases h with rfl | rfl | rfl <;> exact ⟨rfl, by decide, by decide, by decide⟩

/-! ### Witnesses: messages, reductions, parts, lock-step, sync objects -/

/-- A slot in force whose core 0 has a launch object. -/
def launching (armed : Bool) : State :=
  running (issueOf (.fpr 0) (co := fun co => { co with launch := { Launch.idle with armed := armed, inNeed := [1], nextEpoch := 1 } }))
/-- A message on its way behind another of its path, and one whose turn it is; a block-replica nobody holds; one held, with a message of
another run, in colander mode, before it is armed, of another tag, a state, an exchange result; an input too far ahead, one too many, one
more. -/
theorem witness_StateMessages :
    (State.reset.directory 0 0 0 = none ∧ State.reset.turn (.state message) = true ∧ (launching true).turn (.state message) = true) ∧
    (let s := { launching true with net := [.state { message with epoch := 7 }, .state message] }
     s.turn (.state message) = false) ∧
    (let s := (launching true).modCore 0 fun co => { co with colander := true }
     s.directory 0 0 0 = some (0, 0) ∧ (s.core 0).colander = true ∧ s.turn (.state message) = true) ∧
    (∀ b : Bool, (launching b).directory 0 0 0 = some (0, 0) ∧ ((launching b).core 0).launch.armed = b ∧
      message.destModule = (launching b).fabric.moduleId ∧ message.runGen = ((launching b).slot 0).runGen ∧ ((launching b).core 0).kind = .enabled ∧
      ((launching b).core 0).colander = false ∧ message.configTag = (((launching b).slot 0).inForce 0).tag) ∧
    ({ message with runGen := 1 } : StateMsg).runGen ≠ ((launching true).slot 0).runGen ∧
    ({ message with configTag := 1 } : StateMsg).configTag ≠ (((launching true).slot 0).inForce 0).tag ∧
    (((launching true).core 0).launch.armed = true ∧ ∃ o ∈ ((launching true).core 0).members, o.replica < ((launching true).slot 0).runs) ∧
    message.kind ≠ .exchange ∧ ({ message with kind := .exchange } : StateMsg).kind = .exchange ∧
    (let co := (launching true).core 0
     let x := (launching true).slot 0
     let l := co.launch
     let p := sweepPred x.colours (l.nextEpoch, l.nextPhase)
     let need := fun (l : Launch) => l.inputs x co.members (1, 0) + x.exchangeNeed co.members (1, 0)
     (1, 0) ≠ p ∧ x.colours < sweepGap x.colours p (2, 0) ∧ sweepGap x.colours p (1, 0) ≤ x.colours ∧
      l.counter (1, 0) + 1 ≤ need l ∧ need { l with inNeed := [] } < { l with inNeed := [] }.counter (1, 0) + 1) := by
  refine ⟨by decide, by decide, by decide, fun b => ?_, by decide, by decide, ⟨rfl, memberOf, by decide, by decide⟩, by decide, rfl, by decide⟩
  cases b <;> decide
/-- A core with one member. -/
theorem witness_LaunchRegisters : ∃ (co : Core) (j : Nat) (m : Member), co.members[j]? = some m :=
  ⟨(issueOf (.fpr 0)).co, 0, memberOf, rfl⟩

/-- An integer partial of slot 0. -/
def partialOf (tree runGen : Nat) : PartialMsg :=
  { module := 0, slot := 0, configTag := 0, replica := 0, tree := tree, epoch := 0, leaf := 5, block := 0, cluster := 0, runGen := runGen,
    val := .int 7, floatSat := false }
/-- A cluster's integer sum on its way to the root. -/
def groupOf (runGen : Nat) : GroupMsg :=
  { module := 0, slot := 0, replica := 0, tree := 0, epoch := 0, group := 0, block := 0, part := 0, cluster := 0, runGen := runGen, val := .int 7,
    leafTop := 5, floatSat := false }
/-- A close token. -/
def closeOf (runGen : Nat) : CloseMsg :=
  { module := 0, slot := 0, replica := 0, tree := 0, epoch := 0, part := 0, cluster := 0, blockCount := 1, closed := 1, runGen := runGen }
/-- An energy. -/
def energyOf (runGen : Nat) : EnergyMsg := { slot := 0, replica := 0, epoch := 0, runGen := runGen, s := 0, c := 0 }
/-- Messages of the slot's run and of another, in a slot that runs; a close token behind the sum of its cluster and one whose turn it is; a
tree of values; two different sums. -/
theorem witness_ReductionArrivals :
    (let s := launching true
     (partialOf 0 0).tree ≠ 16 ∧ (partialOf 0 0).val = .int 7 ∧ (groupOf 0).val = .int 7 ∧ s.fabric.moduleId = 0 ∧ (s.slot 0).active = true ∧
      (s.slot 0).runGen = 0) ∧
    (partialOf 0 1).runGen ≠ ((launching true).slot 0).runGen ∧ (groupOf 1).runGen ≠ ((launching true).slot 0).runGen ∧
    (closeOf 1).runGen ≠ ((launching true).slot 0).runGen ∧ (energyOf 1).runGen ≠ ((launching true).slot 0).runGen ∧
    (partialOf 0 0).runGen = ((launching true).slot 0).runGen ∧ (groupOf 0).runGen = ((launching true).slot 0).runGen ∧
    (closeOf 0).runGen = ((launching true).slot 0).runGen ∧ (energyOf 0).runGen = ((launching true).slot 0).runGen ∧
    (let s := { State.reset with net := [.group (groupOf 0), .close (closeOf 0)] }
     s.turn (.close (closeOf 0)) = false ∧ s.turn (.group (groupOf 0)) = true) ∧
    ((0, 0, 0, 1) : Nat × Nat × Nat × Nat) ≠ (0, 0, (partialOf 0 0).tree, 0) := by
  refine ⟨by decide, by decide, by decide, by decide, by decide, by decide, by decide, by decide, by decide, ?_, by decide⟩
  simp [State.turn, State.sameWay, State.sender, State.destination, State.inMesh, Msg.channel, groupOf, closeOf, State.reset]

/-- A stop under way. -/
def stopping (hard limitSet : Bool) : Drain :=
  { hard := hard, disable := false, named := 0, replies := [], limitSet := limitSet, reported := [], orders := [], disableOrder := none,
    aborted := false, engine := false }
/-- A slot that does not run; one that runs; one under a stop. -/
theorem witness_PartMessages : (State.reset.slot 0).active = false ∧
    (((launching true).slot 0).active = true ∧ ((launching true).slot 0).drain = none) ∧
    (let s := running (issueOf (.fpr 0) (x := fun x => { x with state := .stopping, drain := some (stopping false false) }))
     (s.slot 0).drain = some (stopping false false) ∧ (s.slot 0).partIndex = 0 ∧ (stopping false false).hard = false ∧
      (stopping false false).limitSet = false ∧ (∀ r ∈ (stopping false false).replies, r.1 ≠ 0) ∧ 0 ∉ (stopping false false).reported ∧
      (s.slot 0).active = true ∧ (0, 5) ∉ (s.slot 0).ckptDone) := by decide

/-- Lock-step of slot 0 with module 5 on port 3, whose BEGIN waits. -/
def lockOf (active : Bool) : LockStep :=
  { partner := 5, port := 3, partnerSlot := 0, order := some 9, active := active, ownHello := (List.replicate 32 0, 1), partnerHello := none, mine := [],
    theirs := [], matched := [], report := none }
/-- A slot in lock-step, its BEGIN waiting or under way. -/
def locked (active : Bool) : State := running (issueOf (.fpr 0) (x := fun x => { x with lock := some (lockOf active) }))
theorem witness_LockstepCommands_messages :
    (3 < 12 ∧ ((locked false).slot 0).lock = some (lockOf false) ∧ (locked false).lockWaits 3 = some 0 ∧ (lockOf false).order = some 9 ∧
      (locked false).lockWaits 4 = none) ∧
    (((locked true).slot 0).lock = some (lockOf true) ∧ (locked true).lockPair 3 0 = some 0 ∧ ((locked true).slot 0).active = true) := by
  decide

/-- A signal, a registration. -/
def signalOf (count epoch runGen : Nat) : SyncSignal := { object := 0x040000004000, count := count, epoch := epoch, runGen := runGen, slot := 0 }
def waitOf : WaitReg := { object := 0x040000004000, epoch := 0, runGen := 0, slot := 0, waiter := .order 9 }
/-- A signal below the threshold, at it and at twice it, with waiters behind the places and with none; an EPOCH object with a signal of
another run, of a released epoch, past the window; a registration with a place free and with none; a core that waits; the turn of each. -/
theorem witness_SyncObjects :
    (let s := withObject object State.reset
     syncAt (hallLocal (signalOf 0 0 0).object) = some (0, 64) ∧ s.object (0, 64) = some object ∧ object.mode = 1 ∧ 0 < object.threshold ∧
      (object.count0 + 0 < object.threshold ∧ object.count0 + 0 < 2 ^ 32) ∧ object.threshold ≤ object.count0 + 1 ∧
      s.turn (.signal (signalOf 0 0 0)) = true ∧ object.crossbar = [] ∧ (object.count0 + 3) / object.threshold = 2 ∧
      (object.count0 + 1) / object.threshold = 1 ∧ ({ object with waiting := [.order 1], crossbar := [.order 2] } : SyncObj).waiting ≠ []) ∧
    (let o := { object with mode := 2, bankEpoch := 5 }
     (withObject o State.reset).object (0, 64) = some o ∧ o.mode = 2 ∧ (signalOf 1 5 1).runGen ≠ (State.reset.slot o.owner).runGen ∧
      ((signalOf 1 4 0).runGen = (State.reset.slot o.owner).runGen ∧ (signalOf 1 4 0).epoch < o.bankEpoch) ∧ o.bankEpoch + 1 < (signalOf 1 7 0).epoch) ∧
    (syncAt (hallLocal waitOf.object) = some (0, 64) ∧ object.waiting.length < 64 ∧ object.crossbar = [] ∧
      64 ≤ ({ object with waiting := List.replicate 64 (.order 1) } : SyncObj).waiting.length) ∧
    (let i := issueOf (.wait 0 2) (r := fun r => { r with wait := .sync })
     (withObject object (running i)).object (0, 64) = some object ∧ (withObject object (running i)).waiting 0 = some i ∧ i.r.wait = .sync ∧
      i.r.epoch = 0) :=
  ⟨by decide, by decide, by decide, by decide, rfl, rfl, rfl⟩
/-! ### Witnesses: orders of lock-step, faults, mesh, memory -/

/-- A packet of an opcode with FLAGS, TARGET and fields, each its first byte and its value (R395). -/
def packetOf (op flags target : Nat) (fields : List (Nat × Nat)) : BitVec 512 :=
  BitVec.ofNat 512 (op + flags * 2 ^ 8 + target * 2 ^ 16 + (fields.map fun f => f.2 * 2 ^ (8 * f.1)).sum)
/-- Order 9 of queue 0, or of the management plane, with that packet. -/
def orderOf (op flags target : Nat) (fields : List (Nat × Nat)) : Order :=
  { id := 9, seq := 1, source := if op < 0x80 then 0 else 0x80, generation := 0, packet := packetOf op flags target fields, started := false,
    acceptTime := 0, statusDue := false }
/-- A state with one open order. -/
def ordered (o : Order) (s : State) : State := { s with arbiter := { s.arbiter with orders := [o] } }
/-- A slot in a state, with an image. -/
def slotIn (st : SlotState) (f : Slot → Slot := id) : State :=
  { State.reset with slots := [(0, f { slotOf (.fpr 0) with state := st })] }

/-- Whether order 9 may run now (R395, R404). -/
def mayRunB (s : State) (op : Nat) (o : Order) : Bool :=
  (s.arbiter.orders ++ s.mgmt.alone).find? (fun o => o.id = 9) = some o && o.opcode = op && !o.started && s.mayStart o && !s.platform.fatal
/-- Whether FLAGS and the parameter bytes are lawful (R411). -/
def lawfulB (o : Order) (flags : Nat) (fields : List (Nat × Nat)) : Bool :=
  Nat.land o.flags (252 - flags) = 0 && (List.range 64).all fun i => i < 16 || fields.any (fun f => decide (f.1 ≤ i) && decide (i < f.1 + f.2)) ||
    o.field i 1 = 0
theorem mayRun_of {s : State} {op : Nat} {o : Order} (h : mayRunB s op o = true) : s.mayRun op 9 o := by
  simp only [mayRunB, Bool.and_eq_true, decide_eq_true_eq, Bool.not_eq_true'] at h
  exact ⟨h.1.1.1.1, h.1.1.1.2, h.1.1.2, h.1.2, fun hf => by simp [h.2] at hf⟩
theorem lawful_of {o : Order} {flags : Nat} {p : Prop} {fields : List (Nat × Nat)} (h : lawfulB o flags fields = true) (hp : p) :
    o.lawful flags p fields := by
  simp only [lawfulB, Bool.and_eq_true, decide_eq_true_eq, List.all_eq_true, List.mem_range, Bool.or_eq_true, List.any_eq_true] at h
  refine ⟨h.1, hp, fun i h1 h2 h3 => ?_⟩
  rcases h.2 i h2 with (h4 | ⟨f, hf, h4, h5⟩) | h4
  · omega
  · have := h3 f hf; omega
  · exact h4

theorem witness_LockstepCommands_orders :
    (let o := orderOf 0x50 0 0 [(16, 5), (18, 3)]
     let s := ordered o (slotIn .loaded)
     s.mayRun 0x50 9 o ∧ o.lawful 0 (o.target < 48) [(16, 3)] ∧ o.field 18 1 < 12 ∧ (s.slot o.target).state ∈ [.loaded, .stopped] ∧
      (s.slot o.target).lock = none ∧ (s.port (o.field 18 1)).state ≠ .up) ∧
    (∀ peer ∈ [5, 6], let o := orderOf 0x50 0 0 [(16, 5), (18, 3)]
     let s := ordered o { slotIn .stopped with ports := [(3, { Port.idle with state := .up, peerId := peer })] }
     s.mayRun 0x50 9 o ∧ (s.slot o.target).state ∈ [.loaded, .stopped] ∧ (s.port (o.field 18 1)).state = .up ∧
      ((s.port (o.field 18 1)).peerId = o.field 16 2 ↔ peer = 5) ∧ s.heldHello (o.field 18 1) = none) ∧
    (let o := orderOf 0x51 0 0 []
     let s := ordered o (slotIn .stopped fun x => { x with lock := some (lockOf true) })
     s.mayRun 0x51 9 o ∧ o.lawful 0 (o.target < 48) [] ∧ (s.slot o.target).lock = some (lockOf true) ∧ (lockOf true).active = true) := by
  refine ⟨⟨mayRun_of (by decide +kernel), lawful_of (by decide +kernel) (by decide +kernel), by decide +kernel⟩, fun peer h => ?_,
    mayRun_of (by decide +kernel), lawful_of (by decide +kernel) (by decide +kernel), by decide +kernel⟩
  simp only [List.mem_cons, List.not_mem_nil, or_false] at h
  rcases h with rfl | rfl <;> exact ⟨mayRun_of (by decide +kernel), by decide +kernel⟩

/-- A slot that runs and one that does not; a core of a slot and a spare; two cores at the same distance in the list. -/
theorem witness_FaultContainment : (State.reset.slot 0).active = false ∧ ((slotIn .running).slot 0).active = true ∧
    (let s := launching true
     (s.core 0).slot = some 0 ∧ 0 ≠ 5 ∧ 5 < 9216 ∧ (s.core 0).members[(s.core 0).lastMember]? = some memberOf) ∧
    nearest 0 [9215, 1, 0] = some 1 ∧ [9215, 1, 0] = [9215, 1] ++ 0 :: [] ∧
    nearest 0 [9215, 9214, 1] = some 1 ∧ [9215, 9214, 1] = [] ++ 9215 :: [9214, 1] ∧ 1 ∉ ([] : List Nat) ∧ 1 ≠ 9215 := by decide
/-- The last core and cluster, in colander mode and out of it; a request for the core's store; a tick in a running module; a core that
stood still for ten ticks and one that did not. -/
theorem witness_ColanderAndWatchdog :
    (9215 < 9216 ∧ 143 < 144 ∧ 2 < 3 ∧ (State.reset.core 9215).colander = false) ∧
    (let s := { State.reset with cores := [(9215, { Core.idle .fenced with colander := true })] }
     (s.core 9215).colander = true ∧ regionOf (hallLocal (storeBase + 0x10000 * 9215)) = .store 9215) ∧
    State.reset.platform.rails = true ∧
    (∀ t ∈ [9, 10], let s := { running (issueOf (.fpr 0) (co := fun co => { co with quietTicks := t })) with
       clusters := [(143, { Cluster.idle with routerQuiet := t, missedAcks := t })] }
     (s.core 0).run.isSome = true ∧ (10 ≤ (s.core 0).quietTicks ↔ t = 10) ∧ (10 ≤ (s.cluster 143).routerQuiet ↔ t = 10) ∧
      (10 ≤ (s.cluster 143).missedAcks ↔ t = 10)) := by decide
/-- A cluster with a packet for another and one for itself; a packet that waits in the buffer, one at its head that is not checked yet, one
that is not admitted, one with a bad control word, one that enters. -/
theorem witness_MeshRouters :
    (143 < 144 ∧ (packet 0 0).destCluster < 144 ∧ (packet 0 0).destCluster ≠ 143 ∧ (packet 0 143).destCluster = 143 ∧
      (packet 0 143).destPort ≠ 100) ∧
    (routerPort 0 4 = true ∧ State.reset.platform.rails = true ∧ State.reset.packetGood (packet 0 143) = true) ∧
    (∀ b : Bool, let h : HeldPacket := { pkt := packet 0 143, checked := b, reserved := true }
     let s := { State.reset with clusters := [(0, { Cluster.idle with inputs := [(4, [h])] })] }
     s.routerInput 0 4 = [h] ∧ h.pkt.same (packet 0 143) = true ∧ s.entersMesh (packet 0 143) = false ∧ s.packetGood (packet 0 142) = true ∧
      h.pkt.same (packet 0 142) = false ∧ admits (s.routerInput 0 4) (packet 0 142) = false ∧
      (s.checkFlits 0 4 { packet 0 143 with flits := [.badControl] }).2 = none ∧ (s.checkFlits 0 4 (packet 0 143)).2 = some (packet 0 143)) ∧
    (let p : Packet := { packet 1 143 with flits := [.badControl] }
     State.reset.packetGood p = true ∧ State.reset.routerInput 0 4 = [] ∧ admits (State.reset.routerInput 0 4) p = true ∧
      (State.reset.checkFlits 0 4 p).2 = none) ∧
    (admits (State.reset.routerInput 0 4) (packet 1 143) = true ∧ (State.reset.checkFlits 0 4 (packet 1 143)).2 = some (packet 1 143)) := by
  decide +kernel

/-- A state whose last line of HBM holds bytes. -/
def lineState : State := { State.reset with mem := (List.range 64).map fun i => (0x0047FFFFFFC0 + i, BitVec.ofNat 8 i) }
/-- A line that reads, one that does not, a station that does not serve, one whose trackers are all in use; bytes at the end of HBM. -/
theorem witness_MemoryCommands :
    ((regionOf 0x0047FFFFFFFF).lined = true ∧ (State.reset.station 5).trained = true ∧ (State.reset.station 5).selfRefresh = false ∧
      State.reset.platform.rails = true) ∧
    ((lineState.setStation (stationOf 0x0047FFFFFFFF) { MemStation.idle with peak := 1 }).readUnit 0x0047FFFFFFC0).2.isSome ∧
    ((({ State.reset with upsets := [.line 0] }).setStation (stationOf 0) { MemStation.idle with peak := 1 }).readUnit 0).2.isNone ∧
    (MemStation.idle.inUse - MemStation.idle.inFirmware - MemStation.idle.inEngine < 768 ∧ ¬ (1792 : Nat) - 0 - 0 < 1792) ∧
    ¬ (({ State.reset with stations := [(stationOf 0, { MemStation.idle with selfRefresh := true })] }).station (stationOf 0)).selfRefresh = false ∧
    ([0] : List Byte) ≠ [] ∧ (regionOf (0x0047FFFFFFFF + 1 - 1)).lined = true ∧ oneWindow 0x0047FFFFFFFF 1 = true := by decide +kernel
/-- A station with nothing to scrub, a Larder station with its internal range, a station whose lap has a line left, one whose lap is over;
a line that reads, one that cannot be corrected, one that nothing has written. -/
theorem witness_MemoryCommands_scrub :
    (∀ n ∈ [5, 9], State.reset.platform.rails = true ∧ (State.reset.station n).trained = true ∧ (State.reset.station n).selfRefresh = false ∧
      (State.reset.station n).ranges = []) ∧
    (let m := MemStation.idle.startLap 9
     (nextLine 9 (m.pointer.getD 0) m.lapRanges).isSome = true) ∧
    (let m := { MemStation.idle with ranges := [(0, 4096)] }.startLap 0
     m.ranges ≠ [] ∧ (nextLine 0 (m.pointer.getD 0) m.lapRanges).isSome = true) ∧
    (let m := { MemStation.idle with ranges := [(0, 4096)], lapRanges := [(0, 4096)], pointer := some 4096 }.startLap 0
     m.ranges ≠ [] ∧ nextLine 0 (m.pointer.getD 0) m.lapRanges = none) ∧
    (let s := { lineState with upsets := [.line 0x0047FFFFFFC0] }
     (∀ i < 64, (s.byteAt (0x0047FFFFFFC0 + i)).isSome = true) ∧ (s.readUnit 0x0047FFFFFFC0 1).2 = none ∧
      (lineState.readUnit 0x0047FFFFFFC0 1).2.isSome = true ∧ (lineState.byteAt 0).isSome = false) := by decide +kernel
/-- A whole line written at the end of HBM, and a poisoned one. -/
theorem witness_MemoryReadsBack :
    (0x0047FFFFFFC0 % 64 = 0 ∧ regionOf 0x0047FFFFFFC0 = .hbm ∧ (List.replicate 64 (7 : Byte)).length = 64 ∧
      State.reset.stationServes 0x0047FFFFFFC0 = true ∧ State.reset.stationAdmits 0x0047FFFFFFC0 .other = true ∧ ∃ t, exec (.memoryWrite 0x0047FFFFFFC0 (List.replicate 64 7)) State.reset = .next t) ∧
    (let s := { lineState with upsets := [.line 0x0047FFFFFFC0] }
     s.stationServes 0x0047FFFFFFC0 = true ∧ s.stationAdmits 0x0047FFFFFFC0 .other = true ∧ .line 0x0047FFFFFFC0 ∈ s.upsets) :=
  ⟨⟨by decide, by decide, rfl, by decide, by decide, _, rfl⟩, by decide, by decide, by decide⟩
/-! ### Witnesses: an image that passes its checks -/

/-- The bytes of an image of one block of two binary variables without couplings: header, directory, BLOCKS, COLOURS, PROGRAMS with the words of
the manual's example program, STREAMS and DIGESTS (R53 to R68). -/
@[irreducible] def imageBytes : List Byte := leBytes 640 ([(0, 0x3639584C), (4, 1), (6, 0x0100), (8, 640), (22, 1), (24, 2), (28, 1), (32, 2), (36, 1),
  (38, 1), (64, 256), (72, 32), (112, 320), (120, 128), (176, 448), (184, 40), (208, 512), (216, 16), (240, 576), (248, 64), (260, 2), (280, 2),
  (448, 24), (452, 16), (464, 0x30000000), (468, 0x25000000), (472, 0xA0000000), (476, 0x70000000), (480, 0x82000000), (484, 0x01000000), (512, 2),
  (513, 1), (608, 0x27436cf584fd6d49c6a53aaed998c3195eed087893ae2220f3329aa16ef71d91)].map fun (f : Nat × Nat) => f.2 * 2 ^ (8 * f.1)).sum
/-- The header, the whole image, and the image as the checks see it. -/
def imageHeader : Header :=
  { size := 640, flags := 0, partIndex := 0, partCount := 1, modelVariables := 2, blockCount := 1, partVariables := 2, colours := 1, programs := 1,
    cats := 0 }
/-- The directory of the image. -/
def imageDir : List (Nat × Nat) :=
  [(256, 32), (0, 0), (0, 0), (320, 128), (0, 0), (0, 0), (0, 0), (448, 40), (0, 0), (512, 16), (0, 0), (576, 64)]
def rawImage : RawImage := { head := imageHeader, dir := imageDir, bytes := imageBytes }
/-- HBM stations that have served a request. -/
def served : Tbl MemStation := (List.range 6).map fun n => (n, { MemStation.idle with peak := 1 })
/-- A module whose HBM holds the image at address 0, and whose slot 0 has its CHECKPOINT area filled. -/
def holding (o : Order) : State :=
  ordered o { State.reset with mem := Mem.cellsOf memBackground 0 imageBytes, slots := [(0, { Slot.empty with ckptReady := true })], stations := served }
theorem served_peak {s : State} (hs : s.stations = served) : ∀ n, n < 6 → (s.station n).inUse < (s.station n).peak := by
  intro n h
  have h2 : ∀ n < 6, ((served.at n).getD MemStation.idle).inUse < ((served.at n).getD MemStation.idle).peak := by decide
  rw [State.station, hs]; exact h2 n h

theorem imageBytes_length : imageBytes.length = 640 := by decide +kernel
theorem holding_reads (o : Order) (a k : Nat) (ha : a % 64 = 0) (hk : 0 < k) (h : a + 64 * k ≤ 640) :
    ((holding o).begin o).readFor a (64 * k) = ((holding o).begin o, .ok (slice imageBytes a (64 * k))) := by
  have hl := imageBytes_length
  have hr : ((holding o).begin o).readLocal a (64 * k) = ((holding o).begin o, some (slice imageBytes a (64 * k))) := by
    refine State.readLocal_hbm rfl (served_peak rfl) ha (by omega) hk (by simp [slice]; omega) fun i hi => ?_
    have hm : ((holding o).begin o).byteAt (a + i) = Mem.get memBackground (Mem.cellsOf memBackground 0 imageBytes) (a + i) := by
      simp only [State.byteAt, regionOf_hbm (show a + i < 0x004800000000 by omega)]; rfl
    have hb : memBackground (a + i) = none := by simp [memBackground]; omega
    rw [hm, slice, List.getElem?_take_of_lt hi, List.getElem?_drop, Mem.get, Mem.at_cellsOf_inside _ _ _ _ (by omega) (by omega), hb,
      if_neg (by simp), List.getElem?_eq_getElem (by omega)]
    rfl
  simp only [State.readFor, hr]

/-- Checks 1 to 6 of R69 on the image. -/
theorem image_checks : checkHeader (slice imageBytes 0 64) = none ∧ Header.read (slice imageBytes 0 64) = imageHeader ∧
    directoryOf (slice imageBytes 0 64 ++ slice imageBytes 64 192) = imageDir ∧ checkDirectory imageHeader imageDir 640 = none ∧
    slice imageBytes 0 64 ++ slice imageBytes 64 192 ++ slice imageBytes 256 384 = imageBytes := by decide +kernel
theorem image_sections : firstFault [rawImage.checkDigest, rawImage.checkSections 1, rawImage.checkMirrors] = none := by decide +kernel
theorem image_colours (kb : Nat → Option Nat) : (rawImage.image 0 kb).colourCheck = none := by
  have hf : rawImage.factorRecs = [] := by decide +kernel
  have hb : ∀ b ∈ (rawImage.image 0 fun _ => none).blocks, b.blob = [] ∧ b.edges = [] := by decide +kernel
  have h1 : (rawImage.image 0 kb).factors = [] := by
    rw [show (rawImage.image 0 kb).factors = rawImage.factorRecs.map (rawImage.factor kb) from rfl, hf, List.map_nil]
  have h2 : (rawImage.image 0 kb).conflicts = [] := by
    simp only [Image.conflicts, h1, List.flatMap_nil, List.append_nil, List.flatMap_eq_nil_iff]
    intro b h
    have := hb b h
    simp [this.1, this.2]
  simp [Image.colourCheck, h2]
/-- What is read and passes its checks is a model (R69, R420). -/
theorem readModel_of {s : State} {o : Order} {load : Bool} {h d rest : List Byte} {g : RawImage} (r0 : s.readFor 0 64 = (s, .ok h))
    (r1 : s.readFor 64 192 = (s, .ok d)) (r2 : s.readFor 256 384 = (s, .ok rest)) (c1 : checkHeader h = none) (c2 : Header.read h = imageHeader)
    (c3 : directoryOf (h ++ d) = imageDir) (c4 : checkDirectory imageHeader imageDir 640 = none)
    (hg : g = { head := imageHeader, dir := imageDir, bytes := h ++ d ++ rest })
    (c5 : firstFault [g.checkDigest, g.checkSections 1, g.checkMirrors] = none) (c6 : ∀ kb, (g.image 0 kb).colourCheck = none)
    (h1 : o.field 16 8 = 0) (h2 : o.field 24 8 = 640) (h3 : o.field 40 8 = 0) (h4 : o.field 32 2 = 1) : ∃ m, s.readModel o load = (s, .ok m) := by
  have hi : s.readImage 0 640 1 = (s, .ok g) := by
    simp only [State.readImage, Nat.zero_add, r0, Work.next, Work.check, c1, c2]
    rw [if_neg (by decide)]
    simp only [r1, c3, c4, show imageHeader.size - 256 = 384 from rfl, r2, ← hg, c5]
    rfl
  have hp : s.readPartMap o g load = (s, .ok []) := by
    simp only [State.readPartMap, h3, hg, show imageHeader.partCount = 1 from rfl, if_true]; rfl
  have hf : g.head.foreign = false := by
    rw [hg]; exact (by decide : imageHeader.foreign = false)
  simp only [State.readModel, h1, h2, h4, show hallLocal 0 = 0 from rfl, hi, Work.next, hp, hf, Bool.false_and, Bool.false_eq_true, if_false,
    Work.done, Work.check, c6]
  exact ⟨_, rfl⟩
/-- The image is read and checked whole, for MODEL_CHECK and for MODEL_LOAD (R69, R420). -/
theorem holding_model (o : Order) (load : Bool) (h1 : o.field 16 8 = 0) (h2 : o.field 24 8 = 640) (h3 : o.field 40 8 = 0)
    (h4 : o.field 32 2 = 1) : ∃ m, ((holding o).begin o).readModel o.begun load = ((holding o).begin o, .ok m) := by
  obtain ⟨c1, c2, c3, c4, c5⟩ := image_checks
  exact readModel_of (holding_reads o 0 1 rfl (by decide) (by decide)) (holding_reads o 64 3 rfl (by decide) (by decide))
    (holding_reads o 256 6 rfl (by decide) (by decide)) c1 c2 c3 c4 (by rw [c5, rawImage]) image_sections image_colours h1 h2 h3 h4
/-! ### Witnesses: the arbiter and orders -/

/-- An order that may run and whose packet is lawful. -/
theorem order_of {s : State} {op flags : Nat} {o : Order} {p : Prop} {fields : List (Nat × Nat)}
    (h : (mayRunB s op o && lawfulB o flags fields) = true) (hp : p) : s.mayRun op 9 o ∧ o.lawful flags p fields := by
  rw [Bool.and_eq_true] at h; exact ⟨mayRun_of h.1, lawful_of h.2 hp⟩

/-- The last queue with the BARs down, with a posted write open, and with neither. -/
theorem witness_ArbiterCommands_doorbells : 63 < 64 ∧
    (({ State.reset with platform := { Platform.up with linkSpeed := 0 } }).barsUp = false) ∧
    (let s := { State.reset with host := { HostStation.idle with bar4Open := [{ tag := 1, write := true, address := 0, length := 8 }] } }
     s.barsUp = true ∧ s.postedOpen = true) ∧
    (State.reset.barsUp = true ∧ State.reset.postedOpen = false) := by decide
/-- Nothing to take; an order of the management plane to take, and no command in its place of the ring. -/
theorem witness_ArbiterCommands_pass : State.reset.runningQueues = [] ∧
    min 16 State.reset.arbiter.mgmt.length + State.reset.arbiter.noted.length = 0 ∧
    (let s := { State.reset with arbiter := { Arbiter.idle with mgmt := [orderOf 0x81 0 0xFFFF []] } }
     s.runningQueues = [] ∧ min 16 s.arbiter.mgmt.length + s.arbiter.noted.length ≠ 0 ∧ s.platform.boot = .ready ∧
      ∀ i, i < min 16 s.arbiter.mgmt.length + s.arbiter.noted.length → ∀ o, s.ringHolder (s.arbiter.newest + 1 + i) = some o → s.abortable o = true) :=
  ⟨by decide, rfl, by decide, by decide, rfl, by intro i _ o h; simp [State.ringHolder, Arbiter.idle] at h⟩
/-- The state in which an order's journal entry is written. -/
def journaled (o : Order) : State :=
  ({ State.reset with arbiter := { Arbiter.idle with newest := 1 } }).putWhole (journalAddr 1)
    (journalEntry 1 o.tag o.opcode o.flags o.target o.source 1 0 0xFF 0 0 ((sha256 ((pktBytes o.packet).drop 16)).take 16))
/-- An order that a check refuses, one that a management order of the pass overrides, one of the host and one of the management plane. -/
theorem witness_ArbiterCommands_accept :
    State.reset.ringHolder (State.reset.arbiter.newest + 1) = none ∧
    (let o := orderOf 0x7F 0 0xFFFF []
     ((journaled o).acceptCheck { o with seq := 1 }).isSome = true) ∧
    (let o := orderOf 0x49 0 1 [(16, 4711)]
     (journaled o).acceptCheck { o with seq := 1 } = none ∧ o.source ≠ 0x80 ∧
      (∃ m ∈ [orderOf 0x82 0 4711 []], preempts m o = true) ∧ ∀ m ∈ ([] : List Order), preempts m o = false) ∧
    (let o := orderOf 0x81 0 0xFFFF []
     (journaled o).acceptCheck { o with seq := 1 } = none ∧ o.source = 0x80) := by decide +kernel
/-- A host order with each fault R397 names, and with none. -/
theorem witness_ArbiterCommands_checks :
    (let o := orderOf 0x7F 0 0 []
     o.source ≠ 0x80 ∧ o.opcode ∉ hostOpcodes) ∧
    (let o := orderOf 0x00 0 0xFFFF [(7, 1)]
     o.opcode ∈ hostOpcodes ∧ o.field 4 4 ≠ 0) ∧
    (let o := { orderOf 0x08 0 0xFFFF [] with source := 1 }
     o.opcode ∈ hostOpcodes ∧ o.field 4 4 = 0 ∧ o.opcode ∈ privilegedOpcodes ∧ bitAt (State.reset.queueCtrl o.source) 24 = 0) ∧
    (let o := orderOf 0x08 0 0xFFFF []
     o.opcode ∈ hostOpcodes ∧ o.field 4 4 = 0 ∧ bitAt (State.reset.queueCtrl o.source) 24 ≠ 0) := by decide +kernel
/-- A host order whose entry is due, in the last queue. -/
theorem witness_HostCompletions :
    let o := { orderOf 0x00 0 0xFFFF [] with source := 63, statusDue := true }
    o.source < 64 ∧ o.statusDue = true ∧ o.generation = (State.reset.queue o.source).generation ∧ o.seq ≠ 0 := by decide
/-- A packet without a fault; one whose lowest fault is in FLAGS. -/
theorem witness_ParameterChecks_params :
    let fails := fun (o : Order) (byte : Nat) => (byte = 1 ∧ Nat.land o.flags (252 - 0) ≠ 0) ∨ (byte = 2 ∧ true = false) ∨
      (16 ≤ byte ∧ byte < 64 ∧ (∀ f ∈ ([] : List (Nat × Nat)), byte < f.1 ∨ f.1 + f.2 ≤ byte) ∧ o.field byte 1 ≠ 0) ∨
      ∃ c ∈ ([] : List Check), c.byte = byte ∧ c.ok = false
    (∀ b, ¬ fails (orderOf 0x00 0 0xFFFF []) b) ∧
      fails (orderOf 0x00 4 0xFFFF [(63, 1)]) 1 ∧ ∀ a, fails (orderOf 0x00 4 0xFFFF [(63, 1)]) a → 1 ≤ a := by
  refine ⟨fun b h => ?_, Or.inl ⟨rfl, by decide +kernel⟩, fun a h => ?_⟩
  · rcases h with h | h | ⟨h1, h2, -, h3⟩ | ⟨c, h, -⟩
    · exact h.2 (by decide +kernel)
    · simp at h
    · exact h3 ((by decide +kernel : ∀ b, b < 64 → 16 ≤ b → (orderOf 0x00 0 0xFFFF []).field b 1 = 0) b h2 h1)
    · simp at h
  · rcases h with h | h | h | ⟨c, h, -⟩
    · omega
    · omega
    · omega
    · simp at h
/-- No order; one that has started; one that may start, before and after a fatal error. -/
theorem witness_ParameterChecks_orders :
    (State.reset.arbiter.orders ++ State.reset.mgmt.alone).find? (fun o => o.id = 9) = none ∧
    (∀ b ∈ [true, false], let o := { orderOf 0x19 0 0 [] with started := b }
     let s := { ordered o State.reset with platform := { Platform.up with fatal := true } }
     (s.arbiter.orders ++ s.mgmt.alone).find? (fun o => o.id = 9) = some o ∧ o.opcode = 0x19 ∧ o.started = b ∧ s.mayStart o = true ∧
      s.platform.fatal = true ∧ o.source ≠ 0x80) := by decide +kernel

theorem witness_InformationAndMemoryOrders_information :
    (let o := orderOf 0x00 0 0xFFFF []
     (ordered o State.reset).mayRun 0x00 9 o ∧ o.lawful 0 (o.target = 0xFFFF) []) ∧
    (let o := orderOf 0x01 0 0xFFFF [(16, 64), (24, 128)]
     ((ordered o State.reset).mayRun 0x01 9 o ∧ o.lawful 0 (o.target = 0xFFFF) [(16, 16)]) ∧ o.hostRoom 16 24 128 ∧
      (ordered o State.reset).barsUp = true) ∧
    (let o := orderOf 0x02 0 47 []
     (ordered o State.reset).mayRun 0x02 9 o ∧ o.lawful 0 (o.target < 48) []) ∧
    (let o := orderOf 0x02 0 0xFFFF []
     (ordered o State.reset).mayRun 0x02 9 o ∧ o.lawful 0 (o.target = 0xFFFF) []) ∧
    (let o := orderOf 0x03 0 0xFFFF [(16, 1), (24, 64), (32, 64)]
     let s := { ordered o State.reset with arbiter := { (ordered o State.reset).arbiter with newest := 1 } }
     (s.mayRun 0x03 9 o ∧ o.lawful 0 (o.target = 0xFFFF) [(16, 24)]) ∧ o.hostRoom 24 32 0 ∧
      ((s.begin o).journalRead (max (o.field 16 8) (s.begin o).oldestSeq) 1).2.isSome = true ∧
      ((s.begin o).journalRead (max (o.field 16 8) (s.begin o).oldestSeq) 1).1.barsUp = true) := by
  refine ⟨order_of (by decide +kernel) (by decide +kernel), ⟨order_of (by decide +kernel) (by decide +kernel), ?_, by decide⟩,
    order_of (by decide +kernel) (by decide +kernel), order_of (by decide +kernel) (by decide +kernel),
    order_of (by decide +kernel) (by decide +kernel), ?_, by decide +kernel, by decide +kernel⟩ <;>
    exact ⟨by decide +kernel, by decide +kernel, by decide +kernel⟩
/-- FILL and COPY of a line in each direction; a range entered at a station and taken out. -/
theorem witness_InformationAndMemoryOrders_memory :
    (let o := orderOf 0x08 0 0xFFFF [(16, 64), (24, 64), (32, 7)]
     let u := (ordered o State.reset).begin o
     ((ordered o State.reset).mayRun 0x08 9 o ∧ o.lawful 0 (o.target = 0xFFFF) [(16, 24)]) ∧ o.field 16 8 ≠ 0 ∧ o.field 16 8 % 64 = 0 ∧
      o.field 24 8 ≠ 0 ∧ o.field 24 8 % 64 = 0 ∧ (∀ c ∈ u.rangeChecks (o.field 16 8) (o.field 24 8) 16 24, c.ok = true) ∧
      u.rangeHeld (o.field 16 8) (o.field 24 8) = none) ∧
    (∀ dir ∈ [0, 1, 2], let o := orderOf 0x09 (4 * dir) 0xFFFF [(16, 64), (24, 128), (32, 64)]
     let u := (ordered o State.reset).begin o
     ((ordered o State.reset).mayRun 0x09 9 o ∧ o.lawful 0x0C (o.target = 0xFFFF) [(16, 24)]) ∧ o.flags / 4 % 4 = dir ∧
      (o.field 16 8 % 64 = 0 ∧ o.field 24 8 % 64 = 0 ∧ o.field 32 8 % 64 = 0) ∧
      (∀ c ∈ u.sourceChecks (o.field 16 8) (o.field 32 8), c.ok = true) ∧ rangesOverlap (o.field 16 8) (o.field 24 8) (o.field 32 8) = false ∧
      (∀ c ∈ u.rangeChecks (o.field 24 8) (o.field 32 8) 24 32, c.ok = true) ∧ u.rangeHeld (o.field 24 8) (o.field 32 8) = none) ∧
    (∀ remove ∈ [0, 1], let o := orderOf 0x0A (4 * remove) 0xFFFF [(16, 4096), (24, 4096)]
     let s := if remove = 1 then { State.reset with stations := [(1, { MemStation.idle with ranges := [(4096, 4096)] })] } else State.reset
     ((ordered o s).mayRun 0x0A 9 o ∧ o.lawful 4 (o.target = 0xFFFF) [(16, 16)]) ∧ bitAt o.flags 2 = remove ∧
      hallModule (o.field 16 8) = s.fabric.moduleId ∧ o.field 16 8 % 4096 = 0 ∧ scrubbable (o.field 16 8) 1 = true ∧ o.field 24 8 ≠ 0 ∧
      o.field 24 8 % 4096 = 0 ∧ scrubbable (o.field 16 8) (o.field 24 8) = true ∧ rangeStations (o.field 16 8) (o.field 24 8) = [1] ∧
      (s.station 1).ranges.length < 16 ∧ (remove = 1 → (4096, 4096) ∈ (s.station 1).ranges)) := by
  refine ⟨⟨order_of (by decide +kernel) (by decide +kernel), by decide +kernel⟩, fun d h => ?_, fun d h => ?_⟩ <;>
    simp only [List.mem_cons, List.not_mem_nil, or_false] at h
  · rcases h with rfl | rfl | rfl <;> exact ⟨order_of (by decide +kernel) (by decide +kernel), by decide +kernel⟩
  · rcases h with rfl | rfl <;> exact ⟨order_of (by decide +kernel) (by decide +kernel), by decide +kernel⟩
/-- A FILL of two lines at the end of the local address space. -/
theorem witness_InformationAndMemoryOrders_fill :
    let t : Transfer := { order := 9, src := .pattern 7, dst := .hall 0xFFFFFFFFFF80, length := 128, moved := 0, data := none }
    t.length % 64 = 0 ∧ hallModule 0xFFFFFFFFFF80 = State.reset.fabric.moduleId ∧ hallLocal 0xFFFFFFFFFF80 + t.length ≤ 2 ^ 48 := by decide
/-! ### Witnesses: models, slots, results -/

/-- A model that reads whole and passes its checks, for MODEL_CHECK and for MODEL_LOAD into a slot whose CHECKPOINT area is filled. -/
theorem witness_ModelOrders :
    (let o := orderOf 0x10 0 0xFFFF [(24, 640), (32, 1)]
     (holding o).mayRun 0x10 9 o ∧ ((holding o).begin o).modelParams o.begun o.begun.noTarget = none ∧
      ∃ t m, ((holding o).begin o).readModel o.begun false = (t, .ok m)) ∧
    (let o := orderOf 0x11 0 0 [(24, 640), (32, 1)]
     (holding o).mayRun 0x11 9 o ∧ ((holding o).begin o).modelParams o.begun o.begun.slotTarget = none ∧
      ((holding o).slot o.target).state = .empty ∧ ((holding o).slot o.target).ckptReady = true ∧
      ∃ t m, ((holding o).begin o).readModel o.begun true = (t, .ok m)) := by
  refine ⟨⟨mayRun_of (by decide +kernel), by decide +kernel, ?_⟩, mayRun_of (by decide +kernel), by decide +kernel, by decide +kernel,
    by decide +kernel, ?_⟩
  · obtain ⟨m, h⟩ := holding_model (orderOf 0x10 0 0xFFFF [(24, 640), (32, 1)]) false (by decide +kernel) (by decide +kernel) (by decide +kernel)
      (by decide +kernel)
    exact ⟨_, m, h⟩
  · obtain ⟨m, h⟩ := holding_model (orderOf 0x11 0 0 [(24, 640), (32, 1)]) true (by decide +kernel) (by decide +kernel) (by decide +kernel)
      (by decide +kernel)
    exact ⟨_, m, h⟩
/-- Work that ends with what failed, and work that ends with a value. -/
theorem ended_of {α : Type} {w : Work α} (h : (match w.2 with | .error (some _) => true | _ => false) = true) : ∃ t e, w = (t, .error (some e)) := by
  obtain ⟨t, r⟩ := w
  match r with
  | .error (some e) => exact ⟨t, e, rfl⟩
  | .error none => simp at h
  | .ok _ => simp at h
theorem done_of {α : Type} {w : Work α} (h : (match w.2 with | .ok _ => true | _ => false) = true) : ∃ t a, w = (t, .ok a) := by
  obtain ⟨t, r⟩ := w
  match r with
  | .error _ => simp at h
  | .ok a => exact ⟨t, a, rfl⟩
/-- A model that fails a check, a slot that is not EMPTY, one whose CHECKPOINT area is not filled, a slot to unload and one that runs. -/
theorem witness_ModelOrders_refusals :
    (let o := orderOf 0x10 0 0xFFFF [(24, 640), (32, 1)]
     let s := ordered o { State.reset with mem := (List.range 64).map fun i => (i, 0) }
     s.mayRun 0x10 9 o ∧ (s.begin o).modelParams o.begun o.begun.noTarget = none ∧
      ∃ t e, (s.begin o).readModel o.begun false = (t, .error (some e))) ∧
    (∀ st ∈ [SlotState.running, .empty], let o := orderOf 0x11 0 0 [(24, 640), (32, 1)]
     let s := ordered o (slotIn st)
     s.mayRun 0x11 9 o ∧ (s.begin o).modelParams o.begun o.begun.slotTarget = none ∧ (s.slot o.target).state = st ∧
      (s.slot o.target).ckptReady = false) ∧
    (∀ st ∈ [SlotState.disabled, .running], let o := orderOf 0x12 0 0 []
     let s := ordered o (slotIn st)
     (s.mayRun 0x12 9 o ∧ o.lawful 0 (o.target < 48) []) ∧
      ((s.slot o.target).state ∈ [.loaded, .stopped, .faulted, .disabled] ↔ st = .disabled)) := by
  refine ⟨⟨mayRun_of (by decide +kernel), by decide +kernel, ?_⟩, fun st h => ?_, fun st h => ?_⟩
  · exact ended_of (by decide +kernel)
  · simp only [List.mem_cons, List.not_mem_nil, or_false] at h
    rcases h with rfl | rfl <;> exact ⟨mayRun_of (by decide +kernel), by decide +kernel⟩
  · simp only [List.mem_cons, List.not_mem_nil, or_false] at h
    rcases h with rfl | rfl <;> exact ⟨order_of (by decide +kernel) (by decide +kernel), by decide +kernel⟩

/-- A slot with every setting that SLOT_START asks for. -/
def ready (x : Slot) : Slot :=
  let c : Curve := { linear := false, knots := [(0, 1)] }
  { x with seed := some (zeros 32), curves := { noCurves with beta := some c, noise := some c, pump := some c } }
/-- Bytes from a HBM address on. -/
def holdingBytes (st : SlotState) (f : Slot → Slot) (bs : List Byte) : State := { slotIn st f with mem := Mem.cellsOf memBackground 64 bs, stations := served }
/-- A configuration block with PRESENT, and RUNS 1. -/
def configBlock (present : Nat) : List Byte := leBytes 4 1 ++ leBytes 4 present ++ leBytes 2 1 ++ zeros 246
/-- A slot with a settings segment. -/
def segmented (x : Slot) : Slot := { ready x with segment := some ((ready x).segmentFrom 0), curveDigest := zeros 32 }
/-- A context of that slot: header, settings segment, one rung, no exchange, one state record of zeros (R457, R458). -/
@[irreducible] def contextBytes : List Byte := leBytes 640 ([(0, 1), (8, 640), (28, 1), (32, 1), (36, 1), (38, 1), (44, 128),
  (160, 0x695ef04a1ff3e63ef6410ccd7a70459c3da14fbc9729386883e027c9b3e32b58), (264, 0x101), (270, 1), (272, 1), (276, 112), (280, 0x01010107), (344, 1), (360, 1),
  (376, 1)].map fun (f : Nat × Nat) => f.2 * 2 ^ (8 * f.1)).sum
/-- What a HBM range holds is what an access reads there. -/
theorem readAccess_hbm {s : State} {k a : Nat} {bs : List Byte} (hm : s.mem = Mem.cellsOf memBackground 64 bs)
    (hu : s.upsets = []) (hp : s.stations = served) (hl : bs.length < 2 ^ 20) (hk : 0 < k) (h : 64 * a + 64 * k ≤ bs.length)
    (hr : s.readRefusal (64 + 64 * a) (64 * k) = none) : s.readAccess (64 + 64 * a) (64 * k) = (s, .ok (slice bs (64 * a) (64 * k))) := by
  have hg : regionOf (64 + 64 * a) = .hbm := regionOf_hbm (by omega)
  have hread : s.readLocal (64 + 64 * a) (64 * k) = (s, some (slice bs (64 * a) (64 * k))) := by
    refine State.readLocal_hbm hu (served_peak hp) (by omega) (by omega) hk (by simp [slice]; omega) fun i hi => ?_
    have hb : memBackground (64 + 64 * a + i) = none := by simp [memBackground]; omega
    simp only [State.byteAt, regionOf_hbm (show 64 + 64 * a + i < 0x004800000000 by omega), hm]
    rw [slice, List.getElem?_take_of_lt hi, List.getElem?_drop, Mem.get, Mem.at_cellsOf_inside _ _ _ _ (by omega) (by omega), hb,
      if_neg (by simp), List.getElem?_eq_getElem (by omega)]
    simp only [show 64 + 64 * a + i - 64 = 64 * a + i by omega]
  simp only [State.readAccess, hr, hg, hread]
/-- The same of a read for a command. -/
theorem readHall_hbm {s : State} {o : Order} {k a hall byte : Nat} {bs : List Byte} (hm : s.mem = Mem.cellsOf memBackground 64 bs)
    (hu : s.upsets = []) (hp : s.stations = served) (hl : bs.length < 2 ^ 20) (ha : hallLocal hall = 64 + 64 * a) (hk : 0 < k) (h : 64 * a + 64 * k ≤ bs.length)
    (hf : s.far hall = false) (hr : s.readRefusal (64 + 64 * a) (64 * k) = none) :
    s.readHall o hall (64 * k) byte = Work.done s (slice bs (64 * a) (64 * k)) := by
  have h0 : 64 * k ≠ 0 := by omega
  simp only [State.readHall, if_neg h0, hf, Bool.not_false, if_true, ha, readAccess_hbm hm hu hp hl hk h hr]
/-- A context that is read whole and passes the checks of R460. -/
theorem readContext_of {s : State} {o : Order} {g : Image} {h body : List Byte} (hl : o.field 24 8 = 1024)
    (r0 : s.readHall o (o.field 16 8) 256 16 = Work.done s h) (r1 : s.readHall o (o.field 16 8 + 256) 384 16 = Work.done s body)
    (c0 : fieldAt h 8 8 = 640) (c1 : contextStep1 h 1024 = none) (c2 : sha256 body = slice h 160 32)
    (c3 : (s.slot o.target).contextStep3 g h = none) (c4 : (s.slot o.target).contextStep4 g (h ++ body) = none)
    (c5 : (s.slot o.target).contextStep5 g (h ++ body) = none) : s.readContext o g = (s, .ok (h ++ body)) := by
  simp only [State.readContext, hl, show min 256 1024 = 256 from rfl, r0, Work.next, Work.done, c0, c1, show 640 - 256 = 384 from rfl, r1, c2,
    if_true, c3, c4, c5]
  rfl
/-- A block without and with a seed; a slot that started. -/
theorem witness_ContextOrders_config : ∀ present ∈ [4, 5], let o := orderOf 0x18 0 0 [(16, 64)]
    let s := ordered o (holdingBytes .stopped id (configBlock present))
    (s.mayRun 0x18 9 o ∧ o.lawful 0 (o.target < 48) [(16, 8)]) ∧ hallModule (o.field 16 8) = s.fabric.moduleId ∧
      (s.slot o.target).state ∈ [.loaded, .stopped] ∧ ∃ t c, (s.begin o).readConfig o.begun = (t, .ok c) := by
  intro p h
  simp only [List.mem_cons, List.not_mem_nil, or_false] at h
  rcases h with rfl | rfl <;>
    exact ⟨order_of (by decide +kernel) (by decide +kernel), by decide +kernel, by decide +kernel, done_of (by decide +kernel)⟩
/-- The parts of the context that the checks look at. -/
theorem context_checks : contextBytes.length = 640 ∧ fieldAt (slice contextBytes 0 256) 8 8 = 640 ∧
    contextStep1 (slice contextBytes 0 256) 1024 = none ∧ sha256 (slice contextBytes 256 384) = slice (slice contextBytes 0 256) 160 32 := by
  decide +kernel
theorem context_fits : let x := { segmented (slotOf (.fpr 0)) with state := .faulted }
    let c := slice contextBytes 0 256 ++ slice contextBytes 256 384
    x.contextStep3 (imageOf (.fpr 0)) (slice contextBytes 0 256) = none ∧ x.contextStep4 (imageOf (.fpr 0)) c = none ∧
      x.contextStep5 (imageOf (.fpr 0)) c = none := by decide +kernel
/-- The context is read and passes. -/
theorem restores_of {s : State} {o : Order} (hm : s.mem = Mem.cellsOf memBackground 64 contextBytes) (hu : s.upsets = [])
    (hp : s.stations = served)
    (hx : s.slot o.target = { segmented (slotOf (.fpr 0)) with state := .faulted }) (h1 : o.field 16 8 = 64) (h2 : o.field 24 8 = 1024)
    (f0 : s.far 64 = false) (f1 : s.far 320 = false) (r0 : s.readRefusal 64 256 = none) (r1 : s.readRefusal 320 384 = none) :
    ∃ t c, s.readContext o (imageOf (.fpr 0)) = (t, .ok c) := by
  obtain ⟨hl, h0, c1, c2⟩ := context_checks
  obtain ⟨c3, c4, c5⟩ := context_fits
  have q0 : s.readHall o (o.field 16 8) (64 * 4) 16 = _ := readHall_hbm (a := 0) (bs := contextBytes) hm hu hp (by omega) (by rw [h1]; rfl)
    (by omega) (by omega) (by rw [h1]; exact f0) r0
  have q1 : s.readHall o (o.field 16 8 + 256) (64 * 6) 16 = _ := readHall_hbm (a := 4) (bs := contextBytes) hm hu hp (by omega) (by rw [h1]; rfl)
    (by omega) (by omega) (by rw [h1]; exact f1) r1
  exact ⟨_, _, readContext_of h2 q0 q1 h0 c1 c2 (by rw [hx]; exact c3) (by rw [hx]; exact c4) (by rw [hx]; exact c5)⟩
theorem restores : let o := orderOf 0x1C 0 0 [(16, 64), (24, 1024)]
    ∃ t c, ((ordered o (holdingBytes .faulted segmented contextBytes)).begin o).readContext o.begun (imageOf (.fpr 0)) = (t, .ok c) :=
  restores_of rfl rfl rfl (by decide +kernel) (by decide +kernel) (by decide +kernel) (by decide +kernel) (by decide +kernel) (by decide +kernel)
    (by decide +kernel)
/-- A context saved, and one whose checks pass. -/
theorem witness_ContextOrders :
    (let o := orderOf 0x1B 0 0 [(16, 64), (24, 1024)]
     let s := ordered o (slotIn .stopped segmented)
     (s.mayRun 0x1B 9 o ∧ o.lawful 0 (o.target < 48) [(16, 16)]) ∧ hallModule (o.field 16 8) = s.fabric.moduleId ∧ o.field 16 8 % 64 = 0 ∧
      o.field 24 8 % 64 = 0 ∧ (∀ c ∈ (s.begin o).rangeChecks (o.field 16 8) (o.field 24 8) 16 24, c.ok = true) ∧
      (s.begin o).rangeHeld (o.field 16 8) (o.field 24 8) = none ∧ (s.slot o.target).image = some (imageOf (.fpr 0)) ∧
      (contextLayout (imageOf (.fpr 0)) (s.slot o.target).replicas (s.slot o.target).segmentSize).2.2.2.2 ≤ o.field 24 8 ∧
      (s.slot o.target).state = .stopped) ∧
    (let o := orderOf 0x1C 0 0 [(16, 64), (24, 1024)]
     let s := ordered o (holdingBytes .faulted segmented contextBytes)
     (s.mayRun 0x1C 9 o ∧ o.lawful 0 (o.target < 48) [(16, 16)]) ∧ hallModule (o.field 16 8) = s.fabric.moduleId ∧
      (s.slot o.target).image = some (imageOf (.fpr 0)) ∧ (s.slot o.target).state ∈ [.loaded, .stopped, .faulted] ∧
      ∃ t c, (s.begin o).readContext o.begun (imageOf (.fpr 0)) = (t, .ok c)) :=
  ⟨⟨order_of (by decide +kernel) (by decide +kernel), by decide +kernel⟩, order_of (by decide +kernel) (by decide +kernel), by decide +kernel,
    by decide +kernel, by decide +kernel, restores⟩

/-- Each outcome of SLOT_START: not a slot that starts, a condition of R424 open, a deferred test, a start. -/
theorem witness_SlotRunOrders_start :
    (∀ st ∈ [SlotState.running, .loaded, .stopped], let o := orderOf 0x19 0 0 []
     let s := ordered o (slotIn st)
     (s.mayRun 0x19 9 o ∧ o.lawful 0 (o.target < 48) []) ∧ ((s.slot o.target).state ∉ [.loaded, .stopped] ↔ st = .running) ∧
      (s.slot o.target).effective.startRefusal ≠ 0) ∧
    (∀ tests ∈ [[], [({ calibrate := true, code := 1, unit := 0, seq := 0 } : PendingTest)]], let o := orderOf 0x19 0 0 []
     let s := ordered o { slotIn .stopped ready with arbiter := { Arbiter.idle with tests := tests } }
     s.mayRun 0x19 9 o ∧ (s.slot o.target).state ∈ [.loaded, .stopped] ∧ (s.slot o.target).effective.startRefusal = 0 ∧
      ((s.begin o).testsPending.any fun t => (s.begin o).testWaitsFor t o.target) = decide (tests ≠ [])) := by
  refine ⟨fun st h => ?_, fun ts h => ?_⟩ <;> simp only [List.mem_cons, List.not_mem_nil, or_false] at h
  · rcases h with rfl | rfl | rfl <;> exact ⟨order_of (by decide +kernel) (by decide +kernel), by decide +kernel⟩
  · rcases h with rfl | rfl <;> exact ⟨mayRun_of (by decide +kernel), by decide +kernel⟩
/-- Each outcome of SLOT_ENABLE. -/
theorem witness_SlotRunOrders_enable : ∀ st ∈ [SlotState.running, .disabled], ∀ b ∈ [true, false], let o := orderOf 0x1E 0 0 []
    let s := ordered o (slotIn st fun x => { x with disabledFaulted := b })
    (s.mayRun 0x1E 9 o ∧ o.lawful 0 (o.target < 48) []) ∧ ((s.slot o.target).state = .disabled ↔ st = .disabled) ∧
      (s.slot o.target).disabledFaulted = b := by
  intro st h b h'
  simp only [List.mem_cons, List.not_mem_nil, or_false] at h h'
  rcases h with rfl | rfl <;> rcases h' with rfl | rfl <;> exact ⟨order_of (by decide +kernel) (by decide +kernel), by decide +kernel⟩
/-- SLOT_STOP and SLOT_DISABLE, with and without HARD, of a slot that runs, that stops with and without HARD, and that stands still. -/
theorem witness_SlotRunOrders_stop : ∀ op ∈ [(0x1A, 8), (0x1D, 0)], ∀ flags ∈ [0, 4], let o := orderOf op.1 flags 0 []
    (∀ st ∈ [SlotState.running, .stopped, .loaded, .empty, .disabled], let s := ordered o (slotIn st)
      (s.mayRun op.1 9 o ∧ o.lawful 4 (o.target < 48) [(16, op.2)]) ∧ (s.slot o.target).state = st ∧ bitAt o.flags 2 = flags / 4) ∧
    (∀ hard ∈ [true, false], let s := ordered o (slotIn .stopping fun x => { x with drain := some (newDrain hard 0 [] none) })
      s.mayRun op.1 9 o ∧ (s.slot o.target).state = .stopping ∧
        (((s.begin o).abortOrders o.target o.seq).slot o.target).drain.map Drain.hard = some hard) := by
  intro op h flags h'
  simp only [List.mem_cons, List.not_mem_nil, or_false] at h h'
  rcases h with rfl | rfl <;> rcases h' with rfl | rfl <;> refine ⟨fun st h => ?_, fun b h => ?_⟩ <;>
    simp only [List.mem_cons, List.not_mem_nil, or_false] at h
  all_goals first
    | (rcases h with rfl | rfl <;> exact ⟨mayRun_of (by decide +kernel), by decide +kernel⟩)
    | (rcases h with rfl | rfl | rfl | rfl | rfl <;> exact ⟨order_of (by decide +kernel) (by decide +kernel), by decide +kernel⟩)
/-- A slot that resumes with the settings it stopped with; a stop with an order; a queue with an earlier order of a slot and one of another. -/
theorem witness_SlotRunOrders_effects :
    (let s := slotIn .stopped ready
     (s.slot 0).startPoint = false ∧ (s.slot 0).drain = none ∧ ((s.slot 0).inForce ((s.slot 0).resume - 1)).runs = (s.slot 0).effective.runs ∧
      (∀ c ∈ s.slotCores 0, (s.core c).parked = [])) ∧
    (let s := ordered (orderOf 0x1A 0 0 []) (slotIn .stopping fun x => { x with drain := some (newDrain false 0 [9] none) })
     (s.slot 0).drain.map Drain.orders = some [9] ∧ ((launching true).core 0).slot = some 0) ∧
    (let q := orderOf 0x18 0 0 []
     let s := { State.reset with arbiter := { Arbiter.idle with orders := [q, { q with id := 8, seq := 2 }] } }
     q ∈ s.arbiter.orders ∧ q.seq < 2 ∧ q.slot? = some 0 ∧ { q with id := 8, seq := 2 } ∈ s.arbiter.orders ∧
      ∀ y ∈ s.arbiter.orders, y.seq < 2 → y.id ≠ 8) := by decide +kernel
/-! ### Witnesses: results, objects, tests, fabric, counters, management -/

/-- Lines of zeros from HBM address 64 on. -/
def zeroLines (n : Nat) (s : State) : State := { s with mem := Mem.cellsOf memBackground 64 (zeros (64 * n)), stations := served }
/-- A slot with one capture, its samples and statistics at address 64. -/
def captured (x : Slot) : Slot := { x with capCount := 1, sampleAddr := 64, statsAddr := 64 }
theorem witness_ResultOrders_reads :
    (∀ n ∈ [0, 1], let o := orderOf 0x20 0 0 [(22, n), (24, 64), (32, 128)]
     let s := ordered o (zeroLines 1 (slotIn .stopped captured))
     let x := s.slot o.target
     (s.mayRun 0x20 9 o ∧ o.lawful 0 (o.target < 48) [(16, 24)]) ∧ o.field 16 4 < x.capCount ∧ (o.field 22 2 = 0 ∨ o.field 20 2 < x.replicas) ∧
      o.field 22 2 = n ∧ o.field 20 2 + o.field 22 2 ≤ x.replicas ∧ x.image = some (imageOf (.fpr 0)) ∧
      o.hostRoom 24 32 (n * (64 + (imageOf (.fpr 0)).sampleSize)) ∧ x.state ≠ .empty ∧
      ((s.begin o).sampleRecords x (imageOf (.fpr 0)) 0 0 n).2.isSome = true ∧
      ((s.begin o).sampleRecords x (imageOf (.fpr 0)) 0 0 n).1.barsUp = true) ∧
    (let o := orderOf 0x21 0 0 [(24, 64), (32, 448)]
     let s := ordered o (zeroLines 7 (slotIn .stopped captured))
     let x := s.slot o.target
     let r := (s.begin o).readLocal (hallLocal x.statsAddr + 0 * x.statSize) x.statSize
     (s.mayRun 0x21 9 o ∧ o.lawful 0 (o.target < 48) [(16, 4), (24, 16)]) ∧ o.field 16 4 < x.capCount ∧ o.hostRoom 24 32 x.statSize ∧
      x.state ≠ .empty ∧ r.2.isSome = true ∧ r.1.barsUp = true) := by
  refine ⟨fun n h => ?_, order_of (by decide +kernel) (by decide +kernel), by decide +kernel, ?_, by decide +kernel⟩
  · simp only [List.mem_cons, List.not_mem_nil, or_false] at h
    rcases h with rfl | rfl <;>
      exact ⟨order_of (by decide +kernel) (by decide +kernel), by decide +kernel, by decide +kernel, by decide +kernel, by decide +kernel,
        by decide +kernel, ⟨by decide +kernel, by decide +kernel, by decide +kernel⟩, by decide +kernel⟩
  · exact ⟨by decide +kernel, by decide +kernel, by decide +kernel⟩
/-- A plain and a signed seal, an attestation, the key of every WHICH. -/
theorem witness_ResultOrders_seals :
    (∀ signed ∈ [0, 1], let o := orderOf 0x22 (4 * signed) 0 [(16, 64), (24, 576)]
     let s0 := slotIn .stopped fun x => { x with completed := some 3 }
     let s := ordered o { s0 with rot := { s0.rot with bootVerified := true }, regs := { s0.regs with secLock := 0x300 } }
     (s.mayRun 0x22 9 o ∧ o.lawful 4 (o.target < 48) [(16, 16)]) ∧ o.hostRoom 16 24 576 ∧ (s.slot o.target).state = .stopped ∧
      (s.slot o.target).completed.isSome = true ∧ bitAt o.flags 2 = signed ∧ s.barsUp = true ∧ s.rot.bootVerified = true ∧
      s.debugLocked = true ∧ s.testLocked = true) ∧
    (let o := orderOf 0x60 0 0xFFFF [(16, 7), (48, 64), (56, 640)]
     ((ordered o State.reset).mayRun 0x60 9 o ∧ o.lawful 0 (o.target = 0xFFFF) [(16, 48)]) ∧ o.hostRoom 48 56 640) ∧
    (let o := orderOf 0x61 0 0xFFFF [(16, 2), (24, 64), (32, 6144)]
     let s := ordered o State.reset
     (s.mayRun 0x61 9 o ∧ o.lawful 0 (o.target = 0xFFFF) [(16, 1), (24, 16)]) ∧ o.field 16 1 < 4 ∧
      o.hostRoom 24 32 (roundUp 64 (s.keyData (o.field 16 1)).length) ∧ s.barsUp = true) ∧
    (∀ attest ∈ [true, false], let o := orderOf 0x60 0 0xFFFF [(48, 64), (56, 640)]
     let q : SignReq := { order := 9, attest := attest, salt := some (zeros 32) }
     let s := ordered o { State.reset with rot := { State.reset.rot with signing := [q] } }
     s.rot.signing = q :: [] ∧ q.salt.isSome = true ∧ (s.arbiter.orders.find? fun o => o.id = q.order) = some o ∧ s.barsUp = true) := by
  refine ⟨fun b h => ?_, ⟨order_of (by decide +kernel) (by decide +kernel), by decide +kernel, by decide +kernel, by decide +kernel⟩,
    ⟨order_of (by decide +kernel) (by decide +kernel), by decide +kernel, ⟨by decide +kernel, by decide +kernel, ?_⟩, by decide +kernel⟩, fun b h => ?_⟩
  · simp only [List.mem_cons, List.not_mem_nil, or_false] at h
    rcases h with rfl | rfl <;>
      exact ⟨order_of (by decide +kernel) (by decide +kernel), ⟨by decide +kernel, by decide +kernel, by decide +kernel⟩, by decide +kernel⟩
  · rw [show (orderOf 0x61 0 0xFFFF [(16, 2), (24, 64), (32, 6144)]).field 16 1 = 2 by decide +kernel,
      show (orderOf 0x61 0 0xFFFF [(16, 2), (24, 64), (32, 6144)]).field 32 8 = 6144 by decide +kernel]
    simp only [State.keyData, certificate, List.length_append, List.length_take, roundUp]; omega
  · simp only [List.mem_cons, List.not_mem_nil, or_false] at h
    rcases h with rfl | rfl <;> decide +kernel
/-- Bytes that are no signature of a body. -/
theorem witness_ResultOrders_signature : ([] : List Byte) ≠ attestSign (zeros 1) (zeros 32) := fun h => by
  have length_leBytes : ∀ n v, (leBytes n v).length = n := by intro n; induction n <;> simp_all [leBytes]
  simpa [attestSign, rsaSign, beBytes, length_leBytes] using congrArg List.length h
/-- Entropy for the smallest and the largest length, a seed for a slot, and the three reasons to refuse and none. -/
theorem witness_ResultOrders_entropy :
    (∀ len ∈ [64, 4096], let o := orderOf 0x30 0 0xFFFF [(16, 64), (24, len)]
     ((ordered o State.reset).mayRun 0x30 9 o ∧ o.lawful 0 (o.target = 0xFFFF) [(16, 12)]) ∧ o.field 16 8 % 64 = 0 ∧ o.field 24 4 % 64 = 0 ∧
      64 ≤ o.field 24 4 ∧ o.field 24 4 ≤ 4096) ∧
    (let o := orderOf 0x31 0 0 [(16, 64), (24, 64)]
     ((ordered o (slotIn .loaded)).mayRun 0x31 9 o ∧ o.lawful 0 (o.target < 48) [(16, 16)]) ∧ o.hostRoom 16 24 64) ∧
    16 ≤ (List.replicate 16 ({ order := 9, attest := true, salt := none } : SignReq)).length ∧ State.reset.rot.signing.length < 16 ∧
    ({ State.reset.entropy with state := .fault }).state = .fault ∧ State.reset.entropy.state ≠ .fault := by
  refine ⟨fun n h => ?_, ⟨order_of (by decide +kernel) (by decide +kernel), by decide +kernel, by decide +kernel, by decide +kernel⟩, by decide⟩
  simp only [List.mem_cons, List.not_mem_nil, or_false] at h
  rcases h with rfl | rfl <;> exact ⟨order_of (by decide +kernel) (by decide +kernel), by decide +kernel⟩

/-- A state with an object of the host as object 64 of cluster 0. -/
def hostObject : State := { State.reset with clusters := [(0, { Cluster.idle with objects := [(64, newObject 1 0xFE 0 4 0 0)] })] }
/-- The same object with a count of 3 and a SYNC_WAIT. -/
def waitedObject : State :=
  withObject { newObject 1 0xFE 0 4 0 0 with count0 := 3, waiting := [.order 7] } State.reset
theorem witness_SyncOrders :
    (∀ thr ∈ [1, 2 ^ 24], let o := orderOf 0x28 0 0xFFFF [(32, thr), (38, 1)]
     let s := ordered o State.reset
     (s.mayRun 0x28 9 o ∧ o.lawful 4 (o.target = 0xFFFF) [(16, 24)]) ∧ bitAt o.flags 2 = 0 ∧ o.field 16 8 = 0 ∧ 1 ≤ o.field 32 4 ∧
      o.field 32 4 ≤ 2 ^ 24 ∧ o.field 36 2 = 0 ∧ o.field 38 1 = 1 ∧ o.field 39 1 = 0 ∧ s.freeObject = some (0, 64)) ∧
    (let o := orderOf 0x28 0 0xFFFF [(16, 0x040000004100), (32, 1), (38, 1)]
     let s := ordered o State.reset
     (s.mayRun 0x28 9 o ∧ o.lawful 4 (o.target = 0xFFFF) [(16, 24)]) ∧ o.field 16 8 ≠ 0 ∧ (s.ownObject (o.field 16 8)).isSome = true ∧
      ((s.ownObject (o.field 16 8)).map s.object) = some none) ∧
    (∀ handle ∈ [1, 2], let o := orderOf 0x28 0 0 [(32, 1), (36, 4096), (38, 2), (39, handle)]
     let s := ordered o (slotIn .loaded)
     (s.mayRun 0x28 9 o ∧ o.lawful 4 (o.target < 48) [(16, 24)]) ∧ (s.slot o.target).state ∈ [.loaded, .stopped] ∧ bitAt o.flags 2 = 0 ∧
      o.field 36 2 = 4096 ∧ o.field 38 1 = 2 ∧ s.freeObject = some (0, 64) ∧
      (((s.slot o.target).handles.at (o.field 39 1)).isSome = true ↔ handle = 1)) ∧
    (let o := orderOf 0x28 4 0 [(16, 0x0005040000004000), (39, 2)]
     let s := ordered o (slotIn .loaded)
     (s.mayRun 0x28 9 o ∧ o.lawful 4 (o.target < 48) [(16, 24)]) ∧ bitAt o.flags 2 = 1 ∧ o.field 16 8 ≠ 0 ∧
      (syncAt (hallLocal (o.field 16 8))).isSome = true ∧ (s.slot o.target).handles.at (o.field 39 1) = none) ∧
    (∀ h ∈ [1, 2], let o := orderOf 0x29 0 0 [(16, h)]
     let s := ordered o (slotIn .loaded)
     (s.mayRun 0x29 9 o ∧ o.lawful 0 (o.target < 48) [(16, 1)]) ∧ (s.slot o.target).state ∈ [.loaded, .stopped, .faulted, .disabled] ∧
      (((s.slot o.target).handles.at (o.field 16 1)).isSome = true ↔ h = 1)) ∧
    (let o := orderOf 0x29 0 0xFFFF [(16, 0x040000004000)]
     let s := ordered o hostObject
     (s.mayRun 0x29 9 o ∧ o.lawful 0 (o.target = 0xFFFF) [(16, 8)]) ∧ s.ownObject (o.field 16 8) = some (0, 64) ∧
      s.object (0, 64) = some (newObject 1 0xFE 0 4 0 0) ∧ (newObject 1 0xFE 0 4 0 0).owner = 0xFE) ∧
    (∀ n ∈ [1, 4], let o := orderOf 0x2A 0 0xFFFF [(16, 0x040000004000), (24, n)]
     let s := ordered o waitedObject
     let y := { newObject 1 0xFE 0 4 0 0 with count0 := 3 - (n - 1) % 3, waiting := [.order 7] }
     (s.mayRun 0x2A 9 o ∧ o.lawful 0 (o.target = 0xFFFF) [(16, 11)]) ∧ s.ownObject (o.field 16 8) = some (0, 64) ∧ s.object (0, 64) = some y ∧
      y.mode = 1 ∧ y.threshold ≤ 2 ^ 24 ∧ y.target = 0 ∧ o.field 24 3 = n ∧ y.threshold ≤ y.count0 + n ∧ y.count0 + n < 2 * y.threshold ∧
      y.crossbar = []) ∧
    (let o := orderOf 0x2A 0 0xFFFF [(16, 0x040000004000), (24, 1)]
     let s := ordered o hostObject
     s.mayRun 0x2A 9 o ∧ s.ownObject (o.field 16 8) = some (0, 64) ∧ (newObject 1 0xFE 0 4 0 0).count0 + 1 < 4) ∧
    (let o := orderOf 0x2B 0 0xFFFF [(16, 0x040000004000)]
     let s := ordered o hostObject
     (s.mayRun 0x2B 9 o ∧ o.lawful 0 (o.target = 0xFFFF) [(16, 8)]) ∧ s.ownObject (o.field 16 8) = some (0, 64) ∧ s.fabric.moduleId ≠ 0xFFFF ∧
      (newObject 1 0xFE 0 4 0 0).waiting.length < 64 ∧ (newObject 1 0xFE 0 4 0 0).crossbar = []) ∧
    (let s := { hostObject with slots := [(0, slotOf (.fpr 0))] }
     (s.slot 0).handles.at 1 = some 0x040000004000 ∧ s.ownObject 0x040000004000 = some (0, 64)) := by
  refine ⟨fun n h => ?_, ⟨order_of (by decide +kernel) (by decide +kernel), by decide +kernel⟩, fun n h => ?_,
    ⟨order_of (by decide +kernel) (by decide +kernel), by decide +kernel⟩, fun n h => ?_,
    ⟨order_of (by decide +kernel) (by decide +kernel), by decide +kernel⟩, fun n h => ?_, ⟨mayRun_of (by decide +kernel), by decide +kernel⟩,
    ⟨order_of (by decide +kernel) (by decide +kernel), by decide +kernel⟩, by decide +kernel⟩ <;>
  · simp only [List.mem_cons, List.not_mem_nil, or_false] at h
    rcases h with rfl | rfl <;> exact ⟨order_of (by decide +kernel) (by decide +kernel), by decide +kernel⟩

/-- The first and the last unit of the first and the last code of each test. -/
theorem witness_TestAndFenceOrders_tests : ∀ t ∈ [(0x38, false, 1, 0), (0x38, false, 6, 0xB3), (0x39, true, 1, 5), (0x39, true, 3, 0xB3),
      (0x88, false, 1, 9215), (0x88, false, 6, 0xB3), (0x88, true, 0x81, 0), (0x88, true, 0x83, 0xB3)],
    let o := orderOf t.1 4 0xFFFF [(16, t.2.2.1), (20, t.2.2.2)]
    let s := ordered o State.reset
    (∀ r ∈ s.arbiter.runningTests, r.order ≠ 9) ∧ (s.mayRun t.1 9 o ∧ o.lawful 4 (o.target = 0xFFFF) [(16, 1), (20, 4)]) ∧
      o.field 16 1 = t.2.2.1 ∧ testUnitOk t.2.1 (if 0x81 ≤ o.field 16 1 then o.field 16 1 - 0x80 else o.field 16 1) (o.field 20 4) = true := by
  intro t h
  simp only [List.mem_cons, List.not_mem_nil, or_false] at h
  rcases h with rfl | rfl | rfl | rfl | rfl | rfl | rfl | rfl <;>
    exact ⟨by decide +kernel, order_of (by decide +kernel) (by decide +kernel), by decide +kernel⟩
/-- A fence and a lift of the last core by host and management; a castling of a core to a spare named and chosen. -/
theorem witness_TestAndFenceOrders_fences :
    (∀ op ∈ [0x48, 0x82], ∀ lift ∈ [0, 1], let o := orderOf op (4 * lift) 9215 []
     ((ordered o State.reset).mayRun op 9 o ∧ o.lawful 4 (o.target < 9216) []) ∧ bitAt o.flags 2 = lift) ∧
    (∀ named ∈ [0xFFFFFFFF, 9215], let o := orderOf 0x49 0 0 [(16, named)]
     let s := ordered o { State.reset with cores := [(9215, Core.idle .spare)] }
     (s.mayRun 0x49 9 o ∧ o.lawful 0 (o.target < 9216) [(16, 4)]) ∧ o.field 16 4 = named ∧
      (named < 9216 → (s.core named).kind = .spare ∧ named ≠ o.target)) ∧
    ({ State.reset with cores := [(0, Core.idle .fenced)] }.core 0).kind = .fenced := by
  refine ⟨fun op h l h' => ?_, fun n h => ?_, rfl⟩
  · simp only [List.mem_cons, List.not_mem_nil, or_false] at h h'
    rcases h with rfl | rfl <;> rcases h' with rfl | rfl <;> exact ⟨order_of (by decide +kernel) (by decide +kernel), by decide +kernel⟩
  · simp only [List.mem_cons, List.not_mem_nil, or_false] at h
    rcases h with rfl | rfl <;> exact ⟨order_of (by decide +kernel) (by decide +kernel), by decide +kernel⟩

/-- A table of zeros is read, and has no fault. -/
theorem table_read {s : State} {a : Nat} (ha : a = 64) (hm : s.mem = Mem.cellsOf memBackground 64 (zeros (64 * 17))) (hu : s.upsets = [])
    (hp : s.stations = served)
    (hr : s.readRefusal (64 + 64 * 0) (64 * 17) = none) : ∃ t bs, s.readAccess a 1088 = (t, .ok bs) ∧ tableFault bs = none := by
  have hl : (zeros (64 * 17)).length = 1088 := by rw [zeros, List.length_replicate]
  have ht : tableFault (slice (zeros (64 * 17)) (64 * 0) (64 * 17)) = none := by decide +kernel
  have hr := readAccess_hbm (k := 17) (a := 0) hm hu hp (by omega) (by omega) (by omega) hr
  rw [show 64 + 64 * 0 = a by omega, show 64 * 17 = 1088 by rfl] at hr
  exact ⟨_, _, hr, ht⟩
/-- A new module ID, a table of zeros, a port that is asked for its state and one that is enabled. -/
theorem witness_FabricOrders :
    (let o := orderOf 0x40 0 0xFFFF [(16, 5), (18, 1), (24, 0xFF)]
     let s := ordered o State.reset
     (s.mayRun 0x40 9 o ∧ o.lawful 4 (o.target = 0xFFFF) [(16, 3), (20, 5)]) ∧ o.field 16 2 ≠ 0xFFFF ∧ o.field 18 1 = 1 ∧ o.field 20 2 = 0 ∧
      o.field 22 2 = 0 ∧ o.field 24 1 = 0xFF ∧
      (∀ k, k < 12 → ¬ (s.port k).state ∈ [PortState.authenticating, .training, .up, .retraining]) ∧ bitAt o.flags 2 = 0) ∧
    (let o := orderOf 0x41 0 0xFFFF [(16, 64)]
     let s := ordered o (zeroLines 17 State.reset)
     (s.mayRun 0x41 9 o ∧ o.lawful 0 (o.target = 0xFFFF) [(16, 8)]) ∧ hallModule (o.field 16 8) = s.fabric.moduleId ∧
      (∀ k, k < 48 → (s.slot k).active = false) ∧
      ∃ t bs, (s.begin o).readAccess (hallLocal (o.field 16 8)) 1088 = (t, .ok bs) ∧ tableFault bs = none) ∧
    (∀ action ∈ [0, 1], let o := orderOf 0x42 0 11 [(16, action), (17, 3)]
     let s := ordered o { State.reset with regs := { State.reset.regs with file := [(portCtrlKey 11, 0x10)] } }
     let u := s.begin o
     (s.mayRun 0x42 9 o ∧ o.lawful 4 (o.target < 12) [(16, 2)]) ∧ o.field 17 1 ≤ 3 ∧ o.field 16 1 = action ∧
      u.portLockBreaks 11 (u.stagedCtrl 11 (some true) (o.field 17 1) none) = false ∧
      (u.strobePort 11 (u.stagedCtrl 11 (some true) (o.field 17 1) none)).2 = true) := by
  refine ⟨⟨order_of (by decide +kernel) (by decide +kernel), by decide +kernel⟩, ⟨order_of (by decide +kernel) (by decide +kernel),
    by decide +kernel, by decide +kernel, table_read (by decide +kernel) rfl rfl rfl (by decide +kernel)⟩, fun n h => ?_⟩
  simp only [List.mem_cons, List.not_mem_nil, or_false] at h
  rcases h with rfl | rfl <;> exact ⟨order_of (by decide +kernel) (by decide +kernel), by decide +kernel⟩

/-- Each action on the last cluster, a port and the host station, locked and not, stopped by a mismatch and not. -/
theorem witness_CounterOrders : ∀ action ∈ [0, 1, 3], ∀ u ∈ [(2, 143, 0x20), (4, 11, 0x113), (4, 15, 0x122)], ∀ locked ∈ [true, false],
    let o := orderOf 0x58 0 0xFFFF [(16, u.1), (18, u.2.1), (20, 15), (22, u.2.2), (24, action)]
    let unit := if o.field 16 1 = 2 then o.field 18 2 else 0x100 + o.field 18 2
    let key := evselKey unit 15
    let s := ordered o { State.reset with regs := { State.reset.regs with file := [(key, 0)], secLock := if locked then 128 else 0 } }
    (s.mayRun 0x58 9 o ∧ o.lawful 0 (o.target = 0xFFFF) [(16, 1), (18, 3), (22, 3)]) ∧
      (o.field 16 1 = 2 ∧ o.field 18 2 < 144 ∨ o.field 16 1 = 4 ∧ (o.field 18 2 < 12 ∨ o.field 18 2 = 15)) ∧ o.field 20 1 < 16 ∧
      o.field 24 1 = action ∧ eventOk (counterKind unit) (o.field 22 2) = true ∧ (s.begin o).secLocked 7 = locked ∧
      Nat.land ((s.begin o).stored key) 0xFFFF0000 + o.field 22 2 ≠ (s.begin o).stored key ∧
      ((s.begin o).checkCounters unit).counterParity unit = false := by
  intro a h u h' l h''
  simp only [List.mem_cons, List.not_mem_nil, or_false] at h h' h''
  rcases h with rfl | rfl | rfl <;> rcases h' with rfl | rfl | rfl <;> rcases h'' with rfl | rfl <;>
    exact ⟨order_of (by decide +kernel) (by decide +kernel), by decide +kernel⟩
/-- A unit that a mismatch stops; a tag setting, under its lock and without, at the ends of its ranges. -/
theorem witness_CounterOrders_parity :
    (let s := { State.reset with perf := { State.reset.perf with hostParity := true } }
     (s.checkCounters 0x10F).counterParity 0x10F = true) ∧
    (∀ slot ∈ [0xFF, 47], ∀ locked ∈ [true, false], let o := orderOf 0x59 0 0xFFFF [(16, 20), (17, slot)]
     let s := ordered o { State.reset with regs := { State.reset.regs with file := [(0x0B0008, 0)], secLock := if locked then 128 else 0 } }
     let u := s.begin o
     (s.mayRun 0x59 9 o ∧ o.lawful 0 (o.target = 0xFFFF) [(16, 2)]) ∧ tagOk (o.field 16 1) 0xFF = true ∧ tagOk 0 (o.field 17 1) = true ∧
      Nat.land (u.stored 0x0B0008) 0xFFFF00E0 + o.field 17 1 * 256 + o.field 16 1 ≠ u.stored 0x0B0008 ∧ u.secLocked 7 = locked ∧
      u.checkTag.perf.tagParity = false) := by
  refine ⟨by decide, fun n h l h' => ?_⟩
  simp only [List.mem_cons, List.not_mem_nil, or_false] at h h'
  rcases h with rfl | rfl <;> rcases h' with rfl | rfl <;> exact ⟨order_of (by decide +kernel) (by decide +kernel), by decide +kernel⟩

/-- A management order that may run, with its packet's fields, in a state with a record of telemetry. -/
theorem witness_ManagementOrders : ∀ t ∈ [(0x80, 0, 0, 8, [(16, 64)]), (0x81, 0, 0, 2, [(16, 0)]), (0x81, 0, 0, 2, [(16, 500)]),
      (0x81, 0, 0, 2, [(16, 850)]), (0x83, 0, 0, 8, [(16, 64)])],
    let o := orderOf t.1 t.2.1 0xFFFF t.2.2.2.2
    let s := ordered o { State.reset with mgmt := { State.reset.mgmt with telemetry := zeros 256 } }
    (s.mayRun t.1 9 o ∧ o.lawful t.2.2.1 (o.target = 0xFFFF) [(16, t.2.2.2.1)]) ∧ s.endpointUp = true ∧ s.mgmt.telemetry ≠ [] ∧
      (t.1 = 0x81 → o.field 16 2 = 0 ∨ (500 ≤ o.field 16 2 ∧ o.field 16 2 ≤ 850)) := by
  intro t h
  simp only [List.mem_cons, List.not_mem_nil, or_false] at h
  rcases h with rfl | rfl | rfl | rfl | rfl <;> exact ⟨order_of (by decide +kernel) (by decide +kernel), by decide +kernel⟩
/-- Both rings, each kind of reset with and without an aligned start, an image not staged, a chunk at the end of the image. -/
theorem witness_ManagementOrders_resets :
    (∀ b ∈ [0, 4], let o := orderOf 0x87 b 0xFFFF [(16, 1), (24, 64), (32, 32)]
     let s := ordered o State.reset
     (s.mayRun 0x87 9 o ∧ o.lawful 4 (o.target = 0xFFFF) [(16, 4), (24, 16)]) ∧ o.field 32 8 % 32 = 0 ∧ s.endpointUp = true) ∧
    (∀ kind ∈ [1, 2], ∀ b ∈ [0, 12], let o := orderOf 0x86 b 0xFFFF [(16, kind)]
     let s := ordered o { State.reset with platform := { Platform.up with everTrained := true } }
     (s.mayRun 0x86 9 o ∧ o.lawful 0x0C (o.target = 0xFFFF) [(16, 1)]) ∧ (o.field 16 1 = 1 ∨ o.field 16 1 = 2) ∧
      (s.firstActive = none ∨ bitAt o.flags 2 = 1) ∧ s.platform.everTrained = true) ∧
    (∀ ready ∈ [true, false], let o := orderOf 0x85 4 0xFFFF []
     let s := ordered o { State.reset with rot := { State.reset.rot with stageReady := ready } }
     (s.mayRun 0x85 9 o ∧ o.lawful 4 (o.target = 0xFFFF) []) ∧ s.rot.stageReady = ready ∧ bitAt o.flags 2 = 1) ∧
    (let o := orderOf 0x84 8 0xFFFF [(16, 64), (24, 0x01BFF000), (28, 4096)]
     let s := ordered o { State.reset with rot := { State.reset.rot with stageOpen := true } }
     (s.mayRun 0x84 9 o ∧ o.lawful 0x0C (o.target = 0xFFFF) [(16, 16)]) ∧ (∀ x ∈ s.mgmt.alone, x.opcode = 0x84 → x.started = true → x.id = 9) ∧
      o.field 24 4 % 4096 = 0 ∧ o.field 28 4 % 4096 = 0 ∧ o.field 28 4 ≠ 0 ∧ o.field 28 4 ≤ 2 ^ 20 ∧
      o.field 24 4 + o.field 28 4 ≤ imageSlotSize ∧ s.rot.running.trial = false ∧ s.rot.stageOpen = true ∧ bitAt o.flags 2 = 0 ∧
      (∀ x ∈ s.rot.stageRanges, overlaps (o.field 24 4) (o.field 28 4) x.1 x.2 = false) ∧ s.endpointUp = true) := by
  refine ⟨fun n h => ?_, fun n h b h' => ?_, fun n h => ?_, order_of (by decide +kernel) (by decide +kernel), by decide +kernel⟩ <;>
    simp only [List.mem_cons, List.not_mem_nil, or_false] at h
  · rcases h with rfl | rfl <;> exact ⟨order_of (by decide +kernel) (by decide +kernel), by decide +kernel⟩
  · simp only [List.mem_cons, List.not_mem_nil, or_false] at h'
    rcases h with rfl | rfl <;> rcases h' with rfl | rfl <;> exact ⟨order_of (by decide +kernel) (by decide +kernel), by decide +kernel⟩
  · rcases h with rfl | rfl <;> exact ⟨order_of (by decide +kernel) (by decide +kernel), by decide +kernel⟩
/-- A header of an image: an RSA modulus of 2 ^ 3071 + 1 with exponent 1, four empty components, and the signature, which with that exponent
is the encoded message of RSASSA-PSS with a salt of zeros (R522, R525). -/
@[irreducible] def imageHeaderBytes : List Byte := leBytes 2048 ([(0, 0x5746584C), (4, 1), (32, 4), (64, 1), (112, 2), (160, 3), (208, 4), (832, 0x80),
  (1215, 1), (1219, 1), (1280, 0xbc4d11233d4fa620b237c5d05ec30aecae7b67d7f0296d3d3e72ae6450125e51206ec58f4859c97d1d44a30d1d5878d2dd613aafdaf0026603072ddc7dc3fc009dc054f2143c3d458ac10ecbbdcab31b27070c1ce83314c6653e9b861c0d007f98b0a48cb9dadccc8268ddb606fd66ad86eb8b367ead1017bf3dcfdb5bb0f4af4e9ea784d859b659eca8bc344a08d3a0d3c5fc0d149db93b787505ef9f2b2a0de91997b1dade5dfe8cbc5d191a6c79500eed2a0b2bf4e8992cf030e5d7d978f6e9742767345b56e287063fdd0df52b5e9f7c7dc61beb95e5d5cc91ad12bb954ed7d082225207b501d7a9342fe21debb52f8ced8ad3175ae15172532d495ef049d1f38cd29c802c3f1884d119666af42e7da1aa8b984d9f0b101a96515f9e6f3ae54c8987695438a7ca5a4f7f6e2a979a384a1dd4491c0666b3c39be49e34420e176b0b4797aaa0855dc64164ec212ab337c36410330c00fec472de8ba484e7573259caecd47776f840cde7eb28de7e1d1b7be87401d5ba272eaa15cdcfb1bc51)].map fun (f : Nat × Nat) => f.2 * 2 ^ (8 * f.1)).sum
/-- A staged image whose header is that one. -/
def staged : RootOfTrust := { State.reset.rot with stageReady := true, store := Mem.write erased [] 0 imageHeaderBytes }
theorem read_of {bg : Background} {m : Mem} (n : Nat) : ∀ (a : Nat) (bs : List Byte), bs.length = n → (∀ i, i < n → Mem.get bg m (a + i) = bs[i]?) →
    Mem.read bg m a n = some bs := by
  induction n with
  | zero => intro a bs h _; rw [List.length_eq_zero_iff.mp h]; rfl
  | succ n ih =>
    intro a bs h hb
    match bs with
    | b :: bs =>
      simp only [Mem.read, ih (a + 1) bs (by simpa using h) fun i hi => by simpa [Nat.add_assoc, Nat.add_comm 1] using hb (i + 1) (by omega),
        show Mem.get bg m a = some b by simpa using hb 0 (by omega)]
/-- Where the key of the root of trust in the fuses is the digest of that public key, the staged image's header passes (R526). -/
theorem witness_ManagementOrders_activate (h : pad32 (Config.keyBytes 7) = sha256 (spki (2 ^ 3071 + 1) 1)) : staged.headerCause = 0 := by
  have hl : imageHeaderBytes.length = 2048 := by decide +kernel
  have hh : staged.header = imageHeaderBytes := by
    simp only [RootOfTrust.header, RootOfTrust.storeBytes, staged]
    rw [read_of 2048 0 imageHeaderBytes hl fun i hi => by
      rw [Mem.get_write_inside _ _ _ _ _ (by omega) (by omega), List.getElem?_eq_getElem (by omega)]
      simp only [Nat.zero_add, Nat.sub_zero]]
    rfl
  have hm : modulusOf imageHeaderBytes = 2 ^ 3071 + 1 ∧ exponentOf imageHeaderBytes = 1 := by decide +kernel
  have hc : headerForm imageHeaderBytes = true ∧ componentsGood imageHeaderBytes = true ∧ ¬ fieldAt imageHeaderBytes 16 4 < staged.otpVersion := by
    decide +kernel
  have hv : rsaVerify (2 ^ 3071 + 1) 1 (imageHeaderBytes.take 1280) (slice imageHeaderBytes 1280 384) = true := by decide +kernel
  simp only [RootOfTrust.headerCause, hh, hm.1, hm.2, hc.1, hc.2.1, hc.2.2, hv, h, ne_eq, not_true, Bool.not_true, if_false, Bool.false_eq_true]
/-! ### Witnesses: registers, window, management port, resets, supply -/

/-- The first and the last register of BAR0 that a page writes. -/
theorem witness_RegisterPages : ∀ key ∈ [0x020004, 0x0B0008], (regDesc key).isSome = true ∧ key % 4 = 0 ∧ key < 0x0E0000 ∧
    bitsAt key 15 14 = 0 ∧ State.reset.barsUp = true ∧ key ∉ [0x010000, 0x040004, 0x050008] ∧ ¬ (0x060100 ≤ key ∧ key < 0x060180) := by decide
/-- A queue that runs on a set and stops on a clear; locks free and held; the bits that each row looks at, set and clear. -/
theorem witness_ControlRegisters :
    let b := fun (v : Word) (n : Nat) => decide (bitAt v.toNat n = 1)
    State.reset.barsUp = true ∧ 63 < 64 ∧ (State.reset.queue 63).parityStop = false ∧
      pageBit .set (State.reset.queue 63).run (b 1 0) = true ∧ pageBit .clear true (b 1 0) = false ∧ b 0x80000000 31 = true ∧
      (b 0x100 8 = true ∧ b 0x100 9 = false ∧ State.reset.regs.locks.at 31 = none) ∧
      (b 0x00050200 8 = false ∧ b 0x00050200 9 = true ∧
        ({ State.reset with regs := { State.reset.regs with locks := [(31, (1, 5))] } }).regs.locks.at 31 = some (1, bitsAt (0x00050200#32).toNat 23 16)) ∧
      (∀ v ∈ [0, 16], b 16 4 = true ∧ bitAt (({ State.reset with regs := { State.reset.regs with file := [(0x08000C, BitVec.ofNat 32 v)] } }).stored 0x08000C) 4 = v / 16) ∧
      State.reset.entropy.parityStop = false := by decide
/-- Every domain with its last instance, and one that does not exist; a queue that runs, one whose shadows have a mismatch, a port whose
shadow holds no allowed value, and one with an allowed one. -/
theorem witness_Strobes : State.reset.barsUp = true ∧ domainKeys 9 0 = none ∧ domainKeys 3 9216 = none ∧
    (∀ d ∈ [(1, 63), (2, 0), (3, 9215), (4, 11), (5, 11), (6, 0), (7, 0), (8, 143), (8, 0x10F), (8, 0x200)], (domainKeys d.1 d.2).isSome = true) ∧
    (({ State.reset with queues := [(63, { Queue.idle with run := true })] }).functionRuns 1 63 = true) ∧
    (let s := { State.reset with upsets := [.cfgShadow 1 63] }
     s.functionRuns 1 63 = false ∧ .cfgShadow 1 63 ∈ s.upsets) ∧
    (∀ v ∈ [0x0, 0x30], let s := { State.reset with regs := { State.reset.regs with file := [(portCtrlKey 11, BitVec.ofNat 32 v)] } }
     s.functionRuns 4 11 = false ∧ .cfgShadow 4 11 ∉ s.upsets ∧ s.shadowsOk 4 11 = decide (v = 0x30)) := by decide

/-- A capture under way with a selector that does not exist, an index out of range and one in range; none under way. -/
theorem witness_MailboxAndIndirect_mailbox : State.reset.regs.mbxBusy = false ∧
    (∀ sel ∈ [0xFF000000, 0x22000030, 0x2200002F], let s := { State.reset with regs := { State.reset.regs with mbxBusy := true,
                                                                                                                file := [(0x040000, BitVec.ofNat 32 sel)] } }
     let w := s.regOr 0x040000 0
     s.regs.mbxBusy = true ∧ w = sel ∧ (bitsAt w 31 24 = 0xFF ↔ sel = 0xFF000000) ∧
      (bitsAt w 31 24 = 0x22 ∧ 48 ≤ w % 2 ^ 24 ↔ sel = 0x22000030) ∧ ((s.capture (bitsAt w 31 24) (w % 2 ^ 24)).2.1 = 0 ↔ sel = 0x2200002F)) := by
  decide +kernel
/-- IND_ADDR names a register with and without AUTOINC, and none; the locks free, of management and of the host. -/
theorem witness_MailboxAndIndirect_indirect :
    (∀ d i, State.reset.liveBad d i = false) ∧
    (∀ ctrl ∈ [0x200, 0x201], let s := { State.reset with regs := { State.reset.regs with
        file := [(0x050000, BitVec.ofNat 32 (portCtrlKey 11)), (0x050004, BitVec.ofNat 32 ctrl)] } }
     s.barsUp = true ∧ s.indFault = none ∧ bitAt (s.regOr 0x050004 0x200) 0 = ctrl % 2) ∧
    (let s := { State.reset with regs := { State.reset.regs with file := [(0x050000, 0xFFFFFFFC)] } }
     s.barsUp = true ∧ s.indFault.isSome = true) ∧
    (∀ l ∈ [none, some (3, 7), some (1, 7)], let s := { State.reset with regs := { State.reset.regs with locks := match l with | some k => [(31, k)] | none => [] } }
     31 < 32 ∧ s.platform.aux = true ∧ s.regs.locks.at 31 = l) :=
  ⟨fun _ _ => rfl, by decide, by decide, by decide⟩

/-- The window open at hall address 64, with lines of zeros there. -/
def windowed : State := { zeroLines 2 State.reset with regs := { State.reset.regs with winOpen := true } }
/-- A read of the last byte that the window takes, and one of two lines; the BARs down; a closed window; a line of this module. -/
theorem witness_WindowAccesses_reads :
    (∀ p ∈ [(2 ^ 36 - 1, 1), (64, 128)], State.reset.liveBad 2 0 = false ∧ (p.2 ≠ 0 ∧ p.1 + p.2 ≤ 2 ^ State.reset.platform.bar4Log2 ∧ linesOf p.1 p.2 ≤ 64) ∧
      State.reset.barsUp = true ∧ ¬ (State.reset.regs.winOpen = true ∧ State.reset.platform.boot = .ready) ∧
      ({ State.reset with platform := { Platform.up with linkSpeed := 0 } }).barsUp = false) ∧
    (windowed.barsUp = true ∧ windowed.regs.winOpen = true ∧ windowed.platform.boot = .ready ∧ windowed.far (windowed.winAddr 64) = false ∧
      (match (({ windowed with host := { windowed.host with peak := max windowed.host.peak (windowed.host.inUse + 1) } }).readAccess
        (hallLocal (windowed.winAddr 64 / 64 * 64)) (64 * linesOf (windowed.winAddr 64) 65)).2 with | .ok _ => true | .error _ => false) = true) := by
  decide +kernel
/-- A write of one line, at the last byte of the window and in it; time-outs of a read and of no access; each size of the window. -/
theorem witness_WindowAccesses_writes :
    (([7] : List Byte) ≠ [] ∧ 2 ^ 36 - 1 + ([7] : List Byte).length ≤ 2 ^ State.reset.platform.bar4Log2 ∧ State.reset.barsUp = true) ∧
    (let b : Bar4Access := { tag := 3, write := false, address := 0, length := 8 }
     1216 ≤ ((List.replicate 1216 b).filter fun b => !b.write).length ∧ ((List.replicate 1215 b).filter fun b => !b.write).length < 1216) ∧
    (windowed.far (windowed.winAddr 127) = false ∧ linesOf (windowed.winAddr 127) 1 = 1) ∧
    (State.reset.host.bar4Open.find? fun b => b.tag = 3) = none ∧
    (let b : Bar4Access := { tag := 3, write := false, address := 0, length := 8 }
     (({ HostStation.idle with bar4Open := [b] }).bar4Open.find? fun b => b.tag = 3) = some b ∧ b.write = false) ∧
    ∀ log2 ∈ [36, 39], 36 ≤ log2 ∧ log2 ≤ 39 := by decide +kernel

/-- The ring stopped with good settings, with a bad size, and running; the endpoint in reset; DEBUG_LOCK clear and set. -/
theorem witness_ManagementPort :
    State.reset.endpointUp = true ∧ ({ State.reset with platform := { Platform.up with mgmtPerstHigh := false } }).endpointUp = false ∧
    (State.reset.mgmt.run = false ∧ ∀ size ∈ [4, 8], let v : Word := BitVec.ofNat 32 (size * 256 + 1)
      bitAt v.toNat 0 = 1 ∧ bitsAt v.toNat 11 8 = size ∧ State.reset.mgmt.sqTail < 2 ^ size ∧ State.reset.mgmt.cqHead < 2 ^ size) ∧
    (∀ size ∈ [3, 9], bitsAt (BitVec.ofNat 32 (size * 256 + 1) : Word).toNat 11 8 = size ∧ (size < 4 ∨ 8 < size)) ∧
    (let m := { State.reset.mgmt with run := true, ringLog2 := 4 }
     m.run = true ∧ (15#32).toNat < 2 ^ m.ringLog2 ∧ 2 ^ m.ringLog2 ≤ (16#32).toNat ∧ m.fetched = [] ∧ bitAt (1#32).toNat 0 = 1 ∧
      bitAt (0#32).toNat 0 = 0) ∧ State.reset.platform.aux = true ∧ State.reset.platform.rails = true ∧ 4 < 5 ∧
    ∀ lock ∈ [0, 512], bitAt ({ State.reset.regs with secLock := lock }).secLock 9 = lock / 512 := by decide
/-- PERST_N low with the rails down and up; a release in each place of the start; an FLR of a module that is ready. -/
theorem witness_Resets : State.reset.platform.rails = true ∧ ({ Platform.up with rails := false }).rails = false ∧
    State.reset.platform.boot = .ready ∧ (let p := { Platform.up with boot := .training, lastReset := 3 }
     p.boot ≠ .ready ∧ p.lastReset ≠ 2 ∧ p.alignedWait = false) ∧
    (∀ w ∈ [true, false], let p := { Platform.up with boot := .training, alignedWait := w, lastReset := if w then 3 else 2 }
     p.boot ≠ .ready ∧ (p.lastReset = 2 ∨ p.alignedWait = true)) ∧ State.reset.rot.running.trial = false ∧
    State.reset.platform.perstHigh = true ∧
    (let p := { Platform.up with perstHigh := false, boot := .held }
     p.perstHigh = false ∧ p.boot = .held) ∧
    (∀ w ∈ [true, false], let p := { Platform.up with perstHigh := false, boot := .holdPerst, alignedWait := w }
     p.perstHigh = false ∧ p.boot = .holdPerst ∧ p.alignedWait = w) ∧
    (let p := { Platform.up with boot := .holdPerst, alignedWait := true, alignedEdge := true }
     p.boot = .holdPerst ∧ p.alignedWait = true ∧ p.alignedEdge = true) ∧
    ¬ (State.reset.platform.boot = .holdPerst ∧ State.reset.platform.alignedWait = true ∧ State.reset.platform.alignedEdge = true) ∧
    State.reset.platform.linkSpeed ≠ 0 ∧ State.reset.platform.boot = .ready ∧ State.reset.arbiter.orders = [] := by decide
/-- AUX_3V3 and MAIN_54V down and up; memories that train and one that does not; an image on TRIAL that is not ready. -/
theorem witness_StartUp : State.reset.platform.aux = true ∧ ({ Platform.up with aux := false }).aux = false ∧
    (let p := { Platform.up with rails := false, mgmtReady := true }
     p.rails = false ∧ p.aux = true ∧ p.mgmtReady = true) ∧ State.reset.platform.boot ≠ .training ∧
    (let p := { Platform.up with boot := .training }
     p.boot = .training ∧ p.alignedWait = false ∧ (p.lastReset ≠ 2 ∨ p.perstHigh = true) ∧ p.fatal = false) ∧
    (∀ n ∈ [0, 1, 2, 3, 4, 5, 8, 9], n ∉ [6, 7]) ∧ (∃ n ∈ [0, 1, 2, 3, 4, 5, 8, 9], n ∈ [9]) ∧
    (let r := { State.reset.rot with imageA := { State.reset.rot.imageA with trial := true }, runningB := false }
     r.running.trial = true ∧ ({ Platform.up with boot := .training }).boot ≠ .ready) ∧ State.reset.rot.running.trial = false ∧
    State.reset.platform.rails = true := by decide
/-- Power over 1,000 W, and over the cap by 1 mW; dies at 99.9375 °C and at 100 °C (1/16 °C); a warning that is not out and one that is. -/
theorem witness_SupplyLimits : State.reset.platform.rails = true ∧ State.reset.liveBad 6 0 = false ∧ 1000000 < 1000001 ∧
    (∀ mW ∈ [850000, 850001], let p := { State.reset.supply with sumMw := mW, sumCount := 1 }
     let cap := (if p.mgmtCapW = 0 then 850 else min 850 p.mgmtCapW) * 1000
     cap < p.sumMw / max 1 p.sumCount ↔ mW = 850001) ∧
    (∀ t ∈ [(1599 : Int), 1600], let tj := [t, 900, 900, 900]
     tj.length = 4 ∧ ((∃ x ∈ tj, 1600 ≤ x) ↔ t = 1600)) ∧ State.reset.supply.warn = false ∧
    ({ State.reset.supply with warn := true }).warn = true := by decide
/-! ### Witnesses: cords, ports, frames, packets, entropy, platform -/

/-- Port 11 in a state. -/
def portIn (st : PortState) (f : Port → Port := id) : State := { State.reset with ports := [(11, f { Port.idle with state := st })] }
/-- An end record of an active cord end with serial 7, with its bits sent. -/
def endRecord (sent : Nat) : List Byte := leBytes 64 (1 + 7 * 2 ^ 64 + 1 * 2 ^ (8 * 23) + sent * 2 ^ 256)
/-- A cord plugged in at a port that waits for one and at one that is DISABLED, one taken out in every kind of state, an overcurrent. -/
theorem witness_CordsAndPorts_plug : 11 < 12 ∧ State.reset.platform.aux = true ∧ State.reset.platform.rails = true ∧
    (∀ st ∈ [PortState.noCord, .disabled], ((portIn st).port 11).cordPresent = false ∧ ((portIn st).port 11).state = st ∧
      ((portIn st).port 11).vcordOff = false) ∧
    (∀ st ∈ [PortState.disabled, .up, .training], let x := (portIn st fun p => { p with cordPresent := true }).port 11
     x.cordPresent = true ∧ x.state = st ∧ (x.state.carries = true ↔ st = .up)) := by decide
/-- A modulus of 529 bits, under which a signature with exponent 1 is its own encoded message. -/
def cordModulus : Nat := 2 ^ 528 + 1
/-- The root's certificate of a cord end with a serial in its subject, signed with its own key, with a salt of zeros (R376). -/
def cordRoot (serial : Byte) : CordCert :=
  { body := [7], modulus := cordModulus, exponent := 1, digitalSignature := true, subject := List.replicate 15 0x30 ++ [serial, 0x2D, 0x41],
    signature := pssEncode (sha256 [7]) (zeros 32) 528 }
/-- The answer of that end with a record. -/
def cordAnswer (serial : Byte) (sent : Nat) : CordAnswer :=
  { chain := [cordRoot serial], signature := pssEncode (sha256 (endRecord sent)) (zeros 32) 528, record := endRecord sent }
/-- Where the cord root's digest in OTP is that of the key, the chain is good; a chain of a certificate that is not signed is not. -/
theorem witness_CordsAndPorts_chain (h : (Config.keyBytes 8 ++ zeros 32).take 32 = sha256 (spki cordModulus 1)) :
    (∀ d : Byte, chainGood (cordAnswer d 0).chain = true) ∧ chainGood [{ cordRoot 0x37 with signature := [] }] = false := by
  have hs : (cordRoot 0x37).signed (cordRoot 0x37) = true := by decide +kernel
  refine ⟨fun d => ?_, ?_⟩
  · have hd : (cordRoot d).signed (cordRoot d) = true := hs
    simp only [chainGood, cordAnswer, chainSigned, hd, List.all_cons, List.all_nil, List.getLast?_singleton, h]
    simp [cordRoot]
  · have hn : (CordCert.signed { cordRoot 0x37 with signature := [] } { cordRoot 0x37 with signature := [] }) = false := by decide +kernel
    simp only [chainGood, chainSigned, hn, Bool.false_and]
/-- A signature that is good and one over another record, a subject that the record names and one it does not; a fresh cord, one at 80 % and
one at 100 % of its wear; the policy register with and without refusal; the poll. -/
theorem witness_CordsAndPorts_answer :
    let s := portIn .authenticating fun p => { p with cordStep := .challenged, cordPresent := true, cordKind := 1 }
    let x := s.port 11
    let a := cordAnswer 0x37 0
    let r := a.record
    (x.state = .authenticating ∧ x.cordStep = .challenged) ∧ x.vcordOff = false ∧ s.liveBad 5 11 = false ∧ r.length = 64 ∧ a.chain ≠ [] ∧
      rsaVerify cordModulus 1 (x.nonce ++ r) a.signature = true ∧ rsaVerify cordModulus 1 (x.nonce ++ endRecord 1) a.signature = false ∧
      (∀ d ∈ [(0x37 : Byte), 0x38], (fieldAt r 0 4 = 1 ∧ subjectNames (cordRoot d).subject (fieldAt r 8 8) (fieldAt r 24 1) = true ∧
        fieldAt r 23 1 = x.cordKind) ↔ d = 0x37) ∧
      (∀ b ∈ [0, 176947199999, 176947200000, 221184000000], (endRecord b).length = 64 ∧ fieldAt (endRecord b) 23 1 = 1 ∧
        fieldAt (endRecord b) 32 6 = b) ∧
      (∀ v ∈ [0, 1], bitAt (({ s with regs := { s.regs with live := [(cordPolicyKey 11, BitVec.ofNat 32 v)] } }).liveReg (cordPolicyKey 11)) 0 = v) ∧
      ((portIn .retraining).port 11).state.carries = true := by decide +kernel
/-- The last port in each state of the link, with lanes at the ends of their range. -/
theorem witness_CordsAndPorts_link : 11 < 12 ∧ State.reset.liveBad 4 11 = false ∧
    (∀ b ∈ [true, false], let x := (portIn .training fun p => { p with aligned := b }).port 11
     x.state = .training ∧ x.aligned = b) ∧ 1 ≤ 15 ∧ (5 ≠ State.reset.fabric.moduleId ∧ 0 = State.reset.fabric.moduleId) ∧
    (let x := (portIn .up fun p => { p with lanesUsed := 15 }).port 11
     x.state = .up ∧ 3 < 4 ∧ bitAt x.lanesUsed 3 = 1 ∧ x.state.carries = true) ∧
    (let x := (portIn .retraining fun p => { p with lanesOut := 14, widen := false, width := 1 }).port 11
     x.state = .retraining ∧ 1 ≤ 1 ∧ 1 ≤ 15 ∧ Nat.land 1 (15 - x.lanesOut) ≠ 0) ∧ ((portIn .down).port 11).state.carries = false := by decide

/-- Frames with and without a bad codeword at a port that is UP, with a codeword of 7 and of 8 bad symbols, with a packet of one flit, with and
without a NAK; positions of alignment and of data frames. -/
theorem witness_FrameCommands :
    (let x := (portIn .up).port 11
     11 < 12 ∧ x.state = .up ∧ x.overLimit = false ∧ x.rxNak = none ∧ x.rxHigh ≤ x.rxNext) ∧ ({ idleFrame with bad := [0] }).lostWords ≠ [] ∧
    (∀ n ∈ [7, 8], ({ idleFrame with corrected := [0, 0, 0, n] }).lostWords = if n = 7 then [] else [3]) ∧
    (idleFrame.lostWords = [] ∧ idleFrame.slots = List.replicate 20 idleSlot) ∧
    (let q : FlitSlot := { tag := .single 0, link := none, msg := some (.hello 0 lockMessage), index := 0, hops := 32, destModule := 5 }
     let f : DataFrame := { slots := q :: List.replicate 19 idleSlot, corrected := [], bad := [] }
     f.lostWords = [] ∧ q.msg = some (.hello 0 lockMessage)) ∧
    (∀ n ∈ [1023, 1024], let x := (portIn .up fun p => { p with rxNak := some 0, rxNakCount := n }).port 11
     x.rxNak.isSome = true ∧ (1024 ≤ x.rxNakCount ↔ n = 1024)) ∧
    (∀ k ∈ [none, some 3], ∀ n ∈ [63, 64], let s := portIn .up fun p => { p with position := n, replayFrom := k, txNext := 4 }
     let x := s.port 11
     (x.position % 64 = 0 ↔ n = 64) ∧ x.replayFrom = k ∧ x.replaySend = [] ∧ x.txRest = [] ∧ x.txQueue = [] ∧ s.lockPackets 11 = [] ∧
      x.linkDue < 7 ∧ x.rxNakDue = false ∧ s.liveBad 8 (0x100 + 11) = false) := by decide +kernel

/-- A line whose first word is 2 ^ 63 in HBM, at the end of the Larder's GENERAL region and in a free slice, a word of a free core store, and a
request of another module for that word. -/
theorem witness_RemoteOperations_words : ∀ a ∈ [0x1000, 0x017FFFFFFFC0, 0x020000000000, 0x030000000000],
    let s := { State.reset with mem := Mem.cellsOf memBackground a (leBytes 64 (2 ^ 63))
                                cores := [(0, { Core.idle .enabled with storeWritten := true, store := [(7, 0x80)] })] }
    let r := { request with address := a, operandA := 2 ^ 64 - 1, operandB := 2 ^ 63 }
    let unit := a / unitSize a * unitSize a
    hallModule r.address = s.fabric.moduleId ∧ hallLocal r.address = a ∧ a % 8 = 0 ∧ s.fabric.moduleId ≠ 0xFFFF ∧ r.srcModule ≠ s.fabric.moduleId ∧
      s.servedLater r = false ∧ s.upsetAt unit = false ∧ s.upsets = [] ∧ (∀ k < 144, s.liveBad 8 k = false) ∧
      regionOf a = (if a = 0x1000 then .hbm else if a = 0x020000000000 then .slice 0 0 else if a = 0x030000000000 then .store 0 else .general) ∧
      ((s.cluster 0).sliceSlot.at 0 = none ∧ (s.core 0).slot = none ∧ (s.core 0).colander = false ∧ (s.core 0).members = []) ∧
      (List.range (unitSize a)).all (fun i => (s.byteAt (unit + i)).isSome) = true ∧
      (List.range 8).map (fun i => s.byteAt (a + i)) = (leBytes 8 (2 ^ 63)).map some ∧ r.operandA < 2 ^ 64 ∧ r.operandB < 2 ^ 64 := by
  decide +kernel
/-- A request behind another of its requester, a SIGNAL beyond its object's window; a word of the manual's journal, which no one may write, and a
bulk write that runs from a free slice into a reserved one. -/
theorem witness_RemoteOperations_refused :
    (let s := { State.reset with net := [.request { request with tag := 2 }, .request request] }
     s.servedLater request = true ∧ s.servedLater { request with tag := 2 } = false) ∧
    (let r := { request with op := .signal, address := 0x040000004000, epoch := 2 }
     (withObject { object with mode := 2 } State.reset).signalHeld r = true) ∧
    (let r := { request with op := .write, address := 0x010000000000 }
     hallLocal r.address % 8 = 0 ∧ ((State.reset.accept (.request r)).writeRefusal (hallLocal r.address) 8).isSome = true) ∧
    (let r := { request with op := .bulkWrite, address := 0x02000037FFC0, linesM1 := 1, data := zeros 128 }
     let u := State.reset.accept (.request r)
     let a := hallLocal r.address
     a % 64 = 0 ∧ oneWindow a 128 = true ∧ u.writeRefusal a 64 = none ∧ (u.writeRefusal (a + 64) 64).isSome = true) ∧
    (∀ a ∈ [0x1000, 0x010800000000], inData a 128 = true) := by decide +kernel
/-- Bulk reads of a line that reads, of one that does not and of an address that is not aligned; a bulk write of two lines; signals and
registrations at an object and elsewhere; a request for another module. -/
theorem witness_RemoteOperations_bulk :
    (hallModule (2 ^ 48) ≠ State.reset.fabric.moduleId ∧ request.op ≠ .bulkWrite) ∧
    (let s := zeroLines 1 State.reset
     let r := { request with op := .bulkRead, address := 64 }
     let t := { request with op := .bulkRead, address := 64 * 2 ^ 32 * 0x48 }
     hallModule r.address = s.fabric.moduleId ∧ r.op = .bulkRead ∧ hallLocal r.address % 64 = 0 ∧ 65 % 64 ≠ 0 ∧
      (match ((s.accept (.request r)).readAccess (hallLocal r.address) 64).2 with | .ok _ => true | .error _ => false) = true ∧
      hallModule t.address = s.fabric.moduleId ∧ hallLocal t.address % 64 = 0 ∧
      (match ((s.accept (.request t)).readAccess (hallLocal t.address) 64).2 with | .ok _ => false | .error _ => true) = true) ∧
    (let r := { request with op := .bulkWrite, address := 64, linesM1 := 1, data := zeros 128 }
     hallModule r.address = State.reset.fabric.moduleId ∧ r.op = .bulkWrite ∧ hallLocal r.address % 64 = 0 ∧
      oneWindow (hallLocal r.address) (64 * (r.linesM1 + 1)) = true ∧ r.data.length = 64 * (r.linesM1 + 1)) ∧
    (let a := hallLocal 0x040000004000
     hallModule 0x040000004000 = State.reset.fabric.moduleId ∧ a % 8 = 0 ∧ syncAt a = some (0, 64) ∧
      (withObject object State.reset).object (0, 64) = some object ∧ syncAt (hallLocal 0x1000) = none) := by decide +kernel

/-- A packet in the buffer of port 0 for this module and for module 5, which port 1 leads to, below and at the last hop; a message that
leaves this module; a response of a request that is open and of one that is not; a unit with and without an open request. -/
theorem witness_PacketsAndFences :
    let m : Msg := .response { status := .ok, value := 0, address := 0, respModule := 5, tag := 3, destModule := 0, data := [] }
    let t : Tracker := { tag := 3, port := 0, address := 0, op := .read, order := none, core := none, unit := 7, via := 0, reserved := false, held := none }
    (∀ dest ∈ [0, 5], ∀ hops ∈ [31, 32], ∀ pooled ∈ [true, false], let k : FabricPacket := { m.packet dest hops false with pooled := pooled }
     let s := { State.reset with ports := [(0, { Port.idle with rxBuf := [k] }), (1, { Port.idle with state := .up })]
                                 fabric := { State.reset.fabric with memberRoute := [(5, 0x8001)] } }
     let x := s.port 0
     let took := s.setPort 0 ({ x with rxBuf := x.rxBuf.erase k }.giveBack k)
     0 < 12 ∧ x.rxBuf.find? (fun p => p.vc = m.channel.1) = some k ∧ s.fabric.moduleId = 0 ∧ s.fabric.moduleId ≠ 0xFFFF ∧ dest ≠ 0xFFFF ∧
      (dest = 5 → took.route dest (some 0) = .via 1)) ∧
    (∀ r, m ≠ .request r) ∧ m.module = some 0 ∧ (State.reset.port 0).rxBuf = [] ∧
    (let s := { State.reset with net := [.freeze 0 5 false] }
     .freeze 0 5 false ∈ s.net ∧ (Msg.freeze 0 5 false).module = some 5 ∧ 5 ≠ s.fabric.moduleId) ∧
    (let s := { State.reset with fabric := { State.reset.fabric with trackers := [t] } }
     s.fabric.trackers.find? (fun t => t.tag = 3 && t.held.isNone) = some t ∧ (∃ t ∈ s.fabric.trackers, t.unit = 7) ∧
      ∀ t ∈ s.fabric.trackers, ¬ (t.tag = 4 ∧ t.held.isNone = true)) ∧ 0xBFFF / 4096 < 12 ∧
    (∀ f ∈ State.reset.fabric.fences, f.unit ≠ 7) ∧ hallModule (0xFFFF * 2 ^ 48) = 0xFFFF ∧ hallModule 0x1000 ≠ 0xFFFF ∧
    (let s := { State.reset with net := [.freeze 0 5 false] }
     s.injectTurn 5 (.freeze 0 5 false) = true ∧ State.reset.injectTurn 5 (.freeze 0 5 false) = false) ∧
    (let r := { request with address := 0xFFFF040000004000, tag := 7 }
     let s := { State.reset with fabric := { State.reset.fabric with fences := [{ unit := 7, tags := [3], broadcasts := [] }] } }
     s.broadcastFenced r = true ∧ State.reset.plainAt (hallLocal r.address) = false ∧ regionOf (hallLocal r.address) = .sync 0 64) ∧
    (let s := { State.reset with net := [.broadcast 12 { request with address := 0xFFFF000000001000, tag := 7 } 0] }
     s.broadcastsOpen 7 ≠ [] ∧ State.reset.broadcastsOpen 7 = []) := by
  refine ⟨by decide, fun r => by simp, by decide⟩

/-- Raw blocks of which all samples are the same, and of which no two in a row are. -/
def rawBlock (good : Bool) : RawBlock := { samples := (List.range 128).map fun i => if good then BitVec.ofNat 8 i else 0 }
/-- Rounds of blocks of every pair that all pass, and that do not; the limit; a block with room in the pool and without; what may wait. -/
theorem witness_EntropyCommands : State.reset.liveBad 7 0 = false ∧
    (let pairs := (List.range 4).filter fun n => bitAt (State.reset.liveOr 0x08000C 0xF) n = 1
     3 ∈ pairs ∧ ∀ b ∈ [true, false], let blocks := List.replicate 4 (List.replicate 8 (rawBlock b))
      (∀ n ∈ pairs, ((blocks[n]?).getD []).length = 8 ∧ ∀ b ∈ (blocks[n]?).getD [], b.samples.length = 128) ∧
        ((∀ n ∈ pairs, ∀ b ∈ (blocks[n]?).getD [], b.passes = true) ↔ b = true)) ∧
    (∀ n ∈ [0x06, 0x07], State.reset.liveOr 0x080008 0x08 % 256 ≤ satInc 0xFF n ↔ n = 0x07) ∧
    (∀ st ∈ [EntState.stopped, .startup, .released], ({ State.reset.entropy with state := st }).state = st) ∧
    (∀ b ∈ [true, false], (rawBlock b).passes = b) ∧
    (let e := { State.reset.entropy with state := .released, pool := [zeros 32], rot := [], host := [.get 9 33 []] }
     e.pool = zeros 32 :: [] ∧ e.state = .released ∧ e.rot = [] ∧ e.host = .get 9 33 [] :: [] ∧ 32 < 33 ∧ State.reset.entropy.pool = []) ∧
    ({ State.reset.entropy with rot := [.salt 9] }).rot = .salt 9 :: [] := by decide +kernel

/-- No deferred test, and one that is ready; reads of a packet, of a transfer and none; the link where it may train and where it may not. -/
theorem witness_PlatformEvents : State.reset.arbiter.tests.find? State.reset.testReady = none ∧
    (let k : PendingTest := { calibrate := true, code := 2, unit := 9, seq := 0 }
     let s := { State.reset with arbiter := { Arbiter.idle with tests := [k] } }
     s.platform.boot = .ready ∧ s.arbiter.tests.find? s.testReady = some k) ∧
    State.reset.arbiter.reads.find? (fun x => x.1 = 3) = none ∧
    (∀ r ∈ [HostRead.packet 63 0, .copy 9], let a := { Arbiter.idle with reads := [(3, r)] }
     a.reads.find? (fun x => x.1 = 3) = some (3, r) ∧ r.ofMgmt = false) ∧
    (∀ b ∈ [true, false], ({ PcieControl.reset with timeoutOff := b }).timeoutOff = b) ∧
    State.reset.platform.rails = true ∧ State.reset.platform.linkSpeed ≠ 0 ∧ State.reset.platform.perstHigh = true ∧
    State.reset.platform.alignedWait = false ∧ (State.reset.platform.boot = .training ∨ State.reset.platform.boot = .ready) ∧
    4 ∈ [4, 5, 6] ∧ 6 ∈ [4, 5, 6] ∧ 1 ∈ [1, 2, 4, 8, 16] ∧ 16 ∈ [1, 2, 4, 8, 16] ∧ ({ Platform.up with perstHigh := false }).perstHigh = false := by
  decide +kernel

end Sys2Proof.Tests
end

section
/-! Commands in general: how their checks and their work go on. -/

namespace Sys2Proof.Machine

/-! ### What a command does when a check passes, and when its work is done -/

@[simp] theorem State.checked_none (s : State) (o : Order) (go : State → State) : s.checked o none go = go s := rfl

theorem State.inState_pass {s : State} {o : Order} {ok : SlotState → Bool} (go : State → State)
    (h : ok (s.slot o.target).state = true) : s.inState o ok go = go s := by
  simp only [State.inState, h, if_true]

theorem State.inState_fail {s : State} {o : Order} {ok : SlotState → Bool} (go : State → State)
    (h : ok (s.slot o.target).state = false) :
    s.inState o ok go = s.finish o (Ending.badState (s.slot o.target).state.code) := by
  simp [State.inState, h]

@[simp] theorem State.conclude_ok {α : Type} (o : Order) (t : State) (a : α) (go : State → α → State) :
    State.conclude o (t, .ok a) go = go (t.dropRemote o.id) a := rfl

@[simp] theorem State.conclude_error {α : Type} (o : Order) (t : State) (e : Ending) (go : State → α → State) :
    State.conclude o (t, .error (some e)) go = (t.dropRemote o.id).finish o e := rfl

/-- A started order passes the checks of a command that has no parameters when its packet is lawful. -/
theorem Order.begun_params_none {o : Order} {flags : Nat} (h : o.lawful flags (o.target < 48) []) :
    o.begun.params flags o.begun.slotTarget [] [] = none := by
  rw [Order.params_none, Order.begun_slotTarget, Order.slotTarget, decide_eq_true_eq]
  exact ⟨h, by simp⟩

end Sys2Proof.Machine
end

section
/-! The loader: MODEL_CHECK, MODEL_LOAD and MODEL_UNLOAD (R69, R77, R420, R422). -/

namespace Sys2Proof.Machine

variable {s t : State} {id : Nat} {o : Order} {m : Loaded} {e : Ending}

/-! ### MODEL_CHECK -/

theorem State.modelCheck_of_ok (hp : s.modelParams o o.noTarget = none) (hr : s.readModel o false = (t, .ok m)) :
    let r := (t.dropRemote o.id).fitOf m.image m.tableBytes (o.field 32 2)
    s.modelCheck o = r.1.finish o (r.2.ending r.2.status) := by
  simp only [State.modelCheck, hp, hr, State.checked_none, State.conclude_ok]

theorem State.modelCheck_of_error (hp : s.modelParams o o.noTarget = none)
    (hr : s.readModel o false = (t, .error (some e))) : s.modelCheck o = (t.dropRemote o.id).finish o e := by
  simp only [State.modelCheck, hp, hr, State.checked_none, State.conclude_error]

/-! ### MODEL_LOAD -/

theorem State.modelLoad_of_not_empty (hp : s.modelParams o o.slotTarget = none) (hs : (s.slot o.target).state ≠ .empty) :
    s.modelLoad o = s.finish o (Ending.badState (s.slot o.target).state.code) := by
  simp only [State.modelLoad, hp, State.checked_none]
  exact State.inState_fail _ (by simp [hs])

theorem State.modelLoad_of_not_ready (hp : s.modelParams o o.slotTarget = none) (hs : (s.slot o.target).state = .empty)
    (hc : (s.slot o.target).ckptReady = false) : s.modelLoad o = s.finish o (Ending.badState 0) := by
  simp only [State.modelLoad, hp, State.checked_none]
  rw [State.inState_pass _ (by simp [hs])]
  simp [hc]

theorem State.modelLoad_of_ok (hp : s.modelParams o o.slotTarget = none) (hs : (s.slot o.target).state = .empty)
    (hc : (s.slot o.target).ckptReady = true) (hr : s.readModel o true = (t, .ok m)) :
    let r := (t.dropRemote o.id).fitOf m.image m.tableBytes (o.field 32 2)
    s.modelLoad o = if r.2.allowed (bitAt o.flags 2 = 1) (bitAt o.flags 3 = 1)
      then (r.1.loadModel o.target m (o.field 32 2) r.2).finish o (r.2.ending 0) else r.1.finish o (r.2.ending r.2.status) := by
  simp only [State.modelLoad, hp, State.checked_none]
  rw [State.inState_pass _ (by simp [hs])]
  simp only [hc, hr, State.conclude_ok, Bool.not_true, Bool.false_eq_true, if_false]

/-! ### MODEL_UNLOAD -/

/-- The states in which MODEL_UNLOAD is allowed, as its check writes them (R413). -/
theorem SlotState.unloadable_iff {x : SlotState} : (x = .loaded || x = .stopped || x = .faulted || x = .disabled) = true ↔
    x ∈ [SlotState.loaded, .stopped, .faulted, .disabled] := by
  simp [or_assoc]

/-- MODEL_UNLOAD of a lawful order acts by the slot's state alone (R413, R422). -/
theorem execModelUnload_mayRun (h : s.mayRun 0x12 id o) (hl : o.lawful 0 (o.target < 48) []) :
    execModelUnload id s = .next ((s.begin o).inState o.begun
      (fun st => st = .loaded || st = .stopped || st = .faulted || st = .disabled)
      fun s => (s.unloadSlot o.target).finish o.begun Ending.ok) := by
  simp only [execModelUnload, runOrder_mayRun h, Order.begun_params_none hl, State.checked_none, Order.begun_target]

theorem execModelUnload_of_loaded (h : s.mayRun 0x12 id o) (hl : o.lawful 0 (o.target < 48) [])
    (hs : (s.slot o.target).state ∈ [.loaded, .stopped, .faulted, .disabled]) :
    execModelUnload id s = .next (((s.begin o).unloadSlot o.target).finish o.begun Ending.ok) := by
  rw [execModelUnload_mayRun h hl, State.inState_pass _ (SlotState.unloadable_iff.mpr hs)]

theorem execModelUnload_of_not_loaded (h : s.mayRun 0x12 id o) (hl : o.lawful 0 (o.target < 48) [])
    (hs : (s.slot o.target).state ∉ [.loaded, .stopped, .faulted, .disabled]) :
    execModelUnload id s = .next ((s.begin o).finish o.begun (Ending.badState (s.slot o.target).state.code)) := by
  rw [execModelUnload_mayRun h hl, State.inState_fail _ (Bool.eq_false_iff.mpr (SlotState.unloadable_iff.not.mpr hs))]
  rfl

/-! ### Placing a model leaves the slots as they are -/

/-- A fold whose every step keeps a part of what it carries keeps that part. -/
theorem foldl_keeps {α β γ : Type} {f : β → α → β} (g : β → γ) (h : ∀ b a, g (f b a) = g b) (l : List α) (b : β) :
    g (l.foldl f b) = g b :=
  List.foldlRecOn (motive := fun b' => g b' = g b) l f rfl fun b' hb a _ => (h b' a).trans hb

@[simp] theorem State.nextFree_slots (s : State) : s.nextFree.2.slots = s.slots := rfl

@[simp] theorem State.loaderWrote_slots (s : State) (c : Nat) : (s.loaderWrote c).slots = s.slots := rfl

@[simp] theorem State.choose_slots {α : Type} (n : Nat) (s : State) (l : List α) : (s.choose n l).1.slots = s.slots := by
  induction n generalizing s l with
  | zero => rfl
  | succ n ih =>
    simp only [State.choose]
    split
    · rfl
    · exact ih _ _

@[simp] theorem State.writeSpilled_slots (s : State) (g : Image) (slices : List Nat) (places : List ((Nat × Nat) × (Nat × Nat))) :
    (s.writeSpilled g slices places).slots = s.slots := by
  unfold State.writeSpilled
  split
  · rfl
  · refine foldl_keeps State.slots (fun b p => ?_) places s
    split
    · rfl
    · exact foldl_keeps State.slots (fun b (r : Nat × List Byte) => State.putWhole_slots b r.1 r.2) _ b

@[simp] theorem State.placeCluster_slots (s : State) (n : Nat) (g : Image) (edgesAt : Nat) (c : ClusterFit)
    (groups : List (Nat × List (Nat × Nat))) : (s.placeCluster n g edgesAt c groups).1.slots = s.slots := by
  simp only [State.placeCluster, State.writeSpilled_slots]
  split <;> simp

/-! ### What MODEL_LOAD leaves -/

/-- The slot record of a model loaded with `q` replicas: what the image, the order and the fit report give, and of the slot before
only its CHECKPOINT area (R148, R156, R162, R413, R420). -/
def State.loadedSlot (s : State) (n : Nat) (m : Loaded) (q : Nat) (f : FitReport) : Slot :=
  { Slot.empty with
    state := .loaded, image := some m.image, parts := m.parts, replicas := q, runs := q
    results := s.rot.running.results, fit := if f.status = 0x21 then .fold else if f.status = 0x20 then .spill else .fit
    fitFlags := f.flags, foldFactor := f.fold, rate := f.rate, groups := f.needed
    tableSizes := m.tableBytes, edgesAt := m.edgesAt, foldBase := if f.larder = 0 then 0 else (s.foldRoom f.larder).getD 0, foldLen := f.larder
    startPoint := true, curves := m.image.curves, rootSeed := s.nextFree.1.toNat
    rungs := List.range q, exch := List.replicate q (0, 0)
    ckptFilled := (s.slot n).ckptFilled, ckptReady := (s.slot n).ckptReady }

/-- Of the slots, the loader writes the one it loads and no other. -/
theorem State.loadModel_slots (s : State) (n : Nat) (m : Loaded) (q : Nat) (f : FitReport) :
    (s.loadModel n m q f).slots = s.slots.put n (s.loadedSlot n m q f) := by
  simp only [State.loadModel]
  rw [foldl_keeps State.slots (fun b g => by simp)]
  rw [foldl_keeps (fun a : State × List ((Nat × Nat) × (Nat × Nat)) => a.1.slots) (fun a c => by simp)]
  rfl

theorem State.loadModel_slot_self (s : State) (n : Nat) (m : Loaded) (q : Nat) (f : FitReport) :
    (s.loadModel n m q f).slot n = s.loadedSlot n m q f := by
  simp only [State.slot, State.loadModel_slots, Tbl.at_put_self, Option.getD_some]

theorem State.loadModel_slot_of_ne (s : State) {n k : Nat} (m : Loaded) (q : Nat) (f : FitReport) (h : k ≠ n) :
    (s.loadModel n m q f).slot k = s.slot k := by
  simp only [State.slot, State.loadModel_slots, Tbl.at_put_of_ne _ _ h.symm]

/-! ### The obligation -/

/-- Settles O37: each command by the checks it passes or fails, and the loaded slot by its record, which is the only slot that
the loader writes. -/
theorem modelOrders : Obligations.ModelOrders := by
  unfold Obligations.ModelOrders
  refine ⟨fun s t id o m e => ⟨fun h hp => ?_, fun h hp => ?_, fun h hl => ?_⟩, fun s n q m f => ?_⟩
  · rw [exec_modelCheck, execModelCheck, runOrder_mayRun h]
    exact ⟨fun hr => congrArg _ (State.modelCheck_of_ok hp hr), fun hr => congrArg _ (State.modelCheck_of_error hp hr)⟩
  · rw [exec_modelLoad, execModelLoad, runOrder_mayRun h]
    exact ⟨fun hs => congrArg _ (State.modelLoad_of_not_empty hp hs),
      fun hs hc => congrArg _ (State.modelLoad_of_not_ready hp hs hc),
      fun hs hc hr => congrArg _ (State.modelLoad_of_ok hp hs hc hr)⟩
  · exact ⟨execModelUnload_of_loaded h hl, execModelUnload_of_not_loaded h hl⟩
  · simp only [State.loadModel_slot_self]
    exact ⟨rfl, rfl, rfl, rfl, rfl, rfl, rfl, rfl, rfl, rfl, rfl, rfl, rfl, rfl, rfl, rfl, rfl, rfl,
      fun k hk => State.loadModel_slot_of_ne s m q f hk⟩

end Sys2Proof.Machine
end

section
/-! Bits of a number, and the bytes, numbers and bits of a core store after a write (R80 to R82). -/

namespace Sys2Proof.Machine

/-! ### One bit of a number -/

theorem bitAt_eq_toNat_testBit (v i : Nat) : bitAt v i = (v.testBit i).toNat := (Nat.toNat_testBit v i).symm

theorem bitOf_le_one (b : Bool) : bitOf b ≤ 1 := by cases b <;> decide

/-- A number with bit `i` replaced, as its bits above, the bit and its bits below. -/
theorem replaceBit_eq (v i : Nat) (b : Bool) :
    v - bitAt v i * 2 ^ i + bitOf b * 2 ^ i = 2 ^ i * (2 * (v / 2 ^ i / 2) + bitOf b) + v % 2 ^ i := by
  have hv := Nat.div_add_mod v (2 ^ i)
  have hq : v / 2 ^ i = 2 * (v / 2 ^ i / 2) + bitAt v i := (Nat.div_add_mod _ 2).symm
  generalize v / 2 ^ i / 2 = q at hq ⊢
  rw [hq] at hv
  have e : v = 2 ^ i * (2 * q) + 2 ^ i * bitAt v i + v % 2 ^ i := by rw [← Nat.mul_add]; exact hv.symm
  rw [Nat.mul_add, Nat.mul_comm (bitAt v i), Nat.mul_comm (bitOf b)]
  omega

/-- Replacing bit `i` of a number sets that bit and leaves every other bit alone. -/
theorem bitAt_replaceBit (v i t : Nat) (b : Bool) :
    bitAt (v - bitAt v i * 2 ^ i + bitOf b * 2 ^ i) t = if t = i then bitOf b else bitAt v t := by
  have hlow : v % 2 ^ i < 2 ^ i := Nat.mod_lt _ (by positivity)
  have hb := bitOf_le_one b
  rw [replaceBit_eq]
  rcases Nat.lt_trichotomy t i with h | rfl | h
  · rw [if_neg (by omega), bitAt_eq_toNat_testBit, bitAt_eq_toNat_testBit, Nat.testBit_two_pow_mul_add _ hlow, if_pos h,
      Nat.testBit_mod_two_pow]
    simp [h]
  · rw [if_pos rfl, bitAt, Nat.mul_add_div (by positivity), Nat.div_eq_of_lt hlow]
    omega
  · obtain ⟨d, rfl⟩ := Nat.exists_eq_add_of_lt h
    have hd : ∀ u, bitAt u (i + d + 1) = u / 2 ^ i / 2 / 2 ^ d % 2 := fun u => by
      rw [bitAt, Nat.div_div_eq_div_mul, Nat.div_div_eq_div_mul, ← pow_succ', ← pow_add, Nat.add_assoc]
    have hq : (2 * (v / 2 ^ i / 2) + bitOf b) / 2 = v / 2 ^ i / 2 := by generalize v / 2 ^ i / 2 = q; omega
    rw [if_neg (by omega), hd, hd, Nat.mul_add_div (by positivity), Nat.div_eq_of_lt hlow, Nat.add_zero, hq]

theorem replaceBit_lt {v n i : Nat} (b : Bool) (hv : v < 2 ^ n) (hi : i < n) : v - bitAt v i * 2 ^ i + bitOf b * 2 ^ i < 2 ^ n := by
  refine Nat.lt_pow_two_of_testBit _ fun t ht => ?_
  have h := bitAt_replaceBit v i t b
  rw [if_neg (by omega), bitAt_eq_toNat_testBit _ t, bitAt_eq_toNat_testBit _ t,
    Nat.testBit_lt_two_pow (lt_of_lt_of_le hv (Nat.pow_le_pow_right (by omega) ht))] at h
  simpa using h

/-- A byte with a bit replaced is a byte. -/
theorem replaceBit_mod {v i : Nat} (b : Bool) (hv : v < 256) (hi : i < 8) :
    (v - bitAt v i * 2 ^ i + bitOf b * 2 ^ i) % 256 = v - bitAt v i * 2 ^ i + bitOf b * 2 ^ i :=
  Nat.mod_eq_of_lt (replaceBit_lt (n := 8) b hv hi)

/-! ### Little-endian numbers and two's complement -/

@[simp] theorem leBytes_length (n v : Nat) : (leBytes n v).length = n := by
  induction n generalizing v with
  | zero => rfl
  | succ n ih => simp [leBytes, ih]

theorem leNat_leBytes (n v : Nat) : leNat (leBytes n v) = v % 256 ^ n := by
  induction n generalizing v with
  | zero => simp [leBytes, leNat, Nat.mod_one]
  | succ n ih =>
    rw [leBytes, leNat, ih, pow_succ', Nat.mod_mul]
    simp

theorem leNat_lt (bs : List Byte) : leNat bs < 256 ^ bs.length := by
  induction bs with
  | nil => simp [leNat]
  | cons b bs ih =>
    have hb : b.toNat < 256 := b.isLt
    rw [leNat, List.length_cons, pow_succ']
    omega

theorem signed_eq_bmod (n v : Nat) : signed (n + 1) v = (v : Int).bmod (2 ^ (n + 1)) := by
  have h2 : (2 : Nat) ^ (n + 1) = 2 * 2 ^ n := pow_succ' 2 n
  have e : (v : Int) % ((2 ^ (n + 1) : Nat) : Int) = ((v % 2 ^ (n + 1) : Nat) : Int) := (Int.natCast_mod _ _).symm
  rw [signed, Int.bmod, e, Nat.add_sub_cancel]
  split <;> split <;> omega

theorem toField_bmod (n : Nat) (x : Int) : (toField n x : Int).bmod (2 ^ n) = x.bmod (2 ^ n) := by
  have h : (0 : Int) ≤ x % ((2 ^ n : Nat) : Int) := Int.emod_nonneg _ (by positivity)
  rw [toField, Int.toNat_of_nonneg h, Int.emod_bmod]

theorem toField_lt (n : Nat) (x : Int) : toField n x < 2 ^ n := by
  have h1 : x % ((2 ^ n : Nat) : Int) < ((2 ^ n : Nat) : Int) := Int.emod_lt_of_pos _ (by positivity)
  rw [toField]
  omega

/-! ### Bytes, numbers and bits of a core store after a write -/

/-- The byte at an address of a core store. -/
def Member.cell (m : Member) (a : Nat) : Byte := (Mem.get m.bg m.store a).getD 0

theorem Member.byte_eq_cell (m : Member) (a : Nat) : m.byte a = (m.cell a).toNat := rfl

theorem Member.num_eq_cells (m : Member) (a n : Nat) : m.num a n = leNat ((List.range n).map fun i => m.cell (a + i)) := rfl

theorem Member.byte_lt (m : Member) (a : Nat) : m.byte a < 256 := (m.cell a).isLt

theorem Member.num_lt (m : Member) (a n : Nat) : m.num a n < 256 ^ n := by
  have h := leNat_lt ((List.range n).map fun i => m.cell (a + i))
  rwa [List.length_map, List.length_range] at h

theorem Member.cell_put_inside (m : Member) (a i : Nat) (bs : List Byte) (h : i < bs.length) : (m.put a bs).cell (a + i) = bs[i] := by
  have e := Mem.get_write_inside m.bg m.store a (a + i) bs (by omega) (by omega)
  simp only [Nat.add_sub_cancel_left] at e
  exact congrArg (Option.getD · 0) e

theorem Member.num_put_self (m : Member) (a n v : Nat) : (m.put a (leBytes n v)).num a n = v % 256 ^ n := by
  rw [Member.num_eq_cells, ← leNat_leBytes]
  congr 1
  refine List.ext_getElem (by simp) fun i h _ => ?_
  have hi : i < (leBytes n v).length := by simpa using h
  simp [Member.cell_put_inside _ _ _ _ hi]

theorem Member.byte_put_self (m : Member) (a v : Nat) : (m.put a (leBytes 1 v)).byte a = v % 256 := by
  have h : (m.put a (leBytes 1 v)).cell a = BitVec.ofNat 8 (v % 256) := m.cell_put_inside a 0 (leBytes 1 v) (by simp)
  simp [Member.byte_eq_cell, h]

/-- The store of `n` reads as that of `m` at every address outside `p`. -/
def Member.AgreeOff (n m : Member) (p : Nat → Prop) : Prop := ∀ a, ¬ p a → n.cell a = m.cell a

namespace Member.AgreeOff

variable {n m l : Member} {p q : Nat → Prop}

theorem refl : Member.AgreeOff m m p := fun _ _ => rfl

theorem trans (h : n.AgreeOff m p) (g : m.AgreeOff l p) : n.AgreeOff l p := fun a ha => (h a ha).trans (g a ha)

theorem mono (h : n.AgreeOff m p) (hp : ∀ a, p a → q a) : n.AgreeOff m q := fun a ha => h a fun hc => ha (hp a hc)

theorem byte (h : n.AgreeOff m p) {a : Nat} (ha : ¬ p a) : n.byte a = m.byte a := congrArg BitVec.toNat (h a ha)

theorem num (h : n.AgreeOff m p) {a k : Nat} (ha : ∀ i < k, ¬ p (a + i)) : n.num a k = m.num a k := by
  rw [Member.num_eq_cells, Member.num_eq_cells]
  exact congrArg leNat (List.map_congr_left fun i hi => h _ (ha i (List.mem_range.mp hi)))

theorem bit (h : n.AgreeOff m p) {base i : Nat} (ha : ¬ p (base + i / 8)) : n.bit base i = m.bit base i := by
  rw [Member.bit, Member.bit, h.byte ha]

theorem stream (h : n.AgreeOff m p) {k : Nat} (ha : ∀ i < 16, ¬ p (0xC000 + 16 * k + i)) : n.stream k = m.stream k := h.num ha

theorem field (h : n.AgreeOff m p) {k : Nat} (ha : ∀ i < 4, ¬ p (0xD000 + 4 * k + i)) (hb : ¬ p (0xD900 + k)) :
    n.field k = m.field k := by
  rw [Member.field, Member.field, h.num ha, h.byte hb]

theorem dense (h : n.AgreeOff m p) {x y : Nat} (ha : ¬ p (128 * x + y / 2)) : n.dense x y = m.dense x y := by
  rw [Member.dense, Member.dense, h.byte ha]

end Member.AgreeOff

/-- A write changes no byte outside it. -/
theorem Member.put_agreeOff (m : Member) (a : Nat) (bs : List Byte) : (m.put a bs).AgreeOff m fun x => a ≤ x ∧ x < a + bs.length :=
  fun x hx => congrArg (Option.getD · 0) (Mem.get_write_outside m.bg m.store a x bs (by omega))

theorem Mem.le_of_mem_cellsOf {bg : Background} {a : Nat} {bs : List Byte} {c : Host.Cell} (h : c ∈ Mem.cellsOf bg a bs) : a ≤ c.1 := by
  induction bs generalizing a with
  | nil => simp [Mem.cellsOf] at h
  | cons b bs ih =>
    have rest : c ∈ Mem.cellsOf bg (a + 1) bs → a ≤ c.1 := fun hc => Nat.le_of_succ_le (ih hc)
    simp only [Mem.cellsOf] at h
    split at h
    · exact rest h
    · rcases List.mem_cons.mp h with rfl | h
      · exact Nat.le_refl a
      · exact rest h

/-- A second write of as many bytes at the same address replaces the first. -/
theorem Mem.write_write (bg : Background) (m : Mem) (a : Nat) {bs bs' : List Byte} (h : bs.length = bs'.length) :
    Mem.write bg (Mem.write bg m a bs) a bs' = Mem.write bg m a bs' := by
  have hc : ∀ c ∈ Mem.cellsOf bg a bs, a ≤ c.1 ∧ c.1 < a + bs.length := fun c hc =>
    ⟨Mem.le_of_mem_cellsOf hc, (Mem.mem_cellsOf hc).1⟩
  have below : (Mem.cellsOf bg a bs).filter (fun c => decide (c.1 < a)) = [] :=
    List.filter_eq_nil_iff.mpr fun c hm => by have := hc c hm; simp; omega
  have above : (Mem.cellsOf bg a bs).filter (fun c => decide (a + bs.length ≤ c.1)) = [] :=
    List.filter_eq_nil_iff.mpr fun c hm => by have := hc c hm; simp; omega
  simp only [Mem.write, ← h, List.filter_append, List.filter_filter, below, above, List.append_nil]
  have e1 : (m.filter fun c => decide (c.1 < a) && decide (a + bs.length ≤ c.1)) = [] :=
    List.filter_eq_nil_iff.mpr fun c _ => by simp; omega
  have e2 : (m.filter fun c => decide (a + bs.length ≤ c.1) && decide (c.1 < a)) = [] :=
    List.filter_eq_nil_iff.mpr fun c _ => by simp; omega
  simp [e1, e2]

theorem Member.put_put (m : Member) (a : Nat) {bs bs' : List Byte} (h : bs.length = bs'.length) : (m.put a bs).put a bs' = m.put a bs' :=
  congrArg (fun st => { m with store := st }) (Mem.write_write m.bg m.store a h)

/-! ### A bit of a bit string, and a saturation flag -/

theorem Member.setBit_agreeOff (m : Member) (base i : Nat) (b : Bool) : (m.setBit base i b).AgreeOff m fun x => x = base + i / 8 := by
  simp only [Member.setBit]
  split
  · exact .refl
  · exact (m.put_agreeOff _ _).mono fun a ha => by simp only [leBytes_length] at ha; omega

theorem Member.byte_setBit (m : Member) (base i : Nat) (b : Bool) : (m.setBit base i b).byte (base + i / 8) =
    m.byte (base + i / 8) - bitAt (m.byte (base + i / 8)) (i % 8) * 2 ^ (i % 8) + bitOf b * 2 ^ (i % 8) := by
  simp only [Member.setBit]
  split
  · assumption
  · rw [Member.byte_put_self, replaceBit_mod b (m.byte_lt _) (Nat.mod_lt _ (by decide))]

theorem Member.bit_setBit_self (m : Member) (base i : Nat) (b : Bool) : (m.setBit base i b).bit base i = b := by
  rw [Member.bit, Member.byte_setBit, bitAt_replaceBit, if_pos rfl]
  cases b <;> rfl

theorem Member.bit_setBit_of_ne (m : Member) (base : Nat) {i k : Nat} (b : Bool) (h : k ≠ i) :
    (m.setBit base i b).bit base k = m.bit base k := by
  by_cases hk : k / 8 = i / 8
  · rw [Member.bit, hk, Member.byte_setBit, bitAt_replaceBit, if_neg (by omega), Member.bit, hk]
  · exact (m.setBit_agreeOff base i b).bit (by omega)

theorem Member.satIf_agreeOff (m : Member) (bit : Nat) (b : Bool) : (m.satIf bit b).AgreeOff m fun x => x = 0xDA95 := by
  simp only [Member.satIf, Member.setSat]
  split
  · split
    · exact .refl
    · exact (m.put_agreeOff _ _).mono fun a ha => by simp only [leBytes_length] at ha; omega
  · exact .refl

theorem Member.sat_setSat (m : Member) {bit : Nat} (hbit : bit < 8) : bitAt (m.setSat bit).sat bit = 1 := by
  rw [Member.setSat]
  split
  · assumption
  · next h =>
    have h0 : bitAt m.sat bit = 0 := by have : bitAt m.sat bit < 2 := Nat.mod_lt _ (by decide); omega
    have e : m.sat + 2 ^ bit = m.sat - bitAt m.sat bit * 2 ^ bit + bitOf true * 2 ^ bit := by simp [h0, bitOf]
    rw [Member.sat, Member.byte_put_self, e, replaceBit_mod true (v := m.sat) (m.byte_lt _) hbit, bitAt_replaceBit, if_pos rfl]
    rfl

theorem Member.sat_satIf (m : Member) {bit : Nat} (b : Bool) (hbit : bit < 8) :
    bitAt (m.satIf bit b).sat bit = 1 ↔ bitAt m.sat bit = 1 ∨ b = true := by
  cases b with
  | false => simp [Member.satIf]
  | true => simp [Member.satIf, m.sat_setSat hbit]

end Sys2Proof.Machine
end

section
/-! Fields, draws and updates of a block-replica (R89, R91, R93, R96, R97). -/

namespace Sys2Proof.Machine

/-! ### Field sums (R81, R89) -/

theorem sat32_eq (x : Int) : sat32 x = max (-2147483648) (min 2147483647 x) := by
  simp only [sat32, clampInt]
  split_ifs <;> omega

theorem clips32_eq (x : Int) : clips32 x = decide (x < -2147483648 ∨ 2147483647 < x) := by
  rw [clips32, sat32_eq, decide_eq_decide]
  omega

theorem Member.field_eq_bmod (m : Member) (i : Nat) :
    m.field i = ((m.num (0xD000 + 4 * i) 4 + 2 ^ 32 * m.byte (0xD900 + i) : Nat) : Int).bmod (2 ^ 40) :=
  signed_eq_bmod 39 _

theorem Member.field_bmod (m : Member) (i : Nat) : (m.field i).bmod (2 ^ 40) = m.field i := by
  rw [m.field_eq_bmod, Int.bmod_bmod]

/-- The bytes of the field sums, FIELD and FIELD_HI (R81). -/
def inFields (a : Nat) : Prop := 0xD000 ≤ a ∧ a < 0xD400 ∨ 0xD900 ≤ a ∧ a < 0xDA00

theorem Member.setField_agreeOff (m : Member) (i : Nat) (h : Int) :
    (m.setField i h).AgreeOff m fun a => 0xD000 + 4 * i ≤ a ∧ a < 0xD000 + 4 * i + 4 ∨ a = 0xD900 + i :=
  ((Member.put_agreeOff _ _ _).mono fun a ha => by simp only [leBytes_length] at ha; omega).trans
    ((Member.put_agreeOff _ _ _).mono fun a ha => by simp only [leBytes_length] at ha; omega)

theorem Member.field_setField_self (m : Member) {i : Nat} (hi : i < 256) (h : Int) : (m.setField i h).field i = h.bmod (2 ^ 40) := by
  have hv := toField_lt 40 h
  have low : (m.setField i h).num (0xD000 + 4 * i) 4 = toField 40 h % 2 ^ 32 :=
    ((Member.put_agreeOff _ _ _).num fun t ht => by simp only [leBytes_length]; omega).trans (Member.num_put_self ..)
  have high : (m.setField i h).byte (0xD900 + i) = toField 40 h / 2 ^ 32 % 256 := Member.byte_put_self ..
  rw [Member.field_eq_bmod, low, high, ← toField_bmod 40 h]
  congr 2
  omega

theorem Member.field_setField_of_ne (m : Member) {i k : Nat} (hi : i < 256) (hk : k < 256) (hik : k ≠ i) (h : Int) :
    (m.setField i h).field k = m.field k :=
  (m.setField_agreeOff i h).field (by omega) (by omega)

theorem Member.addField_agreeOff (m : Member) {i : Nat} (hi : i < 256) (d : Int) : (m.addField i d).AgreeOff m inFields := by
  rw [Member.addField]
  split
  · exact .refl
  · exact (m.setField_agreeOff i _).mono fun a ha => by unfold inFields; omega

theorem Member.field_addField (m : Member) {i k : Nat} (hi : i < 256) (hk : k < 256) (d : Int) :
    (m.addField i d).field k = if k = i then (m.field k + d).bmod (2 ^ 40) else m.field k := by
  rw [Member.addField]
  by_cases hd : d = 0
  · rw [if_pos hd, hd, Int.add_zero, m.field_bmod, ite_self]
  · rw [if_neg hd]
    split
    · next h => rw [h, m.field_setField_self hi]
    · next h => exact m.field_setField_of_ne hi hk h _

/-! ### Dense pushes (R91) -/

/-- The rows of a dense push that lie in a list of local indices. -/
def Member.pushRows (m : Member) (d : Int) (j : Nat) (is : List Nat) : Member := is.foldl (fun m i => m.addField i (m.dense i j * d)) m

theorem Member.pushColumn_eq (m : Member) (d : Int) (j : Nat) : m.pushColumn d j = m.pushRows d j m.locals := rfl

theorem Member.pushRows_agreeOff (d : Int) (j : Nat) : ∀ (is : List Nat) (m : Member), (∀ i ∈ is, i < 256) →
    (m.pushRows d j is).AgreeOff m inFields
  | [], _, _ => .refl
  | i :: is, m, h =>
    (pushRows_agreeOff d j is (m.addField i (m.dense i j * d)) fun x hx => h x (List.mem_cons_of_mem i hx)).trans
      (m.addField_agreeOff (h i List.mem_cons_self) _)

/-- A dense push of distinct rows adds to each of their fields the coupling times the increment, and to no other field. -/
theorem Member.field_pushRows (d : Int) {j k : Nat} (hj : j < 256) (hk : k < 256) : ∀ (is : List Nat) (m : Member),
    is.Nodup → (∀ i ∈ is, i < 256) →
    (m.pushRows d j is).field k = if k ∈ is then (m.field k + m.dense k j * d).bmod (2 ^ 40) else m.field k
  | [], m, _, _ => by simp [Member.pushRows]
  | i :: is, m, hn, h => by
    obtain ⟨hi, hn⟩ := List.nodup_cons.mp hn
    have hi' : i < 256 := h i List.mem_cons_self
    have step := field_pushRows d hj hk is (m.addField i (m.dense i j * d)) hn fun x hx => h x (List.mem_cons_of_mem i hx)
    have same : (m.addField i (m.dense i j * d)).dense k j = m.dense k j :=
      (m.addField_agreeOff hi' _).dense (by unfold inFields; omega)
    change ((m.addField i (m.dense i j * d)).pushRows d j is).field k = _
    rw [step, same, m.field_addField hi' hk]
    by_cases hki : k = i
    · simp [hki, hi]
    · simp [hki]

/-! ### Draws (R97) -/

theorem gipolStep_lt {s : Nat} (h : s < 2 ^ 128) : gipolStep s < 2 ^ 128 := by
  have ht : s / 2 ^ 96 < 2 ^ 32 := by omega
  simp only [gipolStep]
  exact Nat.xor_lt_two_pow (Nat.xor_lt_two_pow (Nat.xor_lt_two_pow (Nat.xor_lt_two_pow (by omega) (by omega)) (by omega)) (by omega))
    (by omega)

theorem Member.stream_lt (m : Member) (j : Nat) : m.stream j < 2 ^ 128 := m.num_lt _ 16

/-- A block-replica after a draw of a local index: its stream has stepped and one more of its draws is used (R97). -/
def Member.drawn (m : Member) (j : Nat) : Member :=
  { m.setStream j (gipolStep (m.stream j)) with used := m.used.put j ((m.used.at j).getD 0 + 1) }

theorem Member.draw_none {m : Member} {draws j : Nat} (h : draws ≤ (m.used.at j).getD 0) : m.draw draws j = none := if_pos h

theorem Member.draw_some {m : Member} {draws j : Nat} (h : (m.used.at j).getD 0 < draws) :
    m.draw draws j = some (BitVec.ofNat 32 (gipolOutput (m.stream j)), m.drawn j) := if_neg (by omega)

theorem Member.drawn_agreeOff (m : Member) (j : Nat) :
    (m.drawn j).AgreeOff m fun a => 0xC000 + 16 * j ≤ a ∧ a < 0xC000 + 16 * j + 16 :=
  (m.put_agreeOff (0xC000 + 16 * j) (leBytes 16 _)).mono fun a ha => by simpa using ha

theorem Member.stream_drawn_self (m : Member) (j : Nat) : (m.drawn j).stream j = gipolStep (m.stream j) :=
  (Member.num_put_self m _ 16 _).trans (Nat.mod_eq_of_lt (gipolStep_lt (m.stream_lt j)))

theorem Member.used_drawn_self (m : Member) (j : Nat) : ((m.drawn j).used.at j).getD 0 = (m.used.at j).getD 0 + 1 := by
  simp [Member.drawn]

/-- Two draws of a local index step its stream twice and use two draws. -/
theorem Member.drawn_drawn (m : Member) (j : Nat) : (m.drawn j).drawn j =
    { m.setStream j (gipolStep (gipolStep (m.stream j))) with used := m.used.put j ((m.used.at j).getD 0 + 2) } := by
  have twice : ∀ st, (m.drawn j).setStream j st = { m.setStream j st with used := (m.drawn j).used } := fun st =>
    congrArg (fun n : Member => { n with used := (m.drawn j).used }) (m.put_put _ (by simp))
  rw [Member.drawn, m.stream_drawn_self, m.used_drawn_self, twice]
  simp [Member.drawn]

/-! ### One Gibbs update (R93, R96, R97) -/

/-- A block-replica after a draw of a variable has given its new state: FIELD_SAT where the field clips, the state, and FLIP against
the state at launch (R96). -/
def Member.resolved (m : Member) (j : Nat) (up : Bool) : Member :=
  (((m.drawn j).satIf 0 (clips32 (m.field j))).setBit 0xD400 j up).setFlip j (up != (m.spinBit j != m.flip j))

theorem Member.gibbs_none {m : Member} {draws j : Nat} (beta : Nat) (h : draws ≤ (m.used.at j).getD 0) : m.gibbs beta draws j = none := by
  rw [Member.gibbs, Member.draw_none h]

theorem Member.gibbs_some {m : Member} {draws j : Nat} (beta : Nat) (h : (m.used.at j).getD 0 < draws) :
    m.gibbs beta draws j = some (m.resolved j (decide ((BitVec.ofNat 32 (gipolOutput (m.stream j))).toNat / 256 <
      logistic (logisticArg beta (sat32 (m.field j)) m.exponent + 4096).toNat))) := by
  rw [Member.gibbs, Member.draw_some h]
  rfl

section Resolved

variable (m : Member) {j k : Nat} (up : Bool)

theorem Member.resolved_used : (m.resolved j up).used = m.used.put j ((m.used.at j).getD 0 + 1) := by
  simp only [Member.resolved, Member.setFlip, Member.setBit, Member.satIf, Member.setSat]
  split_ifs <;> rfl

/-- An update writes the variable's stream, the SAT flags, and the bytes of its state and FLIP bits. -/
theorem Member.resolved_agreeOff : (m.resolved j up).AgreeOff m fun a =>
    0xC000 + 16 * j ≤ a ∧ a < 0xC000 + 16 * j + 16 ∨ a = 0xDA95 ∨ a = 0xD400 + j / 8 ∨ a = 0xDAC0 + j / 8 :=
  ((Member.setBit_agreeOff _ _ _ _).mono fun a ha => by omega).trans
    (((Member.setBit_agreeOff _ _ _ _).mono fun a ha => by omega).trans
      (((Member.satIf_agreeOff _ _ _).mono fun a ha => by omega).trans ((m.drawn_agreeOff j).mono fun a ha => by omega)))

theorem Member.resolved_spinBit : (m.resolved j up).spinBit j = up :=
  ((Member.setBit_agreeOff _ _ _ _).bit (by omega)).trans (Member.bit_setBit_self ..)

theorem Member.resolved_flip : (m.resolved j up).flip j = (up != (m.spinBit j != m.flip j)) := Member.bit_setBit_self ..

theorem Member.resolved_spinBit_of_ne (hj : j < 256) (hk : k < 256) (h : k ≠ j) : (m.resolved j up).spinBit k = m.spinBit k := by
  have frame : ((m.drawn j).satIf 0 (clips32 (m.field j))).bit 0xD400 k = m.bit 0xD400 k :=
    ((Member.satIf_agreeOff _ _ _).bit (by omega)).trans ((m.drawn_agreeOff j).bit (by omega))
  exact ((Member.setBit_agreeOff _ _ _ _).bit (by omega)).trans ((Member.bit_setBit_of_ne _ _ _ h).trans frame)

theorem Member.resolved_flip_of_ne (hj : j < 256) (hk : k < 256) (h : k ≠ j) : (m.resolved j up).flip k = m.flip k := by
  have frame : ((m.drawn j).satIf 0 (clips32 (m.field j))).bit 0xDAC0 k = m.bit 0xDAC0 k :=
    ((Member.satIf_agreeOff _ _ _).bit (by omega)).trans ((m.drawn_agreeOff j).bit (by omega))
  exact (Member.bit_setBit_of_ne _ _ _ h).trans (((Member.setBit_agreeOff _ _ _ _).bit (by omega)).trans frame)

theorem Member.resolved_stream (hj : j < 256) : (m.resolved j up).stream j = gipolStep (m.stream j) := by
  have frame : (m.resolved j up).AgreeOff (m.drawn j) fun a => 0xD400 ≤ a :=
    ((Member.setBit_agreeOff _ _ _ _).mono fun a ha => by omega).trans
      (((Member.setBit_agreeOff _ _ _ _).mono fun a ha => by omega).trans ((Member.satIf_agreeOff _ _ _).mono fun a ha => by omega))
  exact (frame.stream (by omega)).trans (m.stream_drawn_self j)

theorem Member.resolved_sat (hj : j < 256) : bitAt (m.resolved j up).sat 0 = 1 ↔ bitAt m.sat 0 = 1 ∨ clips32 (m.field j) = true := by
  have after : (m.resolved j up).sat = ((m.drawn j).satIf 0 (clips32 (m.field j))).sat :=
    ((Member.setBit_agreeOff _ _ _ _).byte (by omega)).trans ((Member.setBit_agreeOff _ _ _ _).byte (by omega))
  have before : (m.drawn j).sat = m.sat := (m.drawn_agreeOff j).byte (by omega)
  rw [after, Member.sat_satIf _ _ (by decide), before]

end Resolved

/-- Settles O13: with a draw left the update is that of the drawn state, and each part is read back from the store it leaves. -/
theorem gibbsUpdate : Obligations.GibbsUpdate := by
  unfold Obligations.GibbsUpdate
  intro m beta draws j k hj hk hjk
  refine ⟨fun h => Member.gibbs_none beta h, fun h => ⟨_, Member.gibbs_some beta h, ?_⟩⟩
  have frame := m.resolved_agreeOff (j := j)
  refine ⟨?_, ?_, m.resolved_stream _ hj, m.resolved_used _, ?_, ?_, ?_, ?_, ?_, ?_⟩
  · rw [m.resolved_spinBit, sat32_eq, BitVec.toNat_ushiftRight, Nat.shiftRight_eq_div_pow]
  · rw [m.resolved_flip, m.resolved_spinBit, bne_iff_ne]
  · exact (frame _).field (by omega) (by omega)
  · rw [m.resolved_sat _ hj, clips32_eq, decide_eq_true_eq]
  · exact m.resolved_spinBit_of_ne _ hj hk hjk.symm
  · exact m.resolved_flip_of_ne _ hj hk hjk.symm
  · exact (frame _).stream (by omega)
  · exact (frame _).field (by omega) (by omega)

end Sys2Proof.Machine
end

section
/-! The field instructions FDP, FINCA and LDF, and the dense push (R89, R91, R121, R128, R132). -/

namespace Sys2Proof.Machine

variable {s : State} {c : Nat} {i : Issue}

/-- The core of an issue after a push of the changed variables `js`, with the column groups that are marked pushed then (R121, R132). -/
def Issue.withPushed (i : Issue) (c : Nat) (js groups : List Nat) : Core :=
  { (i.begun c (some 3)).modMember i.r.member (fun _ => i.m.pushAll js) with run := some { i.run (some 3) with pushed := groups } }

theorem execFdp_ready {a : BitVec 5} (hp : i.inProgram (i.r.pc + 1)) (h : s.ready c (.fdp c a) (some 3) i) :
    let g := (i.co.kreg a).toNat
    let u := s.setCore c (i.begun c (some 3))
    execFdp c a s = .next (
      if 31 < g then i.faulted u c (.fdp c a) 0x05
      else if g ∈ i.r.pushed then i.faulted u c (.fdp c a) 0x06
      else i.retired s c (.fdp c a) (i.withPushed c (i.m.changed.filter fun j => j / 8 = g) (i.r.pushed ++ [g]))
        { i.run (some 3) with pushed := i.r.pushed ++ [g] } none (i.m.rowTiles g)) := by
  intro g u
  rw [execFdp]
  split_ifs with h1 h2
  · exact issueOn_fault h (if_pos h1)
  · exact issueOn_fault h ((if_neg h1).trans (if_pos (List.contains_iff_mem.mpr h2)))
  · exact issueOn_onCore h ((if_neg h1).trans (if_neg fun hc => h2 (List.contains_iff_mem.mp hc))) rfl hp

theorem execFinca_ready (hp : i.inProgram (i.r.pc + 1)) (h : s.ready c (.finca c false) (some 3) i) :
    execFinca c false s = .next (
      if i.r.pushed ≠ [] then i.faulted (s.setCore c (i.begun c (some 3))) c (.finca c false) 0x06
      else i.retired s c (.finca c false) (i.withPushed c i.m.changed (List.range 32))
        { i.run (some 3) with pushed := List.range 32 } none
        (i.m.changed.map fun j => (8 * i.m.rowTiles (j / 8) + 63) / 64).sum) := by
  by_cases h1 : i.r.pushed ≠ []
  · rw [execFinca, if_pos h1]
    exact issueOn_fault h (if_pos h1)
  · rw [execFinca, if_neg h1]
    exact issueOn_onCore h (if_neg h1) rfl hp

/-- FINCA with DENSE_OFF does nothing but retire (R121). -/
theorem execFinca_denseOff (hp : i.inProgram (i.r.pc + 1)) (h : s.ready c (.finca c true) (some 3) i) :
    execFinca c true s = .next (i.retired s c (.finca c true) (i.begun c (some 3)) (i.run (some 3)) none 1) := by
  rw [execFinca]
  exact issueOn_onCore h rfl rfl hp

theorem Member.readField_eq (m : Member) (j : Nat) : m.readField j =
    (max (-2147483648) (min 2147483647 (m.field j)),
      if m.field j < -2147483648 ∨ 2147483647 < m.field j then m.setSat 0 else m) := by
  simp only [Member.readField, Member.satIf, sat32_eq, clips32_eq, decide_eq_true_eq]

theorem execLdf_ready {a b : BitVec 5} (hp : i.inProgram (i.r.pc + 1)) (h : s.ready c (.ldf c a b) none i) :
    let j := (i.co.kreg b).toNat
    execLdf c a b s = .next (
      if i.m.varCount ≤ j then i.faulted (s.setCore c (i.begun c none)) c (.ldf c a b) 0x05
      else i.retired s c (.ldf c a b)
        (((i.begun c none).setK a (BitVec.ofInt 32 (i.m.readField j).1)).modMember i.r.member fun _ => (i.m.readField j).2)
        i.r none 2) := by
  intro j
  rw [execLdf]
  split_ifs with h1
  · exact issueOn_fault h (if_pos h1)
  · exact issueOn_onCore h (if_neg h1) (by simp) hp

/-- A dense push adds the coupling times the increment to every field of the block and touches no other byte (R89, R91). -/
theorem Member.field_pushColumn {m : Member} {j k : Nat} (d : Int) (hm : m.varCount ≤ 256) (hj : j < 256) (hk : k < m.varCount) :
    (m.pushColumn d j).field k = (m.field k + m.dense k j * d).bmod (2 ^ 40) := by
  rw [Member.pushColumn_eq, Member.field_pushRows d hj (by omega) m.locals m List.nodup_range fun i hi => by
    have := List.mem_range.mp hi; omega]
  exact if_pos (List.mem_range.mpr hk)

theorem Member.pushColumn_agreeOff {m : Member} (d : Int) (j : Nat) (hm : m.varCount ≤ 256) : (m.pushColumn d j).AgreeOff m inFields :=
  Member.pushRows_agreeOff d j _ m fun i hi => by have := List.mem_range.mp hi; omega

/-- Settles O12: each instruction by its checks, and the dense push by its frame and its fields. -/
theorem fieldInstructions : Obligations.FieldInstructions := by
  unfold Obligations.FieldInstructions
  refine ⟨fun s c a b i hp => ⟨execFdp_ready hp, execFinca_ready hp, execFinca_denseOff hp, fun h => ?_⟩,
    fun m d j k hm hj hk => ?_⟩
  · rw [exec_ldf, execLdf_ready hp h, Member.readField_eq]
  · have frame := Member.pushColumn_agreeOff d j hm
    refine ⟨Member.field_pushColumn d hm hj hk, frame.bit ?_, frame.bit ?_, frame.stream ?_, frame.num ?_,
      fun x y hx hy => frame.dense ?_⟩ <;> unfold inFields <;> omega

end Sys2Proof.Machine
end

section
/-! The stochastic instructions UPDC, UPDM, RLXC, DRAW and MASK (R97, R122, R128, R181). -/

namespace Sys2Proof.Machine

variable {s : State} {c : Nat} {ins : Instr} {stage : Option Nat} {i : Issue} {body : State → Issue → Done}

/-! ### An instruction that makes a new member, or finds no draw left -/

/-- The end of an instruction that leaves the running member as `m`, or none where a draw is missing (R97, R142). -/
def Issue.memberOrFault (i : Issue) (s : State) (c : Nat) (ins : Instr) (stage : Option Nat) (beats : Nat) : Option Member → State
  | some m => i.retired s c ins ((i.begun c stage).modMember i.r.member fun _ => m) (i.run stage) none beats
  | none => i.faulted (s.setCore c (i.begun c stage)) c ins 0x07

theorem issueOn_memberOrFault {m : Option Member} {beats : Nat} (h : s.ready c ins stage i) (hp : i.inProgram (i.r.pc + 1))
    (hb : body (s.setCore c (i.begun c stage)) (i.seen c stage) = match m with
      | some m => ({ i.seen c stage with m := m } : Issue).done c (s.setCore c (i.begun c stage)) beats
      | none => .fault (s.setCore c (i.begun c stage)) 7) :
    issueOn c ins stage s body = .next (i.memberOrFault s c ins stage beats m) := by
  cases m with
  | some m => exact issueOn_onCore h hb rfl hp
  | none => exact issueOn_fault h hb

/-! ### Updates and relaxation (R97, R122, R128, R151) -/

/-- The core of a ready issue is the core as it stands. -/
theorem State.ready.core (h : s.ready c ins stage i) : i.co = s.core c := by
  obtain ⟨-, h, -⟩ := h
  simp only [State.issuing] at h
  split at h
  · split at h
    · split at h
      · exact (congrArg Issue.co (Option.some.inj h)).symm
      · cases h
    · cases h
  · cases h

/-- What lanes work is no matter of the issue. -/
theorem State.workingLanes_begun (h : s.ready c ins stage i) : (s.setCore c (i.begun c stage)).workingLanes c = s.workingLanes c := by
  have lanes : ((s.setCore c (i.begun c stage)).core c).laneOk = (s.core c).laneOk := by
    rw [State.core_setCore, ← h.core]; rfl
  rw [State.workingLanes, lanes]
  rfl

/-- A Gibbs update of some local indices where the logistic table is sound. -/
theorem issueOn_gibbsRun {js : List Nat} (h : s.ready c ins (some 2) i) (hp : i.inProgram (i.r.pc + 1)) (hu : s.tableUpset c = false)
    (hb : body (s.setCore c (i.begun c (some 2))) (i.seen c (some 2)) =
      gibbsRun c js (s.setCore c (i.begun c (some 2))) (i.seen c (some 2))) :
    issueOn c ins (some 2) s body = .next (i.memberOrFault s c ins (some 2)
      ((js.length + max 1 (s.workingLanes c) - 1) / max 1 (s.workingLanes c) + 6)
      (i.m.gibbsAll (i.x.beta i.m.replica i.r.epoch) i.x.draws js)) := by
  have hu' : ¬ (js ≠ [] && (s.setCore c (i.begun c (some 2))).tableUpset c) = true := by
    have : (s.setCore c (i.begun c (some 2))).tableUpset c = false := hu
    simp [this]
  refine issueOn_memberOrFault h hp (hb.trans ?_)
  rw [gibbsRun, if_neg hu', State.workingLanes_begun h]
  rfl

theorem execRlxc_ready {rc : RelaxConst} (hrc : i.x.curves.relax = some rc) (h : s.ready c (.rlxc c) (some 2) i)
    (hp : i.inProgram (i.r.pc + 1)) :
    execRlxc c s = .next (i.memberOrFault s c (.rlxc c) (some 2) ((i.m.varCount + 7) / 8 * 2 + 8)
      (i.m.relaxAll rc (curveAt i.x.curves.pump i.r.epoch) (curveAt i.x.curves.noise i.r.epoch) i.x.draws i.m.locals)) := by
  rw [execRlxc]
  refine issueOn_memberOrFault h hp ?_
  simp only [Issue.seen_x, hrc, Option.getD_some]
  rfl

theorem execUpdm_unaligned {a : BitVec 5} {b : BitVec 4} {n : BitVec 3} (h : s.ready c (.updm c a b n) (some 2) i)
    (ha : (i.co.kreg a).toNat % 64 ≠ 0) :
    execUpdm c a b n s = .next (i.faulted (s.setCore c (i.begun c (some 2))) c (.updm c a b n) 0x05) :=
  issueOn_fault h (if_pos ha)

theorem execUpdm_aligned {a : BitVec 5} {b : BitVec 4} {n : BitVec 3} (h : s.ready c (.updm c a b n) (some 2) i)
    (hp : i.inProgram (i.r.pc + 1)) (hu : s.tableUpset c = false) (ha : (i.co.kreg a).toNat % 64 = 0) :
    let base := (i.co.kreg a).toNat
    let js := ((List.range 64).filter fun t => bitAt (vecQword (i.co.wreg b) n.toNat) t = 1 && base + t < i.m.varCount &&
      i.m.colour (base + t) = i.r.phase).map fun t => base + t
    execUpdm c a b n s = .next (i.memberOrFault s c (.updm c a b n) (some 2)
      ((js.length + max 1 (s.workingLanes c) - 1) / max 1 (s.workingLanes c) + 6)
      (i.m.gibbsAll (i.x.beta i.m.replica i.r.epoch) i.x.draws js)) :=
  issueOn_gibbsRun h hp hu (if_neg (not_not.mpr ha))

/-! ### Draws and masks (R97, R122, R128, R181) -/

theorem gipolOutput_lt (st : Nat) : gipolOutput st < 2 ^ 32 := by
  rw [gipolOutput]
  omega

section Draw

variable {a b : BitVec 5} (h : s.ready c (.draw c a b) (some 2) i)
include h

theorem execDraw_outside (hj : i.m.varCount ≤ (i.co.kreg b).toNat) :
    execDraw c a b s = .next (i.faulted (s.setCore c (i.begun c (some 2))) c (.draw c a b) 0x05) :=
  issueOn_fault h (if_pos hj)

theorem execDraw_none (hj : (i.co.kreg b).toNat < i.m.varCount) (hd : i.x.draws ≤ (i.m.used.at (i.co.kreg b).toNat).getD 0) :
    execDraw c a b s = .next (i.faulted (s.setCore c (i.begun c (some 2))) c (.draw c a b) 0x07) :=
  issueOn_fault h ((if_neg (by simpa using hj)).trans (by simp [Member.draw_none hd]))

theorem execDraw_some (hp : i.inProgram (i.r.pc + 1)) (hj : (i.co.kreg b).toNat < i.m.varCount)
    (hd : (i.m.used.at (i.co.kreg b).toNat).getD 0 < i.x.draws) :
    execDraw c a b s = .next (i.retired s c (.draw c a b)
      (((i.begun c (some 2)).setK a (BitVec.ofNat 32 (gipolOutput (i.m.stream (i.co.kreg b).toNat)))).modMember i.r.member
        fun _ => i.m.drawn (i.co.kreg b).toNat) (i.run (some 2)) none 2) :=
  issueOn_onCore h ((if_neg (by simpa using hj)).trans (by simp [Member.draw_some hd]; rfl)) (by simp) hp

end Draw

section Mask

variable {a : BitVec 4} {b d : BitVec 5} {n : BitVec 3} (h : s.ready c (.mask c a b d n) (some 2) i)
include h

theorem execMask_outside (hj : i.m.varCount ≤ (i.co.kreg b).toNat ∨ 2 ^ 16 ≤ (i.co.kreg d).toNat) :
    execMask c a b d n s = .next (i.faulted (s.setCore c (i.begun c (some 2))) c (.mask c a b d n) 0x05) :=
  issueOn_fault h (if_pos hj)

theorem execMask_none (hj : (i.co.kreg b).toNat < i.m.varCount) (hq : (i.co.kreg d).toNat < 2 ^ 16)
    (hd : i.x.draws ≤ (i.m.used.at (i.co.kreg b).toNat).getD 0 + 1) :
    execMask c a b d n s = .next (i.faulted (s.setCore c (i.begun c (some 2))) c (.mask c a b d n) 0x07) := by
  refine issueOn_fault h ((if_neg (by simp; omega)).trans ?_)
  by_cases h0 : i.x.draws ≤ (i.m.used.at (i.co.kreg b).toNat).getD 0
  · simp [Member.draw_none h0]
  · have h1 : i.x.draws ≤ ((i.m.drawn (i.co.kreg b).toNat).used.at (i.co.kreg b).toNat).getD 0 := by rwa [Member.used_drawn_self]
    simp [Member.draw_some (Nat.lt_of_not_le h0), Member.draw_none h1]

theorem execMask_some (hp : i.inProgram (i.r.pc + 1)) (hj : (i.co.kreg b).toNat < i.m.varCount) (hq : (i.co.kreg d).toNat < 2 ^ 16)
    (hd : (i.m.used.at (i.co.kreg b).toNat).getD 0 + 1 < i.x.draws) :
    let j := (i.co.kreg b).toNat
    let st := i.m.stream j
    execMask c a b d n s = .next (i.retired s c (.mask c a b d n)
      (((i.begun c (some 2)).setW a (setVecQword (i.co.wreg a) n.toNat
        (maskBits (gipolOutput (gipolStep st) * 2 ^ 32 + gipolOutput st) (i.co.kreg d).toNat))).modMember i.r.member
        fun _ => (i.m.drawn j).drawn j) (i.run (some 2)) none 8) := by
  intro j st
  have d0 : i.m.draw i.x.draws j = some (BitVec.ofNat 32 (gipolOutput st), i.m.drawn j) := Member.draw_some (Nat.lt_of_succ_lt hd)
  have d1 : (i.m.drawn j).draw i.x.draws j = some (BitVec.ofNat 32 (gipolOutput (gipolStep st)), (i.m.drawn j).drawn j) := by
    rw [Member.draw_some (by rwa [Member.used_drawn_self]), Member.stream_drawn_self]
  have out : ∀ st, (BitVec.ofNat 32 (gipolOutput st)).toNat = gipolOutput st := fun st => by
    rw [BitVec.toNat_ofNat, Nat.mod_eq_of_lt (gipolOutput_lt st)]
  refine issueOn_onCore h ((if_neg (by simp; omega)).trans ?_) (by simp) hp
  simp only [Issue.seen_m, Issue.seen_x, Issue.seen_co, Issue.begun_kreg, Issue.begun_wreg, j, d0, d1, out]
  rfl

end Mask

/-- Settles O14: each instruction by its checks, and by the member its draws and updates leave. -/
theorem stochasticInstructions : Obligations.StochasticInstructions := by
  unfold Obligations.StochasticInstructions
  refine ⟨fun s c a b n i hp => ?_, fun s c a b d w n i hp => ⟨fun h => ?_, fun h => ?_⟩⟩
  · exact ⟨fun hu h => issueOn_gibbsRun h hp hu rfl, fun hu h ha => execUpdm_aligned h hp hu ha,
      fun h ha => execUpdm_unaligned h ha, fun rc hrc h => execRlxc_ready hrc h hp⟩
  · exact ⟨execDraw_outside h, execDraw_none h, execDraw_some h hp⟩
  · refine ⟨execMask_outside h, execMask_none h, fun hj hq hd => ?_⟩
    rw [exec_mask, execMask_some h hp hj hq hd, Member.drawn_drawn]

end Sys2Proof.Machine
end

section
/-! The sieve: SIEVEC, the queue, the service and the drawn state (R98, R122, R187, R190, R194). -/

namespace Sys2Proof.Machine

variable {s : State} {c : Nat} {i : Issue} {m : Member} {reqs : List (Nat × Word)}

/-! ### SIEVEC (R98, R122) -/

/-- The requests handed over are those of the local indices asked for, in their order. -/
theorem Member.handAll_map_fst {draws : Nat} : ∀ {js : List Nat} {m n : Member} {reqs : List (Nat × Word)},
    m.handAll draws js = some (n, reqs) → reqs.map Prod.fst = js
  | [], _, _, _, h => by cases h; rfl
  | j :: js, m, n, reqs, h => by
    simp only [Member.handAll] at h
    split at h
    · cases h
    · split at h
      · next r hr => cases h; exact congrArg (j :: ·) (handAll_map_fst hr)
      · cases h

theorem Issue.run_phase (i : Issue) (stage : Option Nat) : (i.run stage).phase = i.r.phase := rfl

theorem execSievec_none (h : s.ready c (.sievec c) (some 2) i) (hp : i.inProgram (i.r.pc + 1))
    (hh : i.m.handAll i.x.draws (i.m.ofColour i.r.phase) = some (m, [])) :
    execSievec c s = .next (i.retired s c (.sievec c) ((i.begun c (some 2)).modMember i.r.member fun _ => m) (i.run (some 2)) none 1) := by
  refine issueOn_onCore h (co := (i.begun c (some 2)).modMember i.r.member fun _ => m) ?_ rfl hp
  simp only [Issue.seen_m, Issue.seen_x, Issue.seen_r, Issue.run_phase, hh]
  rfl

/-- The requests of the running member at its cluster's sieve (R190). -/
def Issue.sieveReqs (i : Issue) (c : Nat) (reqs : List (Nat × Word)) : List SieveReq :=
  reqs.map fun q => { core := c, member := i.r.member, index := q.1, draw := q.2 }

theorem execSievec_some (h : s.ready c (.sievec c) (some 2) i)
    (hh : i.m.handAll i.x.draws (i.m.ofColour i.r.phase) = some (m, reqs)) (hr : reqs ≠ []) :
    execSievec c s = .next ((s.setCore c { (i.begun c (some 2)).modMember i.r.member (fun _ => m) with
        run := some { i.run (some 2) with wait := .sieve reqs.length } }).modCluster (clusterOf c) fun k =>
          Cluster.fillSieve { k with sieveWait := k.sieveWait ++ i.sieveReqs c reqs }) := by
  refine issueOn_hold h ?_
  simp only [Issue.seen_m, Issue.seen_x, Issue.seen_r, Issue.run_phase, hh, if_neg hr, State.setCore_setCore]
  rfl

/-! ### The queue (R190) -/

theorem Cluster.fillSieve_append (k : Cluster) : k.fillSieve.sieveQueue ++ k.fillSieve.sieveWait = k.sieveQueue ++ k.sieveWait := by
  simp [Cluster.fillSieve]

theorem Cluster.fillSieve_length {k : Cluster} (h : k.sieveQueue.length ≤ 64) :
    k.fillSieve.sieveQueue.length = min 64 (k.sieveQueue ++ k.sieveWait).length := by
  simp only [Cluster.fillSieve, List.length_append, List.length_take]
  omega

/-! ### The service (R187, R190, R194) -/

@[simp] theorem State.sendMsix_slots (s : State) (v : Nat) : (s.sendMsix v).slots = s.slots := by
  simp only [State.sendMsix]
  split_ifs <;> rfl

@[simp] theorem State.raise_slots (s : State) (n : Nat) : (s.raise n).slots = s.slots := by
  simp only [State.raise]
  split_ifs <;> simp

@[simp] theorem State.parityReport_slots (s : State) (domain inst : Nat) : (s.parityReport domain inst).slots = s.slots := by
  simp [State.parityReport, State.logError]

/-- Counting an event leaves every slot as it is. -/
@[simp] theorem State.count_slots (s : State) (u code n : Nat) : (s.count u code n).slots = s.slots := by
  have checked : (s.checkCounters u).slots = s.slots := by
    simp only [State.checkCounters]
    split_ifs <;> simp
  rw [← checked]
  simp only [State.count]
  split_ifs <;> rfl

theorem State.sieveServe_idle {k : Nat} (h : (s.cluster k).sieveQueue = [] ∨ (s.cluster k).sieveOut = true) : s.sieveServe k = s := by
  rw [State.sieveServe]
  rcases h with h | h
  · rw [h]
  · cases (s.cluster k).sieveQueue with
    | nil => rfl
    | cons q rest => exact if_pos h

theorem State.sieveServe_first {k n : Nat} {q : SieveReq} {rest : List SieveReq} {r : Run} {g : Image} {cv : CatVar}
    (hq : (s.cluster k).sieveQueue = q :: rest) (ho : (s.cluster k).sieveOut = false) (hu : .weight k ∉ s.upsets)
    (hn : (s.core q.core).slot = some n) (hm : (s.core q.core).members[q.member]? = some m) (hr : (s.core q.core).run = some r)
    (hg : (s.slot n).image = some g) (hv : (g.cats.find? fun v => v.var = m.varBase + q.index) = some cv) :
    let x := s.slot n
    let d := sieveDraw ((List.range cv.states).map fun j => g.logPotential m cv j) (x.beta m.replica r.epoch) x.topk x.nucleus q.draw
    s.sieveServe k = ((s.setCluster k (Cluster.fillSieve { s.cluster k with
      sieveQueue := rest, sieveServed := ((s.cluster k).sieveServed + 1) % 2 ^ 32 })).count k 0x0007 1).sieveReturn q d.1 d.2 := by
  intro x d
  have hu' : (s.upsets.any fun u => u = .weight k) = false := by
    simp only [List.any_eq_false, decide_eq_true_eq]
    exact fun u hm he => hu (he ▸ hm)
  simp only [State.sieveServe, hq, ho, hu', hn, hm, hr, Bool.false_eq_true, if_false]
  have hx : ∀ y, ((s.setCluster k y).count k 0x0007 1).slot n = s.slot n := fun y => by
    simp only [State.slot, State.count_slots, State.setCluster_slots]
  simp only [hx, hg, hv]
  rfl

/-! ### What the sieve draws (R187) -/

/-- What stands before the interval of state `k`: the weights of the states below it. -/
def sumBelow (w : Nat → Nat) (k : Nat) : Nat := ((List.range k).map w).sum

theorem sumBelow_succ (w : Nat → Nat) (k : Nat) : sumBelow w (k + 1) = sumBelow w k + w k := by
  simp [sumBelow, List.range_succ]

theorem sumBelow_pos {w : Nat → Nat} {j n : Nat} (hj : j < n) (hw : 0 < w j) : 0 < sumBelow w n :=
  lt_of_lt_of_le hw (List.single_le_sum (fun _ _ => Nat.zero_le _) _ (List.mem_map.mpr ⟨j, List.mem_range.mpr hj, rfl⟩))

/-- Of states listed in index order, the one picked is the one whose interval holds `r`. -/
theorem pickState_interval (w : Nat → Nat) (r : Nat) : ∀ (n a : Nat), sumBelow w a ≤ r → r < sumBelow w (a + n) →
    let k := pickState r (sumBelow w a) ((List.range' a n).map fun j => (j, w j))
    k < a + n ∧ sumBelow w k ≤ r ∧ r < sumBelow w (k + 1)
  | 0, a, h1, h2 => absurd h2 (Nat.not_lt.mpr h1)
  | n + 1, a, h1, h2 => by
    simp only [List.range'_succ, List.map_cons, pickState, ← sumBelow_succ]
    split
    · next h => exact ⟨by omega, h1, h⟩
    · next h =>
      have ih := pickState_interval w r n (a + 1) (Nat.le_of_not_lt h) (by rwa [Nat.add_assoc, Nat.add_comm 1 n])
      rwa [Nat.add_assoc, Nat.add_comm 1 n] at ih

theorem insertState_perm (p : Nat × Int) (l : List (Nat × Int)) : (insertState p l).Perm (p :: l) := by
  induction l with
  | nil => exact .rfl
  | cons q t ih =>
    simp only [insertState]
    split
    · exact .rfl
    · exact (ih.cons q).trans (.swap p q t)

/-- The order of R187: a state's A is nowhere above that of a state before it. -/
def descending (l : List (Nat × Int)) : Prop := l.Pairwise fun a b => b.2 ≤ a.2

theorem insertState_descending (p : Nat × Int) {l : List (Nat × Int)} (h : descending l) : descending (insertState p l) := by
  induction l with
  | nil => exact List.pairwise_singleton _ p
  | cons q t ih =>
    obtain ⟨hq, ht⟩ := List.pairwise_cons.mp h
    simp only [insertState]
    split
    · next hlt =>
      refine List.pairwise_cons.mpr ⟨fun b hb => ?_, h⟩
      rcases List.mem_cons.mp hb with rfl | hb
      · exact le_of_lt hlt
      · exact le_trans (hq b hb) (le_of_lt hlt)
    · next hle =>
      refine List.pairwise_cons.mpr ⟨fun b hb => ?_, ih ht⟩
      rcases List.mem_cons.mp ((insertState_perm p t).mem_iff.mp hb) with rfl | hb
      · exact not_lt.mp hle
      · exact hq b hb

/-- The states in the order of R187. -/
def orderStates (l : List (Nat × Int)) : List (Nat × Int) := l.foldl (fun l p => insertState p l) []

theorem orderStates_spec (l : List (Nat × Int)) : (orderStates l).Perm l ∧ descending (orderStates l) := by
  have step : ∀ (l acc : List (Nat × Int)), descending acc →
      (l.foldl (fun l p => insertState p l) acc).Perm (l ++ acc) ∧ descending (l.foldl (fun l p => insertState p l) acc) := by
    intro l
    induction l with
    | nil => exact fun acc h => ⟨.rfl, h⟩
    | cons p t ih =>
      intro acc h
      obtain ⟨hp, hd⟩ := ih (insertState p acc) (insertState_descending p h)
      exact ⟨hp.trans (((insertState_perm p acc).append_left t).trans List.perm_middle), hd⟩
  simpa [orderStates] using step l [] List.Pairwise.nil

/-- States with their weights in any order, read back in index order. -/
theorem byIndex_of_perm {w : Nat → Nat} {n : Nat} {l : List (Nat × Nat)} (h : l.Perm ((List.range n).map fun j => (j, w j))) :
    ((List.range n).filterMap fun k => l.find? fun p => p.1 = k) = (List.range n).map fun j => (j, w j) := by
  have found : ∀ k ∈ List.range n, (l.find? fun p => p.1 = k) = some (k, w k) := by
    intro k hk
    have hmem : (k, w k) ∈ l := h.mem_iff.mpr (List.mem_map.mpr ⟨k, hk, rfl⟩)
    cases hf : l.find? fun p => p.1 = k with
    | none => simpa using List.find?_eq_none.mp hf _ hmem
    | some p =>
      have hp : p.1 = k := by simpa using List.find?_some hf
      obtain ⟨j, -, rfl⟩ := List.mem_map.mp (h.mem_iff.mp (List.mem_of_find?_eq_some hf))
      rw [← hp]
  rw [← List.filterMap_eq_map]
  exact List.filterMap_congr found

/-- A scaled log-potential of state `j` (R187). -/
def scaledLog (logs : List Int) (beta j : Nat) : Int := clampInt (-65536) 65535 ((logs[j]?).getD 0) * (beta : Int)

/-- The weight of state `j` under the largest scaled log-potential `top` (R186, R187). -/
def sieveWeight (logs : List Int) (beta : Nat) (top : Int) (j : Nat) : Nat := weight (rhe (top - scaledLog logs beta j) 8).toNat

theorem weight_zero : weight 0 = 2 ^ 24 := by decide

theorem scaledLog_list (logs : List Int) (beta : Nat) :
    ((List.range logs.length).zip (logs.map (clampInt (-65536) 65535))).map (fun p => (p.1, p.2 * (beta : Int))) =
      (List.range logs.length).map fun j => (j, scaledLog logs beta j) := by
  refine List.ext_getElem (by simp) fun j h _ => ?_
  have hj : j < logs.length := by simpa using h
  simp [scaledLog, hj]

/-- The state drawn with neither top-k nor nucleus, where `head` stands first in the order of R187. -/
theorem sieveDraw_all {logs : List Int} {beta : Nat} (o : Word) {head : Nat × Int} {tail : List (Nat × Int)}
    (ho : orderStates ((List.range logs.length).map fun j => (j, scaledLog logs beta j)) = head :: tail) :
    let w := sieveWeight logs beta head.2
    (sieveDraw logs beta 0 0 o).1 =
      pickState (o.toNat * sumBelow w logs.length / 2 ^ 32) 0 ((List.range logs.length).map fun j => (j, w j)) := by
  intro w
  have order : ((List.range (logs.map (clampInt (-65536) 65535)).length).zip (logs.map (clampInt (-65536) 65535))).foldl
      (fun l p => insertState (p.1, p.2 * (beta : Int)) l) [] = head :: tail := by
    rw [List.length_map, ← ho, ← scaledLog_list, orderStates, List.foldl_map]
  have hw : ((head :: tail).map fun p => (p.1, weight (rhe (head.2 - p.2) 8).toNat)).Perm
      ((List.range logs.length).map fun j => (j, w j)) := by
    have := ((orderStates_spec ((List.range logs.length).map fun j => (j, scaledLog logs beta j))).1.map
      fun p => (p.1, weight (rhe (head.2 - p.2) 8).toNat))
    rwa [ho, List.map_map] at this
  have total : (((head :: tail).map fun p => (p.1, weight (rhe (head.2 - p.2) 8).toNat)).map fun p => p.2).sum =
      sumBelow w logs.length := by
    rw [(hw.map _).sum_eq, List.map_map]; rfl
  simp only [sieveDraw, order, Nat.lt_irrefl, decide_false, Bool.false_and, Bool.false_eq_true, if_false, if_true, total]
  rw [List.length_map, byIndex_of_perm hw]

/-- The first of the states in order has the largest scaled log-potential. -/
theorem head_is_largest {g : Nat → Int} {n : Nat} {head : Nat × Int} {tail : List (Nat × Int)}
    (ho : orderStates ((List.range n).map fun j => (j, g j)) = head :: tail) :
    (∀ j, j < n → g j ≤ head.2) ∧ ∃ j, j < n ∧ g j = head.2 := by
  obtain ⟨hp, hd⟩ := orderStates_spec ((List.range n).map fun j => (j, g j))
  rw [ho] at hp hd
  constructor
  · intro j hj
    have hmem : (j, g j) ∈ head :: tail := hp.mem_iff.mpr (List.mem_map.mpr ⟨j, List.mem_range.mpr hj, rfl⟩)
    rcases List.mem_cons.mp hmem with h | h
    · rw [← h]
    · exact (List.pairwise_cons.mp hd).1 _ h
  · obtain ⟨j, hj, rfl⟩ := List.mem_map.mp (hp.mem_iff.mp List.mem_cons_self)
    exact ⟨j, List.mem_range.mp hj, rfl⟩

/-- The largest scaled log-potential, and the interval of weights that holds the scaled draw (R187). -/
theorem sieveDraw_interval {logs : List Int} (beta : Nat) (o : Word) (hl : logs ≠ []) :
    ∃ top : Int, (∀ j, j < logs.length → scaledLog logs beta j ≤ top) ∧
      (∃ j, j < logs.length ∧ scaledLog logs beta j = top) ∧
      let w := sieveWeight logs beta top
      let k := (sieveDraw logs beta 0 0 o).1
      let r := o.toNat * sumBelow w logs.length / 2 ^ 32
      k < logs.length ∧ sumBelow w k ≤ r ∧ r < sumBelow w (k + 1) := by
  have hn : 0 < logs.length := List.length_pos_iff.mpr hl
  cases ho : orderStates ((List.range logs.length).map fun j => (j, scaledLog logs beta j)) with
  | nil =>
    have hp := (orderStates_spec ((List.range logs.length).map fun j => (j, scaledLog logs beta j))).1.length_eq
    rw [ho, List.length_map, List.length_range] at hp
    exact absurd hp (Nat.ne_of_lt hn)
  | cons head tail =>
    obtain ⟨hle, j, hj, htop⟩ := head_is_largest ho
    refine ⟨head.2, hle, ⟨j, hj, htop⟩, ?_⟩
    intro w k r
    have hpos : 0 < sumBelow w logs.length := sumBelow_pos hj (by
      have : w j = weight 0 := by simp only [w, sieveWeight, htop, Int.sub_self]; rfl
      rw [this, weight_zero]; decide)
    have hr : r < sumBelow w logs.length := (Nat.div_lt_iff_lt_mul (by decide)).mpr (by
      rw [Nat.mul_comm]; exact Nat.mul_lt_mul_of_pos_left o.isLt hpos)
    have pick := pickState_interval w r logs.length 0 (Nat.zero_le r) (by rwa [Nat.zero_add])
    rw [Nat.zero_add, ← List.range_eq_range'] at pick
    have hk : k = _ := sieveDraw_all o ho
    rw [hk]
    exact pick

/-- Settles O15: SIEVEC by what it hands over, the queue and its service case by case, and the draw by the interval of weights that
holds it. -/
theorem sieveCommands : Obligations.SieveCommands := by
  unfold Obligations.SieveCommands
  refine ⟨fun s c i m reqs h hh => ⟨Member.handAll_map_fst hh, fun hp hr => ?_, fun hr => execSievec_some h hh hr⟩,
    fun k hk => ⟨rfl, Cluster.fillSieve_length hk, k.fillSieve_append⟩, fun s k hk => ?_,
    fun logs beta o hl => sieveDraw_interval beta o hl⟩
  · exact execSievec_none h hp (hr ▸ hh)
  · have serve : exec (.sieveRequest k) s = .next (s.sieveServe k) := if_pos (decide_eq_true hk)
    refine ⟨fun h => by rw [serve, State.sieveServe_idle h], fun q rest n m r g cv hq ho hu hn hm hr hg hv => ?_⟩
    rw [serve, State.sieveServe_first hq ho hu hn hm hr hg hv]

end Sys2Proof.Machine
end

section
/-! The words of stage programs: the fields of a word, and reading an instruction back from its word (R116, R117, R139). -/

namespace Sys2Proof

open Machine

/-! ### The fields of a word (R116, R117) -/

section Fields

variable (op : BitVec 8) (a b c : BitVec 5) (x : BitVec 9) (i : BitVec 14) (j : BitVec 19) (k : BitVec 24)

@[simp] theorem opcode_wordR : (wordR op a b c x).extractLsb' 24 8 = op := by grind [wordR]
@[simp] theorem opcode_wordI : (wordI op a b i).extractLsb' 24 8 = op := by grind [wordI]
@[simp] theorem opcode_wordL : (wordL op a j).extractLsb' 24 8 = op := by grind [wordL]
@[simp] theorem opcode_wordJ : (wordJ op k).extractLsb' 24 8 = op := by grind [wordJ]

@[simp] theorem fieldA_wordR : fieldA (wordR op a b c x) = a := by grind [fieldA, wordR]
@[simp] theorem fieldA_wordI : fieldA (wordI op a b i) = a := by grind [fieldA, wordI]
@[simp] theorem fieldA_wordL : fieldA (wordL op a j) = a := by grind [fieldA, wordL]
@[simp] theorem fieldB_wordR : fieldB (wordR op a b c x) = b := by grind [fieldB, wordR]
@[simp] theorem fieldB_wordI : fieldB (wordI op a b i) = b := by grind [fieldB, wordI]
@[simp] theorem fieldC_wordR : fieldC (wordR op a b c x) = c := by grind [fieldC, wordR]
@[simp] theorem x_wordR : (wordR op a b c x).extractLsb' 0 9 = x := by grind [wordR]
@[simp] theorem imm14_wordI : imm14 (wordI op a b i) = i := by grind [imm14, wordI]
@[simp] theorem imm19_wordL : imm19 (wordL op a j) = j := by grind [imm19, wordL]
@[simp] theorem imm24_wordJ : (wordJ op k).extractLsb' 0 24 = k := by grind [wordJ]

/-! Operands that are narrower than the field that holds them. -/

variable (v n4 : BitVec 4) (acc m n : BitVec 3) (h : BitVec 16) (t : Bool)

@[simp] theorem vecA_wordR : vecA (wordR op (vecField v) b c x) = v := by grind [vecA, wordR, vecField]
@[simp] theorem vecA_wordI : vecA (wordI op (vecField v) b i) = v := by grind [vecA, wordI, vecField]
@[simp] theorem vecB_wordR : vecB (wordR op a (vecField v) c x) = v := by grind [vecB, wordR, vecField]
@[simp] theorem vecC_wordR : vecC (wordR op a b (vecField v) x) = v := by grind [vecC, wordR, vecField]
@[simp] theorem accA_wordR : accA (wordR op (accField acc) b c x) = acc := by grind [accA, wordR, accField]
@[simp] theorem xLow3_wordR : xLow3 (wordR op a b c (0#6 ++ n)) = n := by grind [xLow3, wordR]
@[simp] theorem xLow3_wordR_two : xLow3 (wordR op a b c (0#3 ++ m ++ n)) = n := by grind [xLow3, wordR]
@[simp] theorem xMid3_wordR_two : xMid3 (wordR op a b c (0#3 ++ m ++ n)) = m := by grind [xMid3, wordR]
@[simp] theorem xLow4_wordR : xLow4 (wordR op a b c (0#5 ++ n4)) = n4 := by grind [xLow4, wordR]
@[simp] theorem imm16_wordL : (wordL op a (0#3 ++ h)).extractLsb' 0 16 = h := by grind [wordL]
@[simp] theorem flag_wordR : (wordR op a b c (flagField 9 t))[0] = t := by cases t <;> grind [wordR, flagField]

end Fields

/-! ### An instruction and its word -/

/-- The word of an instruction holds its opcode, and its fields hold the operands. -/
theorem readStage_of_encodeStage {i : Instr} {w : Word} (h : encodeStage i = some w) :
    stageOpcode i = some (w.extractLsb' 24 8) ∧ ∃ core, readStage core w = some i := by
  unfold encodeStage at h
  -- one case for each instruction of a stage program (R119 to R127)
  split at h <;> cases h <;> exact ⟨by simp [stageOpcode], by simp [readStage]⟩

theorem encodeStage_of_decodeStage {i : Instr} {w : Word} {core : Nat} (h : decodeStage core w = some i) : encodeStage i = some w := by
  unfold decodeStage at h
  split at h
  · split at h
    · next he => rwa [Option.some.inj h] at he
    · cases h
  · cases h

/-- Settles O6: the fields of an instruction's word are its operands, and the decoder answers only what encodes to the word. -/
theorem stageRoundTrip : Obligations.StageRoundTrip := by
  unfold Obligations.StageRoundTrip
  refine ⟨fun i w h => ?_, fun i w core => encodeStage_of_decodeStage, fun w core h => ?_⟩
  · obtain ⟨-, core, hr⟩ := readStage_of_encodeStage h
    exact ⟨core, by simp [decodeStage, hr, h]⟩
  · cases hd : decodeStage core w with
    | none => rfl
    | some i => exact absurd (readStage_of_encodeStage (encodeStage_of_decodeStage hd)).1 (h i)

/-- Settles O5: each word decodes by evaluation. -/
theorem stageWords : Obligations.StageWords := by
  unfold Obligations.StageWords
  decide

end Sys2Proof
end

section
/-! The register files (R112, R113) and how they stand at a phase launch (R98, R114, R131). -/

namespace Sys2Proof.Machine

/-! ### A table that lists no entry at its reset value -/

theorem Tbl.at_del {α : Type} (t : Tbl α) (i j : Nat) : (t.del i).at j = if i = j then none else t.at j := by
  rw [Tbl.del, Tbl.at_filter t (· != i)]
  simp only [bne_iff_ne, ne_comm, ite_not]

/-- Writing an entry, or removing it where the value is the reset value, sets what is read there and nothing else. -/
theorem Tbl.getD_set {α : Type} [DecidableEq α] (t : Tbl α) (i j : Nat) (v z : α) :
    ((if v = z then t.del i else t.put i v).at j).getD z = if i = j then v else (t.at j).getD z := by
  split
  · next hv => rw [Tbl.at_del]; split <;> simp [hv]
  · rw [Tbl.at_put]; split <;> simp

/-! ### A register after a write (R112, R113) -/

section Registers

variable (co : Core)

theorem Core.kreg_setK (a b : BitVec 5) (v : Word) :
    (co.setK a v).kreg b = if b = 0#5 then 0 else if a = b then v else co.kreg b := by
  by_cases hb : b = 0#5
  · rw [if_pos hb, Core.kreg, if_pos hb]
  · rw [if_neg hb, Core.kreg, if_neg hb]
    by_cases ha : a = 0#5
    · rw [Core.setK, if_pos ha, if_neg (ha ▸ Ne.symm hb), Core.kreg, if_neg hb]
    · simp only [Core.setK, if_neg ha, Core.kreg, if_neg hb, ← BitVec.toNat_inj (x := a) (y := b)]
      exact Tbl.getD_set (α := Word) ..

theorem Core.wreg_setW (a b : BitVec 4) (v : BitVec 512) : (co.setW a v).wreg b = if a = b then v else co.wreg b := by
  simp only [← BitVec.toNat_inj (x := a), Core.wreg, Core.setW]
  exact Tbl.getD_set ..

/-- The elements of the accumulators have numbers of their own. -/
theorem accIndex_eq_iff (a b : BitVec 3) {r k r' k' : Nat} (hr : r < 8) (hk : k < 8) (hr' : r' < 8) (hk' : k' < 8) :
    64 * a.toNat + 8 * r + k = 64 * b.toNat + 8 * r' + k' ↔ a = b ∧ r = r' ∧ k = k' := by
  rw [← BitVec.toNat_inj]
  omega

theorem Core.accreg_setAcc (a b : BitVec 3) {r k r' k' : Nat} (x : Int) (hr : r < 8) (hk : k < 8) (hr' : r' < 8) (hk' : k' < 8) :
    (co.setAcc a r k x).accreg b r' k' = if a = b ∧ r = r' ∧ k = k' then x else co.accreg b r' k' := by
  simp only [Core.setAcc, Core.accreg, Tbl.getD_set, accIndex_eq_iff a b hr hk hr' hk']

end Registers

/-- Settles O9: each file by the table that holds it. -/
theorem registerFiles : Obligations.RegisterFiles := by
  unfold Obligations.RegisterFiles
  intro co a b v wa wb w ta tb n m n' m' x
  exact ⟨co.kreg_setK a b v, co.wreg_setW wa wb w, fun hn hm hn' hm' => co.accreg_setAcc ta tb x hn hm hn' hm'⟩

/-! ### The scalar registers at a launch (R114) -/

/-- Lists a value where it is not zero, as the launch of a phase does (R114). -/
def putWord (k : Tbl Word) (i v : Nat) : Tbl Word := if v % 2 ^ 32 = 0 then k else k.put i (BitVec.ofNat 32 v)

theorem launchRegs_eq (x : Slot) (m : Member) (t : Nat × Nat) : launchRegs x m t =
    putWord (putWord (putWord (putWord (putWord (putWord (putWord (putWord (putWord [] 1 t.2) 2 (t.1 % 2 ^ 32)) 3 (t.1 / 2 ^ 32))
      4 x.colours) 6 m.varCount) 7 m.varBase) 8 m.replica) 9 x.draws) 10 m.block := rfl

/-- A word listed so reads back, where no word stood before; the other entries stay. -/
theorem getD_putWord (k : Tbl Word) (i j v : Nat) (h : k.at i = none) :
    ((putWord k i v).at j).getD 0#32 = if i = j then BitVec.ofNat 32 v else (k.at j).getD 0#32 := by
  rw [putWord]
  split
  · next hv =>
    split
    · next hij => rw [← hij, h]; exact BitVec.eq_of_toNat_eq (by simpa using hv.symm)
    · rfl
  · rw [Tbl.at_put]; split <;> rfl

theorem at_putWord_of_ne (k : Tbl Word) {i j : Nat} (v : Nat) (h : i ≠ j) : (putWord k i v).at j = k.at j := by
  rw [putWord]
  split
  · rfl
  · exact Tbl.at_put_of_ne _ _ h

/-- What a launch lists: the registers of R114, and no other. -/
theorem getD_launchRegs (x : Slot) (m : Member) (t : Nat × Nat) (j : Nat) :
    let w := fun (v : Nat) => BitVec.ofNat 32 v
    ((launchRegs x m t).at j).getD 0#32 =
      if 10 = j then w m.block else if 9 = j then w x.draws else if 8 = j then w m.replica else if 7 = j then w m.varBase
      else if 6 = j then w m.varCount else if 4 = j then w x.colours else if 3 = j then w (t.1 / 2 ^ 32) else if 2 = j then w t.1
      else if 1 = j then w t.2 else 0 := by
  intro w
  have low : BitVec.ofNat 32 (t.1 % 2 ^ 32) = w t.1 := BitVec.eq_of_toNat_eq (by simp [w])
  have phase := getD_putWord [] 1 j t.2 rfl
  rw [launchRegs_eq]
  simp only [getD_putWord, at_putWord_of_ne, Tbl.at_nil, ne_eq, Nat.reduceEqDiff, not_false_eq_true, phase, low, w]
  rfl

/-! ### A member at its launch (R98, R114, R131) -/

/-- The member that a launch leaves: no FLIP bit is set, and what it was before a phase is forgotten (R98). -/
def Member.launched (m : Member) : Member := { m.clearFlip with old := [] }

theorem Member.cell_clearFlip (m : Member) {k : Nat} (hk : k < 32) : m.clearFlip.cell (0xDAC0 + k) = 0 := by
  have h : k < (zeros 32).length := by simpa [zeros] using hk
  exact (m.cell_put_inside 0xDAC0 k (zeros 32) h).trans (List.getElem_replicate _)

theorem Member.launched_flip (m : Member) {k : Nat} (hk : k < 256) : m.launched.flip k = false := by
  have byte : m.launched.byte (0xDAC0 + k / 8) = 0 := congrArg BitVec.toNat (m.cell_clearFlip (k := k / 8) (by omega))
  simp [Member.flip, Member.bit, byte, bitAt]

/-- Of the core store, a launch clears the FLIP bits and leaves the rest. -/
theorem Member.launched_agreeOff (m : Member) : m.launched.AgreeOff m fun a => 0xDAC0 ≤ a ∧ a < 0xDAE0 :=
  (m.put_agreeOff 0xDAC0 (zeros 32)).mono fun a ha => by simpa [zeros] using ha

section Launch

variable {co : Core} {j : Nat} {m : Member} (x : Slot) (t : Nat × Nat) (h : co.members[j]? = some m)
include h

theorem Core.launchMember_run : (co.launchMember x t j).run = some
    { epoch := t.1, phase := t.2, member := j, pc := 0, stage := 2, fprDone := false, smsgDone := false, pdone := false, pushed := [],
      queued := false, retired := 0, wait := .none } := by
  simp only [Core.launchMember, h]

theorem Core.launchMember_kreg (r : BitVec 5) :
    (co.launchMember x t j).kreg r = if r = 0#5 then 0 else ((launchRegs x m t).at r.toNat).getD 0 := by
  simp only [Core.launchMember, h, Core.kreg]

theorem Core.launchMember_wreg (r : BitVec 4) : (co.launchMember x t j).wreg r = 0 := by
  simp only [Core.launchMember, h, Core.wreg]
  rfl

theorem Core.launchMember_accreg (a : BitVec 3) (r k : Nat) : (co.launchMember x t j).accreg a r k = 0 := by
  simp only [Core.launchMember, h, Core.accreg]
  rfl

theorem Core.launchMember_member : (co.launchMember x t j).members[j]? = some m.launched := by
  simp [Core.launchMember, h, Core.modMember, Member.launched]

/-- Every scalar register that R114 does not name is zero at a launch. -/
theorem Core.launchMember_kreg_other {r : BitVec 5} (hr : r ∉ [1, 2, 3, 4, 6, 7, 8, 9, 10]) : (co.launchMember x t j).kreg r = 0 := by
  have ne : ∀ n : Nat, n < 32 ∧ BitVec.ofNat 5 n ∈ [1#5, 2, 3, 4, 6, 7, 8, 9, 10] → n ≠ r.toNat := fun n ⟨hn, hk⟩ e => by
    subst e
    exact hr (by rwa [BitVec.ofNat_toNat, BitVec.setWidth_eq] at hk)
  rw [Core.launchMember_kreg x t h]
  split
  · rfl
  · refine (getD_launchRegs x m t r.toNat).trans ?_
    rw [if_neg (ne 10 (by decide)), if_neg (ne 9 (by decide)), if_neg (ne 8 (by decide)), if_neg (ne 7 (by decide)),
      if_neg (ne 6 (by decide)), if_neg (ne 4 (by decide)), if_neg (ne 3 (by decide)), if_neg (ne 2 (by decide)),
      if_neg (ne 1 (by decide))]

end Launch

/-- Settles O22: the registers by the launch's table, the other files as empty, and the member by its one write. -/
theorem launchRegisters : Obligations.LaunchRegisters := by
  unfold Obligations.LaunchRegisters
  intro co x e ph j m h l w
  have reg := fun (r : BitVec 5) (hr : r ≠ 0#5) =>
    (Core.launchMember_kreg x (e, ph) h r).trans ((if_neg hr).trans (getD_launchRegs x m (e, ph) r.toNat))
  have members := fun (k : Nat) (hk : k < 256) => And.intro (m.launched_flip hk)
    (And.intro (m.launched_agreeOff.bit (base := 0xD400) (i := k) (by omega))
      (m.launched_agreeOff.field (k := k) (by omega) (by omega)))
  exact ⟨⟨_, Core.launchMember_run x (e, ph) h, rfl, rfl, rfl, rfl, rfl, rfl, rfl, rfl, rfl, rfl⟩,
    reg 1 (by decide), reg 2 (by decide), reg 3 (by decide), reg 4 (by decide), reg 6 (by decide), reg 7 (by decide), reg 8 (by decide),
    reg 9 (by decide), reg 10 (by decide), fun r => Core.launchMember_kreg_other x (e, ph) h, Core.launchMember_wreg x (e, ph) h,
    Core.launchMember_accreg x (e, ph) h, m.launched, Core.launchMember_member x (e, ph) h, members⟩

end Sys2Proof.Machine
end

section
/-! Scalar instructions and branches (R118, R119, R120, R132). -/

namespace Sys2Proof.Machine

variable {s : State} {c : Nat} {ins : Instr} {stage : Option Nat} {i : Issue} {body : State → Issue → Done}

/-! ### Scalar instructions (R120) -/

/-- A scalar operation writes its result into kA and retires in one beat. -/
theorem issueOn_alu {a b d : BitVec 5} {f : Word → Word → Word} (hp : i.inProgram (i.r.pc + 1)) (h : s.ready c ins none i) :
    issueOn c ins none s (alu c a b d f) =
      .next (i.retired s c ins ((i.begun c none).setK a (f (i.co.kreg b) (i.co.kreg d))) i.r none 1) :=
  issueOn_onCore h rfl (by simp) hp

/-- Settles O7: each instruction by its operation. -/
theorem scalarInstructions : Obligations.ScalarInstructions := by
  unfold Obligations.ScalarInstructions
  intro s c a b d i14 i19 i16 i hp
  exact ⟨issueOn_alu hp, issueOn_alu hp, issueOn_alu hp, issueOn_alu hp, issueOn_alu hp, issueOn_alu hp, issueOn_alu hp, issueOn_alu hp,
    issueOn_alu hp, issueOn_alu hp, issueOn_alu hp⟩

/-! ### Branches (R118, R119) -/

/-- A branch retires at its target when it is taken, and at the next word when it is not. -/
theorem issueOn_branch {co : Core} {r : Run} (taken : Prop) [Decidable taken] {off : Int} (h : s.ready c ins stage i)
    (hb : body (s.setCore c (i.begun c stage)) (i.seen c stage) = branch c (s.setCore c (i.begun c stage)) co (decide taken) off)
    (hr : co.run = some r) (hp : i.inProgram (i.pcAfter (if taken then some off else none))) :
    issueOn c ins stage s body = .next (i.retired s c ins co r (if taken then some off else none) 1) := by
  by_cases ht : taken
  · simp only [ht, decide_true, if_true] at hb hp ⊢
    rw [issueOn_retire (r := r) h hb (by simpa using hr) hp]
    simp [Issue.retired]
  · simp only [ht, decide_false, if_false] at hb hp ⊢
    exact issueOn_onCore h hb hr hp

/-- LOOP goes on while the count it leaves is not zero; k0 always reads as zero (R113, R119). -/
theorem Core.kreg_setK_pred_ne_zero (co : Core) (a : BitVec 5) :
    (co.setK a (co.kreg a - 1)).kreg a ≠ 0 ↔ a ≠ 0 ∧ co.kreg a ≠ 1 := by
  rw [Core.kreg_setK, if_pos rfl]
  by_cases ha : a = 0#5
  · simp [ha]
  · rw [if_neg ha, Ne, BitVec.sub_eq_iff_eq_add]
    simp [ha]

theorem execLoop_ready {a : BitVec 5} {off : BitVec 19} (h : s.ready c (.loop c a off) none i) :
    let way := if a ≠ 0 ∧ i.co.kreg a ≠ 1 then some off.toInt else none
    i.inProgram (i.pcAfter way) →
      execLoop c a off s = .next (i.retired s c (.loop c a off) ((i.begun c none).setK a (i.co.kreg a - 1)) i.r way 1) := by
  intro way hp
  have e : way = if ((i.begun c none).setK a (i.co.kreg a - 1)).kreg a ≠ 0 then some off.toInt else none :=
    if_congr (Core.kreg_setK_pred_ne_zero (i.begun c none) a).symm rfl rfl
  rw [e] at hp ⊢
  exact issueOn_branch _ h rfl (by simp) hp

theorem execEndPhase_ready (h : s.ready c (.endPhase c) none i) :
    let co := i.begun c none
    execEndPhase c s = .next (if i.r.pdone
      then ((s.setCore c { co with retired := (co.retired + 1) % 2 ^ 48 }).tag c i (.endPhase c) 1 1).endMember c
      else i.faulted (s.setCore c co) c (.endPhase c) 6) := by
  intro co
  rw [execEndPhase]
  cases hd : i.r.pdone with
  | false => exact issueOn_fault h (if_neg (by simp [hd]))
  | true =>
    rw [issueOn_ended h (if_pos hd)]
    simp only [State.modCore, State.core_setCore, State.setCore_setCore]
    rfl

/-- Settles O8: each branch by its condition, END by whether PDONE has retired. -/
theorem branches : Obligations.Branches := by
  unfold Obligations.Branches
  refine ⟨fun s c a b o24 o19 o14 i => ?_, fun s c i => execEndPhase_ready⟩
  exact ⟨fun h hp => issueOn_branch False h rfl rfl hp, fun h hp => issueOn_branch True h rfl rfl hp,
    fun h hp => issueOn_branch (i.co.kreg a = 0) h rfl rfl hp, fun h hp => issueOn_branch (i.co.kreg a ≠ 0) h rfl rfl hp,
    fun h hp => issueOn_branch ((i.co.kreg a).toInt < (i.co.kreg b).toInt) h rfl rfl hp, execLoop_ready⟩

end Sys2Proof.Machine
end

section
/-! Loads, stores and moves of the core store and of the program window (R123 to R125, R128). -/

namespace Sys2Proof.Machine

variable {s : State} {c : Nat} {ins : Instr} {stage : Option Nat} {i : Issue} {body : State → Issue → Done}

/-! ### Instructions that change more than the core -/

theorem issueOn_retires {t : State} {off : Option Int} {beats : Nat} (h : s.ready c ins stage i)
    (hb : body (s.setCore c (i.begun c stage)) (i.seen c stage) = .retire t off beats) :
    issueOn c ins stage s body = .next (t.retire c i ins off beats) := by
  rw [issueOn_ready h, hb]

/-- An instruction that changes its core, and another part of the state before. -/
theorem issueOn_onCore_of_state {t : State} {co : Core} {r : Run} {beats : Nat} (h : s.ready c ins stage i)
    (hb : body (s.setCore c (i.begun c stage)) (i.seen c stage) = onCore c t co beats)
    (hr : co.run = some r) (hp : i.inProgram (i.r.pc + 1)) :
    issueOn c ins stage s body = .next (i.retired t c ins co r none beats) := by
  rw [issueOn_retire (off := none) (r := r) h hb (by simpa using hr) hp]
  simp [Issue.retired]

/-! ### Core-store addresses (R123, R128) -/

/-- The code of R142 for a core-store access of n bytes, in the order of R128; 0 for one without a fault. -/
def accessCode (p : Int) (n : Nat) (store : Bool) : Nat :=
  if p < 0 ∨ 0xFFFF < p then 0x05 else if p % n ≠ 0 then 0x03
  else if store ∧ (p < 0xE000 ∨ 0xF800 < p + n) then 0x02 else 0

theorem storeFault_of_accessCode {p : Int} {n : Nat} {store : Bool} (h : accessCode p n store ≠ 0) :
    storeFault p n n store = some (accessCode p n store) := by
  unfold accessCode storeFault at *
  split_ifs at *
  · rfl
  · rfl
  · rfl
  · exact absurd rfl h

/-- An address without a fault lies in the core store, aligned. -/
theorem storeFault_none {p : Int} {align len : Nat} {store : Bool} (h : storeFault p align len store = none) :
    0 ≤ p ∧ p ≤ 0xFFFF ∧ p % align = 0 := by
  unfold storeFault at h
  split_ifs at h
  omega

/-! ### The words of a load (R316, R587) -/

theorem State.storeSound.setCore (h : s.storeSound c) (x : Core) : (s.setCore c x).storeSound c := h

/-- A load of a core store without a flipped word meets no error. -/
theorem loadWords_sound {a n : Nat} {k : State → Done} (h : s.storeSound c) (ha : a / 8 * 8 + 8 * ((n + 7) / 8) ≤ 0x10000) :
    loadWords c a n s k = k s := by
  have word : ∀ i < (n + 7) / 8, s.upsetAt (storeBase + 0x10000 * c + a / 8 * 8 + 8 * i) = false ∧
      s.correctableAt (storeBase + 0x10000 * c + a / 8 * 8 + 8 * i) = none := fun i hi => by
    rw [Nat.add_assoc]
    exact h _ (by omega)
  refine (if_neg ?_).trans (congrArg k (List.foldlRecOn (motive := (· = s)) _ _ rfl fun t ht w hw => ?_))
  · simpa using fun i hi => (word i hi).1
  · obtain ⟨i, hi, rfl⟩ := List.mem_map.mp hw
    rw [ht, (word i (List.mem_range.mp hi)).2]

/-! ### Core-store accesses -/

section Accesses

variable {ka kb : BitVec 5} {wa wb n : BitVec 4} {acc : BitVec 3} {imm : BitVec 14}

theorem execLdk_ready (hp : i.inProgram (i.r.pc + 1)) (hs : s.storeSound c)
    (ha : storeFault (storeAddr (i.co.kreg kb) imm) 4 4 false = none) (h : s.ready c (.ldk c ka kb imm) none i) :
    execLdk c ka kb imm s = .next (i.retired s c (.ldk c ka kb imm) ((i.begun c none).setK ka (BitVec.ofNat 32
      (leNat (i.m.loadBytes (storeAddr (i.co.kreg kb) imm).toNat 4)))) i.r none 2) := by
  refine issueOn_onCore h ?_ (by simp) hp
  obtain ⟨h0, h1, -⟩ := storeFault_none ha
  simp only [Issue.seen_co, Issue.begun_kreg, ha]
  rw [loadWords_sound (hs.setCore _) (by omega)]
  rfl

theorem execLdw_ready (hp : i.inProgram (i.r.pc + 1)) (hs : s.storeSound c)
    (ha : storeFault (storeAddr (i.co.kreg kb) imm) 64 64 false = none) (h : s.ready c (.ldw c wa kb imm) none i) :
    execLdw c wa kb imm s = .next (i.retired s c (.ldw c wa kb imm) ((i.begun c none).setW wa (BitVec.ofNat 512
      (leNat (i.m.loadBytes (storeAddr (i.co.kreg kb) imm).toNat 64)))) i.r none 2) := by
  refine issueOn_onCore h ?_ (by simp) hp
  obtain ⟨h0, h1, h2⟩ := storeFault_none ha
  simp only [Issue.seen_co, Issue.begun_kreg, ha]
  rw [loadWords_sound (hs.setCore _) (by omega)]
  rfl

theorem execStk_ready (hp : i.inProgram (i.r.pc + 1)) (ha : storeFault (storeAddr (i.co.kreg kb) imm) 4 4 true = none)
    (h : s.ready c (.stk c ka kb imm) none i) :
    execStk c ka kb imm s = .next (i.retired s c (.stk c ka kb imm) ((i.begun c none).modMember i.r.member fun _ =>
      i.m.put (storeAddr (i.co.kreg kb) imm).toNat (leBytes 4 (i.co.kreg ka).toNat)) i.r none 2) := by
  refine issueOn_onCore h ?_ rfl hp
  simp only [Issue.seen_co, Issue.begun_kreg, ha]
  rfl

theorem execStw_ready (hp : i.inProgram (i.r.pc + 1)) (ha : storeFault (storeAddr (i.co.kreg kb) imm) 64 64 true = none)
    (h : s.ready c (.stw c wa kb imm) none i) :
    execStw c wa kb imm s = .next (i.retired s c (.stw c wa kb imm) ((i.begun c none).modMember i.r.member fun _ =>
      i.m.put (storeAddr (i.co.kreg kb) imm).toNat (leBytes 64 (i.co.wreg wa).toNat)) i.r none 2) := by
  refine issueOn_onCore h ?_ rfl hp
  simp only [Issue.seen_co, Issue.begun_kreg, ha]
  rfl

theorem execAccst_ready (hp : i.inProgram (i.r.pc + 1)) (ha : storeFault (i.co.kreg kb).toInt 64 256 true = none)
    (h : s.ready c (.accst c acc kb) none i) :
    execAccst c acc kb s = .next (i.retired s c (.accst c acc kb) ((i.begun c none).modMember i.r.member fun _ =>
      i.m.put (i.co.kreg kb).toInt.toNat
        ((List.range 64).flatMap fun e => leBytes 4 (toField 32 (i.co.accreg acc (e / 8) (e % 8))))) i.r none 4) := by
  refine issueOn_onCore h ?_ rfl hp
  simp only [Issue.seen_co, Issue.begun_kreg, ha]
  rfl

theorem execLdk_fault {code : Nat} (h : s.ready c (.ldk c ka kb imm) none i)
    (hf : storeFault (storeAddr (i.co.kreg kb) imm) 4 4 false = some code) :
    execLdk c ka kb imm s = .next (i.faulted (s.setCore c (i.begun c none)) c (.ldk c ka kb imm) code) :=
  issueOn_fault h (by simp only [Issue.seen_co, Issue.begun_kreg, hf])

theorem execStk_fault {code : Nat} (h : s.ready c (.stk c ka kb imm) none i)
    (hf : storeFault (storeAddr (i.co.kreg kb) imm) 4 4 true = some code) :
    execStk c ka kb imm s = .next (i.faulted (s.setCore c (i.begun c none)) c (.stk c ka kb imm) code) :=
  issueOn_fault h (by simp only [Issue.seen_co, Issue.begun_kreg, hf])

theorem execLdw_fault {code : Nat} (h : s.ready c (.ldw c wa kb imm) none i)
    (hf : storeFault (storeAddr (i.co.kreg kb) imm) 64 64 false = some code) :
    execLdw c wa kb imm s = .next (i.faulted (s.setCore c (i.begun c none)) c (.ldw c wa kb imm) code) :=
  issueOn_fault h (by simp only [Issue.seen_co, Issue.begun_kreg, hf])

theorem execStw_fault {code : Nat} (h : s.ready c (.stw c wa kb imm) none i)
    (hf : storeFault (storeAddr (i.co.kreg kb) imm) 64 64 true = some code) :
    execStw c wa kb imm s = .next (i.faulted (s.setCore c (i.begun c none)) c (.stw c wa kb imm) code) :=
  issueOn_fault h (by simp only [Issue.seen_co, Issue.begun_kreg, hf])

end Accesses

/-! ### The program window (R124, R125, R128) -/

section Window

variable {wa : BitVec 4} {kb : BitVec 5} {imm : BitVec 14}

theorem windowFault_outside {p : Int} (h : p < 0 ∨ 4032 < p) : windowFault p = some 0x04 := if_pos h

theorem windowFault_unaligned {p : Int} (h0 : 0 ≤ p) (h1 : p ≤ 4032) (h : p % 64 ≠ 0) : windowFault p = some 0x03 := by
  rw [windowFault, if_neg (by omega), if_pos h]

theorem execLdsl_fault {code : Nat} (h : s.ready c (.ldsl c wa kb imm) none i)
    (hf : windowFault (storeAddr (i.co.kreg kb) imm) = some code) :
    execLdsl c wa kb imm s = .next (i.faulted (s.setCore c (i.begun c none)) c (.ldsl c wa kb imm) code) :=
  issueOn_fault h (by simp only [Issue.seen_co, Issue.begun_kreg, hf])

theorem execStsl_fault {code : Nat} (h : s.ready c (.stsl c wa kb imm) none i)
    (hf : windowFault (storeAddr (i.co.kreg kb) imm) = some code) :
    execStsl c wa kb imm s = .next (i.faulted (s.setCore c (i.begun c none)) c (.stsl c wa kb imm) code) :=
  issueOn_fault h (by simp only [Issue.seen_co, Issue.begun_kreg, hf])

theorem execLdsl_ready {t : State} {bs : List Byte} (h : s.ready c (.ldsl c wa kb imm) none i)
    (hf : windowFault (storeAddr (i.co.kreg kb) imm) = none) (hp : i.inProgram (i.r.pc + 1))
    (hr : (s.setCore c (i.begun c none)).readLocal (windowAddr c (storeAddr (i.co.kreg kb) imm).toNat) 64 = (t, some bs)) :
    execLdsl c wa kb imm s = .next (i.retired t c (.ldsl c wa kb imm)
      ((i.begun c none).setW wa (BitVec.ofNat 512 (leNat bs))) i.r none 12) := by
  refine issueOn_onCore_of_state (t := t) h ?_ (Core.setW_run ..) hp
  extract_lets p
  rw [show windowFault p = none from hf,
    show (s.setCore c (i.begun c none)).readLocal (windowAddr c p.toNat) 64 = (t, some bs) from hr]
  rfl

theorem execStsl_ready (h : s.ready c (.stsl c wa kb imm) none i) (hf : windowFault (storeAddr (i.co.kreg kb) imm) = none) :
    execStsl c wa kb imm s = .next (((s.setCore c (i.begun c none)).writeLocal (windowAddr c (storeAddr (i.co.kreg kb) imm).toNat)
      (leBytes 64 (i.co.wreg wa).toNat)).1.retire c i (.stsl c wa kb imm) none 12) :=
  issueOn_retires h (by simp only [Issue.seen_co, Issue.begun_kreg, hf]; rfl)

end Window

/-- Settles O10: each access by its address check, and what it does on an address without a fault. -/
theorem coreStoreAccesses : Obligations.CoreStoreAccesses := by
  unfold Obligations.CoreStoreAccesses
  refine ⟨fun s c ka kb wa wb n acc imm i hp hs => ?_, fun s c ka kb wa imm i => ?_, fun s c wa kb imm i => ?_⟩
  · exact ⟨execLdk_ready hp hs, execStk_ready hp, execLdw_ready hp hs, execStw_ready hp, execAccst_ready hp,
      fun h => issueOn_onCore h rfl (by simp) hp, fun h => issueOn_onCore h rfl rfl hp⟩
  · exact ⟨fun h hc => execLdk_fault h (storeFault_of_accessCode hc),
      fun h hc => execStk_fault h (storeFault_of_accessCode hc),
      fun h hc => execLdw_fault h (storeFault_of_accessCode hc),
      fun h hc => execStw_fault h (storeFault_of_accessCode hc)⟩
  · exact ⟨fun h hf t bs hp hr => execLdsl_ready h hf hp hr, execStsl_ready,
      fun hp => ⟨fun h => execLdsl_fault h (windowFault_outside hp), fun h => execStsl_fault h (windowFault_outside hp)⟩,
      fun h0 h1 hp => ⟨fun h => execLdsl_fault h (windowFault_unaligned h0 h1 hp),
        fun h => execStsl_fault h (windowFault_unaligned h0 h1 hp)⟩⟩

end Sys2Proof.Machine
end

section
/-! The MAC instructions on saturating accumulators (R86 to R88, R121, R128). -/

namespace Sys2Proof.Machine

variable {s : State} {c : Nat} {ins : Instr} {i : Issue} {body : State → Issue → Done}

/-- An instruction that adds to accumulator values: the core with the sums, and the member with ACC_SAT where one clips. -/
theorem issueOn_accumulateAll {acc : BitVec 3} {ds : List (Nat × Nat × Int)} (hp : i.inProgram (i.r.pc + 1)) (h : s.ready c ins none i)
    (hb : body (s.setCore c (i.begun c none)) (i.seen c none) =
      ((i.seen c none).accumulateAll acc ds).done c (s.setCore c (i.begun c none))) :
    let j := (i.seen c none).accumulateAll acc ds
    issueOn c ins none s body = .next (i.retired s c ins (j.co.modMember i.r.member fun _ => j.m) i.r none 1) := by
  refine issueOn_onCore h (hb.trans ?_) (by simp) hp
  rw [Issue.done, Issue.withMember, Issue.accumulateAll_r]
  rfl

/-- Clearing an accumulator leaves the values of the others (R121). -/
theorem Core.accreg_clear (co : Core) (acc b : BitVec 3) {r k : Nat} (hr : r < 8) (hk : k < 8) :
    ({ co with acc := co.acc.filter fun p => p.1 / 64 ≠ acc.toNat } : Core).accreg b r k = if b = acc then 0 else co.accreg b r k := by
  have row : (64 * b.toNat + 8 * r + k) / 64 = b.toNat := by omega
  simp only [Core.accreg, Tbl.at_filter co.acc (fun n => decide (n / 64 ≠ acc.toNat)), row, ← BitVec.toNat_inj (x := b)]
  by_cases hb : b.toNat = acc.toNat <;> simp [hb]

theorem Member.satIf_eq (m : Member) (bit : Nat) (x : Int) :
    m.satIf bit (clips32 x) = if x < -2147483648 ∨ 2147483647 < x then m.setSat bit else m := by
  simp only [Member.satIf, clips32_eq, decide_eq_true_eq]

/-- Settles O11: each instruction by its products, and an accumulator by its saturating sum. -/
theorem macInstructions : Obligations.MacInstructions := by
  unfold Obligations.MacInstructions
  refine ⟨fun s c acc row n m kb wb wc i hp => ⟨fun ht h => ?_, fun ht h => ?_, (issueOn_accumulateAll hp · rfl),
    (issueOn_accumulateAll hp · rfl), fun h => ?_⟩, fun i a b r k r' k' d hr hk hr' hk' => ?_⟩
  · exact issueOn_accumulateAll hp h (if_neg (by simpa using ht))
  · exact issueOn_fault h (if_pos ht)
  · exact ⟨_, issueOn_onCore h rfl rfl hp, rfl, fun b r k => Core.accreg_clear _ acc b⟩
  · exact ⟨by rw [← sat32_eq]; exact i.co.accreg_setAcc a b _ hr hk hr' hk', i.m.satIf_eq 1 _, rfl, rfl, rfl⟩

end Sys2Proof.Machine
end

section
/-! The sync instructions SIG and WAIT (R126, R128, R244, R246). -/

namespace Sys2Proof.Machine

variable {s : State} {c : Nat} {i : Issue}

theorem Issue.seen_handle (i : Issue) (c : Nat) (stage : Option Nat) (k : Word) : (i.seen c stage).handle k = i.handle k := rfl

/-- Only an object of this module holds an epoch back here. -/
theorem State.beyondWindow_remote {hall e runGen : Nat} (h : hallModule hall ≠ s.fabric.moduleId) :
    s.beyondWindow hall e runGen = false := by simp [State.beyondWindow, h]

/-- A local signal is one message (R244). -/
theorem State.signalTo_local {hall : Nat} (count e runGen slot u source : Nat) (h : hallModule hall = s.fabric.moduleId) :
    s.signalTo hall count e runGen slot u source =
      s.send (.signal { object := hall, source := source, count := count, epoch := e, runGen := runGen, slot := slot }) := if_pos h

/-- The state in which a core's instruction waits. -/
def Issue.waitsFor (i : Issue) (s : State) (c : Nat) (w : CoreWait) : State :=
  s.setCore c { i.begun c none with run := some { i.r with wait := w } }

/-! ### SIG -/

section Sig

variable {a : BitVec 5} {count : BitVec 9} {hall : Nat} (h : s.ready c (.sig c a count) none i)
include h

theorem execSig_unbound (hn : i.handle (i.co.kreg a) = none) :
    execSig c a count s = .next (i.faulted (s.setCore c (i.begun c none)) c (.sig c a count) 0x05) :=
  issueOn_fault h (by simp only [Issue.seen_co, Issue.begun_kreg, Issue.seen_handle, hn])

theorem execSig_beyond (hn : i.handle (i.co.kreg a) = some hall)
    (hw : (s.setCore c (i.begun c none)).beyondWindow hall i.r.epoch i.x.runGen = true) : execSig c a count s = .next s :=
  issueOn_again h (by simp only [Issue.seen_co, Issue.begun_kreg, Issue.seen_handle, hn]; exact if_pos hw)

theorem execSig_local (hn : i.handle (i.co.kreg a) = some hall)
    (hw : (s.setCore c (i.begun c none)).beyondWindow hall i.r.epoch i.x.runGen = false) (hm : hallModule hall = s.fabric.moduleId) :
    execSig c a count s = .next (((s.setCore c (i.begun c none)).signalTo hall count.toNat i.r.epoch i.x.runGen i.n
      (syncUnit (clusterOf c)) c).retire c i (.sig c a count) none 1) := by
  refine issueOn_retires h ?_
  simp only [Issue.seen_co, Issue.begun_kreg, Issue.seen_handle, hn]
  refine (if_neg (Bool.eq_false_iff.mp hw)).trans ((if_pos hm).trans ?_)
  rw [State.setCore_setCore]
  rfl

theorem execSig_remote (hn : i.handle (i.co.kreg a) = some hall) (hm : hallModule hall ≠ s.fabric.moduleId) :
    let remote := (i.waitsFor s c .signal).sendRequest .signal hall count.toNat 0 0 i.x.runGen i.r.epoch [] none
      (syncUnit (clusterOf c)) (some (c, i.r.epoch))
    execSig c a count s = .next (if remote.2 = none then remote.1 else remote.1.retire c i (.sig c a count) none 1) := by
  intro remote
  have sent : ((s.setCore c (i.begun c none)).setCore c ((i.seen c none).withRun fun r => { r with wait := .signal }).co).sendRequest
      .signal hall count.toNat 0 0 i.x.runGen i.r.epoch [] none (syncUnit (clusterOf c)) (some (c, i.r.epoch)) = remote := by
    rw [State.setCore_setCore]
    rfl
  have hw : (s.setCore c (i.begun c none)).beyondWindow hall i.r.epoch i.x.runGen = false := State.beyondWindow_remote hm
  cases hr : remote with
  | mk t o =>
    rw [hr] at sent
    cases o with
    | none =>
      rw [if_pos rfl]
      refine issueOn_hold h ?_
      simp only [Issue.seen_co, Issue.seen_r, Issue.seen_x, Issue.run_none, Issue.begun_kreg, Issue.seen_handle, hn]
      exact (if_neg (Bool.eq_false_iff.mp hw)).trans ((if_neg hm).trans (by rw [sent]))
    | some x =>
      rw [if_neg (by simp)]
      refine issueOn_retires h ?_
      simp only [Issue.seen_co, Issue.seen_r, Issue.seen_x, Issue.run_none, Issue.begun_kreg, Issue.seen_handle, hn]
      exact (if_neg (Bool.eq_false_iff.mp hw)).trans ((if_neg hm).trans (by rw [sent]))

end Sig

/-! ### WAIT -/

section Wait

variable {a : BitVec 5} {hall : Nat} (h : s.ready c (.wait c a) none i)
include h

theorem execWait_unbound (hn : i.handle (i.co.kreg a) = none) :
    execWait c a s = .next (i.faulted (s.setCore c (i.begun c none)) c (.wait c a) 0x05) :=
  issueOn_fault h (by simp only [Issue.seen_co, Issue.begun_kreg, Issue.seen_handle, hn])

theorem execWait_beyond (hn : i.handle (i.co.kreg a) = some hall)
    (hw : (s.setCore c (i.begun c none)).beyondWindow hall i.r.epoch i.x.runGen = true) : execWait c a s = .next s :=
  issueOn_again h (by simp only [Issue.seen_co, Issue.begun_kreg, Issue.seen_handle, hn]; exact if_pos hw)

theorem execWait_bound (hn : i.handle (i.co.kreg a) = some hall)
    (hw : (s.setCore c (i.begun c none)).beyondWindow hall i.r.epoch i.x.runGen = false) :
    execWait c a s = .next (if hallModule hall = s.fabric.moduleId
      then (i.waitsFor s c .sync).send (.waitReg { object := hall, epoch := i.r.epoch, runGen := i.x.runGen, slot := i.n,
                                                   waiter := .core c i.r.epoch })
      else ((i.waitsFor s c .sync).sendRequest .waitReg hall c 0 0 i.x.runGen i.r.epoch [] none (syncUnit (clusterOf c))).1) := by
  refine issueOn_hold h ?_
  simp only [Issue.seen_co, Issue.begun_kreg, Issue.seen_handle, hn]
  refine (if_neg (Bool.eq_false_iff.mp hw)).trans ?_
  rw [State.setCore_setCore]
  by_cases hm : hallModule hall = s.fabric.moduleId
  · rw [if_pos hm]
    exact if_pos hm
  · rw [if_neg hm]
    exact if_neg hm

end Wait

/-- Settles O18: each instruction by its handle, the object's window and the object's module. -/
theorem syncInstructions : Obligations.SyncInstructions := by
  unfold Obligations.SyncInstructions
  refine ⟨fun s c a count i => ⟨fun h => ⟨execSig_unbound h, fun hall hn =>
      ⟨execSig_beyond h hn, execSig_local h hn, execSig_remote h hn⟩⟩, fun h => ⟨execWait_unbound h, fun hall hn => ⟨execWait_beyond h hn, fun hw hm => ?_, fun hw hm => ?_⟩⟩⟩,
    fun s hall count e runGen n u c => s.signalTo_local count e runGen n u c⟩
  · exact (execWait_bound h hn hw).trans (congrArg _ (if_pos hm))
  · exact (execWait_bound h hn hw).trans (congrArg _ (if_neg hm))

end Sys2Proof.Machine
end

section
/-! The reduction instructions REDI, REDA and REDF (R127, R128, R198, R202). -/

namespace Sys2Proof.Machine

variable {s : State} {c : Nat} {i : Issue}

/-- A tree number and leaf that R128 allows: a tree in use, a leaf of pass 0 (R198, R199). -/
def Issue.allowed (i : Issue) (tree leaf : Nat) : Prop := tree ≤ 15 ∧ leaf < 2 ^ 24 ∧ bitAt i.x.treeMask tree = 1

theorem Issue.treeOk_iff (i : Issue) (tree leaf : Nat) : i.treeOk tree leaf = true ↔ i.allowed tree leaf := by
  simp [Issue.treeOk, Issue.allowed, and_assoc]

theorem Issue.not_treeOk_iff (i : Issue) (tree leaf : Nat) : (!i.treeOk tree leaf) = true ↔ ¬ i.allowed tree leaf := by
  rw [← i.treeOk_iff, Bool.not_eq_true', Bool.not_eq_true]

/-! ### REDI and REDA -/

section Integers

variable {acc : BitVec 3} {a b d : BitVec 5}

theorem execRedi_allowed (hp : i.inProgram (i.r.pc + 1)) (h : s.ready c (.redi c a b d) none i)
    (ht : i.allowed (i.co.kreg a).toNat (i.co.kreg b).toNat) :
    execRedi c a b d s = .next (i.retired (s.send (i.sends (s.setCore c (i.begun c none)) c (i.co.kreg a).toNat (i.co.kreg b).toNat
      (treeInt (i.co.kreg a).toNat (i.co.kreg d).toInt) false)) c (.redi c a b d) (i.begun c none) i.r none 1) :=
  issueOn_send h (if_neg fun hn => (i.not_treeOk_iff ..).mp hn ht) rfl hp

theorem execRedi_not_allowed (h : s.ready c (.redi c a b d) none i)
    (ht : ¬ i.allowed (i.co.kreg a).toNat (i.co.kreg b).toNat) :
    execRedi c a b d s = .next (i.faulted (s.setCore c (i.begun c none)) c (.redi c a b d) 0x05) :=
  issueOn_fault h (if_pos ((i.not_treeOk_iff ..).mpr ht))

theorem execReda_allowed (hp : i.inProgram (i.r.pc + 1)) (h : s.ready c (.reda c acc b d) none i)
    (ht : i.allowed (i.co.kreg b).toNat ((i.co.kreg d).toNat + 63)) :
    execReda c acc b d s = .next (i.retired ((List.range 64).foldl (fun t e => t.send (i.sends (s.setCore c (i.begun c none)) c
      (i.co.kreg b).toNat ((i.co.kreg d).toNat + e) (treeInt (i.co.kreg b).toNat (i.co.accreg acc (e / 8) (e % 8))) false)) s)
      c (.reda c acc b d) (i.begun c none) i.r none 8) :=
  issueOn_sendAll h (if_neg fun hn => (i.not_treeOk_iff ..).mp hn ht) rfl hp

theorem execReda_not_allowed (h : s.ready c (.reda c acc b d) none i)
    (ht : ¬ i.allowed (i.co.kreg b).toNat ((i.co.kreg d).toNat + 63)) :
    execReda c acc b d s = .next (i.faulted (s.setCore c (i.begun c none)) c (.reda c acc b d) 0x05) :=
  issueOn_fault h (if_pos ((i.not_treeOk_iff ..).mpr ht))

end Integers

/-! ### REDF -/

section Floats

variable {a b : BitVec 5} {w n : BitVec 4}

/-- The operands REDF takes: a leaf of a float tree, an even word number, and no NaN (R128, R198). -/
def Issue.redfFits (i : Issue) (tree leaf : Nat) (w : BitVec 512) (n : Nat) : Prop :=
  i.allowed tree leaf ∧ 8 ≤ tree ∧ n % 2 = 0 ∧ f32IsNan (vecWord w n).toNat = false ∧ f32IsNan (vecWord w (n + 1)).toNat = false

theorem Issue.not_redfFits_iff (i : Issue) (tree leaf : Nat) (w : BitVec 512) (n : Nat) :
    (!i.treeOk tree leaf || tree < 8 || n % 2 = 1 || f32IsNan (vecWord w n).toNat || f32IsNan (vecWord w (n + 1)).toNat) = true ↔
      ¬ i.redfFits tree leaf w n := by
  simp only [Bool.or_eq_true, i.not_treeOk_iff, decide_eq_true_eq, Issue.redfFits, not_and_or, Bool.not_eq_false, not_le,
    Nat.mod_two_not_eq_zero, or_assoc]

/-- The pair that REDF sends, and whether it overflowed (R202). -/
def redfPair (w0 w1 : Word) : (Word × Word) × Bool :=
  let p := redfWord w0
  let q := redfWord w1
  let r := normPair (p.1, q.1)
  (packPair r.1, p.2 || q.2 || r.2)

theorem execRedf_fits (hp : i.inProgram (i.r.pc + 1)) (h : s.ready c (.redf c a b w n) none i)
    (hf : i.redfFits (i.co.kreg a).toNat (i.co.kreg b).toNat (i.co.wreg w) n.toNat) :
    let v := redfPair (vecWord (i.co.wreg w) n.toNat) (vecWord (i.co.wreg w) (n.toNat + 1))
    execRedf c a b w n s = .next (i.retired (s.send ((i.seen c none).sends (s.setCore c (i.begun c none)) c (i.co.kreg a).toNat
      (i.co.kreg b).toNat (.pair v.1.1 v.1.2) v.2)) c (.redf c a b w n)
      ((i.begun c none).modMember i.r.member fun _ => if v.2 then i.m.setSat 4 else i.m) i.r none 1) :=
  issueOn_send h (if_neg fun hn => (i.not_redfFits_iff ..).mp hn hf) rfl hp

theorem execRedf_not_fits (h : s.ready c (.redf c a b w n) none i)
    (hf : ¬ i.redfFits (i.co.kreg a).toNat (i.co.kreg b).toNat (i.co.wreg w) n.toNat) :
    execRedf c a b w n s = .next (i.faulted (s.setCore c (i.begun c none)) c (.redf c a b w n) 0x05) :=
  issueOn_fault h (if_pos ((i.not_redfFits_iff ..).mpr hf))

end Floats

/-- Settles O19: each instruction by whether its operands are allowed, and by the partials it sends. -/
theorem reductionInstructions : Obligations.ReductionInstructions := by
  unfold Obligations.ReductionInstructions
  intro s c acc a b d w n i hp
  exact ⟨fun h => ⟨execRedi_allowed hp h, execRedi_not_allowed h⟩, fun h => ⟨execReda_allowed hp h, execReda_not_allowed h⟩,
    fun h => ⟨execRedf_fits hp h, execRedf_not_fits h⟩⟩

end Sys2Proof.Machine
end

section
/-! The broadcast chain: BCST, BRCV and the arrival of a vector (R123, R126, R235, R247, R248, R285, R297). -/

namespace Sys2Proof.Machine

variable {s : State} {c : Nat} {i : Issue}

/-- What the core was before does not show in the state that an instruction retires in. -/
theorem Issue.retired_setCore (i : Issue) (s : State) (c : Nat) (ins : Instr) (co x : Core) (r : Run) (off : Option Int) (beats : Nat) :
    i.retired (s.setCore c x) c ins co r off beats = i.retired s c ins co r off beats := by
  rw [Issue.retired, State.setCore_setCore, Issue.retired]

/-! ### BCST (R123, R126) -/

section Bcst

variable {a : BitVec 4} (h : s.ready c (.bcst c a) none i)
include h

theorem execBcst_room (hr : (i.seen c none).roomNext (s.setCore c (i.begun c none)) = true) (hp : i.inProgram (i.r.pc + 1)) :
    execBcst c a s = .next (i.retired { s.send (.bcast (i.vector (i.co.wreg a))) with free := s.free + 1 } c (.bcst c a)
      ((i.begun c none).modMember i.r.member fun m => { m with store := Mem.clear m.store 0xF800 0x800, stagingFree := some s.free })
      i.r none 1) := by
  have sent : (s.setCore c (i.begun c none)).nextFree.2.send (.bcast (i.vector (i.co.wreg a))) =
      State.setCore { s.send (.bcast (i.vector (i.co.wreg a))) with free := s.free + 1 } c (i.begun c none) := rfl
  refine (issueOn_onCore_of_state (t := (s.setCore c (i.begun c none)).nextFree.2.send (.bcast (i.vector (i.co.wreg a))))
    (co := (i.begun c none).modMember i.r.member fun m => m.stage s.free) h (if_pos hr) rfl hp).trans ?_
  rw [sent, Issue.retired_setCore]
  rfl

theorem execBcst_full (hr : (i.seen c none).roomNext (s.setCore c (i.begun c none)) = false) : execBcst c a s = .next s :=
  issueOn_again h (if_neg (Bool.eq_false_iff.mp hr))

end Bcst

/-! ### BRCV (R126, R248) -/

/-- The vector that is taken is one of the member's own phase, and leaves the core's places. -/
theorem Issue.takeVector_some {v : BcastMsg} {co : Core} (h : i.takeVector = some (v, co)) :
    (v.replica, v.block, v.epoch, v.phase) = (i.m.replica, i.m.block, i.r.epoch, i.r.phase) ∧
      co = { i.co with vectors := i.co.vectors.erase v } := by
  simp only [Issue.takeVector] at h
  split at h
  · next v' hv =>
    cases h
    have tag := List.find?_some hv
    simp only [Bool.and_eq_true, decide_eq_true_eq] at tag
    obtain ⟨⟨⟨h1, h2⟩, h3⟩, h4⟩ := tag
    exact ⟨by rw [h1, h2, h3, h4], rfl⟩
  · cases h

section Brcv

variable {a : BitVec 4} {pass : Bool} (h : s.ready c (.brcv c a pass) none i)
include h

theorem execBrcv_some {v : BcastMsg} {co : Core} (hv : (i.seen c none).takeVector = some (v, co)) (hp : i.inProgram (i.r.pc + 1)) :
    execBrcv c a pass s = .next (i.retired (if pass then s.send (.bcast (i.vector v.data)) else s) c (.brcv c a pass)
      (co.setW a v.data) i.r none 1) := by
  obtain ⟨-, rfl⟩ := Issue.takeVector_some hv
  cases pass with
  | false => exact issueOn_onCore h (by simp only [hv]; rfl) rfl hp
  | true => exact issueOn_send h (by simp only [hv]; rfl) rfl hp

theorem execBrcv_none (hv : (i.seen c none).takeVector = none) :
    execBrcv c a pass s = .next (s.setCore c { i.begun c none with run := some { i.r with wait := .brcv } }) := by
  refine issueOn_hold h ?_
  simp only [hv, State.setCore_setCore]
  rfl

end Brcv

/-! ### A message that arrives leaves cores and slots as they are (R279, R285) -/

@[simp] theorem State.sendMsix_cores (s : State) (v : Nat) : (s.sendMsix v).cores = s.cores := by
  simp only [State.sendMsix]
  split_ifs <;> rfl

@[simp] theorem State.raise_cores (s : State) (n : Nat) : (s.raise n).cores = s.cores := by
  simp only [State.raise]
  split_ifs <;> simp

@[simp] theorem State.parityReport_cores (s : State) (domain inst : Nat) : (s.parityReport domain inst).cores = s.cores := by
  simp [State.parityReport, State.logError]

/-- Counting an event leaves every core as it is. -/
@[simp] theorem State.count_cores (s : State) (u code n : Nat) : (s.count u code n).cores = s.cores := by
  have checked : (s.checkCounters u).cores = s.cores := by
    simp only [State.checkCounters]
    split_ifs <;> simp
  rw [← checked]
  simp only [State.count]
  split_ifs <;> rfl

@[simp] theorem State.accept_cores (s : State) (m : Msg) : (s.accept m).cores = s.cores := by
  simp only [State.accept]
  split
  · split_ifs <;> simp
  · rfl

@[simp] theorem State.accept_slots (s : State) (m : Msg) : (s.accept m).slots = s.slots := by
  simp only [State.accept]
  split
  · split_ifs <;> simp
  · rfl

@[simp] theorem State.accept_core (s : State) (m : Msg) (n : Nat) : (s.accept m).core n = s.core n := by
  simp only [State.core, State.accept_cores]

@[simp] theorem State.accept_slot (s : State) (m : Msg) (n : Nat) : (s.accept m).slot n = s.slot n := by
  simp only [State.slot, State.accept_slots]

@[simp] theorem State.accept_directory (s : State) (m : Msg) (n q b : Nat) : (s.accept m).directory n q b = s.directory n q b := by
  simp only [State.directory, State.accept_cores]

/-! ### The arrival of a vector (R235, R248, R285, R297) -/

/-- The state once a core holds a vector that has arrived. -/
def State.holding (s : State) (c : Nat) (m : BcastMsg) : State :=
  s.setCore c { s.core c with vectors := (s.core c).vectors ++ [m] }

section Arrival

variable {m : BcastMsg} {j : Nat} (hd : s.directory m.slot m.replica m.block = some (c, j))
include hd

theorem State.vectorWaits_iff : s.vectorWaits m = true ↔
    (m.runGen = (s.slot m.slot).runGen ∧ (s.core c).colander = false) ∧ 4 ≤ (s.core c).vectors.length := by
  simp only [State.vectorWaits, hd, Bool.and_eq_true, decide_eq_true_eq, Bool.not_eq_true', and_comm]

theorem State.vectorArrive_fenced (hf : (s.core c).colander = true) :
    s.vectorArrive m = s.colanderNotice c (s.senderCluster (.bcast m)) m.slot := by
  simp only [State.vectorArrive, hd, hf, if_true]

theorem State.vectorArrive_foreign (hf : (s.core c).colander = false) (hg : m.runGen ≠ (s.slot m.slot).runGen) :
    s.vectorArrive m = s := by
  simp only [State.vectorArrive, hd, hf, Bool.false_eq_true, if_false, if_pos hg]

theorem State.vectorArrive_held (hg : m.runGen = (s.slot m.slot).runGen) (hf : (s.core c).colander = false)
    (hw : (s.holding c m).waiting c = none) : s.vectorArrive m = s.holding c m := by
  simp only [State.holding] at hw ⊢
  simp only [State.vectorArrive, hd]
  rw [if_neg (Bool.eq_false_iff.mp hf), if_neg (not_not.mpr hg)]
  simp only [hw]

theorem State.vectorArrive_taken {a : BitVec 4} {pass : Bool} {v : BcastMsg} {co : Core} (hg : m.runGen = (s.slot m.slot).runGen)
    (hf : (s.core c).colander = false) (hw : (s.holding c m).waiting c = some i) (hr : i.r.wait = .brcv)
    (hi : i.instr c = .brcv c a pass) (hv : i.takeVector = some (v, co)) :
    s.vectorArrive m = (if pass then ((s.holding c m).setCore c (co.setW a v.data)).send (.bcast (i.vector v.data))
      else (s.holding c m).setCore c (co.setW a v.data)).retire c i (.brcv c a pass) none 1 := by
  simp only [State.holding] at hw ⊢
  simp only [State.vectorArrive, hd]
  rw [if_neg (Bool.eq_false_iff.mp hf), if_neg (not_not.mpr hg)]
  simp only [hw, hr, hi, hv]

end Arrival

/-- A vector that its core has room for is taken when it is its turn. -/
theorem execBroadcastVector_room {m : BcastMsg} (hw : s.vectorWaits m = false) :
    execBroadcastVector m s = .next (if s.turn (.bcast m) then (s.accept (.bcast m)).vectorArrive m else s) := by
  simp only [execBroadcastVector, hw, Bool.false_eq_true, if_false, State.take]

theorem execBroadcastVector_waits {m : BcastMsg} (hw : s.vectorWaits m = true) :
    execBroadcastVector m s = .next (if .bcast m ∈ s.net then s else s.send (.bcast m)) := by
  simp only [execBroadcastVector, hw, if_true, List.contains_iff_mem]

/-- Settles O17: BCST and BRCV by the places and the vectors they find, an arrival by the core's fence, the run generation, the turn
and what waits on the core. -/
theorem broadcastVectors : Obligations.BroadcastVectors := by
  unfold Obligations.BroadcastVectors
  refine ⟨fun s c a pass i => ⟨execBcst_room, execBcst_full, fun h v co hv hp => ?_, execBrcv_none⟩, fun s m c j hd => ?_⟩
  · exact ⟨(Issue.takeVector_some hv).1, execBrcv_some h hv hp⟩
  intro co t u own
  have waits : s.vectorWaits m = true ↔ own ∧ 4 ≤ co.vectors.length := State.vectorWaits_iff hd
  have room : ¬ own ∨ co.vectors.length < 4 → s.vectorWaits m = false := fun h => by
    rw [← Bool.not_eq_true, waits, not_and_or, not_le]
    exact h
  have arrives : ¬ own ∨ co.vectors.length < 4 → s.turn (.bcast m) = true → exec (.broadcastVector m) s = .next (t.vectorArrive m) :=
    fun h ht => (execBroadcastVector_room (room h)).trans (by rw [if_pos ht])
  have hd' : t.directory m.slot m.replica m.block = some (c, j) := (s.accept_directory ..).trans hd
  have hco : t.core c = co := s.accept_core ..
  have hx : t.slot m.slot = s.slot m.slot := s.accept_slot ..
  have hu : u = t.holding c m := by rw [State.holding, hco]
  refine ⟨fun ho hl => ?_, fun h ht => ?_, fun hf ht => ?_, fun hf hg ht => ?_, fun ho ht hl hw => ?_,
    fun ho ht hl i a pass v co' hw hr hi hv => ?_⟩
  · exact execBroadcastVector_waits (waits.mpr ⟨ho, hl⟩)
  · exact (execBroadcastVector_room (room h)).trans (by rw [if_neg (by simp [ht])])
  · rw [arrives (.inl fun ho => by simp [ho.2] at hf) ht, State.vectorArrive_fenced hd' (hco ▸ hf)]
  · rw [arrives (.inl fun ho => hg ho.1) ht, State.vectorArrive_foreign hd' (hco ▸ hf) (hx ▸ hg)]
  · rw [arrives (.inr hl) ht, hu, State.vectorArrive_held hd' (hx ▸ ho.1) (hco ▸ ho.2) (hu ▸ hw)]
  · rw [arrives (.inr hl) ht, hu, State.vectorArrive_taken hd' (hx ▸ ho.1) (hco ▸ ho.2) (hu ▸ hw) hr hi hv]

end Sys2Proof.Machine
end

section
/-! Messages at launch objects: their arrival, the launch counts, and the windows they keep (R162, R164, R227 to R229, R235, R237,
R285, R297). -/

namespace Sys2Proof.Machine

variable {s : State} {c n j : Nat} {m : StateMsg}

/-! ### A message that arrives leaves the fabric as it is (R279, R285) -/

@[simp] theorem State.sendMsix_fabric (s : State) (v : Nat) : (s.sendMsix v).fabric = s.fabric := by
  simp only [State.sendMsix]
  split_ifs <;> rfl

@[simp] theorem State.raise_fabric (s : State) (n : Nat) : (s.raise n).fabric = s.fabric := by
  simp only [State.raise]
  split_ifs <;> simp

@[simp] theorem State.parityReport_fabric (s : State) (domain inst : Nat) : (s.parityReport domain inst).fabric = s.fabric := by
  simp [State.parityReport, State.logError]

/-- Counting an event leaves the fabric as it is. -/
@[simp] theorem State.count_fabric (s : State) (u code n : Nat) : (s.count u code n).fabric = s.fabric := by
  have checked : (s.checkCounters u).fabric = s.fabric := by
    simp only [State.checkCounters]
    split_ifs <;> simp
  rw [← checked]
  simp only [State.count]
  split_ifs <;> rfl

@[simp] theorem State.accept_fabric (s : State) (m : Msg) : (s.accept m).fabric = s.fabric := by
  simp only [State.accept]
  split
  · split_ifs <;> simp
  · rfl

/-! ### The arrival at a core (R162, R164, R229, R235, R297) -/

/-- Whether a core takes a message: one of this module and of the slot's run, for an enabled core that is not fenced (R235, R237). -/
def State.takesMessage (s : State) (c : Nat) (m : StateMsg) : Prop :=
  m.destModule = s.fabric.moduleId ∧ (s.core c).colander = false ∧ m.runGen = (s.slot m.destSlot).runGen ∧ (s.core c).kind = .enabled

/-- The configuration tag that a message must carry: that of its epoch's settings, or that of the start for a prologue (R164). -/
def Slot.tagFor (x : Slot) (m : StateMsg) : Nat := if m.prologue then x.configTag else (x.inForce m.epoch).tag

/-- The state once a message that a core takes has been counted as an event of the core's cluster. -/
def State.countMessage (s : State) (c : Nat) (m : StateMsg) : State :=
  let u := s.count (clusterOf c) 0x0005 1
  if m.empty then u.count (clusterOf c) 0x0006 1 else u

theorem State.stateArrive_unheld (hd : s.directory m.destSlot m.replica m.destBlock = none) : s.stateArrive m = s := by
  simp only [State.stateArrive, hd]

section Arrival

variable (hd : s.directory m.destSlot m.replica m.destBlock = some (c, j))
include hd

theorem State.stateArrive_fenced (hm : m.destModule = s.fabric.moduleId) (hf : (s.core c).colander = true) :
    s.stateArrive m = s.colanderNotice c (s.senderCluster (.state m)) m.destSlot := by
  simp only [State.stateArrive, hd, hf, if_true]
  exact if_neg (not_not.mpr hm)

theorem State.stateArrive_discarded (ht : ¬ s.takesMessage c m)
    (hf : ¬ (m.destModule = s.fabric.moduleId ∧ (s.core c).colander = true)) : s.stateArrive m = s := by
  simp only [State.stateArrive, hd]
  by_cases hm : m.destModule = s.fabric.moduleId
  · have unfenced : (s.core c).colander = false := by simpa [hm] using hf
    have stale : m.runGen ≠ (s.slot m.destSlot).runGen ∨ (s.core c).kind ≠ .enabled := by
      simpa [State.takesMessage, hm, unfenced, imp_iff_not_or] using ht
    rw [if_neg (not_not.mpr hm), if_neg (by simp [unfenced]), if_pos (by simpa using stale)]
  · rw [if_pos hm]

/-- A message that is taken waits for its launch object, faults the slot, or is an input. -/
theorem State.stateArrive_taken (ht : s.takesMessage c m) : s.stateArrive m =
    if (s.core c).launch.armed = false then (s.countMessage c m).modCore c fun co => { co with parked := co.parked ++ [m] }
    else if m.configTag ≠ (s.slot m.destSlot).tagFor m then
      (s.countMessage c m).tagFault (clusterOf c) m.destSlot m.replica m.epoch m.configTag
    else if m.kind = .exchange then
      (((s.countMessage c m).modSlot m.destSlot fun x => x.takeRung m.epoch m.replica m.newRung).onInput c m.destSlot m).settle m.destSlot
    else (s.countMessage c m).onInput c m.destSlot m := by
  obtain ⟨hm, hf, hg, hk⟩ := ht
  simp only [State.stateArrive, hd]
  rw [if_neg (not_not.mpr hm), if_neg (by simp [hf]), if_neg (by simp [hg, hk])]
  simp only [Bool.not_eq_true']
  rfl

end Arrival

theorem execStateMessage_waits (ht : s.turn (.state m) = false) : execStateMessage m s = .next s := by
  simp only [execStateMessage, State.take, ht, Bool.false_eq_true, if_false]

theorem execStateMessage_turn (ht : s.turn (.state m) = true) :
    execStateMessage m s = .next ((s.accept (.state m)).stateArrive m) := by
  simp only [execStateMessage, State.take, ht, if_true]

/-! ### The input of a launch object (R224, R227, R228) -/

theorem Launch.counter_setCounter_self (l : Launch) (t : Nat × Nat) (v : Nat) : (l.setCounter t v).counter t = v := by
  simp only [Launch.counter, Launch.setCounter]
  split
  · next hv => rw [Tbl.at_del, if_pos rfl, hv]; rfl
  · rw [Tbl.at_put_self]; rfl

/-- A core with a member that runs has a next member to launch. -/
theorem Core.isSome_nextMember {co : Core} {x : Slot} (h : ∃ o ∈ co.members, o.replica < x.runs) : (co.nextMember x 0).isSome = true := by
  obtain ⟨o, ho, hr⟩ := h
  obtain ⟨i, hi, rfl⟩ := List.getElem_of_mem ho
  rw [Core.nextMember, List.find?_isSome]
  exact ⟨i, List.mem_range.mpr hi, by simpa [hi] using hr⟩

/-- The inputs tagged t that a launch object waits for: for its next launch, or for a later one (R223, R227). -/
def Slot.needAt (x : Slot) (co : Core) (t : Nat × Nat) : Nat :=
  if t = sweepPred x.colours (co.launch.nextEpoch, co.launch.nextPhase) then co.launch.need x co.members t
  else co.launch.inputs x co.members t + x.exchangeNeed co.members t

/-- A core whose launch object has counted an input, which it holds until the launch unless it is an exchange result. -/
def Core.counting (co : Core) (m : StateMsg) : Core :=
  { co with
    launch := co.launch.setCounter (m.epoch, m.phase) (co.launch.counter (m.epoch, m.phase) + 1)
    held := if m.kind = .exchange then co.held else co.held ++ [m] }

/-- At an armed launch object of a core with a member that runs, the window comes first, then the count. -/
theorem State.onInput_armed (ha : (s.core c).launch.armed = true) (hr : ∃ o ∈ (s.core c).members, o.replica < (s.slot n).runs) :
    let l := (s.core c).launch
    let x := s.slot n
    let t := (m.epoch, m.phase)
    let u := s.setCore c ((s.core c).counting m)
    s.onInput c n m =
      if x.colours < sweepGap x.colours (sweepPred x.colours (l.nextEpoch, l.nextPhase)) t then s.overcount c n m.replica m.destBlock t
      else if x.needAt (s.core c) t < l.counter t + 1 then u.overcount c n m.replica m.destBlock t
      else u.tryLaunch c := by
  intro l x t u
  have launches : ((s.core c).nextMember (s.slot n) 0).isNone = false := by simpa using Core.isSome_nextMember hr
  simp only [State.onInput, Launch.counter_setCounter_self]
  rw [if_neg (by simp [ha]), if_neg (by simp [launches])]
  rfl

/-- Settles O21: an arrival by its turn, by the core that holds its block-replica and by what that core takes; an input by the window and
by what its phase needs. -/
theorem stateMessages : Obligations.StateMessages := by
  unfold Obligations.StateMessages
  refine ⟨fun s m => ?_, fun s c n m ha hr => ?_⟩
  · intro t n x
    have hdir : t.directory m.destSlot m.replica m.destBlock = s.directory m.destSlot m.replica m.destBlock := s.accept_directory ..
    refine ⟨execStateMessage_waits, fun ht hd => ?_, fun c j ht hd => ?_⟩
    · exact (execStateMessage_turn ht).trans (congrArg _ (State.stateArrive_unheld (hdir.trans hd)))
    intro taken tag u u'
    have arrives {r : State} (h : t.stateArrive m = r) : exec (.stateMessage m) s = .next r := (execStateMessage_turn ht).trans (h ▸ rfl)
    have hd' := hdir.trans hd
    have hco : t.core c = s.core c := s.accept_core ..
    have hmod : t.fabric.moduleId = s.fabric.moduleId := by rw [s.accept_fabric]
    have hx : t.slot m.destSlot = x := s.accept_slot ..
    have htaken : t.takesMessage c m ↔ taken := by rw [State.takesMessage, hmod, hco, hx]
    have harrive (h : taken) := State.stateArrive_taken hd' (htaken.mpr h)
    rw [hco, hx] at harrive
    refine ⟨fun hm hf => arrives ?_, fun hn hf => arrives ?_, fun h ha => arrives ?_, fun h ha hc => arrives ?_,
      fun h ha hc hk => arrives ?_, fun h ha hc hk => arrives ?_⟩
    · exact State.stateArrive_fenced hd' (hm.trans hmod.symm) (hco ▸ hf)
    · exact State.stateArrive_discarded hd' (htaken.not.mpr hn) (by rwa [hmod, hco])
    · exact (harrive h).trans (if_pos ha)
    · exact (harrive h).trans ((if_neg (by simp [ha])).trans (if_pos hc))
    · exact (harrive h).trans ((if_neg (by simp [ha])).trans ((if_neg (not_not.mpr hc)).trans (if_neg hk)))
    · exact (harrive h).trans ((if_neg (by simp [ha])).trans ((if_neg (not_not.mpr hc)).trans (if_pos hk)))
  · intro co x l t p need u
    have input := State.onInput_armed (m := m) ha hr
    refine ⟨fun hw => ?_, fun hw hn => ?_, fun hw hn => ?_⟩
    · exact input.trans (if_pos hw)
    · exact input.trans ((if_neg (not_lt.mpr hw)).trans (if_pos hn))
    · exact input.trans ((if_neg (not_lt.mpr hw)).trans (if_neg (not_lt.mpr hn)))

end Sys2Proof.Machine
end

section
/-! Reductions at a cluster and at a root: partials, group values, close tokens and exchange energies (R160, R208, R211 to R213, R235,
R239, R285). -/

namespace Sys2Proof.Machine

variable {s : State} {c : Cluster}

/-! ### The integer sums of a cluster (R208, R211) -/

/-- Whether a sum is that of a (slot, replica, tree, epoch). -/
def IntSum.isOf (r : IntSum) (n q t e : Nat) : Bool := r.slot = n && r.replica = q && r.tree = t && r.epoch = e

theorem IntSum.isOf_iff {r : IntSum} {n q t e : Nat} : r.isOf n q t e = true ↔ (r.slot, r.replica, r.tree, r.epoch) = (n, q, t, e) := by
  simp [IntSum.isOf, and_assoc]

/-- The sum that a cluster holds for a (slot, replica, tree, epoch). -/
def Cluster.intSum (c : Cluster) (n q t e : Nat) : Option IntSum := c.sums.find? fun r => r.isOf n q t e

theorem Cluster.isOf_intSum {n q t e : Nat} {r : IntSum} (h : c.intSum n q t e = some r) : r.isOf n q t e = true :=
  List.find?_some (p := fun r : IntSum => r.isOf n q t e) h

/-- A sum after a partial of value `v` has been added: of those a cluster holds, only the partial's own changes. -/
def IntSum.add (r : IntSum) (p : PartialMsg) (v : Int) : IntSum :=
  if r.isOf p.slot p.replica p.tree p.epoch then { r with sum := r.sum + v, leafTop := max r.leafTop p.leaf } else r

/-- The sum that a partial opens. -/
def PartialMsg.opened (p : PartialMsg) (v : Int) : IntSum :=
  { slot := p.slot, replica := p.replica, tree := p.tree, epoch := p.epoch, runGen := p.runGen, sum := v, leafTop := p.leaf }

theorem IntSum.isOf_add (r : IntSum) (p : PartialMsg) (v : Int) (n q t e : Nat) : (r.add p v).isOf n q t e = r.isOf n q t e := by
  simp only [IntSum.add]
  split_ifs <;> rfl

theorem Cluster.addInt_combined (c : Cluster) (p : PartialMsg) (v : Int) : (c.addInt p v).combined = (c.combined + 1) % 2 ^ 32 := by
  simp only [Cluster.addInt]
  split_ifs <;> rfl

/-- The addition is counted as the sum is made, and not again (R220). -/
theorem Cluster.addInt_combines_zero (c : Cluster) (p : PartialMsg) (v : Int) :
    (c.addInt p v).combines 0 = { c.addInt p v with nodesQuiet := 0 } := by
  simp only [Cluster.combines, Cluster.addInt_combined, Nat.add_zero, Nat.mod_mod]

theorem Cluster.addInt_groups (c : Cluster) (p : PartialMsg) (v : Int) : (c.addInt p v).groups = c.groups := by
  simp only [Cluster.addInt]
  split_ifs <;> rfl

/-- A partial adds to the sum it belongs to, or opens it behind the others. -/
theorem Cluster.addInt_sums (c : Cluster) (p : PartialMsg) (v : Int) : (c.addInt p v).sums =
    if (c.intSum p.slot p.replica p.tree p.epoch).isSome then c.sums.map fun r => r.add p v else c.sums ++ [p.opened v] := by
  simp only [Cluster.intSum, List.isSome_find?]
  exact apply_ite Cluster.sums _ _ _

theorem Cluster.intSum_addInt (c : Cluster) (p : PartialMsg) (v : Int) (n q t e : Nat) : (c.addInt p v).intSum n q t e =
    if (c.intSum p.slot p.replica p.tree p.epoch).isSome then (c.intSum n q t e).map fun r => r.add p v
    else (c.intSum n q t e).or (if (p.opened v).isOf n q t e then some (p.opened v) else none) := by
  rw [Cluster.intSum, Cluster.addInt_sums]
  split
  · simp only [List.find?_map, Function.comp_def, IntSum.isOf_add]
    rfl
  · rw [List.find?_append, List.find?_singleton]
    rfl

/-- The sum of a partial's own (slot, replica, tree, epoch) grows by its value, and opens with it. -/
theorem Cluster.intSum_addInt_self (c : Cluster) (p : PartialMsg) (v : Int) :
    ((c.addInt p v).intSum p.slot p.replica p.tree p.epoch).map (fun r => (r.sum, r.leafTop)) =
      some (match c.intSum p.slot p.replica p.tree p.epoch with
        | some r => (r.sum + v, max r.leafTop p.leaf)
        | none => (v, p.leaf)) := by
  rw [Cluster.intSum_addInt]
  cases h : c.intSum p.slot p.replica p.tree p.epoch with
  | some r => simp [IntSum.add, Cluster.isOf_intSum h]
  | none => simp [IntSum.isOf, PartialMsg.opened]

theorem Cluster.intSum_addInt_of_ne (c : Cluster) (p : PartialMsg) (v : Int) {n q t e : Nat}
    (h : (n, q, t, e) ≠ (p.slot, p.replica, p.tree, p.epoch)) : (c.addInt p v).intSum n q t e = c.intSum n q t e := by
  rw [Cluster.intSum_addInt]
  split
  · cases hr : c.intSum n q t e with
    | none => rfl
    | some r =>
      have key := IntSum.isOf_iff.mp (Cluster.isOf_intSum hr)
      have other : ¬ r.isOf p.slot p.replica p.tree p.epoch = true := fun own => h (key.symm.trans (IntSum.isOf_iff.mp own))
      rw [Option.map_some, IntSum.add, if_neg other]
  · rw [if_neg (fun own => h (IntSum.isOf_iff.mp own).symm), Option.or_none]

/-! ### What a root and a node take (R160, R208, R211, R213, R235, R239) -/

theorem State.atRoot_iff {module n runGen : Nat} : s.atRoot module n runGen = true ↔
    module = s.fabric.moduleId ∧ runGen = (s.slot n).runGen ∧ (s.slot n).active = true := by
  simp [State.atRoot, and_assoc]

@[simp] theorem State.accept_atRoot (s : State) (m : Msg) (module n runGen : Nat) :
    (s.accept m).atRoot module n runGen = s.atRoot module n runGen := by
  simp only [State.atRoot, State.accept_fabric, State.accept_slot]

theorem State.next_take {m : Msg} {f : State → State} {t : State} (h : f (s.accept m) = t) :
    (.next (s.take m f) : Out) = .next (if s.turn m = true then t else s) := by
  rw [State.take, h]

theorem State.partialArrive_discarded {p : PartialMsg} (h : ¬ s.atRoot p.module p.slot p.runGen = true) : s.partialArrive p = s := by
  have stale : (p.module ≠ s.fabric.moduleId || p.runGen ≠ (s.slot p.slot).runGen || !(s.slot p.slot).active) = true := by
    simpa [State.atRoot, imp_iff_not_or, or_assoc] using h
  rw [State.partialArrive, if_pos stale]

theorem State.partialArrive_int {p : PartialMsg} {v : Int} (h : s.atRoot p.module p.slot p.runGen = true) (ht : p.tree ≠ 16)
    (hv : p.val = .int v) : s.partialArrive p = s.modCluster p.cluster fun c => { c.addInt p v with nodesQuiet := 0 } := by
  obtain ⟨hm, hg, ha⟩ := State.atRoot_iff.mp h
  simp [State.partialArrive, hm, hg, ha, ht, hv, Cluster.addInt_combines_zero]

theorem State.groupArrive_discarded {g : GroupMsg} (h : ¬ s.atRoot g.module g.slot g.runGen = true) : s.groupArrive g = s :=
  if_pos (by simpa using h)

theorem State.groupArrive_int {g : GroupMsg} {v : Int} (h : s.atRoot g.module g.slot g.runGen = true) (hv : g.val = .int v) :
    s.groupArrive g =
      ((s.modSlot g.slot fun x => x.modForm g.replica g.tree g.epoch fun f =>
        { f with leafTop := max f.leafTop g.leafTop, anyLeaf := true, floatSat := f.floatSat || g.floatSat, sum := f.sum + v }).modCluster
          ((s.slot g.slot).rootCluster g.replica g.tree) fun c => c.combines 1).rootCheck g.slot g.replica g.tree g.epoch := by
  simp only [State.groupArrive, h, hv]
  rfl

theorem State.closeArrive_discarded {k : CloseMsg} (h : ¬ s.atRoot k.module k.slot k.runGen = true) : s.closeArrive k = s :=
  if_pos (by simpa using h)

theorem State.closeArrive_taken {k : CloseMsg} (h : s.atRoot k.module k.slot k.runGen = true) : s.closeArrive k =
    (s.modSlot k.slot fun x => x.modForm k.replica k.tree k.epoch fun f =>
      { f with closes := f.closes ++ [(k.part, k.blockCount, k.closed)] }).rootCheck k.slot k.replica k.tree k.epoch :=
  if_neg (by simp [h])

theorem State.energyArrive_discarded {e : EnergyMsg} (h : ¬ s.atRoot s.fabric.moduleId e.slot e.runGen = true) : s.energyArrive e = s :=
  if_pos (by simpa using h)

theorem State.energyArrive_taken {e : EnergyMsg} (h : s.atRoot s.fabric.moduleId e.slot e.runGen = true) : s.energyArrive e =
    ((s.modSlot e.slot fun x => { x with energies := x.energies ++ [(e.epoch, e.replica, e.s, e.c)] }).exchangeDecide
      e.slot e.epoch).settle e.slot :=
  if_neg (by simp [h])

/-- Settles O23: an arrival by its turn and by whether its slot runs the message's run here; a cluster's sums by their keys. -/
theorem reductionArrivals : Obligations.ReductionArrivals := by
  unfold Obligations.ReductionArrivals
  refine ⟨fun s p g k e v => ?_, fun c p v n q t e => ⟨⟨c.addInt_combined p v, c.addInt_groups p v, ?_⟩, c.intSum_addInt_of_ne p v⟩⟩
  · intro runs own turns
    have root (m : Msg) {module n runGen : Nat} : (s.accept m).atRoot module n runGen = true ↔ runs module n runGen := by
      rw [State.accept_atRoot, State.atRoot_iff]
    have home (m : Msg) : own = (s.accept m).fabric.moduleId := by rw [State.accept_fabric]
    refine ⟨fun ht h => ?_, fun ht hv h => ?_, fun h => ?_, fun hv h => ?_, fun h => ?_, fun h => ?_, fun h => ?_, fun h => ?_⟩
    all_goals refine State.next_take ?_
    · exact (if_neg ht).trans (State.partialArrive_discarded ((root _).not.mpr h))
    · exact (if_neg ht).trans (State.partialArrive_int ((root _).mpr h) ht hv)
    · exact State.groupArrive_discarded ((root _).not.mpr h)
    · rw [State.groupArrive_int ((root _).mpr h) hv, State.accept_slot]
      rfl
    · exact State.closeArrive_discarded ((root _).not.mpr h)
    · exact State.closeArrive_taken ((root _).mpr h)
    · exact State.energyArrive_discarded (home _ ▸ (root _).not.mpr h)
    · exact State.energyArrive_taken (home _ ▸ (root _).mpr h)
  · exact c.intSum_addInt_self p v

end Sys2Proof.Machine
end

section
/-! The messages between the parts of a slot's model: stops, faults and checkpoints (R240, R241, R425, R450, R588, R590, R625). -/

namespace Sys2Proof.Machine

variable {s : State} {n : Nat}

/-! ### FREEZE (R241, R425) -/

/-- A slot that a FREEZE takes into the stop: one that runs, or is LOADED or STOPPED (log 82). -/
def Slot.takesStop (x : Slot) : Prop := x.active = true ∨ x.state = .loaded ∨ x.state = .stopped

theorem execFreeze_own (hard : Bool) : execFreeze n s.fabric.moduleId hard s =
    .next ((s.arrive (.freeze n s.fabric.moduleId hard)).freezeArrive n hard) := congrArg _ (if_pos rfl)

theorem State.freezeArrive_apart (h : ¬ (s.slot n).takesStop) : s.freezeArrive n false = s := by
  simp only [Slot.takesStop, not_or] at h
  simp [State.freezeArrive, h]

theorem State.freezeArrive_idle (h : (s.slot n).active = false) :
    s.freezeArrive n true = s.setSlot n { s.slot n with drain := none } := by
  rw [State.freezeArrive, if_pos (by simp [h])]
  rfl

theorem State.freezeArrive_joins (h : (s.slot n).takesStop) (hd : (s.slot n).drain = none) :
    s.freezeArrive n false =
      let t := (s.setSlot n { s.slot n with
        state := if (s.slot n).active then .stopping else (s.slot n).state, drain := some (newDrain false 0 [] none) }).freezeSlot n
      t.send (.freezeReply (t.partZero n).2 (t.partZero n).1 (s.slot n).partIndex (t.freezeHighest n)) := by
  have takes : ((s.slot n).active || (s.slot n).state = .loaded || (s.slot n).state = .stopped) = true := by
    simpa [Slot.takesStop, or_assoc] using h
  rw [State.freezeArrive, if_neg (by simp), if_neg (by simp only [takes]; decide), hd]
  rfl

theorem State.freezeArrive_hard (h : (s.slot n).active = true) (hd : (s.slot n).drain = none) :
    s.freezeArrive n true = (((s.setSlot n { s.slot n with
      state := .stopping, drain := some { newDrain true 0 [] none with limitSet := true } }).freezeSlot n).modSlotCores n
        Core.abandon).checkHard n := by
  rw [State.freezeArrive, if_neg (by simp [h]), if_neg (by simp [h]), hd, h]
  rfl

/-! ### FREEZE_REPLY, LIMIT and DRAINED (R241) -/

/-- The limit that part 0 sends to all parts: past every reply and the named stop epoch, and within the draws (R240, R241). -/
def Slot.agreedLimit (x : Slot) (d : Drain) : Nat := min x.naturalLimit (d.replies.foldl (fun a r => max a (r.2 + 1)) d.named)

theorem execFreezeReply_new {d : Drain} {part v : Nat} (hd : (s.slot n).drain = some d) (hp : (s.slot n).partIndex = 0)
    (hh : d.hard = false) (hl : d.limitSet = false) (hr : ∀ r ∈ d.replies, r.1 ≠ part) :
    let d' := { d with replies := d.replies ++ [(part, v)] }
    let t := (s.arrive (.freezeReply n s.fabric.moduleId part v)).setSlot n { s.slot n with drain := some d' }
    execFreezeReply n s.fabric.moduleId part v s = .next (if ∀ p < (s.slot n).partCount, ∃ r ∈ d'.replies, r.1 = p
      then t.toParts n fun m k => .limit k m ((s.slot n).agreedLimit d') else t) := by
  intro d' t
  have first : d.replies.any (fun r => r.1 = part) = false := by simpa using hr
  rw [execFreezeReply, State.arrive_slot, hd]
  exact congrArg _ ((if_neg (by simp [hp, hh, hl, first])).trans (if_congr (by simp [d']) rfl rfl))

theorem execLimit_own {l : Nat} : execLimit n s.fabric.moduleId l s =
    .next ((s.arrive (.limit n s.fabric.moduleId l)).limitArrive n l) := congrArg _ (if_pos rfl)

/-- The block-replicas that closed the last epoch below a limit before the limit came. -/
def State.closedBefore (s : State) (n runs l : Nat) : List (Nat × Nat × Member) :=
  (s.slotMembers n).filter fun m => m.2.2.replica < runs && l ≠ 0 && m.2.2.closed = some (l - 1)

theorem State.limitArrive_thaws {d : Drain} {l : Nat} (hd : (s.slot n).drain = some d) (hh : d.hard = false) :
    s.limitArrive n l =
      let t := (s.setSlot n { s.slot n with epochLimit := l, drain := some { d with limitSet := true } }).thawSlot n
      ((t.modSlot n fun x => (t.closedBefore n (s.slot n).runs l).foldl
        (fun x m => x.collect l m.2.2.replica m.2.2.block (m.2.2.record, m.2.2.sat)) x).settle n).finishDrain n := by
  rw [State.limitArrive, hd]
  exact if_neg (by simp [hh])

theorem execDrained_new {d : Drain} {part : Nat} (hd : (s.slot n).drain = some d) (hp : part ∉ d.reported) :
    execDrained n s.fabric.moduleId part s = .next (((s.arrive (.drained n s.fabric.moduleId part)).setSlot n
      { s.slot n with drain := some { d with reported := part :: d.reported } }).finishDrain n) := by
  have new : d.reported.contains part = false := by simpa using hp
  simp only [execDrained, State.arrive_slot, hd, new]
  exact congrArg _ (if_neg (by simp))

/-! ### Fault notices and checkpoints (R450, R588, R590, R625) -/

theorem execFaultNotice_active {v : Nat} (h : (s.slot n).active = true) : execFaultNotice n s.fabric.moduleId v s =
    .next ((s.arrive (.fault n s.fabric.moduleId v)).slotFault n v (s.slotEpoch n) false) :=
  congrArg _ ((if_neg (not_not.mpr rfl)).trans (if_pos h))

theorem execFaultNotice_idle {v : Nat} (h : (s.slot n).active = false) : execFaultNotice n s.fabric.moduleId v s =
    .next ((s.arrive (.fault n s.fabric.moduleId v)).setSlot n { s.slot n with drain := none }) :=
  congrArg _ ((if_neg (not_not.mpr rfl)).trans (if_neg (Bool.eq_false_iff.mp h)))

theorem execCkptDone_new {part v : Nat} (hp : (s.slot n).partIndex = 0) (ha : (s.slot n).active = true)
    (hn : (part, v) ∉ (s.slot n).ckptDone) :
    let l := (s.slot n).ckptDone ++ [(part, v)]
    let t := s.arrive (.ckptDone n s.fabric.moduleId part v)
    execCkptDone n s.fabric.moduleId part v s = .next (if ∀ p < (s.slot n).partCount, (p, v) ∈ l
      then (t.setSlot n { s.slot n with ckptDone := l.filter fun d => d.2 ≠ v }).toParts n fun m k => .ckptCommit k m v
      else t.setSlot n { s.slot n with ckptDone := l }) := by
  intro l t
  have new : (s.slot n).ckptDone.contains (part, v) = false := by simpa using hn
  simp only [execCkptDone, State.arrive_slot, new]
  exact congrArg _ ((if_neg (by simp [hp, ha])).trans (if_congr (by simp [l]) rfl rfl))

theorem execCkptCommit_own {v : Nat} : execCkptCommit n s.fabric.moduleId v s =
    .next (((((s.arrive (.ckptCommit n s.fabric.moduleId v)).commit n v).checkpointWrite n).settle n).finishDrain n) := by
  rw [execCkptCommit, if_pos (by rw [State.arrive_fabric])]

/-- Settles O24: each message by the stop it finds and by whether its slot runs. -/
theorem partMessages : Obligations.PartMessages := by
  unfold Obligations.PartMessages
  intro s n part v d own x fresh takes
  have freezes {hard : Bool} {t : State} (h : (s.arrive (.freeze n own hard)).freezeArrive n hard = t) :
      exec (.freeze n own hard) s = .next t := (execFreeze_own hard).trans (congrArg _ h)
  exact ⟨fun h => freezes (State.freezeArrive_apart h), fun h => freezes (State.freezeArrive_idle h),
    fun h hd => freezes (State.freezeArrive_joins h hd), fun h hd => freezes (State.freezeArrive_hard h hd),
    execFreezeReply_new, fun hd hh => execLimit_own.trans (congrArg _ (State.limitArrive_thaws hd hh)),
    execDrained_new, execFaultNotice_active, execFaultNotice_idle, execCkptDone_new, execCkptCommit_own⟩

end Sys2Proof.Machine
end

section
/-! General sync objects: signals, registrations and notices (R235, R243 to R246, R279, R285, R436). -/

namespace Sys2Proof.Machine

variable {s : State} {o : SyncObj} {p : Nat × Nat}

/-! ### A message that arrives leaves the sync objects and the waiting instructions as they are (R279, R285) -/

@[simp] theorem State.sendMsix_clusters (s : State) (v : Nat) : (s.sendMsix v).clusters = s.clusters := by
  simp only [State.sendMsix]
  split_ifs <;> rfl

@[simp] theorem State.raise_clusters (s : State) (n : Nat) : (s.raise n).clusters = s.clusters := by
  simp only [State.raise]
  split_ifs <;> simp

@[simp] theorem State.parityReport_clusters (s : State) (domain inst : Nat) : (s.parityReport domain inst).clusters = s.clusters := by
  simp [State.parityReport, State.logError]

theorem State.object_of_clusters {t : State} (h : t.clusters = s.clusters) (p : Nat × Nat) : t.object p = s.object p := by
  simp only [State.object, State.cluster, h]

/-- A cluster changed in anything but its objects. -/
theorem State.object_modCluster (k : Nat) {f : Cluster → Cluster} (hf : ∀ c, (f c).objects = c.objects) (p : Nat × Nat) :
    (s.modCluster k f).object p = s.object p := by
  by_cases hk : k = p.1
  · rw [State.object, hk, State.cluster_modCluster, hf]
    rfl
  · rw [State.object, State.cluster_modCluster_of_ne _ _ hk]
    rfl

/-- Counting an event leaves the objects as they are. -/
@[simp] theorem State.count_object (s : State) (u code n : Nat) (p : Nat × Nat) : (s.count u code n).object p = s.object p := by
  have checked : (s.checkCounters u).object p = s.object p := by
    simp only [State.checkCounters]
    split_ifs
    · exact (State.object_of_clusters (State.parityReport_clusters ..) p).trans (State.object_modCluster u (by intro; rfl) p)
    · exact State.object_of_clusters (State.parityReport_clusters ..) p
    · exact State.object_of_clusters (State.parityReport_clusters ..) p
    · rfl
  rw [← checked]
  simp only [State.count]
  split_ifs
  · exact State.object_modCluster u (by intro; rfl) p
  all_goals rfl

@[simp] theorem State.accept_object (s : State) (m : Msg) (p : Nat × Nat) : (s.accept m).object p = s.object p := by
  simp only [State.accept]
  split
  · next k _ _ =>
    split_ifs
    · exact State.object_modCluster k (by intro; rfl) p
    · rfl
    · rw [State.count_object]
      exact State.object_modCluster k (by intro; rfl) p
  · rfl

@[simp] theorem State.accept_waiting (s : State) (m : Msg) (c : Nat) : (s.accept m).waiting c = s.waiting c := by
  simp only [State.waiting, State.accept_core, State.accept_slot]

/-! ### The fires of a PLAIN object (R245, R246) -/

/-- Fires that nobody waits for only count. -/
theorem SyncObj.fires_unwaited (k : Nat) (hw : o.waiting = []) :
    SyncObj.fires (k + 1) o = ({ o with generation := (o.generation + (k + 1)) % 2 ^ 32 }, []) := by
  rw [SyncObj.fires, if_pos hw, Nat.add_assoc]

/-- After some fires with nobody behind the places, whoever waited is gone, notified at the first of them. -/
theorem SyncObj.fires_succ (k : Nat) (hc : o.crossbar = []) : SyncObj.fires (k + 1) o =
    ({ o with generation := (o.generation + (k + 1)) % 2 ^ 32, waiting := [] }, o.waiting.map fun w => ((o.generation + 1) % 2 ^ 32, w)) := by
  by_cases hw : o.waiting = []
  · simp [SyncObj.fires_unwaited k hw, hw]
  · have emptied (g : Nat) : ({ o with generation := g, waiting := [] } : SyncObj).enroll = { o with generation := g, waiting := [] } := by
      simp [SyncObj.enroll, hc]
    cases k with
    | zero => simp only [SyncObj.fires, if_neg hw, emptied, List.append_nil]
    | succ k =>
      have later : ((o.generation + 1) % 2 ^ 32 + (k + 1)) % 2 ^ 32 = (o.generation + (k + 1 + 1)) % 2 ^ 32 := by omega
      rw [SyncObj.fires, if_neg hw]
      simp only [emptied, SyncObj.fires_unwaited k, later, List.append_nil]

/-- At one fire those that wait behind the places take them. -/
theorem SyncObj.fires_once (hw : o.waiting ≠ []) : SyncObj.fires 1 o =
    ({ o with generation := (o.generation + 1) % 2 ^ 32, waiting := o.crossbar.take 64, crossbar := o.crossbar.drop 64 },
      o.waiting.map fun w => ((o.generation + 1) % 2 ^ 32, w)) := by
  simp [SyncObj.fires, hw, SyncObj.enroll]

/-- Below its threshold an object counts. -/
theorem SyncObj.addPlain_below {n : Nat} (h : o.count0 + n < o.threshold) (hw : o.count0 + n < 2 ^ 32) :
    o.addPlain n = ({ o with count0 := o.count0 + n }, [], 0) := by
  simp only [SyncObj.addPlain, Nat.div_eq_of_lt h, if_true, Nat.mod_eq_of_lt hw, SyncObj.fires]

/-- At its threshold an object keeps the rest of its count and fires. -/
theorem SyncObj.addPlain_fires {n : Nat} (ht : 0 < o.threshold) (h : o.threshold ≤ o.count0 + n) :
    let r := SyncObj.fires ((o.count0 + n) / o.threshold) { o with count0 := (o.count0 + n) % o.threshold }
    o.addPlain n = (r.1, r.2, (o.count0 + n) / o.threshold) := by
  simp only [SyncObj.addPlain, if_neg (Nat.div_pos h ht).ne']

theorem State.notifyAll_map (s : State) (hall gen : Nat) (ws : List Waiter) :
    s.notifyAll hall (ws.map fun w => (gen, w)) = s.notify hall gen ws := List.foldl_map

theorem State.signalFires_eq_foldl (s : State) (target epoch runGen slot cluster k : Nat) :
    s.signalFires target epoch runGen slot cluster k =
      (List.range k).foldl (fun u _ => u.signalTo target 1 epoch runGen slot (syncUnit cluster) (9216 + cluster)) s := by
  rw [List.foldl_const, List.length_range]
  induction k generalizing s with
  | zero => rfl
  | succ k ih => exact ih _

/-! ### Signals (R235, R244, R245) -/

section Signals

variable {m : SyncSignal} (hp : syncAt (hallLocal m.object) = some p) (ho : s.object p = some o)
include hp ho

theorem State.signalArrive_plain (hm : o.mode = 1) : s.signalArrive m =
    let r := o.addPlain m.count
    let t := (s.setObject p r.1).notifyAll m.object r.2.1
    if o.target = 0 then t else t.signalFires o.target m.epoch m.runGen m.slot p.1 r.2.2 := by
  simp only [State.signalArrive, hp, ho]
  exact if_pos hm

theorem State.signalArrive_below (hm : o.mode = 1) (h : o.count0 + m.count < o.threshold) (hw : o.count0 + m.count < 2 ^ 32) :
    s.signalArrive m = s.setObject p { o with count0 := o.count0 + m.count } := by
  rw [State.signalArrive_plain hp ho hm, SyncObj.addPlain_below h hw]
  exact ite_self _

/-- An object that fires notifies those that waited, then signals its target at each fire. -/
theorem State.signalArrive_fires {o' : SyncObj} (hm : o.mode = 1) (ht : 0 < o.threshold) (h : o.threshold ≤ o.count0 + m.count)
    (hf : SyncObj.fires ((o.count0 + m.count) / o.threshold) { o with count0 := (o.count0 + m.count) % o.threshold } =
      (o', o.waiting.map fun w => ((o.generation + 1) % 2 ^ 32, w))) :
    let t := (s.setObject p o').notify m.object ((o.generation + 1) % 2 ^ 32) o.waiting
    s.signalArrive m = if o.target = 0 then t else (List.range ((o.count0 + m.count) / o.threshold)).foldl
      (fun u _ => u.signalTo o.target 1 m.epoch m.runGen m.slot (syncUnit p.1) (9216 + p.1)) t := by
  rw [State.signalArrive_plain hp ho hm, SyncObj.addPlain_fires ht h, hf]
  simp only [State.notifyAll_map, State.signalFires_eq_foldl]

theorem State.signalArrive_stale (hm : o.mode = 2) (hg : m.runGen ≠ (s.slot o.owner).runGen) : s.signalArrive m = s := by
  simp only [State.signalArrive, hp, ho, State.objectGen, hm]
  exact if_pos hg

theorem State.signalArrive_released (hm : o.mode = 2) (hg : m.runGen = (s.slot o.owner).runGen) (he : m.epoch < o.bankEpoch) :
    s.signalArrive m = s.epochObjectFault p.1 o.owner m.epoch := by
  simp only [State.signalArrive, hp, ho, State.objectGen, hm]
  exact (if_neg (not_not.mpr hg)).trans (if_pos he)

theorem State.signalArrive_ahead (hm : o.mode = 2) (hg : m.runGen = (s.slot o.owner).runGen) (he : o.bankEpoch + 1 < m.epoch) :
    s.signalArrive m = s.send (.signal m) := by
  have past : o.inWindow m.epoch = false := by
    simp only [SyncObj.inWindow, Bool.or_eq_false_iff, decide_eq_false_iff_not]
    omega
  simp only [State.signalArrive, hp, ho, State.objectGen, hm, past]
  exact (if_neg (not_not.mpr hg)).trans ((if_neg (by omega)).trans (if_pos rfl))

end Signals

theorem execSyncObjectSignal_turn {m : SyncSignal} {t : State} (ht : s.turn (.signal m) = true)
    (h : (s.accept (.signal m)).signalArrive m = t) : execSyncObjectSignal m s = .next t := congrArg _ ((if_pos ht).trans h)

/-! ### Registrations and notices (R244, R246, R436) -/

theorem SyncObj.enroll_room (w : Waiter) (h : o.waiting.length < 64) (hc : o.crossbar = []) :
    ({ o with crossbar := o.crossbar ++ [w] } : SyncObj).enroll = { o with waiting := o.waiting ++ [w], crossbar := [] } := by
  have place : [w].take (64 - o.waiting.length) = [w] := List.take_of_length_le (by simp; omega)
  have rest : [w].drop (64 - o.waiting.length) = [] := List.drop_of_length_le (by simp; omega)
  simp only [SyncObj.enroll, hc, List.nil_append, place, rest]

theorem SyncObj.enroll_full (h : 64 ≤ o.waiting.length) : o.enroll = o := by
  simp [SyncObj.enroll, Nat.sub_eq_zero_of_le h]

theorem State.waitArrive_plain {m : WaitReg} (hp : syncAt (hallLocal m.object) = some p) (ho : s.object p = some o) (hm : o.mode = 1) :
    s.waitArrive m = s.setObject p ({ o with crossbar := o.crossbar ++ [m.waiter] } : SyncObj).enroll := by
  simp only [State.waitArrive, hp, ho]
  rw [if_neg (by simp [hm]), if_neg (by simp [hm]), if_pos (by exact hm)]

theorem State.noticeArrive_order (s : State) (id gen : Nat) : s.noticeArrive (.order id) gen = s.finishId id (Ending.ok gen) := rfl

theorem State.noticeArrive_core {c e gen : Nat} {i : Issue} (hi : s.waiting c = some i) (hw : i.r.wait = .sync) (he : i.r.epoch = e) :
    s.noticeArrive (.core c e) gen = s.retire c i (i.instr c) none 1 := by
  simp [State.noticeArrive, Waiter.module, hi, hw, he]

/-- A notice for a waiter of this module. -/
theorem execWaiterNotice_local {w : Waiter} (hall gen : Nat) (h : w.module = none) :
    execWaiterNotice w hall gen s = .next (s.take (.notice w hall gen) fun t => t.noticeArrive w gen) :=
  congrArg _ (if_pos (by rw [h]; rfl))

/-- Settles O26: a signal by its object's mode and by what it brings the count to, a registration by the places left, a notice by its
waiter. -/
theorem syncObjects : Obligations.SyncObjects := by
  unfold Obligations.SyncObjects
  refine ⟨fun s m p o hp ho hm ht hturn => ?_, fun s m p o hp ho hm hturn => ?_, fun s m p o c e id hall gen i => ?_⟩
  · have object := (s.accept_object (.signal m) p).trans ho
    have signals {t : State} := execSyncObjectSignal_turn (m := m) (t := t) hturn
    refine ⟨fun h hw => signals (State.signalArrive_below hp object hm h hw), fun h hc => signals ?_, fun h hw => signals ?_⟩
    · obtain ⟨k, hk⟩ := Nat.exists_eq_succ_of_ne_zero (Nat.div_pos h ht).ne'
      refine State.signalArrive_fires hp object hm ht h ?_
      rw [hk]
      exact SyncObj.fires_succ k hc
    · refine State.signalArrive_fires hp object hm ht (Nat.div_pos_iff.mp (h ▸ Nat.one_pos)).2 ?_
      rw [h]
      exact SyncObj.fires_once hw
  · have object := (s.accept_object (.signal m) p).trans ho
    have signals {t : State} := execSyncObjectSignal_turn (m := m) (t := t) hturn
    have run : ((s.accept (.signal m)).slot o.owner).runGen = (s.slot o.owner).runGen := by rw [State.accept_slot]
    exact ⟨fun hg => signals (State.signalArrive_stale hp object hm (run ▸ hg)),
      fun hg he => signals (State.signalArrive_released hp object hm (run ▸ hg) he),
      fun hg he => signals (State.signalArrive_ahead hp object hm (run ▸ hg) he)⟩
  · intro turns register hp ho hm
    have arrives := State.waitArrive_plain hp ((s.accept_object (.waitReg m) p).trans ho) hm
    refine ⟨fun hl hc => State.next_take (arrives.trans ?_), fun hl => State.next_take (arrives.trans ?_), ?_, fun hi hw he => ?_⟩
    · rw [SyncObj.enroll_room m.waiter hl hc]
    · rw [SyncObj.enroll_full (by exact hl)]
    · exact (execWaiterNotice_local hall gen rfl).trans (State.next_take (State.noticeArrive_order ..))
    · exact (execWaiterNotice_local hall gen rfl).trans
        (State.next_take (State.noticeArrive_core ((s.accept_waiting ..).trans hi) hw he))

end Sys2Proof.Machine
end

section
/-! Colander mode and the watchdog (R25, R237, R297, R298, R586, R587). -/

namespace Sys2Proof.Machine

variable {s : State}

/-- A command of a unit that the module has does what its meaning says. -/
theorem unit_present {p : Prop} [Decidable p] (h : p) (r : Out) : unit (decide p) s r = r := if_pos (decide_eq_true h)

/-! ### Colander mode (R237, R297, R298) -/

theorem execColanderPacket_serving {c : Nat} (hc : c < 9216) (h : (s.core c).colander = false) (item : ColanderItem) :
    execColanderPacket c item s = .next s := (unit_present hc _).trans (by rw [h]; rfl)

theorem execColanderPacket_fenced {c : Nat} (hc : c < 9216) (h : (s.core c).colander = true) (item : ColanderItem) :
    execColanderPacket c item s = .next (s.colander c item) := (unit_present hc _).trans (by rw [if_pos h])

/-- A fenced core answers a request for its own store. -/
theorem State.colander_request {c : Nat} {r : Request} (h : regionOf (hallLocal r.address) = .store c) :
    s.colander c (.request r) = ((s.accept (.request r)).fencedAnswer c).answerRequest r .fenced 0 [] := if_pos h

/-! ### A tick of the watchdog (R25) -/

/-- A core after a tick: while it is in a phase, one tick more in which it stood still. -/
def Core.ticked (c : Core) : Core := { c with quietTicks := if c.run.isSome then satInc 10 c.quietTicks else 0 }

/-- Changing each of some clusters once leaves every other as it was. -/
theorem State.cluster_foldl_modCluster (f : Nat → Cluster → Cluster) (j : Nat) {l : List Nat} (hl : l.Nodup) (s : State) :
    (l.foldl (fun t k => t.modCluster k (f k)) s).cluster j = if j ∈ l then f j (s.cluster j) else s.cluster j := by
  induction l generalizing s with
  | nil => rfl
  | cons k l ih =>
    obtain ⟨hk, hl⟩ := List.nodup_cons.mp hl
    rw [List.foldl_cons, ih hl]
    by_cases hj : k = j
    · subst hj
      rw [if_neg hk, if_pos List.mem_cons_self, State.cluster_modCluster]
    · rw [State.cluster_modCluster_of_ne _ _ hj]
      simp only [List.mem_cons, Ne.symm hj, false_or]

theorem Tbl.at_map {α β : Type} (t : Tbl α) (f : α → β) (i : Nat) : Tbl.at (t.map fun p => (p.1, f p.2)) i = (t.at i).map f := by
  induction t with
  | nil => rfl
  | cons p t ih =>
    rw [List.map_cons, Tbl.at_cons, Tbl.at_cons, ih, apply_ite (Option.map f), Option.map_some]

/-- At a tick every core of the module takes it once. -/
theorem State.watchdog_core (s : State) (d : Nat) : s.watchdog.core d = (s.core d).ticked := by
  have cores : s.watchdog.cores = s.cores.map fun p => (p.1, p.2.ticked) := by
    rw [State.watchdog, foldl_keeps State.cores (fun _ _ => State.modCluster_cores ..),
      foldl_keeps State.cores (fun _ _ => State.modStation_cores ..)]
    rfl
  rw [State.core, cores, Tbl.at_map, State.core]
  cases s.cores.at d <;> rfl

/-- At a tick every cluster of the module takes it once. -/
theorem State.watchdog_cluster (s : State) {k : Nat} (hk : k < 144) :
    s.watchdog.cluster k = (s.cluster k).tick (Config.freeByte s.free k) := by
  rw [State.watchdog, State.cluster_foldl_modCluster (fun j c => c.tick (Config.freeByte s.free j)) k List.nodup_range,
    if_pos (List.mem_range.mpr hk), State.cluster, foldl_keeps State.clusters (fun _ _ => State.modStation_clusters ..)]
  rfl

theorem execWatchdogTick_powered (h : s.platform.rails = true) : execWatchdogTick s = .next s.watchdog := by
  rw [execWatchdogTick, if_pos h]

/-! ### What stood still across ten ticks (R586, R587) -/

theorem execCoreHandshake_core {c : Nat} (hc : c < 9216) : execCoreHandshake c s =
    .next (if (s.core c).run.isSome ∧ 10 ≤ (s.core c).quietTicks then s.coreFault c 0x0009 else s) := by
  refine (unit_present hc _).trans (congrArg _ (if_congr ?_ rfl rfl))
  rw [Bool.and_eq_true, decide_eq_true_eq]

theorem execRouterHandshake_part {k part : Nat} (hk : k < 144) (hp : part < 3) : execRouterHandshake k part s =
    .next (if 10 ≤ (s.cluster k).quiet part then s.fatalError 0x000A (if part = 0 then 3 else 2) k else s) :=
  if_pos (by simp [hk, hp])

theorem execAgentTickTimeout_agent {k : Nat} (hk : k < 144) : execAgentTickTimeout k s =
    .next (if 10 ≤ (s.cluster k).missedAcks then s.fatalError 0x000A 3 k else s) := unit_present hk _

/-- Settles O29: a packet by whether its core is in colander mode, a tick by what it leaves of each core and of each cluster, and a
handshake by its count. -/
theorem colanderAndWatchdog : Obligations.ColanderAndWatchdog := by
  unfold Obligations.ColanderAndWatchdog
  refine ⟨fun s c k n r m v item hc => ?_, fun s c k part hc hk hp => ⟨fun hr => ?_, execCoreHandshake_core hc,
    execRouterHandshake_part hk hp, execAgentTickTimeout_agent hk⟩⟩
  · intro fenced
    refine ⟨fun hk => unit_present hk _, fun h => execColanderPacket_serving hc h item, fun h => ?_⟩
    have packet {item : ColanderItem} {t : State} (ht : s.colander c item = t) : exec (.colanderPacket c item) s = .next t :=
      (execColanderPacket_fenced hc h item).trans (congrArg _ ht)
    exact ⟨packet rfl, fun hr => packet (State.colander_request hr), packet rfl, packet rfl, packet rfl⟩
  · refine ⟨s.watchdog, execWatchdogTick_powered hr, fun d => by rw [State.watchdog_core]; rfl, fun j hj => ?_⟩
    rw [State.watchdog_cluster s hj]
    exact ⟨ite_eq_or_eq .., ite_eq_or_eq .., ite_eq_or_eq .., ite_eq_or_eq ..⟩

end Sys2Proof.Machine
end

section
/-! How a lawful order passes the checks of its command, and how its bytes reach host memory (R409, R411, R413). -/

namespace Sys2Proof.Machine

variable {s : State} {o : Order} {flags : Nat} {fields : List (Nat × Nat)} {checks : List Check}

/-! ### The checks that pass -/

theorem State.checked_pass {e : Option Ending} (go : State → State) (h : e = none) : s.checked o e go = go s := by
  rw [h, State.checked_none]

theorem Order.begun_params_slotTarget (h : o.lawful flags (o.target < 48) fields) (hc : ∀ c ∈ checks, c.ok = true) :
    o.begun.params flags o.begun.slotTarget fields checks = none := by
  rw [Order.params_none, Order.begun_slotTarget, Order.slotTarget, decide_eq_true_eq]
  exact ⟨h, hc⟩

theorem Order.begun_params_noTarget (h : o.lawful flags (o.target = 0xFFFF) fields) (hc : ∀ c ∈ checks, c.ok = true) :
    o.begun.params flags o.begun.noTarget fields checks = none := by
  rw [Order.params_none, Order.begun_noTarget, Order.noTarget, decide_eq_true_eq]
  exact ⟨h, hc⟩

theorem Order.hostRange_ok {addr len need : Nat} : (∀ c ∈ o.hostRange addr len need, c.ok = true) ↔ o.hostRoom addr len need := by
  simp [Order.hostRange, Order.hostRoom]

/-- The checks of a command that writes to host memory: those of its other fields, then those of the host range. -/
theorem Order.checks_hostRange_ok {addr len need : Nat} (hc : ∀ c ∈ checks, c.ok = true) (hr : o.hostRoom addr len need) :
    ∀ c ∈ checks ++ o.begun.hostRange addr len need, c.ok = true :=
  List.forall_mem_append.mpr ⟨hc, Order.hostRange_ok.mpr hr⟩

/-! ### The states in which a command is allowed, as its check writes them (R413) -/

theorem SlotState.loaded_or_stopped_iff {x : SlotState} : (x = .loaded || x = .stopped) = true ↔ x ∈ [SlotState.loaded, .stopped] := by
  simp

/-! ### What reaches host memory -/

theorem State.answerHost_barsUp (h : s.barsUp = true) (a : Nat) (bs : List Byte) (e : Ending) :
    s.answerHost o a bs e = (s.hostWrite a bs).finish o e := if_pos h

end Sys2Proof.Machine
end

section
/-! Lock-step: the partner's messages, LOCKSTEP_BEGIN and LOCKSTEP_END (R270 to R275, R446). -/

namespace Sys2Proof.Machine

variable {s : State} {p n id : Nat} {m : LockMsg} {k : LockStep} {o : Order}

/-! ### The partner's messages (R270 to R273, R275) -/

/-- LOCKSTEP_MISMATCH names the digest before the start epoch, and there is no mismatch exactly where both agree. -/
theorem helloCause_eq_zero_iff : (if k.ownHello.1 ≠ m.digest then 1 else if k.ownHello.2 ≠ m.value then 2 else 0) = 0 ↔
    k.ownHello = (m.digest, m.value) := by
  rw [Prod.ext_iff]
  by_cases hd : k.ownHello.1 = m.digest <;> by_cases hv : k.ownHello.2 = m.value <;> simp [hd, hv]

/-- A HELLO ends the LOCKSTEP_BEGIN that waits: OK and active where digests and start epochs agree (R270). -/
theorem State.helloCompare_waiting (hk : (s.slot n).lock = some k) (ho : k.order = some id) :
    let agrees := k.ownHello = (m.digest, m.value)
    let cause := if k.ownHello.1 ≠ m.digest then 1 else 2
    s.helloCompare n m = (s.setSlot n { s.slot n with
      lock := some { k with order := none, active := decide agrees, partnerHello := some (m.digest, m.value), partnerSlot := m.slot } }).finishId id
      (if agrees then Ending.ok else { status := 0x36, d17 := cause }) := by
  simp only [State.helloCompare, hk, ho, helloCause_eq_zero_iff]
  by_cases agrees : k.ownHello = (m.digest, m.value)
  · simp only [if_pos agrees]
  · have cause : (if k.ownHello.1 ≠ m.digest then 1 else if k.ownHello.2 ≠ m.value then 2 else 0) =
        if k.ownHello.1 ≠ m.digest then 1 else 2 := by
      by_cases hd : k.ownHello.1 = m.digest
      · have hv : k.ownHello.2 ≠ m.value := fun hv => agrees (Prod.ext hd hv)
        simp [hd, hv]
      · simp [hd]
    simp only [if_neg agrees, cause]

/-- With no LOCKSTEP_BEGIN on its port a HELLO stays in the network. -/
theorem execHello_kept (hp : p < 12) (hw : s.lockWaits p = none) :
    execHello p m s = .next ((s.arrive (.hello p m)).send (.hello p m)) := by
  rw [execHello, unit_present hp, hw]

theorem execHello_waiting (hp : p < 12) (hw : s.lockWaits p = some n) :
    execHello p m s = .next ((s.arrive (.hello p m)).helloCompare n m) := by
  rw [execHello, unit_present hp, hw]

@[simp] theorem State.arrive_lockPair (s : State) (msg : Msg) (p n : Nat) : (s.arrive msg).lockPair p n = s.lockPair p n := rfl

theorem execFp_paired (hp : p < 12) (hn : s.lockPair p m.slot = some n) :
    execFp p m s = .next (((s.arrive (.fp p m)).modSlot n fun x => { x with lock := x.lock.map fun k =>
      { k with theirs := k.theirs ++ [(m.replica, m.epoch, m.phase, m.value)] } }).lockCompare n m.replica m.epoch m.phase) := by
  simp only [execFp, unit_present hp, State.arrive_lockPair, hn]

theorem execHalt_active (hp : p < 12) (hn : s.lockPair p m.slot = some n) (ha : (s.slot n).active = true) :
    execHalt p m s = .next ((s.arrive (.halt p m)).lockHalt n 4 ((s.arrive (.halt p m)).slotEpoch n, 0, 0) 0 0 false) := by
  simp only [execHalt, unit_present hp, State.arrive_lockPair, hn, State.arrive_slot, ha, if_true]

theorem execLsEnd_paired (hp : p < 12) (hk : (s.slot n).lock = some k) (hn : s.lockPair p m.slot = some n) :
    execLsEnd p m s = .next (((s.arrive (.lsEnd p m)).setSlot n { s.slot n with lock := some { k with active := false } }).tryLaunchSlot n) := by
  simp only [execLsEnd, unit_present hp, State.arrive_lockPair, hn, State.modSlot, State.arrive_slot, hk, Option.map_some]

/-! ### LOCKSTEP_BEGIN and LOCKSTEP_END (R270, R274, R275, R446) -/

/-- The lock-step that a LOCKSTEP_BEGIN opens: this module's HELLO is sent, the partner's is not there yet. -/
def LockStep.opened (o : Order) (x : Slot) : LockStep :=
  { partner := o.field 16 2, port := o.field 18 1, order := some o.id, active := false
    ownHello := (sha256 (x.effective.provenance x.effective.nextSegment.2), x.resume)
    partnerHello := none, partnerSlot := 0, mine := [], theirs := [], matched := [], report := none }

/-- What LOCKSTEP_BEGIN does once its parameters and the slot's state have passed their checks. -/
def State.openLock (s : State) (o : Order) : State :=
  let x := s.slot o.target
  let port := o.field 18 1
  if (s.port port).state ≠ .up then s.finish o { status := 0x35 }
  else if (s.port port).peerId ≠ o.field 16 2 then s.finish o (Ending.badParam 16)
  else
    let t := (s.setSlot o.target { x with lock := some (LockStep.opened o x) }).send
      (.lockOut 1 port (lockMsg o.target (LockStep.opened o x).ownHello.1 x.resume))
    match t.heldHello port with
    | some m => (t.arrive (.hello port m)).helloCompare o.target m
    | none => t

theorem execLockstepBegin_free (h : s.mayRun 0x50 id o) (hl : o.lawful 0 (o.target < 48) [(16, 3)]) (hp : o.field 18 1 < 12)
    (hs : (s.slot o.target).state ∈ [.loaded, .stopped]) (hk : ∀ l, (s.slot o.target).lock = some l → l.active = false) :
    execLockstepBegin id s = .next ((s.begin o).openLock o.begun) := by
  have pass := Order.begun_params_slotTarget hl (checks := [{ byte := 18, ok := o.field 18 1 < 12 }]) (by simp [hp])
  have free : (match (s.slot o.target).lock with | some k => k.active | none => false) = false := by
    cases hx : (s.slot o.target).lock with
    | none => rfl
    | some l => exact hk l hx
  refine (runOrder_mayRun h).trans (congrArg _ ((State.checked_pass _ pass).trans
    ((State.inState_pass _ (SlotState.loaded_or_stopped_iff.mpr hs)).trans (if_neg ?_))))
  exact Bool.eq_false_iff.mp free

/-- The HELLO this module sends is none of its partner's. -/
theorem State.heldHello_send_lockOut (s : State) (kind out : Nat) (msg : LockMsg) (port : Nat) :
    (s.send (.lockOut kind out msg)).heldHello port = s.heldHello port := by
  simp [State.heldHello, List.findSome?_append]

theorem State.openLock_down (h : (s.port (o.field 18 1)).state ≠ .up) : s.openLock o = s.finish o { status := 0x35 } := if_pos h

theorem State.openLock_otherPeer (h : (s.port (o.field 18 1)).state = .up) (hp : (s.port (o.field 18 1)).peerId ≠ o.field 16 2) :
    s.openLock o = s.finish o (Ending.badParam 16) := (if_neg (not_not.mpr h)).trans (if_pos hp)

theorem State.openLock_waits (h : (s.port (o.field 18 1)).state = .up) (hp : (s.port (o.field 18 1)).peerId = o.field 16 2)
    (hh : s.heldHello (o.field 18 1) = none) :
    s.openLock o = (s.setSlot o.target { s.slot o.target with lock := some (LockStep.opened o (s.slot o.target)) }).send
      (.lockOut 1 (o.field 18 1) (lockMsg o.target (LockStep.opened o (s.slot o.target)).ownHello.1 (s.slot o.target).resume)) := by
  have held (x : Slot) : (s.setSlot o.target x).heldHello (o.field 18 1) = none := hh
  simp only [State.openLock, h, hp, ne_eq, not_true_eq_false, if_false, State.heldHello_send_lockOut, held]

/-- How a LOCKSTEP_END completes: a mismatch is reported with its epoch (R274). -/
def LockStep.ending (k : LockStep) : Ending :=
  match k.report with
  | some r => { status := 0x36, result := r.1 }
  | none => Ending.ok

theorem execLockstepEnd_locked (h : s.mayRun 0x51 id o) (hl : o.lawful 0 (o.target < 48) []) (hx : (s.slot o.target).lock = some k)
    (hk : k.active = true ∨ k.order.isSome = true ∨ k.report.isSome = true) :
    execLockstepEnd id s = .next ((((s.begin o).endLock o.target).finish o.begun k.ending).tryLaunchSlot o.target) := by
  have used : (!(k.active || k.order.isSome || k.report.isSome)) = false := by rcases hk with hk | hk | hk <;> simp [hk]
  simp only [execLockstepEnd, runOrder_mayRun h, Order.begun_params_none hl, State.checked_none, Order.begun_target, State.begin_slot, hx,
    used, Bool.false_eq_true, if_false]
  rfl

/-- Settles O25: each message by what waits or runs on its port, LOCKSTEP_BEGIN by the port it names, LOCKSTEP_END by the lock-step it
ends. -/
theorem lockstepCommands : Obligations.LockstepCommands := by
  unfold Obligations.LockstepCommands
  refine ⟨fun s p n id m k hp hk => ⟨execHello_kept hp, fun hw ho => ?_, fun hn => ⟨execFp_paired hp hn, execHalt_active hp hn,
    execLsEnd_paired hp hk hn⟩⟩, fun s id o k => ⟨fun h hl hp hs hf => ?_, execLockstepEnd_locked⟩⟩
  · exact (execHello_waiting hp hw).trans (congrArg _ (State.helloCompare_waiting hk ho))
  · have opens := execLockstepBegin_free h hl hp hs hf
    exact ⟨fun hd => opens.trans (congrArg _ (State.openLock_down hd)),
      fun hu ho => opens.trans (congrArg _ (State.openLock_otherPeer hu ho)),
      fun hu ho hh => opens.trans (congrArg _ (State.openLock_waits hu ho hh))⟩

end Sys2Proof.Machine
end

section
/-! Results, seals, attestation, keys, entropy and seeds (R173, R268, R430 to R433, R437, R448, R531 to R534). -/

namespace Sys2Proof.Machine

variable {s t : State} {id : Nat} {o : Order} {bs salt : List Byte}

/-! ### SAMPLE_READ and STATS_READ (R430, R432) -/

theorem execSampleRead_read {g : Image} (h : s.mayRun 0x20 id o) (hl : o.lawful 0 (o.target < 48) [(16, 24)])
    (hk : o.field 16 4 < (s.slot o.target).capCount) (hq : o.field 22 2 = 0 ∨ o.field 20 2 < (s.slot o.target).replicas)
    (hn : o.field 20 2 + o.field 22 2 ≤ (s.slot o.target).replicas) (hg : (s.slot o.target).image = some g)
    (hr : o.hostRoom 24 32 (o.field 22 2 * (64 + g.sampleSize))) (hs : (s.slot o.target).state ≠ .empty)
    (ht : (s.begin o).sampleRecords (s.slot o.target) g (o.field 16 4) (o.field 20 2) (o.field 22 2) = (t, some bs)) :
    execSampleRead id s = .next (t.answerHost o.begun (o.field 24 8) bs
      (Ending.ok ((s.slot o.target).readResult (o.field 22 2) ((s.slot o.target).captureEpoch (o.field 16 4))))) := by
  have pass := Order.begun_params_slotTarget hl (Order.checks_hostRange_ok (checks :=
    [{ byte := 16, ok := o.field 16 4 < (s.slot o.target).capCount },
      { byte := 20, ok := o.field 22 2 = 0 || o.field 20 2 < (s.slot o.target).replicas },
      { byte := 22, ok := o.field 20 2 + o.field 22 2 ≤ (s.slot o.target).replicas }]) (by simp [hk, hq, hn]) hr)
  refine (runOrder_mayRun h).trans (congrArg _ ((State.checked_pass _ ?_).trans ((State.inState_pass _ (decide_eq_true hs)).trans ?_)))
  · simp only [Order.begun_target, State.begin_slot, hg]
    exact pass
  · simp only [Order.begun_field, Order.begun_target, State.begin_slot, hg, ht]

theorem execStatsRead_read (h : s.mayRun 0x21 id o) (hl : o.lawful 0 (o.target < 48) [(16, 4), (24, 16)])
    (hk : o.field 16 4 < (s.slot o.target).capCount) (hr : o.hostRoom 24 32 (s.slot o.target).statSize)
    (hs : (s.slot o.target).state ≠ .empty)
    (ht : (s.begin o).readLocal (hallLocal (s.slot o.target).statsAddr + o.field 16 4 * (s.slot o.target).statSize)
      (s.slot o.target).statSize = (t, some bs)) :
    execStatsRead id s = .next (t.answerHost o.begun (o.field 24 8) bs
      (Ending.ok ((s.slot o.target).readResult 1 ((s.slot o.target).captureEpoch (o.field 16 4))))) := by
  have pass := Order.begun_params_slotTarget hl (Order.checks_hostRange_ok (checks :=
    [{ byte := 16, ok := o.field 16 4 < (s.slot o.target).capCount }]) (by simp [hk]) hr)
  refine (runOrder_mayRun h).trans (congrArg _ ((State.checked_pass _ pass).trans ((State.inState_pass _ (decide_eq_true hs)).trans ?_)))
  simp only [Order.begun_field, Order.begun_target, State.begin_slot, ht]

/-! ### RESULT_SEAL, ATTEST and KEY_INFO (R433, R448, R532 to R534) -/

section Seal

variable (h : s.mayRun 0x22 id o) (hl : o.lawful 4 (o.target < 48) [(16, 16)]) (hr : o.hostRoom 16 24 576)
  (hs : (s.slot o.target).state = .stopped) (hc : (s.slot o.target).completed.isSome = true)
include h hl hr hs hc

/-- A seal of a STOPPED slot with a completed epoch: signed where its flag asks for it, else written at once. -/
theorem execResultSeal_stopped : execResultSeal id s = .next (if bitAt o.flags 2 = 1 then
      if s.rot.bootVerified && s.debugLocked && s.testLocked then (s.begin o).askSignature o.begun false
      else (s.begin o).finish o.begun { status := 0x12, d17 := 4, d18 := 1 }
    else (s.begin o).answerHost o.begun (o.field 16 8) ((s.begin o).sealBody o.target ++ zeros 416)
      (Ending.ok ((s.slot o.target).completed.getD 0))) := by
  have pass := Order.begun_params_slotTarget hl (Order.hostRange_ok (o := o.begun).mpr hr)
  have sealable : (decide ((s.slot o.target).state = .stopped) && (s.slot o.target).completed.isSome) = true := by simp [hs, hc]
  exact (runOrder_mayRun h).trans (congrArg _ ((State.checked_pass _ pass).trans (State.inState_pass _ sealable)))

theorem execResultSeal_plain (hf : bitAt o.flags 2 = 0) :
    execResultSeal id s = .next ((s.begin o).answerHost o.begun (o.field 16 8) ((s.begin o).sealBody o.target ++ zeros 416)
      (Ending.ok ((s.slot o.target).completed.getD 0))) := by
  rw [execResultSeal_stopped h hl hr hs hc, if_neg (by simp [hf])]

theorem execResultSeal_signed (hf : bitAt o.flags 2 = 1) (hv : s.rot.bootVerified = true) (hd : s.debugLocked = true)
    (ht : s.testLocked = true) : execResultSeal id s = .next ((s.begin o).askSignature o.begun false) := by
  rw [execResultSeal_stopped h hl hr hs hc, if_pos hf, if_pos (by simp [hv, hd, ht])]

end Seal

theorem execAttest_asks (h : s.mayRun 0x60 id o) (hl : o.lawful 0 (o.target = 0xFFFF) [(16, 48)]) (hr : o.hostRoom 48 56 640) :
    execAttest id s = .next ((s.begin o).askSignature o.begun true) :=
  (runOrder_mayRun h).trans (congrArg _ (State.checked_pass _
    (Order.begun_params_noTarget hl (Order.hostRange_ok (o := o.begun).mpr hr))))

theorem execKeyInfo_named (h : s.mayRun 0x61 id o) (hl : o.lawful 0 (o.target = 0xFFFF) [(16, 1), (24, 16)]) (hw : o.field 16 1 < 4)
    (hr : o.hostRoom 24 32 (roundUp 64 (s.keyData (o.field 16 1)).length)) :
    execKeyInfo id s = .next ((s.begin o).answerHost o.begun (o.field 24 8) (padTo 64 (s.keyData (o.field 16 1)))
      (Ending.ok (s.keyData (o.field 16 1)).length)) := by
  have pass := Order.begun_params_noTarget hl (Order.checks_hostRange_ok (checks := [{ byte := 16, ok := o.field 16 1 < 4 }])
    (by simp [hw]) hr)
  exact (runOrder_mayRun h).trans (congrArg _ (State.checked_pass _ pass))

/-! ### Signatures (R268, R513, R531, R533) -/

section Signing

variable {q : SignReq} {rest : List SignReq}

/-- The signature over the body with its salt answers the oldest request. -/
theorem execSignatureDone_signed (hq : s.rot.signing = q :: rest) (hs : q.salt = some salt)
    (ho : (s.arbiter.orders.find? fun o => o.id = q.order) = some o) (hb : s.barsUp = true) :
    let v := { s with rot := { s.rot with signing := rest } }
    let body := s.signBody q.attest o
    execSignatureDone (attestSign body salt) s = .next (if q.attest
      then (v.hostWrite (o.field 48 8) (signedBody body salt)).finish o (Ending.ok 640)
      else (v.hostWrite (o.field 16 8) (signedBody body salt ++ signerKeyId)).finish o (Ending.ok ((s.slot o.target).completed.getD 0))) := by
  have bars : ({ s with rot := { s.rot with signing := rest } } : State).barsUp = true := hb
  simp only [execSignatureDone, hq, hs, ho, ne_eq, not_true_eq_false, if_false, State.answerHost_barsUp bars]
  rfl

/-- Bytes that are not the signature of the oldest request are no answer. -/
theorem execSignatureDone_other (hq : s.rot.signing = q :: rest) (hs : q.salt = some salt)
    (ho : (s.arbiter.orders.find? fun o => o.id = q.order) = some o) {sg : List Byte} (h : sg ≠ attestSign (s.signBody q.attest o) salt) :
    execSignatureDone sg s = .next s := by
  simp only [execSignatureDone, hq, hs, ho, if_pos h]

end Signing

theorem State.askSignature_full (h : 16 ≤ s.rot.signing.length) (attest : Bool) : s.askSignature o attest = s.finish o Ending.busy :=
  if_pos h

theorem State.askSignature_sourceFault (h : s.rot.signing.length < 16) (hf : s.entropy.state = .fault) (attest : Bool) :
    s.askSignature o attest = s.finish o { status := 0x30 } := (if_neg (not_le.mpr h)).trans (if_pos hf)

theorem State.askSignature_joins (h : s.rot.signing.length < 16) (hf : s.entropy.state ≠ .fault) (attest : Bool) :
    s.askSignature o attest =
      { s with rot := { s.rot with signing := s.rot.signing ++ [{ order := o.id, attest := attest, salt := none }] }
               entropy := { s.entropy with rot := s.entropy.rot ++ [.salt o.id] } } :=
  (if_neg (not_le.mpr h)).trans (if_neg hf)

/-! ### ENTROPY_GET and SEED_FROM_ENTROPY (R173, R437) -/

theorem execEntropyGet_asks (h : s.mayRun 0x30 id o) (hl : o.lawful 0 (o.target = 0xFFFF) [(16, 12)]) (ha : o.field 16 8 % 64 = 0)
    (hm : o.field 24 4 % 64 = 0) (hmin : 64 ≤ o.field 24 4) (hmax : o.field 24 4 ≤ 4096) :
    execEntropyGet id s = .next ((s.begin o).askEntropy o.begun (.get o.id (o.field 24 4) [])) :=
  (runOrder_mayRun h).trans (congrArg _ (State.checked_pass _ (Order.begun_params_noTarget hl (by simp [ha, hm, hmin, hmax]))))

/-- A seed is drawn for a LOADED slot that never started, and for no other. -/
theorem execSeedFromEntropy_state (h : s.mayRun 0x31 id o) (hl : o.lawful 0 (o.target < 48) [(16, 16)]) (hr : o.hostRoom 16 24 64) :
    execSeedFromEntropy id s = .next (if (s.slot o.target).state = .loaded ∧ (s.slot o.target).started = false
      then (s.begin o).askEntropy o.begun (.seed o.id)
      else (s.begin o).finish o.begun (Ending.badState (s.slot o.target).state.code)) := by
  have pass := Order.begun_params_slotTarget hl (Order.hostRange_ok (o := o.begun).mpr hr)
  have unfit : ((s.slot o.target).state ≠ .loaded || (s.slot o.target).started) = true ↔
      ¬ ((s.slot o.target).state = .loaded ∧ (s.slot o.target).started = false) := by
    simp [imp_iff_not_or]
  refine (runOrder_mayRun h).trans (congrArg _ ((State.checked_pass _ pass).trans ?_))
  exact (if_congr unfit rfl rfl).trans (ite_not ..)

/-- Settles O40: each command by the checks it passes, a signature by the request it answers, a request by whether its queue has a
place and the source runs. -/
theorem resultOrders : Obligations.ResultOrders := by
  unfold Obligations.ResultOrders
  refine ⟨fun s t id o g bs salt q rest => ⟨fun h hl hk hq hn hg hr hs ht hb => ?_, fun h hl hk hr hs ht hb => ?_,
      fun h hl hr hs hc => ⟨fun hf hb => ?_, fun hf hv hd hT => ?_⟩, execAttest_asks, fun h hl hw hr hb => ?_,
      fun hq hs ho hb => ?_⟩,
    fun s id o => ⟨execEntropyGet_asks, execSeedFromEntropy_state⟩,
    fun s o attest => ⟨fun h => State.askSignature_full h attest, fun h hf => State.askSignature_sourceFault h hf attest,
      fun h hf => State.askSignature_joins h hf attest⟩⟩
  · exact (execSampleRead_read h hl hk hq hn hg hr hs ht).trans (congrArg _ (State.answerHost_barsUp hb ..))
  · exact (execStatsRead_read h hl hk hr hs ht).trans (congrArg _ (State.answerHost_barsUp hb ..))
  · exact (execResultSeal_plain h hl hr hs hc hf).trans (congrArg _ (State.answerHost_barsUp (s := s.begin o) hb ..))
  · exact execResultSeal_signed h hl hr hs hc hf hv hd hT
  · exact (execKeyInfo_named h hl hw hr).trans (congrArg _ (State.answerHost_barsUp (s := s.begin o) hb ..))
  · rw [← State.signBody]
    exact ⟨execSignatureDone_signed hq hs ho hb, fun sg => execSignatureDone_other hq hs ho⟩

end Sys2Proof.Machine
end

section
/-! The mesh routers: dimension order, the check of flits and the packets at an input (R283, R285, R287, R289, R290, R292). -/

namespace Sys2Proof.Machine

variable {s : State} {k i : Nat} {p : Packet}

/-! ### Dimension order (R283, R285, R292) -/

/-- The distance of two clusters as rows and columns apart: of each pair of differences one is zero. -/
theorem meshLinks_eq (a b : Nat) :
    meshLinks a b = (b / 12 - a / 12) + (a / 12 - b / 12) + ((b % 12 - a % 12) + (a % 12 - b % 12)) := by
  simp only [meshLinks]
  split_ifs <;> omega

/-- Away from its cluster a packet goes to a neighbour one link nearer: east or west while the column differs, then south or north. -/
theorem Packet.output_nearer (hk : k < 144) (hd : p.destCluster < 144) (h : p.destCluster ≠ k) :
    ∃ d, meshNeighbour k (p.output k) = some d ∧ d < 144 ∧ meshLinks d p.destCluster + 1 = meshLinks k p.destCluster := by
  simp only [meshLinks_eq, Packet.output]
  split_ifs with east west south north
  · exact ⟨k + 1, if_pos (by omega), by omega, by omega⟩
  · exact ⟨k - 1, if_neg (by omega), by omega, by omega⟩
  · exact ⟨k + 12, if_pos (by omega), by omega, by omega⟩
  · exact ⟨k - 12, if_pos (by omega), by omega, by omega⟩
  all_goals omega

/-- At its cluster a packet that is for no station leaves by the local port. -/
theorem Packet.output_local (h : p.destCluster = k) (hp : p.destPort ≠ 100) : p.output k = 4 := by
  simp [Packet.output, h, hp]

/-! ### The check of flits (R287) -/

@[simp] theorem State.logError_clusters (s : State) (e : ErrEntry) : (s.logError e).clusters = s.clusters := by
  simp only [State.logError]
  rw [State.raise_clusters]
  split_ifs <;> rfl

@[simp] theorem State.contained_clusters (s : State) (code unitKind u : Nat) : (s.contained code unitKind u).clusters = s.clusters :=
  s.logError_clusters _

@[simp] theorem State.correctedError_clusters (s : State) (code unitKind u a : Nat) :
    (s.correctedError code unitKind u a).clusters = s.clusters := by
  simp only [State.correctedError]
  split_ifs
  · rw [State.logError_clusters]
  · rfl

@[simp] theorem State.dropPayload_clusters (s : State) (p : Packet) : (s.dropPayload p).clusters = s.clusters := by
  cases h : p.payload <;> simp [State.dropPayload, h]

/-- What the routers hold is a part of the clusters. -/
theorem State.routerInput_of_clusters {t : State} (h : t.clusters = s.clusters) (k i : Nat) :
    t.routerInput k i = s.routerInput k i := by
  simp only [State.routerInput, State.cluster, h]

/-- A change of a cluster that keeps its inputs keeps what every router holds. -/
theorem State.routerInput_modCluster (k : Nat) {f : Cluster → Cluster} (hf : ∀ c, (f c).inputs = c.inputs) (j n : Nat) :
    (s.modCluster k f).routerInput j n = s.routerInput j n := by
  by_cases hj : k = j
  · subst hj
    simp only [State.routerInput, State.cluster_modCluster, hf]
  · simp only [State.routerInput, State.cluster_modCluster_of_ne _ _ hj]

/-- The check of a packet counts and logs; it puts nothing into an input and takes nothing out of one. -/
theorem State.checkFlits_routerInput (s : State) (k i : Nat) (p : Packet) (j n : Nat) :
    (s.checkFlits k i p).1.routerInput j n = s.routerInput j n := by
  have counted : ∀ c d : Cluster → Nat, (s.modCluster k fun x => { x with corrected := c x, poisoned := d x }).routerInput j n =
      s.routerInput j n :=
    fun _ _ => State.routerInput_modCluster k (by exact fun _ => rfl) j n
  have drops (t : State) : (t.dropPayload p).routerInput j n = t.routerInput j n :=
    State.routerInput_of_clusters (t.dropPayload_clusters p) j n
  have logs (t : State) (u : Nat) : (t.contained 0x0007 3 u).routerInput j n = t.routerInput j n :=
    State.routerInput_of_clusters (t.contained_clusters ..) j n
  have corrects (t : State) : (t.correctedError 0x0007 3 k).routerInput j n = t.routerInput j n :=
    State.routerInput_of_clusters (t.correctedError_clusters ..) j n
  simp only [State.checkFlits]
  split_ifs <;> simp only [counted, drops, logs, corrects]

theorem State.routerInput_of_checkFlits {t : State} {r : Option Packet} (h : s.checkFlits k i p = (t, r)) (j n : Nat) :
    t.routerInput j n = s.routerInput j n := by
  rw [← s.checkFlits_routerInput k i p, h]

/-- A packet ends at its check exactly where one of its control words cannot be corrected. -/
theorem State.checkFlits_none_iff : (s.checkFlits k i p).2 = none ↔ .badControl ∈ p.flits := by
  simp only [State.checkFlits, apply_ite Prod.snd]
  simp [List.filter_eq_nil_iff]

/-! ### A packet at an input (R287, R289, R290) -/

theorem execRouterPacket_good (hk : k < 144) (hi : routerPort k i = true) (hr : s.platform.rails = true) (hp : s.packetGood p = true) :
    execRouterPacket k i p s = .next (s.routerPacket k i p) := by
  simp only [execRouterPacket, unit, hk, hi, hr, hp, decide_true, Bool.and_self, if_true]

section Head

variable {h : HeldPacket} {rest : List HeldPacket} (hb : s.routerInput k i = h :: rest) (hc : h.checked = false)
  (hs : h.pkt.same p = true)
include hb hc hs

/-- The head of an input that a link brought is what is checked. -/
theorem State.routerPacket_head : s.routerPacket k i p = s.checkHere k i p h := by
  simp [State.routerPacket, hb, hc, hs]

/-- A head that its check ends leaves the input. -/
theorem State.routerPacket_head_ends {t : State} (ht : s.checkFlits k i { h.pkt with flits := p.flits } = (t, none)) :
    s.routerPacket k i p = t.setInput k i rest := by
  rw [State.routerPacket_head hb hc hs, State.checkHere, ht]
  simp [State.routerInput_of_checkFlits ht, hb, replaceFirst, hc, hs]

/-- A head that passes its check stays in its place, checked, and its output sends. -/
theorem State.routerPacket_head_passes {t : State} {q : Packet}
    (ht : s.checkFlits k i { h.pkt with flits := p.flits } = (t, some q)) :
    s.routerPacket k i p = (t.setInput k i ({ h with pkt := q, checked := true } :: rest)).sendOne k (q.output k) := by
  rw [State.routerPacket_head hb hc hs, State.checkHere, ht]
  simp [State.routerInput_of_checkFlits ht, hb, replaceFirst, hc, hs]

end Head

/-- An input in which a packet is only held checked has no copy of it that a check waits for. -/
theorem find?_unchecked_eq_none {b : List HeldPacket} (hc : ∀ h ∈ b, h.pkt.same p = true → h.checked = true) :
    b.find? (fun h => !h.checked && h.pkt.same p) = none := by
  refine List.find?_eq_none.mpr fun h hh => ?_
  cases same : h.pkt.same p
  · simp
  · simp [hc h hh same]

theorem any_same_of_fresh {b : List HeldPacket} (hf : ∀ h ∈ b, h.pkt.same p = false) : (b.any fun h => h.pkt.same p) = false := by
  simpa only [List.any_eq_false, Bool.not_eq_true] using hf

theorem find?_unchecked_of_fresh {b : List HeldPacket} (hf : ∀ h ∈ b, h.pkt.same p = false) :
    b.find? (fun h => !h.checked && h.pkt.same p) = none :=
  find?_unchecked_eq_none fun h hh hs => absurd hs (Bool.eq_false_iff.mp (hf h hh))

/-- A packet that the input holds checked, and that cannot be a new one, waits for the turn of its output. -/
theorem State.routerPacket_held (hm : ∃ h ∈ s.routerInput k i, h.pkt.same p = true)
    (hc : ∀ h ∈ s.routerInput k i, h.pkt.same p = true → h.checked = true) (he : s.entersMesh p = false) :
    s.routerPacket k i p = s.sendOne k (p.output k) := by
  simp [State.routerPacket, find?_unchecked_eq_none hc, List.any_eq_true.mpr hm, he]

section Fresh

variable (hf : ∀ h ∈ s.routerInput k i, h.pkt.same p = false)
include hf

/-- A packet that the input does not hold and does not admit waits outside; channels 2 and 3 count it. -/
theorem State.routerPacket_outside (ha : admits (s.routerInput k i) p = false) :
    s.routerPacket k i p = if 2 ≤ p.vc then s.count k 0x0015 1 else s := by
  simp [State.routerPacket, find?_unchecked_of_fresh hf, any_same_of_fresh hf, ha]

/-- A packet that the input admits ends at its check. -/
theorem State.routerPacket_ends {t : State} (ha : admits (s.routerInput k i) p = true) (ht : s.checkFlits k i p = (t, none)) :
    s.routerPacket k i p = t := by
  simp [State.routerPacket, find?_unchecked_of_fresh hf, any_same_of_fresh hf, ha, ht]

/-- A packet that the input admits and that passes its check goes in at the end, and its output sends. -/
theorem State.routerPacket_enters {t : State} {q : Packet} (ha : admits (s.routerInput k i) p = true)
    (ht : s.checkFlits k i p = (t, some q)) :
    s.routerPacket k i p = (t.setInput k i (putPacket (s.routerInput k i) q true)).sendOne k (q.output k) := by
  simp [State.routerPacket, find?_unchecked_of_fresh hf, any_same_of_fresh hf, ha, ht]

end Fresh

/-- Settles O30: a packet by the side that dimension order gives it, a router's input by whether it holds the packet, and whether it
has checked it. -/
theorem meshRouters : Obligations.MeshRouters := by
  unfold Obligations.MeshRouters
  refine ⟨fun p k hk hd => ⟨Packet.output_nearer hk hd, Packet.output_local⟩, fun s k i p hk hi hr hp => ?_⟩
  have router {t : State} (ht : s.routerPacket k i p = t) : exec (.routerPacket k i p) s = .next t :=
    (execRouterPacket_good hk hi hr hp).trans (congrArg _ ht)
  refine ⟨fun hm hc he => router (State.routerPacket_held hm hc he), fun h rest hb hc hs => ⟨fun he => ?_, fun q hq => ?_⟩,
    fun hf ha => router (State.routerPacket_outside hf ha), fun hf ha => ⟨fun he => ⟨?_, ?_⟩, fun q hq => ?_⟩⟩
  · exact router (State.routerPacket_head_ends hb hc hs (Prod.ext rfl he))
  · exact router (State.routerPacket_head_passes hb hc hs (Prod.ext rfl hq))
  · exact State.checkFlits_none_iff.mp he
  · exact router (State.routerPacket_ends hf ha (Prod.ext rfl he))
  · exact router (State.routerPacket_enters hf ha (Prod.ext rfl hq))

end Sys2Proof.Machine
end

section
/-! Requests at a memory station, and its scrubber (R306, R313, R316, R324, R326 to R331). -/

namespace Sys2Proof.Machine

variable {s t : State} {a n : Nat} {bs d : List Byte}

/-! ### Whether a station takes a request (R331) -/

theorem State.stationServes_iff : s.stationServes a = true ↔
    s.platform.rails = true ∧ (s.station (stationOf a)).trained = true ∧ (s.station (stationOf a)).selfRefresh = false := by
  simp [State.stationServes, and_assoc]

/-- A request that may use no reserve finds a tracker where the shared pool is not empty. -/
theorem State.stationAdmits_other_iff : s.stationAdmits a .other = true ↔
    (s.station (stationOf a)).inUse - (s.station (stationOf a)).inFirmware - (s.station (stationOf a)).inEngine <
      if stationOf a < 6 then 1792 else 768 := by
  have share : (trackerShare (stationOf a)).1 = if stationOf a < 6 then 1792 else 768 := by
    simp only [trackerShare, apply_ite Prod.fst]
  rw [← share]
  simp only [State.stationAdmits, MemStation.take]
  split_ifs with h <;> simp [h]

/-- Whether the station of a line takes a read or a write of it now. -/
def State.takesRequest (s : State) (a : Nat) : Prop := s.stationServes a = true ∧ s.stationAdmits a .other = true

theorem State.takesRequest_iff : s.takesRequest a ↔
    s.platform.rails = true ∧ (s.station (stationOf a)).trained = true ∧ (s.station (stationOf a)).selfRefresh = false ∧
      (s.station (stationOf a)).inUse - (s.station (stationOf a)).inFirmware - (s.station (stationOf a)).inEngine <
        if stationOf a < 6 then 1792 else 768 := by
  simp only [State.takesRequest, State.stationServes_iff, State.stationAdmits_other_iff, and_assoc]

/-- Whether a request is taken depends on the rails and on the station alone, of which its peak and its counts do not matter. -/
theorem State.takesRequest_congr (hr : t.platform.rails = s.platform.rails)
    (hs : ∃ p c, t.station (stationOf a) = { s.station (stationOf a) with peak := p, corrected := c }) :
    t.takesRequest a ↔ s.takesRequest a := by
  obtain ⟨p, c, e⟩ := hs
  simp only [State.takesRequest_iff, hr, e]

/-! ### Reads and writes of a line (R306, R313, R316, R324, R331) -/

theorem execMemoryRead_unlined (hl : (regionOf a).lined = false) : execMemoryRead a s = .next { s with reply := .unsupported } := by
  simp [execMemoryRead, hl]

theorem execMemoryRead_waits (hl : (regionOf a).lined = true) (hs : ¬ s.takesRequest a) : execMemoryRead a s = .next s := by
  have waits : (!s.stationServes a || !s.stationAdmits a .other) = true := by
    simpa [State.takesRequest, imp_iff_not_or] using hs
  simp [execMemoryRead, hl, waits]

theorem execMemoryRead_data (hl : (regionOf a).lined = true) (hs : s.takesRequest a)
    (hd : (s.tracked a).readUnit (a / 64 * 64) = (t, some d)) : execMemoryRead a s = .next { t with reply := .data d } := by
  simp [execMemoryRead, hl, hs.1, hs.2, hd]

theorem execMemoryRead_poisoned (hl : (regionOf a).lined = true) (hs : s.takesRequest a)
    (hd : (s.tracked a).readUnit (a / 64 * 64) = (t, none)) : execMemoryRead a s = .next { t with reply := .poisonedData 64 } := by
  simp [execMemoryRead, hl, hs.1, hs.2, hd]

theorem execMemoryWrite_unlined (hl : (regionOf a).lined = false) :
    execMemoryWrite a bs s = .next { s with reply := .unsupported } := by
  simp [execMemoryWrite, hl]

theorem execMemoryWrite_taken (hl : (regionOf a).lined = true) (he : (regionOf (a + bs.length - 1)).lined = true)
    (hw : oneWindow a bs.length = true) (hs : s.takesRequest a) : execMemoryWrite a bs s =
      .next { (s.writeLocal a bs).1 with reply := if (s.writeLocal a bs).2 then .written else .abort } := by
  simp [execMemoryWrite, hl, he, hw, hs.1, hs.2]

/-- A request of HBM or the Larder notes its station's new peak. -/
theorem State.tracked_lined (hl : (regionOf a).lined = true) : s.tracked a =
    if (s.station (stationOf a)).peak ≤ (s.station (stationOf a)).inUse
      then s.setStation (stationOf a) { s.station (stationOf a) with peak := (s.station (stationOf a)).inUse + 1 } else s := by
  simp [State.tracked, hl]

/-! ### The scrubber (R326 to R329) -/

/-- Only an HBM station can have nothing to scrub: a Larder station has its internal entry (R327). -/
theorem append_internalRange_eq_nil_iff {rs : List (Nat × Nat)} : rs ++ internalRange n = [] ↔ rs = [] ∧ n < 8 := by
  simp [internalRange]

theorem execScrubRead_serving (hn : n < 6 ∨ n = 8 ∨ n = 9) (hr : s.platform.rails = true) (ht : (s.station n).trained = true)
    (hs : (s.station n).selfRefresh = false) : execScrubRead n s = .next (s.scrub n) := by
  have present : (decide (n < 6) || decide (n = 8) || decide (n = 9)) = true := by simpa [or_assoc] using hn
  simp [execScrubRead, unit, present, hr, ht, hs]

theorem State.scrub_rangeless (h : (s.station n).ranges = [] ∧ n < 8) :
    s.scrub n = s.setStation n { s.station n with pointer := none, lapRanges := [] } := by
  rw [State.scrub, if_pos (append_internalRange_eq_nil_iff.mpr h), State.modStation]

/-- The state once the lap under way, or one that starts now, stands in the station's record. -/
def State.inLap (s : State) (n : Nat) : State := s.setStation n ((s.station n).startLap n)

theorem State.scrub_ends (h : ¬ ((s.station n).ranges = [] ∧ n < 8))
    (hl : nextLine n (((s.station n).startLap n).pointer.getD 0) ((s.station n).startLap n).lapRanges = none) :
    s.scrub n = (s.inLap n).endLap n := by
  rw [State.scrub, if_neg (append_internalRange_eq_nil_iff.not.mpr h)]
  simp only [hl, State.inLap]

/-- The state once the scrubber has read the line of its lap at `a`. -/
def State.scrubbed (s : State) (n a : Nat) : State :=
  ((s.inLap n).scrubLine n a).modStation n fun m => { m with pointer := some (a + 64) }

theorem State.scrub_reads (h : ¬ ((s.station n).ranges = [] ∧ n < 8))
    (hl : nextLine n (((s.station n).startLap n).pointer.getD 0) ((s.station n).startLap n).lapRanges = some a) :
    s.scrub n = if nextLine n (a + 64) ((s.scrubbed n a).station n).lapRanges = none
      then (s.scrubbed n a).endLap n else s.scrubbed n a := by
  rw [State.scrub, if_neg (append_internalRange_eq_nil_iff.not.mpr h)]
  simp only [hl]
  exact if_congr Option.isNone_iff_eq_none rfl rfl

/-- The count of lines that the scrubber of a station could not correct (R328). -/
def State.scrubCounted (s : State) (n : Nat) : State :=
  s.modStation n fun m => { m with scrubUncorr := satInc 0xFFFF m.scrubUncorr }

theorem State.scrubLine_written (h : ∀ i < 64, (s.byteAt (a + i)).isSome = true) : s.scrubLine n a =
    if (s.readUnit a 1).2 = none then (s.readUnit a 1).1.scrubCounted n else (s.readUnit a 1).1 := by
  have all : ((List.range 64).all fun i => (s.byteAt (a + i)).isSome) = true := by simpa using h
  rw [State.scrubLine, State.scrubUnit, if_pos all]
  cases (s.readUnit a 1).2 <;> rfl

theorem State.scrubLine_unwritten (h : ¬ ∀ i < 64, (s.byteAt (a + i)).isSome = true) :
    s.scrubLine n a = (s.uncorrectable a 1).scrubCounted n := by
  have all : ¬ ((List.range 64).all fun i => (s.byteAt (a + i)).isSome) = true := by simpa using h
  rw [State.scrubLine, State.scrubUnit, if_neg all]
  rfl

/-- Settles O31: a request by its region and by whether its station takes it, a scrub read by what is left of the lap and by whether
its line was written. -/
theorem memoryCommands : Obligations.MemoryCommands := by
  unfold Obligations.MemoryCommands
  refine ⟨fun s a bs hl => ⟨execMemoryRead_unlined hl, execMemoryWrite_unlined hl⟩, fun s a bs hl => ?_,
    fun s n hn hr ht hs => ?_⟩
  · refine ⟨fun h => execMemoryRead_waits hl (State.takesRequest_iff.not.mpr h), fun h => ⟨fun t d hd => ?_, fun t hd => ?_⟩,
      fun h he hw => execMemoryWrite_taken hl he hw (State.takesRequest_iff.mpr h)⟩
    all_goals rw [← State.tracked_lined hl] at hd
    · exact execMemoryRead_data hl (State.takesRequest_iff.mpr h) hd
    · exact execMemoryRead_poisoned hl (State.takesRequest_iff.mpr h) hd
  · have scrubs {t : State} (h : s.scrub n = t) : exec (.scrubRead n) s = .next t :=
      (execScrubRead_serving hn hr ht hs).trans (congrArg _ h)
    exact ⟨fun h => scrubs (State.scrub_rangeless h), fun h hl => scrubs (State.scrub_ends h hl),
      fun h a hl => scrubs (State.scrub_reads h hl), fun a => ⟨State.scrubLine_written, State.scrubLine_unwritten⟩⟩

end Sys2Proof.Machine
end

section
/-! What an interrupt and an error-log entry change (R402, R497, R585, R596). -/

namespace Sys2Proof.Machine

variable {s : State}

/-- An MSI-X message is sent or pends: of the state only these two lists change. -/
theorem State.sendMsix_eq (s : State) (v : Nat) :
    ∃ p m, s.sendMsix v = { s with host := { s.host with msixPend := p, msix := m } } := by
  simp only [State.sendMsix]
  split_ifs
  · exact ⟨s.host.msixPend, s.host.msix, rfl⟩
  · exact ⟨_, s.host.msix, rfl⟩
  · exact ⟨s.host.msixPend, _, rfl⟩

/-- An event sets its bit of IRQ_STATUS and may send a message. -/
theorem State.raise_eq (s : State) (n : Nat) : ∃ i p m,
    s.raise n = { s with regs := { s.regs with irqStatus := i }, host := { s.host with msixPend := p, msix := m } } := by
  simp only [State.raise]
  split_ifs
  · exact ⟨s.regs.irqStatus, s.host.msixPend, s.host.msix, rfl⟩
  · obtain ⟨p, m, h⟩ := State.sendMsix_eq { s with regs := { s.regs with irqStatus := s.regs.irqStatus + 2 ^ n } } (s.irqVector n)
    exact ⟨_, p, m, h⟩
  · exact ⟨_, s.host.msixPend, s.host.msix, rfl⟩

@[simp] theorem State.raise_platform (s : State) (n : Nat) : (s.raise n).platform = s.platform := by
  obtain ⟨i, p, m, h⟩ := s.raise_eq n
  rw [h]

@[simp] theorem State.raise_upsets (s : State) (n : Nat) : (s.raise n).upsets = s.upsets := by
  obtain ⟨i, p, m, h⟩ := s.raise_eq n
  rw [h]

@[simp] theorem State.raise_mem (s : State) (n : Nat) : (s.raise n).mem = s.mem := by
  obtain ⟨i, p, m, h⟩ := s.raise_eq n
  rw [h]

@[simp] theorem State.raise_errContained (s : State) (n : Nat) : (s.raise n).host.errContained = s.host.errContained := by
  obtain ⟨i, p, m, h⟩ := s.raise_eq n
  rw [h]

@[simp] theorem State.raise_station (s : State) (n k : Nat) : (s.raise n).station k = s.station k := by
  obtain ⟨i, p, m, h⟩ := s.raise_eq n
  rw [h]
  rfl

/-- The local address of the error log's entry with a sequence (R596). -/
def errorLogAddr (seq : Nat) : Nat := 0x010004000000 + 64 * ((seq - 1) % 2 ^ 18)

@[simp] theorem ErrEntry.bytes_length (e : ErrEntry) (n : Nat) : (e.bytes n).length = 64 := by
  simp [ErrEntry.bytes, zeros]

/-- The host station once it has counted a logged error by its class (R502, R585). -/
def HostStation.countError (h : HostStation) (c : ErrClass) : HostStation :=
  let h := { h with errNewest := h.errNewest + 1 }
  match c with
  | .corrected => { h with errCorrected := satInc (2 ^ 32 - 1) h.errCorrected }
  | .contained => { h with errContained := satInc (2 ^ 32 - 1) h.errContained }
  | .fatal => { h with errFatal := satInc (2 ^ 32 - 1) h.errFatal, errFatalSeq := some h.errNewest }
  | .test => h

/-- The state once a logged error stands in the error log and is counted, before its event is raised. -/
def State.entered (s : State) (e : ErrEntry) : State :=
  { s.putWhole (errorLogAddr (s.host.errNewest + 1)) (e.bytes (s.host.errNewest + 1)) with
    host := s.host.countError e.cls
    mgmt := if e.cls = .fatal then { s.mgmt with countFatal := s.mgmt.countFatal + 1 } else s.mgmt }

theorem State.logError_eq (s : State) (e : ErrEntry) : s.logError e = (s.entered e).raise 4 := by
  obtain ⟨cls, code, action, kind, unit, slot, replica, phase, epoch, info, address, seq⟩ := e
  cases cls <;> rfl

@[simp] theorem State.logError_platform (s : State) (e : ErrEntry) : (s.logError e).platform = s.platform := by
  rw [s.logError_eq, State.raise_platform]
  rfl

@[simp] theorem State.logError_station (s : State) (e : ErrEntry) (n : Nat) : (s.logError e).station n = s.station n := by
  rw [s.logError_eq, State.raise_station]
  rfl

theorem State.logError_upsets_subset (s : State) (e : ErrEntry) : (s.logError e).upsets ⊆ s.upsets := by
  rw [s.logError_eq, State.raise_upsets]
  exact List.filter_subset_self _

/-- An address outside the region of the error log (R317). -/
def OffErrorLog (b : Nat) : Prop := b < 0x010004000000 ∨ 0x010005000000 ≤ b

/-- Outside the error log no byte of memory changes. -/
theorem State.logError_mem (s : State) (e : ErrEntry) {b : Nat} (hb : OffErrorLog b) :
    Mem.get memBackground (s.logError e).mem b = Mem.get memBackground s.mem b := by
  rw [s.logError_eq, State.raise_mem]
  refine Mem.get_write_outside _ _ _ _ _ ?_
  rw [ErrEntry.bytes_length, errorLogAddr]
  unfold OffErrorLog at hb
  omega

theorem State.logError_contained (s : State) {e : ErrEntry} (hc : e.cls = .contained) :
    (s.logError e).host.errContained = satInc (2 ^ 32 - 1) s.host.errContained := by
  rw [s.logError_eq, State.raise_errContained]
  simp only [State.entered, hc, HostStation.countError]

end Sys2Proof.Machine
end

section
/-! A line of HBM that is written and read back, and one with an uncorrectable upset (R313, R316, R323, R324, R585). -/

namespace Sys2Proof.Machine

variable {s t u : State} {a : Nat} {bs : List Byte}

/-! ### Lines of HBM -/

theorem lined_of_hbm (h : regionOf a = .hbm) : (regionOf a).lined = true := by
  rw [h]
  rfl

theorem lt_of_regionOf_hbm (h : regionOf a = .hbm) : a < 0x004800000000 := by
  by_contra hn
  rw [regionOf, if_neg hn] at h
  refine absurd h ?_
  repeat' refine iteInduction (motive := (· ≠ Region.hbm)) (fun _ => ?_) fun _ => ?_
  all_goals exact Region.noConfusion

/-- A line of HBM lies in HBM with all its bytes. -/
theorem regionOf_line (h0 : a % 64 = 0) (h : regionOf a = .hbm) {i : Nat} (hi : i < 64) : regionOf (a + i) = .hbm := by
  have := lt_of_regionOf_hbm h
  exact regionOf_hbm (by omega)

theorem unitSize_hbm (h : regionOf a = .hbm) : unitSize a = 64 := by
  simp [unitSize, h, Region.lined]

theorem State.byteAt_hbm (h : regionOf a = .hbm) : s.byteAt a = Mem.get memBackground s.mem a := by
  simp [State.byteAt, h]

theorem State.correct_hbm (h : regionOf a = .hbm) (v : Upset) : s.correct a v =
    (State.modStation { s with upsets := s.upsets.filter fun w => w ≠ v } (stationOf a) fun m =>
      { m with corrected := satInc (2 ^ 16 - 1) m.corrected }).correctedError 0x0006 6 (stationOf a) a := by
  rw [State.correct, h]

/-! ### What serving a line leaves as it is -/

/-- What the station of a line keeps while it serves the line: of the station only its peak and its corrections count on, no flipped bit
comes, and of memory only the error log is written. -/
structure State.Served (a : Nat) (s t : State) : Prop where
  platform : t.platform = s.platform
  station : ∃ p c, t.station (stationOf a) = { s.station (stationOf a) with peak := p, corrected := c }
  upsets : t.upsets ⊆ s.upsets
  mem : ∀ b, OffErrorLog b → Mem.get memBackground t.mem b = Mem.get memBackground s.mem b

namespace State.Served

theorem refl (s : State) : State.Served a s s :=
  ⟨rfl, ⟨_, _, rfl⟩, List.Subset.refl _, fun _ _ => rfl⟩

theorem trans (h : State.Served a s t) (k : State.Served a t u) : State.Served a s u := by
  obtain ⟨p, c, e⟩ := h.station
  obtain ⟨p', c', e'⟩ := k.station
  exact ⟨k.platform.trans h.platform, ⟨p', c', by rw [e', e]⟩, List.Subset.trans k.upsets h.upsets,
    fun b hb => (k.mem b hb).trans (h.mem b hb)⟩

/-- A station that served a request still takes requests. -/
theorem takesRequest (h : State.Served a s t) (hs : s.takesRequest a) : t.takesRequest a :=
  (State.takesRequest_congr (by rw [h.platform]) h.station).mpr hs

theorem logError (s : State) (e : ErrEntry) : State.Served a s (s.logError e) :=
  ⟨s.logError_platform e, ⟨_, _, s.logError_station e _⟩, s.logError_upsets_subset e, fun _ => s.logError_mem e⟩

/-- The host station is no part of what serving a line must keep. -/
theorem host (s : State) (h : HostStation) : State.Served a s { s with host := h } :=
  ⟨rfl, ⟨_, _, rfl⟩, List.Subset.refl _, fun _ _ => rfl⟩

theorem correctedError (s : State) (code kind n x : Nat) : State.Served a s (s.correctedError code kind n x) := by
  simp only [State.correctedError]
  split_ifs
  · exact (State.Served.host s _).trans (State.Served.logError ..)
  · exact State.Served.host s _

/-- Counting a correction at the line's station, with some flipped bits gone. -/
theorem counted (s : State) (l : List Upset) (hl : l ⊆ s.upsets) : State.Served a s
    (State.modStation { s with upsets := l } (stationOf a) fun m => { m with corrected := satInc (2 ^ 16 - 1) m.corrected }) :=
  ⟨rfl, ⟨(s.station (stationOf a)).peak, satInc (2 ^ 16 - 1) (s.station (stationOf a)).corrected, State.station_modStation ..⟩, hl,
    fun _ _ => rfl⟩

theorem correct (h : regionOf a = .hbm) (v : Upset) : State.Served a s (s.correct a v) := by
  rw [State.correct_hbm h]
  exact (State.Served.counted s _ (List.filter_subset_self _)).trans (State.Served.correctedError ..)

theorem linkFixed (h : regionOf a = .hbm) : State.Served a s (s.linkFixed a) := by
  rw [State.linkFixed]
  split_ifs
  · exact .correct h _
  · exact .refl s

theorem clearUpset (s : State) : State.Served a s (s.clearUpset a) :=
  ⟨rfl, ⟨_, _, rfl⟩, List.filter_subset_self _, fun _ _ => rfl⟩

theorem tracked (s : State) : State.Served a s (s.tracked a) := by
  simp only [State.tracked]
  split_ifs
  · exact ⟨rfl, ⟨_, _, State.station_setStation ..⟩, List.Subset.refl _, fun _ _ => rfl⟩
  · exact .refl s

end State.Served

@[simp] theorem State.tracked_mem (s : State) (a : Nat) : (s.tracked a).mem = s.mem := by
  simp only [State.tracked]
  split_ifs <;> rfl

@[simp] theorem State.tracked_host (s : State) (a : Nat) : (s.tracked a).host = s.host := by
  simp only [State.tracked]
  split_ifs <;> rfl

@[simp] theorem State.tracked_upsets (s : State) (a : Nat) : (s.tracked a).upsets = s.upsets := by
  simp only [State.tracked]
  split_ifs <;> rfl

/-! ### Reading a line with no flipped bit -/

/-- No flipped bit lies in the protection unit at an address. -/
def State.CleanAt (s : State) (a : Nat) : Prop := s.upsetAt a = false ∧ ∀ v ∈ s.upsets, v.correctable a = false

theorem State.CleanAt.of_upsets (h : s.CleanAt a) (ht : t.upsets = s.upsets) : t.CleanAt a := by
  simpa only [State.CleanAt, State.upsetAt, ht] using h

/-- A line of HBM with no flipped bit in it and every byte written reads as those bytes, and nothing changes. -/
theorem State.readUnit_clean (h : regionOf a = .hbm) (hc : s.CleanAt a) (hl : bs.length = 64)
    (hb : ∀ i, i < 64 → s.byteAt (a + i) = bs[i]?) : s.readUnit a = (s, some bs) := by
  have written : ((List.range 64).all fun i => (s.byteAt (a + i)).isSome) = true := by
    simp only [List.all_eq_true, List.mem_range]
    intro i hi
    rw [hb i hi, List.getElem?_eq_getElem (by omega)]
    rfl
  have data : s.unitData a 64 = bs := by
    apply List.ext_getElem
    · simp [State.unitData, hl]
    · intro i hi hj
      simp only [State.unitData, List.getElem_map, List.getElem_range, hb i (by omega), List.getElem?_eq_getElem hj]
  simp only [State.readUnit, unitSize_hbm h, hc.1, State.correctAll_clean hc.2, written, data, if_true, if_false,
    Bool.false_eq_true]

/-! ### Writing a whole line -/

/-- The link errors of a line that it is written over are gone. -/
theorem State.linkError_notMem_linkFixed (h : regionOf a = .hbm) : .linkError a ∉ (s.linkFixed a).upsets := by
  rw [State.linkFixed]
  split_ifs with hm
  · rw [State.correct_hbm h]
    intro hin
    have left := (State.Served.correctedError (a := a) ..).upsets hin
    simp at left
  · exact hm

/-- A write over a line of HBM takes every flipped bit out of it, of which link errors have been corrected before. -/
theorem State.clearUpset_clean (h : regionOf a = .hbm) (hk : .linkError a ∉ s.upsets) : (s.clearUpset a).CleanAt a := by
  have kept : ∀ v ∈ (s.clearUpset a).upsets, v ∈ s.upsets ∧ _ := fun v hv => List.mem_filter.mp hv
  refine ⟨?_, fun v hv => ?_⟩
  · simp only [State.upsetAt, List.any_eq_false]
    intro v hv
    have := (kept v hv).2
    cases v with
    | sliceWord x c => cases c <;> simp_all
    | coreWord c o k => cases k <;> simp [h]
    | _ => simp_all
  · obtain ⟨hm, hf⟩ := kept v hv
    cases v with
    | linkError x => simpa [Upset.correctable] using fun hx : x = a => hk (hx ▸ hm)
    | sliceWord x c => cases c <;> simp_all [Upset.correctable]
    | coreWord c o k => cases k <;> simp [Upset.correctable, h]
    | _ => simp_all [Upset.correctable]

/-- The state in which the station of a line writes it: the tracker is noted, link errors are corrected, other flipped bits are gone. -/
def State.forWrite (s : State) (a : Nat) : State := ((s.tracked a).linkFixed a).clearUpset a

theorem State.forWrite_served (h : regionOf a = .hbm) : State.Served a s (s.forWrite a) :=
  ((State.Served.tracked s).trans (.linkFixed h)).trans (.clearUpset _)

@[simp] theorem State.writeUnits_nil (s : State) (k a : Nat) : s.writeUnits k a [] = (s, true) := by
  cases k <;> simp [State.writeUnits]

theorem State.writeUnit_line (h : regionOf a = .hbm) (hl : bs.length = 64) :
    (s.tracked a).writeUnit a 0 bs = ((s.forWrite a).poke a bs, true) := by
  simp [State.writeUnit, unitSize_hbm h, hl, State.setBytes, h, State.forWrite]

/-- A write of a whole line of HBM puts its bytes into memory. -/
theorem State.writeLocal_line (h0 : a % 64 = 0) (h : regionOf a = .hbm) (hl : bs.length = 64) :
    s.writeLocal a bs = ((s.forWrite a).poke a bs, true) := by
  have hne : bs ≠ [] := by
    rintro rfl
    simp at hl
  rw [State.writeLocal, State.writeUnits, if_neg hne]
  simp only [unitSize_hbm h, h0, Nat.sub_zero, List.take_of_length_le hl.le, List.drop_of_length_le hl.le,
    State.writeUnit_line h hl, State.writeUnits_nil, Bool.and_self]

theorem execMemoryWrite_line (h0 : a % 64 = 0) (h : regionOf a = .hbm) (hl : bs.length = 64) (hs : s.takesRequest a) :
    execMemoryWrite a bs s = .next { (s.forWrite a).poke a bs with reply := .written } := by
  have last : regionOf (a + bs.length - 1) = .hbm := by
    rw [hl]
    exact regionOf_line h0 h (i := 63) (by omega)
  have window : oneWindow a bs.length = true := by
    rw [oneWindow, last, h, hl]
    rfl
  rw [execMemoryWrite_taken (lined_of_hbm h) (lined_of_hbm last) window hs, State.writeLocal_line h0 h hl]
  rfl

/-- A line of HBM reads as what was written to it. -/
theorem State.readUnit_written (h0 : a % 64 = 0) (h : regionOf a = .hbm) (hl : bs.length = 64) (hc : s.CleanAt a)
    (hm : ∃ m, s.mem = Mem.write memBackground m a bs) : s.readUnit a = (s, some bs) := by
  obtain ⟨m, hm⟩ := hm
  refine State.readUnit_clean h hc hl fun i hi => ?_
  rw [State.byteAt_hbm (regionOf_line h0 h hi), hm, Mem.get_write_inside _ _ _ _ _ (by omega) (by omega)]
  simp [hl ▸ hi]

/-- Bytes in memory and what stands as the answer do not matter to whether a station takes requests. -/
theorem State.takesRequest_poke (s : State) (b : Nat) (bs : List Byte) (r : Reply) :
    State.takesRequest { s.poke b bs with reply := r } a ↔ s.takesRequest a := Iff.rfl

/-! ### A line with an uncorrectable upset -/

theorem State.readUnit_upset (hu : .line a ∈ s.upsets) : s.readUnit a = (s.uncorrectable a 0, none) := by
  have hit : s.upsetAt a = true := List.any_eq_true.mpr ⟨_, hu, by simp⟩
  simp only [State.readUnit, hit, if_true]

/-- A station's record once it has met an uncorrectable line (R313, R333). -/
def MemStation.metUncorrectable (m : MemStation) (a flags : Nat) : MemStation :=
  { m with uncorrectable := satInc (2 ^ 16 - 1) m.uncorrectable, errLast := some (a, flags) }

/-- An uncorrectable line of HBM is counted and recorded at its station, and logged as a contained error. -/
theorem State.uncorrectable_hbm (h : regionOf a = .hbm) (flags : Nat) : s.uncorrectable a flags =
    (s.modStation (stationOf a) fun m => m.metUncorrectable a flags).logError
      { cls := .contained, code := 0x0006, unitKind := 6, unit := stationOf a, address := a } := by
  simp [State.uncorrectable, h, Region.lined, MemStation.metUncorrectable]

/-- What an uncorrectable line of HBM leaves of its station: the record with the line in it. -/
theorem State.uncorrectable_station (h : regionOf a = .hbm) (flags : Nat) :
    (s.uncorrectable a flags).station (stationOf a) = (s.station (stationOf a)).metUncorrectable a flags := by
  rw [State.uncorrectable_hbm h, State.logError_station, State.station_modStation]

theorem State.uncorrectable_contained (h : regionOf a = .hbm) (flags : Nat) :
    (s.uncorrectable a flags).host.errContained = satInc (2 ^ 32 - 1) s.host.errContained := by
  rw [State.uncorrectable_hbm h]
  exact State.logError_contained _ rfl

theorem State.uncorrectable_mem (h : regionOf a = .hbm) (flags : Nat) {b : Nat} (hb : OffErrorLog b) :
    Mem.get memBackground (s.uncorrectable a flags).mem b = Mem.get memBackground s.mem b := by
  rw [State.uncorrectable_hbm h]
  exact State.logError_mem _ _ hb

/-! ### The obligation -/

/-- A station delivers what was written to a line that has no flipped bit. -/
theorem execMemoryRead_written (h0 : a % 64 = 0) (h : regionOf a = .hbm) (hl : bs.length = 64) (hs : s.takesRequest a)
    (hc : s.CleanAt a) (hm : ∃ m, s.mem = Mem.write memBackground m a bs) :
    execMemoryRead a s = .next { s.tracked a with reply := .data bs } := by
  have line : a / 64 * 64 = a := by omega
  refine execMemoryRead_data (lined_of_hbm h) hs ?_
  rw [line]
  exact State.readUnit_written h0 h hl (hc.of_upsets (s.tracked_upsets a)) (by rwa [State.tracked_mem])

/-- Settles O32: a write takes the flipped bits out of the line before it puts the bytes there, and what it logs goes to the error log;
an uncorrectable line is counted, recorded and logged. -/
theorem memoryReadsBack : Obligations.MemoryReadsBack := by
  unfold Obligations.MemoryReadsBack
  refine ⟨fun s t a bs h0 h hl hs ha ht => ?_, fun s a h0 h hs ha hu => ?_⟩
  · rw [exec_memoryWrite, execMemoryWrite_line h0 h hl ⟨hs, ha⟩] at ht
    obtain rfl := Host.Outcome.next.inj ht
    have served : State.Served a s (s.forWrite a) := State.forWrite_served h
    have clean : (s.forWrite a).CleanAt a := State.clearUpset_clean h (State.linkError_notMem_linkFixed h)
    have serves := (State.takesRequest_poke (s.forWrite a) a bs .written).mpr (served.takesRequest ⟨hs, ha⟩)
    refine ⟨rfl, ⟨_, execMemoryRead_written h0 h hl serves (clean.of_upsets rfl) ⟨_, rfl⟩, rfl, State.tracked_mem ..⟩,
      fun b hb hoff => ?_⟩
    exact (Mem.get_write_outside _ _ _ _ _ (hl.symm ▸ hb)).trans (served.mem b hoff)
  · have line : a / 64 * 64 = a := by omega
    have served : State.Served a s (s.tracked a) := State.Served.tracked s
    obtain ⟨p, c, hp⟩ := served.station
    have poisoned : (s.tracked a).readUnit (a / 64 * 64) = ((s.tracked a).uncorrectable a 0, none) := by
      rw [line]
      exact State.readUnit_upset (by rwa [State.tracked_upsets])
    have recorded := State.uncorrectable_station (s := s.tracked a) h 0
    refine ⟨_, execMemoryRead_poisoned (lined_of_hbm h) ⟨hs, ha⟩ poisoned, rfl, ?_, ?_, ?_, fun b hb => ?_⟩
    · exact (State.uncorrectable_contained h 0).trans (by rw [State.tracked_host])
    · exact (congrArg MemStation.uncorrectable recorded).trans (by rw [hp]; rfl)
    · exact congrArg MemStation.errLast recorded
    · exact (State.uncorrectable_mem h 0 hb).trans (by rw [State.tracked_mem])

end Sys2Proof.Machine
end

section
/-! How far the start-up has come, and what leaves that as it is: logs, events, completions, slot faults, self-test and bring-up of
ports. -/

namespace Sys2Proof.Machine

/-- How far the start-up has come: supplies and resets, the firmware images, the entropy source. -/
def State.startUp (s : State) : Platform × RootOfTrust × EntState := (s.platform, s.rot, s.entropy.state)

/-! ### Events and logs -/

@[simp] theorem State.sendMsix_startUp (s : State) (v : Nat) : (s.sendMsix v).startUp = s.startUp := by
  obtain ⟨p, m, h⟩ := s.sendMsix_eq v
  rw [h]
  rfl

@[simp] theorem State.raise_startUp (s : State) (n : Nat) : (s.raise n).startUp = s.startUp := by
  obtain ⟨i, p, m, h⟩ := s.raise_eq n
  rw [h]
  rfl

@[simp] theorem State.logError_startUp (s : State) (e : ErrEntry) : (s.logError e).startUp = s.startUp := by
  rw [State.logError_eq, State.raise_startUp]
  rfl

/-- An event of MG_EVENT is recorded by the management controller and changes nothing else, its count of boots neither. -/
theorem State.mgRaise_eq (s : State) (n : Nat) : ∃ m, s.mgRaise n = { s with mgmt := m } ∧ m.auxBoots = s.mgmt.auxBoots := by
  simp only [State.mgRaise, State.mgEvent]
  split_ifs
  · exact ⟨_, rfl, rfl⟩
  · exact ⟨_, rfl, rfl⟩
  · exact ⟨_, rfl, rfl⟩

@[simp] theorem State.mgRaise_startUp (s : State) (n : Nat) : (s.mgRaise n).startUp = s.startUp := by
  obtain ⟨m, h, -⟩ := s.mgRaise_eq n
  rw [h]
  rfl

@[simp] theorem State.mgRaise_platform (s : State) (n : Nat) : (s.mgRaise n).platform = s.platform :=
  congrArg Prod.fst (s.mgRaise_startUp n)

/-- A record of the management log changes the management controller alone, and not its count of boots. -/
theorem State.mgLog_eq (s : State) (k : Nat) (p : Bool) (d : List Byte) :
    ∃ m, s.mgLog k p d = { s with mgmt := m } ∧ m.auxBoots = s.mgmt.auxBoots := by
  simp only [State.mgLog]
  exact ⟨_, rfl, rfl⟩

@[simp] theorem State.mgLog_auxBoots (s : State) (k : Nat) (p : Bool) (d : List Byte) :
    (s.mgLog k p d).mgmt.auxBoots = s.mgmt.auxBoots := by
  obtain ⟨m, h, hb⟩ := s.mgLog_eq k p d
  rw [h, hb]

@[simp] theorem State.mgLog_startUp (s : State) (k : Nat) (p : Bool) (d : List Byte) : (s.mgLog k p d).startUp = s.startUp := by
  simp only [State.startUp, State.mgLog_platform, State.mgLog_rot, State.mgLog_entropy]

/-! ### Completions -/

@[simp] theorem State.mgmtStatus_startUp (s : State) (o : Order) (e : Ending) : (s.mgmtStatus o e).startUp = s.startUp := by
  simp only [State.mgmtStatus]
  split_ifs <;> rfl

@[simp] theorem State.hostStatus_startUp (s : State) (o : Order) (e : Ending) : (s.hostStatus o e).startUp = s.startUp := by
  simp only [State.hostStatus]
  split_ifs
  · exact State.sendMsix_startUp ..
  all_goals rfl

@[simp] theorem State.recordCommand_startUp (s : State) (o : Order) (e : Ending) : (s.recordCommand o e).startUp = s.startUp := by
  simp only [State.recordCommand]
  split_ifs <;> rfl

@[simp] theorem State.finish_startUp (s : State) (o : Order) (e : Ending) (accept : Nat) :
    (s.finish o e accept).startUp = s.startUp := by
  have closed (t : State) (a : Arbiter) (m : Mgmt) : State.startUp { t with arbiter := a, mgmt := m } = t.startUp := rfl
  have journalled (a : Nat) (bs : List Byte) : (s.putWhole a bs).startUp = s.startUp := rfl
  rw [State.finish, closed]
  split_ifs <;> simp only [State.mgmtStatus_startUp, State.mgLog_startUp, State.recordCommand_startUp, State.hostStatus_startUp,
    journalled]

@[simp] theorem State.finishId_startUp (s : State) (id : Nat) (e : Ending) : (s.finishId id e).startUp = s.startUp := by
  simp only [State.finishId]
  split
  · exact State.finish_startUp ..
  · rfl

/-! ### Slots -/

@[simp] theorem State.sendAll_startUp {α : Type} (m : α → Msg) (l : List α) (s : State) :
    (l.foldl (fun s p => s.send (m p)) s).startUp = s.startUp :=
  foldl_keeps State.startUp (f := fun s p => s.send (m p)) (fun _ _ => rfl) l s

@[simp] theorem State.finishAll_startUp (e : Ending) (l : List Nat) (s : State) :
    (l.foldl (fun s id => s.finishId id e) s).startUp = s.startUp :=
  foldl_keeps State.startUp (fun s id => s.finishId_startUp id e) l s

/-- A slot that freezes, takes a new record and has it noted is no part of the start-up. -/
@[simp] theorem State.frozen_startUp (s : State) (n : Nat) (x : Slot) (c : NotedChange) :
    ((((s.freezeSlot n).disarmSlot n).setSlot n x).note c).startUp = s.startUp := rfl

@[simp] theorem State.slotFault_startUp (s : State) (n status epoch : Nat) (notify : Bool) :
    (s.slotFault n status epoch notify).startUp = s.startUp := by
  cases ha : (s.slot n).active with
  | false => simp [State.slotFault, ha]
  | true =>
    cases hd : (s.slot n).drain with
    | none => cases notify <;> simp [State.slotFault, ha, hd]
    | some d => cases he : d.disableOrder <;> cases notify <;> simp [State.slotFault, ha, hd, he]

@[simp] theorem State.fatalSlot_startUp (s : State) (n : Nat) : (s.fatalSlot n).startUp = s.startUp := by
  simp only [State.fatalSlot]
  split_ifs
  · exact State.slotFault_startUp ..
  · exact State.frozen_startUp ..
  · rfl

/-- A fatal error marks the platform and leaves the rest of the start-up. -/
theorem State.fatalError_startUp (s : State) (code unitKind u : Nat) :
    (s.fatalError code unitKind u).startUp = ({ s.platform with fatal := true }, s.startUp.2) := by
  have kept : ((List.range 48).foldl (fun s n => s.fatalSlot n)
      (s.logError { cls := .fatal, code := code, action := 4, unitKind := unitKind, unit := u })).startUp = s.startUp :=
    (foldl_keeps State.startUp State.fatalSlot_startUp _ _).trans (s.logError_startUp _)
  have marked (t : State) (h : t.startUp = s.startUp) :
      State.startUp { t with platform := { t.platform with fatal := true } } = ({ s.platform with fatal := true }, s.startUp.2) :=
    congrArg (fun p : Platform × RootOfTrust × EntState => ({ p.1 with fatal := true }, p.2)) h
  exact marked _ kept

theorem State.fatalError_platform (s : State) (code unitKind u : Nat) :
    (s.fatalError code unitKind u).platform = { s.platform with fatal := true } := by
  have e := s.fatalError_startUp code unitKind u
  simp only [State.startUp, Prod.mk.injEq] at e
  exact e.1

@[simp] theorem State.abortOpen_startUp (s : State) (detail : Nat) : (s.abortOpen detail).startUp = s.startUp :=
  foldl_keeps State.startUp (fun _ _ => State.finish_startUp ..) _ s

@[simp] theorem State.endSlot_startUp (k : ResetKind) (s : State) (n : Nat) : (State.endSlot k s n).startUp = s.startUp := by
  simp only [State.endSlot]
  split_ifs
  · rfl
  · exact State.sendAll_startUp _ _ _

@[simp] theorem State.endSlots_startUp (s : State) (k : ResetKind) : (s.endSlots k).startUp = s.startUp :=
  foldl_keeps State.startUp (State.endSlot_startUp k) _ _

/-! ### Self-test and ports -/

theorem State.bistFail_startUp (failed : List Nat) (s : State) (c : Nat) : (State.bistFail failed s c).startUp = s.startUp := by
  simp only [State.bistFail]
  split
  · rfl
  · rfl
  · rfl
  · split <;> rfl

@[simp] theorem State.bistDone_startUp (s : State) (b : BistOutcome) : (s.bistDone b).startUp = s.startUp := by
  simp only [State.bistDone]
  rw [foldl_keeps State.startUp (State.bistFail_startUp _), foldl_keeps State.startUp]
  · rfl
  · intro t l
    split_ifs <;> rfl

@[simp] theorem State.enterPort_startUp (s : State) (p : Nat) (st : PortState) : (s.enterPort p st).startUp = s.startUp := by
  simp only [State.enterPort]
  split_ifs
  · exact State.raise_startUp ..
  · rfl

@[simp] theorem State.bringUp_startUp (s : State) (p : Nat) : (s.bringUp p).startUp = s.startUp := by
  simp only [State.bringUp]
  split_ifs
  · exact State.enterPort_startUp ..
  · exact State.enterPort_startUp ..

/-! ### The supervisor -/

/-- A step of the supervisor leaves the start-up as the change it makes does. -/
theorem State.supplyStep_startUp (s : State) (f : State → State) : (s.supplyStep f).startUp = (f s).startUp := by
  have applied (t : State) (mv : Nat) : (t.applyMv mv).startUp = t.startUp := by
    simp only [State.applyMv]
    split_ifs <;> rfl
  simp only [State.supplyStep]
  split_ifs <;> simp only [State.raise_startUp, State.mgRaise_startUp, applied]

@[simp] theorem State.parityReport_startUp (s : State) (domain inst : Nat) : (s.parityReport domain inst).startUp = s.startUp := by
  rw [State.parityReport, State.raise_startUp, State.logError_startUp]
  rfl

@[simp] theorem State.checkSupply_startUp (s : State) : s.checkSupply.startUp = s.startUp := by
  simp only [State.checkSupply]
  split_ifs
  · rw [State.parityReport_startUp, State.supplyStep_startUp]
    rfl
  · rfl

end Sys2Proof.Machine
end

section
/-! Power-up, training, the TRIAL time-out and supply resets (R319, R527, R528, R543 to R547, R550, R598, R599, R603). -/

namespace Sys2Proof.Machine

variable {s : State} {failed : List Nat} {b : BistOutcome}

/-! ### The running image (R526 to R528) -/

/-- A FW record changes the management controller alone. -/
theorem State.fwLog_eq (s : State) (event : Nat) (imageB : Bool) (cause : Nat) :
    ∃ m, s.fwLog event imageB cause = { s with mgmt := m } ∧ m.auxBoots = s.mgmt.auxBoots := by
  obtain ⟨m, h, hb⟩ := s.mgLog_eq 0x06 true (leBytes 1 event ++ leBytes 1 (bitOf imageB) ++ leBytes 1 cause)
  obtain ⟨m', h', hb'⟩ := State.mgRaise_eq { s with mgmt := m } 9
  exact ⟨m', by rw [State.fwLog, h, h'], hb'.trans hb⟩

/-- A TRIAL image that is given up is no longer the one to run. -/
def RootOfTrust.withoutTrial (r : RootOfTrust) : RootOfTrust :=
  { r.modRunning fun x => { x with trial := false, valid := false, cause := 7 } with runningB := !r.runningB }

/-- Giving a TRIAL image up changes the root of trust and the management controller alone. -/
theorem State.giveUpTrial_eq (s : State) : ∃ m, s.giveUpTrial =
    { s with rot := if s.rot.running.trial then s.rot.withoutTrial else s.rot, mgmt := m } ∧ m.auxBoots = s.mgmt.auxBoots := by
  rw [State.giveUpTrial]
  split_ifs with h
  · obtain ⟨m, e, hb⟩ := State.fwLog_eq { s with rot := s.rot.withoutTrial } 7 s.rot.runningB 7
    exact ⟨m, e, hb⟩
  · exact ⟨s.mgmt, rfl, rfl⟩

theorem State.giveUpTrial_runningB (h : s.rot.running.trial = true) : s.giveUpTrial.rot.runningB = !s.rot.runningB := by
  obtain ⟨m, e, -⟩ := s.giveUpTrial_eq
  rw [e, if_pos h]
  rfl

/-- Confirming a TRIAL image changes the root of trust and the management controller alone. -/
theorem State.confirmTrial_eq (s : State) : ∃ r m, s.confirmTrial = { s with rot := r, mgmt := m } := by
  rw [State.confirmTrial]
  split_ifs
  · exact ⟨_, (State.fwLog_eq ..).imp fun m h => h.1⟩
  · exact ⟨s.rot, s.mgmt, rfl⟩

/-! ### The TRIAL time-out (R528) -/

theorem State.restartChip_runningB (s : State) : s.restartChip.rot.runningB = s.rot.runningB := by
  rw [State.restartChip, State.bootLog, State.mgLog_rot]
  rfl

theorem State.restart_runningB (s : State) (k : ResetKind) (boot : Boot) (aligned : Bool) :
    (s.restart k boot aligned).rot.runningB = s.rot.runningB := by
  have kept : ((s.abortOpen k.detail).endSlots k).startUp = s.startUp := by simp
  have restarted (t : State) (h : t.startUp = s.startUp) : t.rot.restart.runningB = s.rot.runningB :=
    congrArg (fun p : Platform × RootOfTrust × EntState => p.2.1.runningB) h
  exact restarted _ kept

theorem State.supplyRestart_runningB (s : State) : s.supplyRestart.rot.runningB = s.rot.runningB :=
  congrArg (fun p : Platform × RootOfTrust × EntState => p.2.1.runningB)
    (s.supplyStep_startUp fun s => { s with supply := { s.supply with safeDefaults := false } })

/-- A restart of the module and of its controller changes no choice of the image that is to run. -/
theorem State.moduleRestart_runningB (s : State) : s.moduleRestart.rot.runningB = s.rot.runningB := by
  rw [State.moduleRestart, State.restartChip_runningB, State.supplyRestart_runningB, State.restart_runningB]

theorem execTrialTimeout_reverts (ha : s.platform.aux = true) (ht : s.rot.running.trial = true) (hb : s.platform.boot ≠ .ready) :
    ∃ t, execTrialTimeout s = .next t ∧ t.rot.runningB ≠ s.rot.runningB := by
  have flipped : s.giveUpTrial.rot.runningB ≠ s.rot.runningB := by simp [State.giveUpTrial_runningB ht]
  have due : (s.platform.aux && s.rot.running.trial && decide (s.platform.boot ≠ .ready)) = true := by simp [ha, ht, hb]
  refine ⟨_, congrArg Host.Outcome.next (if_pos due), ?_⟩
  split_ifs
  · rwa [State.moduleRestart_runningB]
  · rwa [State.restartChip_runningB]

theorem execTrialTimeout_confirmed (ht : s.rot.running.trial = false) : execTrialTimeout s = .next s := by
  simp [execTrialTimeout, ht]

/-! ### AUX_3V3 (R527, R547, R599, R603) -/

theorem execAux3v3Valid_boots (boot : BootOutcome) (h : s.platform.aux = false) : ∃ t, execAux3v3Valid boot s = .next t ∧
    t.platform.aux = true ∧ t.platform.mgmtReady = !t.rot.recovery ∧ t.platform.lastReset = 0 ∧
    t.mgmt.auxBoots = s.mgmt.auxBoots + 1 ∧ t.regs.locks = [] := by
  obtain ⟨m, e, hb⟩ := s.giveUpTrial_eq
  have boots : s.giveUpTrial.mgmt.auxBoots = s.mgmt.auxBoots := by rw [e, hb]
  refine ⟨_, congrArg Host.Outcome.next (if_neg (by simp [h])), ?_⟩
  simp only [State.bootLog, State.mgLog_platform, State.mgLog_rot, State.mgLog_regs, State.mgLog_auxBoots, boots,
    and_self]

/-- Nothing that hangs on MAIN_54V is left. -/
def State.Lost (t : State) : Prop :=
  t.platform.rails = false ∧ t.platform.boot = .off ∧ t.mem = [] ∧ t.cores = [] ∧ t.slots = [] ∧ t.net = []

theorem State.powerLoss_lost (s : State) : s.powerLoss.Lost := ⟨rfl, rfl, rfl, rfl, rfl, rfl⟩

theorem execAux3v3Loss_absent (h : s.platform.aux = false) : execAux3v3Loss s = .next s := by
  simp [execAux3v3Loss, h]

theorem execAux3v3Loss_lost (h : s.platform.aux = true) : ∃ t, execAux3v3Loss s = .next t ∧ t.Lost ∧ t.platform.aux = false ∧
    t.platform.mgmtReady = false ∧ t.mgmt.run = false := by
  refine ⟨_, congrArg Host.Outcome.next (if_neg (by simp [h])), ⟨rfl, rfl, rfl, rfl, rfl, rfl⟩, rfl, rfl, rfl⟩

/-! ### Supply resets (R543 to R546, R550) -/

theorem State.powerOff_lost (s : State) : s.powerOff.Lost := by
  obtain ⟨m, e, -⟩ := s.powerLoss.mgLog_eq 0x08 true (leBytes 1 0)
  obtain ⟨m', e', -⟩ := State.mgRaise_eq { s.powerLoss with mgmt := m } 7
  rw [State.powerOff, e, e']
  exact s.powerLoss_lost

/-- A restart of the module controller chip brings nothing back. -/
theorem State.Lost.restartChip {t : State} (h : t.Lost) : t.restartChip.Lost := by
  simp only [State.Lost, State.restartChip, State.bootLog, State.mgLog_platform, State.mgLog_mem, State.mgLog_cores,
    State.mgLog_slots, State.mgLog_net]
  exact h

theorem State.Lost.resetNoted {t : State} (h : t.Lost) (x : Supply) :
    State.Lost { t with platform := { t.platform with vsagLow := true, lastReset := 1 }, supply := x } := h

theorem State.supplyReset_powered (h : s.platform.rails = true) (cause : Nat) :
    let t := s.supplyReset cause
    t.Lost ∧ t.platform.vsagLow = true ∧ t.platform.lastReset = 1 ∧ t.supply.mainOk = decide (cause ≠ 1) := by
  rw [State.supplyReset, if_neg (by simp [h])]
  refine ⟨State.Lost.resetNoted ?_ _, rfl, rfl, rfl⟩
  split_ifs
  · exact (State.powerOff_lost _).restartChip
  · exact State.powerOff_lost _

theorem State.checkSupply_rails (s : State) : s.checkSupply.platform.rails = s.platform.rails :=
  congrArg (fun p : Platform × RootOfTrust × EntState => p.1.rails) s.checkSupply_startUp

/-! ### The rails come up (R598, R599) -/

/-- Step 3 with good firmware verifies it, starts the entropy source and goes on to training. -/
theorem State.stepThree_startUp (s : State) (h : b.fwGood = true) :
    (s.stepThree b).startUp = ({ s.startUp.1 with boot := .training }, { s.startUp.2.1 with bootVerified := true }, .startup) := by
  rw [State.stepThree, if_neg (by simp [h]), foldl_keeps State.startUp]
  · exact congrArg (fun p : Platform × RootOfTrust × EntState =>
      ({ p.1 with boot := .training }, { p.2.1 with bootVerified := true }, EntState.startup)) (s.bistDone_startUp b)
  · intro t p
    split_ifs
    · exact t.bringUp_startUp p
    · rfl

theorem State.stepThree_trains (hb : b.fwGood = true) (hr : s.platform.rails = true) (hm : s.platform.main = true) :
    let t := s.stepThree b
    t.platform.rails = true ∧ t.platform.main = true ∧ t.platform.boot = .training ∧ t.rot.bootVerified = true ∧
      t.entropy.state = .startup := by
  have e := s.stepThree_startUp hb
  have platform : (s.stepThree b).platform = { s.platform with boot := .training } := congrArg Prod.fst e
  exact ⟨platform ▸ hr, platform ▸ hm, by rw [platform],
    congrArg (fun p : Platform × RootOfTrust × EntState => p.2.1.bootVerified) e,
    congrArg (fun p : Platform × RootOfTrust × EntState => p.2.2) e⟩

theorem execMain54vQualify_rises (hr : s.platform.rails = false) (ha : s.platform.aux = true) (hm : s.platform.mgmtReady = true)
    (hb : b.fwGood = true) : ∃ t, execMain54vQualify b s = .next t ∧ t.platform.rails = true ∧ t.platform.main = true ∧
      t.platform.boot = .training ∧ t.rot.bootVerified = true ∧ t.entropy.state = .startup := by
  refine ⟨_, congrArg Host.Outcome.next ((if_neg (by simp [hr])).trans (if_neg (by simp [hr, ha, hm]))),
    State.stepThree_trains hb ?_ ?_⟩
  all_goals rw [State.mgRaise_platform, State.mgLog_platform]

/-! ### Training (R319, R599) -/

/-- Each station of a list changed in turn: a station in it by its own change, every other one not at all. -/
theorem State.station_foldl_modStation (f : Nat → MemStation → MemStation) (n : Nat) : ∀ (l : List Nat) (s : State), l.Nodup →
    (l.foldl (fun s k => s.modStation k (f k)) s).station n = if n ∈ l then f n (s.station n) else s.station n
  | [], _, _ => rfl
  | k :: l, s, hl => by
    obtain ⟨hk, hl⟩ := List.nodup_cons.mp hl
    rw [List.foldl_cons, State.station_foldl_modStation f n l _ hl]
    by_cases h : n = k
    · subst h
      simp [hk]
    · simp [h, State.station_modStation_of_ne s (f k) (Ne.symm h)]

/-- A station's record once its training has ended, well or not. -/
def MemStation.trainingEnd (m : MemStation) (bad : Bool) : MemStation := { m with trained := !bad, selfRefresh := m.selfRefresh && bad }

/-- The state once the training of every station has ended, and failed at those of `bad`. -/
def State.trainingEnd (s : State) (bad : List Nat) : State :=
  let ok := fun (ns : List Nat) => ns.all fun n => !bad.contains n
  let s := memStations.foldl (fun s n => s.modStation n fun m => m.trainingEnd (bad.contains n)) s
  { s with platform := { s.platform with hbmTrained := ok [0, 1, 2, 3, 4, 5], larderTrained := ok [8, 9] } }

theorem State.trainingEnd_platform (s : State) (bad : List Nat) : (s.trainingEnd bad).platform =
    { s.platform with
      hbmTrained := [0, 1, 2, 3, 4, 5].all fun n => !bad.contains n
      larderTrained := [8, 9].all fun n => !bad.contains n } := by
  have kept := foldl_keeps State.platform (f := fun s n => s.modStation n fun m => m.trainingEnd (bad.contains n)) (fun _ _ => rfl)
    memStations s
  rw [State.trainingEnd, kept]

theorem State.trainingEnd_station (s : State) (bad : List Nat) {n : Nat} (h : n ∈ memStations) :
    (s.trainingEnd bad).station n = (s.station n).trainingEnd (bad.contains n) := by
  have each := State.station_foldl_modStation (fun n m => m.trainingEnd (bad.contains n)) n memStations s (by decide)
  rw [if_pos h] at each
  exact each

/-- The stations whose training failed. -/
def failedStations (failed : List Nat) : List Nat := memStations.filter fun n => failed.contains n

theorem failedStations_eq_nil_iff : failedStations failed = [] ↔ ∀ n ∈ memStations, n ∉ failed := by
  simp [failedStations, List.filter_eq_nil_iff]

/-- HOST_READY sets two fields of the platform. -/
theorem State.hostReady_platform (s : State) : s.hostReady.platform = { s.platform with boot := .ready, everTrained := true } := by
  obtain ⟨r, m, e⟩ := State.confirmTrial_eq { s with
    platform := { s.platform with boot := .ready, everTrained := true }
    mgmt := { s.mgmt with countReady := s.mgmt.countReady + 1 } }
  rw [State.hostReady, e]

theorem State.hostReady_station (s : State) (n : Nat) : s.hostReady.station n = s.station n := by
  obtain ⟨r, m, e⟩ := State.confirmTrial_eq { s with
    platform := { s.platform with boot := .ready, everTrained := true }
    mgmt := { s.mgmt with countReady := s.mgmt.countReady + 1 } }
  rw [State.hostReady, e]
  rfl

theorem execMemoryTrainingDone_late (h : s.platform.boot ≠ .training) : execMemoryTrainingDone failed s = .next s := by
  rw [execMemoryTrainingDone, if_pos h]

theorem execMemoryTrainingDone_all (h : s.platform.boot = .training) (ha : s.platform.alignedWait = false)
    (hp : s.platform.lastReset ≠ 2 ∨ s.platform.perstHigh = true) (hf : failedStations failed = []) :
    execMemoryTrainingDone failed s = .next (s.trainingEnd []).hostReady := by
  have waits : ((s.trainingEnd []).platform.alignedWait ||
      (decide ((s.trainingEnd []).platform.lastReset = 2) && !(s.trainingEnd []).platform.perstHigh)) = false := by
    rw [State.trainingEnd_platform]
    rcases hp with hp | hp <;> simp [ha, hp]
  rw [execMemoryTrainingDone, if_neg (not_not.mpr h)]
  rw [failedStations] at hf
  simp only [hf]
  exact congrArg Host.Outcome.next (if_neg (Bool.eq_false_iff.mp waits))

theorem execMemoryTrainingDone_some (h : s.platform.boot = .training) (hs : s.platform.fatal = false) {n : Nat} {rest : List Nat}
    (hf : failedStations failed = n :: rest) :
    execMemoryTrainingDone failed s = .next ((s.trainingEnd (n :: rest)).fatalError 0x0017 6 n) := by
  have working : (s.trainingEnd (n :: rest)).platform.fatal = false := by
    rw [State.trainingEnd_platform]
    exact hs
  rw [execMemoryTrainingDone, if_neg (not_not.mpr h)]
  rw [failedStations] at hf
  simp only [hf]
  exact congrArg Host.Outcome.next (if_neg (Bool.eq_false_iff.mp working))

theorem execMemoryTrainingDone_ready (h : s.platform.boot = .training) (ha : s.platform.alignedWait = false)
    (hp : s.platform.lastReset ≠ 2 ∨ s.platform.perstHigh = true) (hf : ∀ n ∈ memStations, n ∉ failed) :
    ∃ t, execMemoryTrainingDone failed s = .next t ∧ t.platform.boot = .ready ∧ t.platform.hbmTrained = true ∧
      t.platform.larderTrained = true ∧
      ∀ n ∈ memStations, (t.station n).trained = true ∧ (t.station n).selfRefresh = false := by
  refine ⟨_, execMemoryTrainingDone_all h ha hp (failedStations_eq_nil_iff.mpr hf), ?_, ?_, ?_, fun n hn => ?_⟩
  · rw [State.hostReady_platform]
  · rw [State.hostReady_platform, State.trainingEnd_platform]
    rfl
  · rw [State.hostReady_platform, State.trainingEnd_platform]
    rfl
  · rw [State.hostReady_station, State.trainingEnd_station s [] hn]
    exact ⟨rfl, Bool.and_false _⟩

theorem execMemoryTrainingDone_fatal (h : s.platform.boot = .training) (hs : s.platform.fatal = false)
    (hf : ∃ n ∈ memStations, n ∈ failed) :
    ∃ t, execMemoryTrainingDone failed s = .next t ∧ t.platform.fatal = true ∧ t.platform.boot = .training := by
  have some : failedStations failed ≠ [] := fun hn =>
    let ⟨n, hn', hf'⟩ := hf
    failedStations_eq_nil_iff.mp hn n hn' hf'
  obtain ⟨n, rest, hr⟩ := List.exists_cons_of_ne_nil some
  refine ⟨_, execMemoryTrainingDone_some h hs hr, ?_, ?_⟩
  · rw [State.fatalError_platform]
  · rw [State.fatalError_platform, State.trainingEnd_platform]
    exact h

/-! ### The obligation -/

/-- Settles O53: what the start-up has come to is kept by logs, completions, slot faults and the bring-up of ports, so each step shows
in the fields that its own part sets. -/
theorem startUp : Obligations.StartUp := by
  unfold Obligations.StartUp
  intro s boot failed b p lost reset
  refine ⟨fun h => congrArg Host.Outcome.next (if_pos h), execAux3v3Valid_boots boot, execAux3v3Loss_absent, execAux3v3Loss_lost,
    execMain54vQualify_rises, execMemoryTrainingDone_late, execMemoryTrainingDone_ready, execMemoryTrainingDone_fatal,
    execTrialTimeout_reverts, execTrialTimeout_confirmed, fun h => ⟨?_, ?_, ?_, ?_⟩⟩
  · exact ⟨_, rfl, State.supplyReset_powered h 2⟩
  · exact ⟨_, rfl, State.supplyReset_powered h 3⟩
  · exact ⟨_, rfl, State.supplyReset_powered h 4⟩
  · exact ⟨_, rfl, State.supplyReset_powered (s.checkSupply_rails.trans h) 1⟩

end Sys2Proof.Machine
end

section
/-! FABRIC_CONFIG, ROUTE_LOAD and PORT_STATE (R352, R441 to R443). -/

namespace Sys2Proof.Machine

variable {s t : State} {id : Nat} {o : Order} {bs : List Byte}

/-! ### FABRIC_CONFIG (R352, R441) -/

/-- The states in which a port comes up or is up, so that the module ID may not change (R352). -/
def PortState.comesUp (x : PortState) : Prop := x ∈ [.authenticating, .training, .up, .retraining]

/-- A FABRIC_CONFIG that names a new module ID and changes no port sets it while no port is coming up or up (R352, R441). -/
theorem execFabricConfig_newId (h : s.mayRun 0x40 id o) (hl : o.lawful 4 (o.target = 0xFFFF) [(16, 3), (20, 5)])
    (hid : o.field 16 2 ≠ 0xFFFF) (hset : o.field 18 1 = 1) (henable : o.field 20 2 = 0) (hchange : o.field 22 2 = 0)
    (hexp : o.field 24 1 = 0xFF)
    (hbusy : ∀ k, k < 12 → ¬ (s.port k).state.comesUp) (hwait : bitAt o.flags 2 = 0) :
    execFabricConfig id s = .next
      (State.finish { s.begin o with fabric := { (s.begin o).fabric with moduleId := o.field 16 2 } } o.begun Ending.ok) := by
  have unchanged (p : Nat) : bitAt 0 p = 0 := by simp [bitAt]
  have noPorts : (List.range 12).filter (fun p => (none : Option Nat).isSome || bitAt 0 p = 1) = [] := by
    simp [unchanged]
  rw [execFabricConfig, runOrder_mayRun h]
  simp only [Order.begun_field, hset, henable, hchange, hexp, if_true]
  rw [State.checked_pass _ (Order.begun_params_noTarget hl (by simp [hid])), noPorts]
  simp only [List.any_nil, Bool.false_eq_true, if_false, List.foldl_nil, Bool.not_true, Order.begun_flags, hwait, zero_ne_one]
  rw [if_neg]
  simp only [Bool.and_eq_true, List.any_eq_true, List.mem_range, not_and, not_exists]
  intro _ k hk
  have settled : ¬ ((s.begin o).port k).state.comesUp := hbusy k hk
  revert settled
  cases ((s.begin o).port k).state <;> simp [PortState.comesUp]

/-! ### ROUTE_LOAD (R442) -/

/-- A ROUTE_LOAD of a table without a fault takes its place while no slot runs. -/
theorem execRouteLoad_good (h : s.mayRun 0x41 id o) (hl : o.lawful 0 (o.target = 0xFFFF) [(16, 8)])
    (ha : hallModule (o.field 16 8) = s.fabric.moduleId) (hs : ∀ n, n < 48 → (s.slot n).active = false)
    (hr : (s.begin o).readAccess (hallLocal (o.field 16 8)) 1088 = (t, .ok bs)) (hb : tableFault bs = none) :
    execRouteLoad id s = .next (State.finish { t with fabric := t.fabric.withTable bs } o.begun Ending.ok) := by
  have idle : ¬ ((List.range 48).any fun n => ((s.begin o).slot n).active) = true := by simpa using hs
  refine (runOrder_mayRun h).trans (congrArg _ ((State.checked_pass _ (Order.begun_params_noTarget hl ?_)).trans ?_))
  · simp [State.localAddr, ha, Nat.mod_one]
  · refine (if_neg idle).trans ?_
    simp only [Order.begun_field, hr, hb]

/-! ### PORT_STATE (R443) -/

/-- A PORT_STATE whose parameters pass their checks goes to its port. -/
theorem execPortState_passes (h : s.mayRun 0x42 id o) (hl : o.lawful 4 (o.target < 12) [(16, 2)]) (ha : o.field 16 1 ≤ 3)
    (hw : o.field 17 1 ≤ 3) :
    execPortState id s = .next ((s.begin o).portCommand o.begun o.target (o.field 16 1) (o.field 17 1)) := by
  have pass : o.begun.params 4 (decide (o.begun.target < 12)) [(16, 2)]
      [{ byte := 16, ok := o.begun.field 16 1 ≤ 3 }, { byte := 17, ok := o.begun.field 17 1 ≤ 3 }] = none := by
    rw [Order.params_none, decide_eq_true_eq]
    exact ⟨hl, by simp [ha, hw]⟩
  exact (runOrder_mayRun h).trans (congrArg _ (State.checked_pass _ pass))

theorem State.portCommand_report (n width : Nat) :
    s.portCommand o n 0 width = s.finish o { (s.port n).ending with status := 0, d18 := 0 } := by
  rw [State.portCommand, if_pos rfl]

/-- ENABLE strobes the settings that it names and waits for the port. -/
theorem State.portCommand_enable {n width : Nat} (hk : s.portLockBreaks n (s.stagedCtrl n (some true) width none) = false)
    (hs : (s.strobePort n (s.stagedCtrl n (some true) width none)).2 = true) :
    s.portCommand o n 1 width = (s.strobePort n (s.stagedCtrl n (some true) width none)).1.waitPort o n := by
  simp [State.portCommand, hk, hs]

/-! ### The obligation -/

/-- Settles O43: each command by the checks that its order passes, PORT_STATE then by its action. -/
theorem fabricOrders : Obligations.FabricOrders := by
  unfold Obligations.FabricOrders
  refine fun s t id o bs => ⟨execFabricConfig_newId, execRouteLoad_good, fun h hl hw => ⟨fun ha => ?_, fun ha => ?_⟩⟩
  · refine (execPortState_passes h hl (by omega) hw).trans (congrArg _ ?_)
    rw [ha, State.portCommand_report]
    rfl
  · intro v hk hs
    refine (execPortState_passes h hl (by omega) hw).trans (congrArg _ ?_)
    rw [ha, State.portCommand_enable hk hs]

end Sys2Proof.Machine
end

section
/-! Packets of the fabric, responses and time-outs, FENCE and broadcasts (R349, R354, R361, R363 to R366). -/

namespace Sys2Proof.Machine

variable {s : State} {m : Msg} {port dest hops tag unit : Nat} {r : Request} {t : Tracker}

/-! ### A packet at the head of its channel (R349, R351, R354) -/

/-- A packet as it stands in a receive buffer, its room in the shared pool or not (R350). -/
def Msg.waiting (m : Msg) (dest hops : Nat) (pooled : Bool) : FabricPacket := { m.packet dest hops false with pooled := pooled }

/-- The state once a packet has left a port's receive buffer and its room is given back. -/
def State.tookPacket (s : State) (port : Nat) (k : FabricPacket) : State :=
  s.setPort port ({ s.port port with rxBuf := (s.port port).rxBuf.erase k }.giveBack k)

theorem execPacketRoute_port (hp : port < 12) (poison : Bool) :
    execPacketRoute port dest hops poison m s = .next (s.forwardPacket port dest hops poison m) :=
  (unit_present hp.le _).trans (by rw [if_neg hp.ne])

theorem State.forwardPacket_head {pooled : Bool}
    (hw : (s.port port).rxBuf.find? (fun p => p.vc = m.channel.1) = some (m.waiting dest hops pooled)) :
    s.forwardPacket port dest hops false m =
      (s.tookPacket port (m.waiting dest hops pooled)).routePacket (m.waiting dest hops pooled) (some port) := by
  have same : (m.waiting dest hops pooled).destModule = dest ∧ (m.waiting dest hops pooled).hops = hops ∧
      (m.waiting dest hops pooled).poison = false ∧ (m.waiting dest hops pooled).msg = m := ⟨rfl, rfl, rfl, rfl⟩
  simp only [State.forwardPacket, hw, same, decide_true, Bool.and_self, if_true, State.tookPacket]

theorem State.forwardPacket_empty {poison : Bool} (h : (s.port port).rxBuf = []) :
    s.forwardPacket port dest hops poison m = s := by
  simp only [State.forwardPacket, h, List.find?_nil]

/-- A packet that is no broadcast is delivered where its route says so: its message is sent to its unit. -/
theorem State.routePacket_own {p : FabricPacket} {a : Option Nat} (hd : p.destModule = s.fabric.moduleId) (hb : p.destModule ≠ 0xFFFF)
    (hp : p.poison = false) (hr : ∀ r, p.msg = .request r → hallModule r.address ≠ 0xFFFF) :
    s.routePacket p a = s.send p.msg := by
  have route : s.route p.destModule a = .deliver := if_pos hd
  simp only [State.routePacket, hb, if_false, route, State.deliver, hp, Bool.false_eq_true]
  split
  · next r _ hm => rw [if_neg (hr r hm), hm]
  · rfl

theorem State.routePacket_via {p : FabricPacket} {a : Option Nat} {q : Nat} (hb : p.destModule ≠ 0xFFFF)
    (hr : s.route p.destModule a = .via q) : s.routePacket p a = s.transmit { p with arrival := a } q := by
  simp only [State.routePacket, hb, if_false, hr]

/-- A packet that goes on has one hop more, and one that had 32 is dropped and counted (R349). -/
theorem State.transmit_waiting (q : Nat) (pooled : Bool) (arrival : Option Nat) :
    s.transmit { m.waiting dest hops pooled with arrival := arrival } q =
      if 32 ≤ hops then
        (s.modPort q fun y => { y with hopLimit := satInc 0xFF y.hopLimit }).dropPacket (m.waiting dest hops pooled) 2
      else (s.leavesBy m q).modPort q fun y =>
        { y with txQueue := y.txQueue ++ [{ m.packet dest (hops + 1) false with arrival := arrival }] } := by
  by_cases h : 32 ≤ hops
  · rw [if_pos h]
    exact if_pos (Nat.lt_succ_of_le h)
  · rw [if_neg h]
    exact if_neg (fun hc => h (Nat.le_of_lt_succ hc))

/-! ### A message of this module enters the fabric (R285, R349, R360, R363) -/

/-- A message that is neither a request nor a response has its turn where it waits. -/
theorem State.injectTurn_other (hm : m ∈ s.net) (hq : ∀ r, m ≠ .request r) (hp : ∀ p, m ≠ .response p) : s.injectTurn dest m = true := by
  have first : s.net.find? (fun x => x == m) = some m := by
    cases hf : s.net.find? (fun x => x == m) with
    | none => exact absurd (List.find?_eq_none.mp hf m hm) (by simp)
    | some y =>
      have same : (y == m) = true := List.find?_some (p := fun x => x == m) hf
      rw [eq_of_beq same]
  cases m with
  | request r => exact absurd rfl (hq r)
  | response p => exact absurd rfl (hp p)
  | _ => simp only [State.injectTurn, Bool.true_and, first, decide_true]

theorem execPacketRoute_mesh (poison : Bool) : execPacketRoute 12 dest hops poison m s = .next (s.injectPacket dest poison m) := rfl

theorem State.injectPacket_turn (ht : s.injectTurn dest m = true) (hm : m.module = some dest) (hd : dest ≠ s.fabric.moduleId) :
    s.injectPacket dest false m = (s.arrive m).routePacket (m.packet dest 0 false) none := by
  simp [State.injectPacket, ht, hm, hd]

theorem State.injectPacket_waits (ht : s.injectTurn dest m = false) (poison : Bool) : s.injectPacket dest poison m = s := by
  simp only [State.injectPacket, ht, Bool.not_false, Bool.true_or, if_true]

/-! ### Responses and time-outs (R365) -/

theorem State.completeTag_held {st : RStatus} {value : Nat} {bs : List Byte}
    (h : s.fabric.trackers.find? (fun t => t.tag = tag && t.held.isNone) = some t) :
    s.completeTag tag st value bs = s.completeRequest t st value bs := by
  simp only [State.completeTag, h]

theorem State.completeTag_free {st : RStatus} {value : Nat} {bs : List Byte}
    (h : ∀ t ∈ s.fabric.trackers, ¬ (t.tag = tag ∧ t.held.isNone = true)) : s.completeTag tag st value bs = s := by
  have noEntry : s.fabric.trackers.find? (fun t => t.tag = tag && t.held.isNone) = none := by
    simpa [List.find?_eq_none] using h
  simp only [State.completeTag, noEntry]

theorem execRemoteResponse_elsewhere {p : Response} (h : p.destModule ≠ s.fabric.moduleId) : execRemoteResponse p s = .next s :=
  congrArg _ (if_pos h)

theorem execRemoteResponse_late {p : Response} (hd : p.destModule = s.fabric.moduleId)
    (h : ∀ t ∈ s.fabric.trackers, ¬ (t.tag = p.tag ∧ t.held.isNone = true)) (hp : p.tag / 4096 < 12) :
    execRemoteResponse p s =
      .next ((s.arrive (.response p)).modPort (p.tag / 4096) fun y => { y with late := satInc 0xFF y.late }) := by
  have noEntry : ¬ ((s.arrive (.response p)).fabric.trackers.any fun t => t.tag = p.tag && t.held.isNone) = true := by
    simpa using h
  exact congrArg _ ((if_neg (not_not.mpr hd)).trans ((if_neg noEntry).trans (if_pos hp)))

theorem execRemoteResponse_awaited {p : Response} (hd : p.destModule = s.fabric.moduleId)
    (h : s.fabric.trackers.find? (fun t => t.tag = p.tag && t.held.isNone) = some t) :
    execRemoteResponse p s = .next ((s.arrive (.response p)).completeRequest t p.status p.value p.data) := by
  have entry : ((s.arrive (.response p)).fabric.trackers.any fun t => t.tag = p.tag && t.held.isNone) = true :=
    
    List.any_eq_true.mpr ⟨t, List.mem_of_find?_eq_some h, List.find?_some (p := fun t : Tracker => t.tag = p.tag && t.held.isNone) h⟩
  exact congrArg _ ((if_neg (not_not.mpr hd)).trans ((if_pos entry).trans
    (State.completeTag_held (s := s.arrive (.response p)) h)))

/-! ### FENCE (R364) -/

/-- The FENCE that a unit opens: it waits for the unit's open requests and broadcasts. -/
def State.fenceOf (s : State) (unit : Nat) : Fence :=
  { unit := unit, tags := (s.fabric.trackers.filter fun t => t.unit = unit).map fun t => t.tag, broadcasts := s.broadcastsOpen unit }

/-- A FENCE that has just opened has nothing to wait for exactly where its unit has no open request and no open broadcast. -/
theorem State.fenceDone_fenceOf : s.fenceDone (s.fenceOf unit) = true ↔
    ¬ ((∃ t ∈ s.fabric.trackers, t.unit = unit) ∨ s.broadcastsOpen unit ≠ []) := by
  have broadcasts : (s.broadcastsOpen unit).all (fun r => !(s.broadcastsOpen unit).contains r) = true ↔ s.broadcastsOpen unit = [] := by
    cases s.broadcastsOpen unit <;> simp
  have requests : (s.fabric.trackers.any fun t => t.unit = unit && (s.fenceOf unit).tags.contains t.tag) = true ↔
      ∃ t ∈ s.fabric.trackers, t.unit = unit := by
    simp only [List.any_eq_true, Bool.and_eq_true, decide_eq_true_eq]
    refine exists_congr fun t => and_congr_right fun ht => and_iff_left_of_imp fun hu => ?_
    exact List.contains_iff_mem.mpr (List.mem_map.mpr ⟨t, List.mem_filter.mpr ⟨ht, decide_eq_true hu⟩, rfl⟩)
  rw [not_or, not_not, ← requests, ← broadcasts, Bool.not_eq_true, ← Bool.not_eq_true', ← Bool.and_eq_true]
  rfl

/-- A FENCE of a unit that has none open waits where it has something to wait for, and nothing else changes. -/
theorem execRemoteFence_opens (h : ∀ f ∈ s.fabric.fences, f.unit ≠ unit) : ∃ u, execRemoteFence unit s = .next u ∧
    (s.fenceOf unit ∈ u.fabric.fences ↔ (∃ t ∈ s.fabric.trackers, t.unit = unit) ∨ s.broadcastsOpen unit ≠ []) ∧
    u.fabric.trackers = s.fabric.trackers ∧ u.net = s.net := by
  have new : ¬ (s.fabric.fences.any fun f => f.unit = unit) = true := by simpa using h
  refine ⟨_, congrArg Host.Outcome.next (if_neg new), ?_, rfl, rfl⟩
  have kept : s.fenceOf unit ∈ (s.fabric.fences ++ [s.fenceOf unit]).filter (fun f => !s.fenceDone f) ↔
      ¬ s.fenceDone (s.fenceOf unit) = true := by simp
  exact kept.trans (State.fenceDone_fenceOf.not.trans not_not)

/-! ### Broadcasts (R361, R366) -/

theorem execBroadcastReceive_applied (hp : port < 12) (hm : hallModule r.address = 0xFFFF) :
    execBroadcastReceive port r hops s =
      let u := (s.arrive (.broadcast port r hops)).applyBroadcast r
      let k := { (Msg.request r).packet 0xFFFF hops false with arrival := some port }
      .next ((u.broadcastPorts port).foldl (fun u p => u.transmit k p) u).endFences := by
  refine (unit_present hp.le _).trans (congrArg _ ?_)
  rw [if_neg (by simp [hm, hp.ne]), if_neg hp.ne]

theorem execBroadcastReceive_other (hp : port ≤ 12) (hm : hallModule r.address ≠ 0xFFFF) :
    execBroadcastReceive port r hops s = .next s :=
  (unit_present hp _).trans (congrArg _ (if_pos (by simp [hm])))

theorem execBroadcastReceive_fenced (h : s.broadcastFenced r = true) : execBroadcastReceive 12 r hops s = .next s :=
  (unit_present le_rfl _).trans (congrArg _ (if_pos (by simp [h])))

/-- An ADD and a SIGNAL are broadcast to no sync object but a PLAIN one (R366). -/
theorem State.broadcastAllowed_sync {op : RemoteOp} {a k i : Nat} (ho : op = .add ∨ op = .signal) (ha : regionOf a = .sync k i)
    (hp : s.plainAt a = false) : s.broadcastAllowed op a = false := by
  rcases ho with rfl | rfl
  · simp only [State.broadcastAllowed, ha, hp]
  · exact hp

theorem State.sendRequest_refused {op : RemoteOp} {address a b lines runGen epoch : Nat} {data : List Byte} {order : Option Nat}
    {core : Option (Nat × Nat)} (hm : hallModule address = 0xFFFF) (hb : s.broadcastAllowed op (hallLocal address) = false) :
    s.sendRequest op address a b lines runGen epoch data order unit core = (s, some (.refused 6)) := by
  simp only [State.sendRequest, hm, hb, if_true, Bool.false_eq_true, if_false]

/-! ### The obligation -/

/-- Settles O58: a packet by its route, a message by its turn, a response and a time-out by the entry of the tag, a FENCE by what its unit
has open, a broadcast by its address and by the FENCE of its unit. -/
theorem packetsAndFences : Obligations.PacketsAndFences := by
  unfold Obligations.PacketsAndFences
  intro s port q dest hops tag unit pooled m r p t hp x own k waits took mine
  have taken (hw : waits) : exec (.packetRoute port dest hops false m) s = .next (took.routePacket k (some port)) :=
    (execPacketRoute_port hp false).trans (congrArg _ (State.forwardPacket_head (pooled := pooled) hw))
  refine ⟨fun hw hd ho hr => ?_, fun hw hd hb hq => ?_, State.injectTurn_other, fun hm hd => ⟨fun ht => ?_, fun ht => ?_⟩, fun he => ?_,
    execRemoteResponse_elsewhere, execRemoteResponse_late, ?_, fun h => congrArg _ (State.completeTag_held h),
    fun h => congrArg _ (State.completeTag_free h), execRemoteFence_opens, execBroadcastReceive_applied hp, execBroadcastReceive_fenced,
    fun op a b c hm ho ⟨j, i, ha⟩ hn => State.sendRequest_refused hm (State.broadcastAllowed_sync ho ha hn),
    execBroadcastReceive_other hp.le⟩
  · exact (taken hw).trans (congrArg _ (State.routePacket_own hd (hd.trans_ne ho) rfl hr))
  · exact (taken hw).trans (congrArg _ ((State.routePacket_via hb hq).trans (State.transmit_waiting ..)))
  · exact (execPacketRoute_mesh false).trans (congrArg _ (State.injectPacket_turn ht hm hd))
  · exact (execPacketRoute_mesh false).trans (congrArg _ (State.injectPacket_waits ht false))
  · exact (execPacketRoute_port hp false).trans (congrArg _ (State.forwardPacket_empty he))
  · rintro hd rfl ht
    exact execRemoteResponse_awaited hd ht

end Sys2Proof.Machine
end

section
/-! Reads and writes of the local windows where nothing stands in their way: what they answer, and which bytes they change (R305, R306,
R317, R323, R324, R359). -/

namespace Sys2Proof.Machine

variable {s t u : State} {a : Nat} {bs : List Byte}

/-! ### Where an address lies (R305, R317) -/

theorem regionOf_general_iff : regionOf a = .general ↔ 0x010800000000 ≤ a ∧ a < 0x018000000000 := by
  unfold regionOf
  repeat' refine iteInduction (motive := fun r => r = Region.general ↔ _) (fun _ => ?_) fun _ => ?_
  all_goals simp only [reduceCtorEq, false_iff, true_iff]
  all_goals omega

theorem regionOf_slice_iff {k n : Nat} : regionOf a = .slice k n ↔
    0x020000000000 ≤ a ∧ a < 0x020024000000 ∧ (a - sliceBase) / 0x400000 = k ∧ (a - sliceBase) % 0x400000 / 0x20000 = n := by
  unfold regionOf
  repeat' refine iteInduction (motive := fun r => r = Region.slice k n ↔ _) (fun _ => ?_) fun _ => ?_
  all_goals simp only [reduceCtorEq, false_iff, Region.slice.injEq]
  all_goals omega

theorem regionOf_store_iff {c : Nat} : regionOf a = .store c ↔
    0x030000000000 ≤ a ∧ a < 0x030024000000 ∧ (a - storeBase) / 0x10000 = c := by
  unfold regionOf
  repeat' refine iteInduction (motive := fun r => r = Region.store c ↔ _) (fun _ => ?_) fun _ => ?_
  all_goals simp only [reduceCtorEq, false_iff, Region.store.injEq]
  all_goals omega

theorem regionOf_sync_iff {k n : Nat} : regionOf a = .sync k n ↔
    0x040000000000 ≤ a ∧ a < 0x040000480000 ∧ (a - syncBase) / 0x8000 = k ∧ (a - syncBase) % 0x8000 / 0x100 = n := by
  unfold regionOf
  repeat' refine iteInduction (motive := fun r => r = Region.sync k n ↔ _) (fun _ => ?_) fun _ => ?_
  all_goals simp only [reduceCtorEq, false_iff, Region.sync.injEq]
  all_goals omega

theorem regionOf_hbm_iff : regionOf a = .hbm ↔ a < 0x004800000000 := ⟨lt_of_regionOf_hbm, regionOf_hbm⟩

/-- An address of HBM, of the GENERAL region, of a slice that no slot holds or of the store of a core that no slot holds: a place that
remote operations write (R85, R280, R318). -/
def State.FreeAt (s : State) (a : Nat) : Prop :=
  regionOf a = .hbm ∨ regionOf a = .general ∨ (∃ k n, regionOf a = .slice k n ∧ n < 28 ∧ (s.cluster k).sliceSlot.at n = none) ∨
    ∃ c, regionOf a = .store c ∧ (s.core c).slot = none ∧ (s.core c).colander = false ∧ (s.core c).members = []

/-- First address of the protection unit that holds an address (R323). -/
def unitBase (a : Nat) : Nat := a / unitSize a * unitSize a

theorem unitBase_eq (a : Nat) : a / unitSize a * unitSize a = unitBase a := rfl

theorem unitSize_eq (a : Nat) : unitSize a = 64 ∨ unitSize a = 8 := by
  rw [unitSize]
  split_ifs
  · exact .inl rfl
  · exact .inr rfl

/-- An aligned word lies within one protection unit. -/
theorem word_in_unit (h8 : a % 8 = 0) : unitBase a ≤ a ∧ a + 8 ≤ unitBase a + unitSize a := by
  rw [unitBase]
  rcases unitSize_eq a with h | h <;> rw [h] <;> omega

/-- The protection unit of a free place lies where that place lies. -/
theorem State.FreeAt.regionOf_unit (h : s.FreeAt a) {i : Nat} (hi : i < unitSize a) : regionOf (unitBase a + i) = regionOf a := by
  rw [unitBase]
  rcases h with h | h | ⟨k, n, h, -⟩ | ⟨c, h, -⟩ <;>
    simp only [unitSize, h, Region.lined, Bool.false_eq_true, if_true, if_false] at hi ⊢
  · rw [regionOf_hbm_iff] at h ⊢
    omega
  · rw [regionOf_general_iff] at h ⊢
    omega
  · rw [regionOf_slice_iff, sliceBase] at h ⊢
    omega
  · rw [regionOf_store_iff, storeBase] at h ⊢
    omega

theorem State.FreeAt.regionOf_word (h : s.FreeAt a) (h8 : a % 8 = 0) {i : Nat} (hi : i < 8) : regionOf (a + i) = regionOf a := by
  obtain ⟨hu, hl⟩ := word_in_unit h8
  rw [← h.regionOf_unit (i := a + i - unitBase a) (by omega)]
  congr 1
  omega

theorem State.FreeAt.unitSize_unit (h : s.FreeAt a) : unitSize (unitBase a) = unitSize a := by
  have hu : regionOf (unitBase a) = regionOf a := h.regionOf_unit (i := 0) (by rcases unitSize_eq a with h | h <;> omega)
  rw [unitSize, unitSize, hu]

/-! ### The byte at an address (R323) -/

/-- What the byte at an address depends on: memory there, the program windows, and the store that it lies in. -/
theorem State.byteAt_congr {b : Nat} (hm : Mem.get memBackground t.mem b = Mem.get memBackground s.mem b)
    (hp : ∀ k, (t.cluster k).placed = (s.cluster k).placed)
    (hw : ∀ d, (t.core d).window = (s.core d).window ∧ (t.core d).windowFree = (s.core d).windowFree)
    (hs : ∀ d, regionOf b = .store d → (t.core d).storeByte (b % 0x10000) = (s.core d).storeByte (b % 0x10000)) :
    t.byteAt b = s.byteAt b := by
  cases hr : regionOf b with
  | store d => simpa only [State.byteAt, hr] using hs d hr
  | slice k n => simp only [State.byteAt, hr, hm, hp, Core.windowBg, hw]
  | _ => simp only [State.byteAt, hr, hm]

/-- Whether the byte at an address lies in the module's memory, not in a core. -/
def inMemory (a : Nat) : Prop := regionOf a = .hbm ∨ regionOf a = .general ∨ ∃ k n, regionOf a = .slice k n ∧ n < 30

theorem State.byteAt_inMemory (h : inMemory a) : s.byteAt a = Mem.get memBackground s.mem a := by
  rcases h with h | h | ⟨k, n, h, hn⟩ <;> rw [State.byteAt, h]
  exact if_pos hn

theorem State.byteAt_store {c : Nat} (h : regionOf a = .store c) : s.byteAt a = (s.core c).storeByte (a % 0x10000) := by
  rw [State.byteAt, h]

/-- A core without a block-replica shows its store as it was written. -/
theorem Core.storeByte_free {co : Core} (h : co.members = []) (o : Nat) : co.storeByte o = Mem.get co.storeBg co.store o := by
  have standing : co.standing = none := by
    rw [Core.standing, h]
    split <;> rfl
  simp only [Core.storeByte, standing]

/-! ### What a write leaves (R306, R324) -/

/-- A step has put bytes at an address and left every other byte of the windows, the slots, the fabric and the messages under way as they
were; no flipped bit came. -/
structure State.Wrote (s t : State) (a : Nat) (bs : List Byte) : Prop where
  inside : ∀ k, k < bs.length → t.byteAt (a + k) = bs[k]?
  outside : ∀ b, b < a ∨ a + bs.length ≤ b → t.byteAt b = s.byteAt b
  slots : t.slots = s.slots
  fabric : t.fabric = s.fabric
  net : t.net = s.net
  upsets : t.upsets ⊆ s.upsets

/-- A second write goes on where the first one ended. -/
theorem State.Wrote.append {bs' : List Byte} (h : State.Wrote s t a bs) (k : State.Wrote t u (a + bs.length) bs') :
    State.Wrote s u a (bs ++ bs') where
  inside i hi := by
    rw [List.length_append] at hi
    by_cases hb : i < bs.length
    · rw [k.outside _ (.inl (by omega)), h.inside i hb, List.getElem?_append_left hb]
    · have rest := k.inside (i - bs.length) (by omega)
      rw [List.getElem?_append_right (by omega), ← rest]
      congr 1
      omega
  outside b hb := by
    rw [List.length_append] at hb
    rw [k.outside b (by omega), h.outside b (by omega)]
  slots := k.slots.trans h.slots
  fabric := k.fabric.trans h.fabric
  net := k.net.trans h.net
  upsets := List.Subset.trans k.upsets h.upsets

/-- Noting a request at a station changes nothing but the station. -/
theorem State.tracked_eq (s : State) (a : Nat) : ∃ m, s.tracked a = { s with stations := m } := by
  simp only [State.tracked]
  split_ifs
  · exact ⟨_, rfl⟩
  · exact ⟨s.stations, rfl⟩

@[simp] theorem State.tracked_byteAt (s : State) (a b : Nat) : (s.tracked a).byteAt b = s.byteAt b := by
  obtain ⟨m, h⟩ := s.tracked_eq a
  rw [h]
  rfl

theorem State.wrote_tracked (s : State) (n a : Nat) : State.Wrote s (s.tracked n) a [] := by
  obtain ⟨m, h⟩ := s.tracked_eq n
  rw [h]
  exact ⟨by simp, fun _ _ => rfl, rfl, rfl, rfl, List.Subset.refl _⟩

theorem State.wrote_clearUpset (s : State) (n a : Nat) : State.Wrote s (s.clearUpset n) a [] :=
  ⟨by simp, fun _ _ => rfl, rfl, rfl, rfl, List.filter_subset_self _⟩

/-- Bytes put into the module's memory stand there, and every other byte is as it was. -/
theorem State.wrote_poke (h : ∀ i, i < bs.length → inMemory (a + i)) : State.Wrote s (s.poke a bs) a bs where
  inside i hi := by
    rw [State.byteAt_inMemory (h i hi)]
    refine (Mem.get_write_inside _ _ _ _ _ (by omega) (by omega)).trans ?_
    simp [hi]
  outside b hb :=
    State.byteAt_congr (Mem.get_write_outside _ _ _ _ _ hb) (fun _ => rfl) (fun _ => ⟨rfl, rfl⟩) fun _ _ => rfl
  slots := rfl
  fabric := rfl
  net := rfl
  upsets := List.Subset.refl _

/-- The core with bytes put into its store. -/
def Core.withStored (co : Core) (o : Nat) (bs : List Byte) : Core := { co with store := Mem.write co.storeBg co.store o bs }

/-- Bytes put into the store of a core without a block-replica stand there, and every other byte is as it was. -/
theorem State.wrote_store {c : Nat} (h : regionOf a = .store c) (hm : (s.core c).members = [])
    (hl : a % 0x10000 + bs.length ≤ 0x10000) : State.Wrote s (s.modCore c fun x => x.withStored (a % 0x10000) bs) a bs := by
  have free : ((s.core c).withStored (a % 0x10000) bs).members = [] := hm
  rw [regionOf_store_iff, storeBase] at h
  refine ⟨fun i hi => ?_, fun b hb => ?_, rfl, rfl, rfl, List.Subset.refl _⟩
  · have place : regionOf (a + i) = .store c := by
      rw [regionOf_store_iff, storeBase]
      omega
    rw [State.byteAt_store place, State.core_modCore, Core.storeByte_free free]
    refine (Mem.get_write_inside _ _ _ _ _ (by omega) (by omega)).trans ?_
    rw [← List.getElem?_eq_getElem]
    congr 1
    omega
  · have core (d : Nat) : (s.modCore c fun x => x.withStored (a % 0x10000) bs).core d =
        if c = d then (s.core d).withStored (a % 0x10000) bs else s.core d := by
      split_ifs with hd
      · rw [hd, State.core_modCore]
      · exact State.core_modCore_of_ne _ _ hd
    refine State.byteAt_congr rfl (fun _ => rfl) (fun d => ?_) fun d hr => ?_
    · rw [core]
      split_ifs <;> exact ⟨rfl, rfl⟩
    · rw [core]
      split_ifs with hd
      · rw [regionOf_store_iff, storeBase] at hr
        subst hd
        rw [Core.storeByte_free free, Core.storeByte_free hm]
        exact Mem.get_write_outside _ _ _ _ _ (by omega)
      · rfl

/-! ### Reading and writing a protection unit of a free place (R323, R324) -/

/-- A write of a whole protection unit of a free place puts its bytes there. -/
theorem State.FreeAt.wrote_setBytes (h : s.FreeAt a) (hl : bs.length = unitSize a) :
    State.Wrote s (s.setBytes (unitBase a) bs) (unitBase a) bs := by
  have place {i : Nat} (hi : i < bs.length) : regionOf (unitBase a + i) = regionOf a := h.regionOf_unit (hl ▸ hi)
  have base : regionOf (unitBase a) = regionOf a := place (i := 0) (by rcases unitSize_eq a with h | h <;> omega)
  have poked (hm : inMemory a) (hs : s.setBytes (unitBase a) bs = s.poke (unitBase a) bs) :
      State.Wrote s (s.setBytes (unitBase a) bs) (unitBase a) bs := by
    rw [hs]
    refine State.wrote_poke fun i hi => ?_
    rwa [inMemory, place hi]
  rcases id h with hr | hr | ⟨k, n, hr, hn, -⟩ | ⟨c, hr, -, -, hm⟩
  · exact poked (.inl hr) (by rw [State.setBytes, base, hr])
  · exact poked (.inr (.inl hr)) (by rw [State.setBytes, base, hr])
  · exact poked (.inr (.inr ⟨k, n, hr, by omega⟩)) (by rw [State.setBytes, base, hr]; exact if_pos (by omega))
  · have word : unitSize a = 8 := by simp [unitSize, hr, Region.lined]
    have set : s.setBytes (unitBase a) bs = s.modCore c fun x => x.withStored (unitBase a % 0x10000) bs := by
      rw [State.setBytes, base, hr]
      rfl
    rw [set]
    refine State.wrote_store (base.trans hr) hm ?_
    rw [hl, word, unitBase, word]
    omega

/-- A protection unit with no flipped bit and every byte written reads as its bytes, and nothing changes. -/
theorem State.readUnit_written_unit (hc : s.CleanAt a) (hw : ∀ i, i < unitSize a → (s.byteAt (a + i)).isSome = true) (flags : Nat) :
    s.readUnit a flags = (s, some (s.unitData a (unitSize a))) := by
  have written : ((List.range (unitSize a)).all fun i => (s.byteAt (a + i)).isSome) = true := by simpa using hw
  simp only [State.readUnit, hc.1, State.correctAll_clean hc.2, written, if_true, if_false, Bool.false_eq_true]

theorem State.getElem?_unitData {n i : Nat} (hi : i < n) (hw : (s.byteAt (a + i)).isSome = true) :
    (s.unitData a n)[i]? = s.byteAt (a + i) := by
  obtain ⟨b, hb⟩ := Option.isSome_iff_exists.mp hw
  simp [State.unitData, hi, hb]

theorem State.unitData_length (n : Nat) : (s.unitData a n).length = n := by simp [State.unitData]

/-- A word at a free place, in a protection unit with no flipped bit and every byte written: what a remote operation works on. -/
structure State.WordAt (s : State) (a : Nat) : Prop where
  aligned : a % 8 = 0
  free : s.FreeAt a
  clean : s.CleanAt (unitBase a)
  written : ∀ i, i < unitSize a → (s.byteAt (unitBase a + i)).isSome = true

theorem State.WordAt.tracked (h : s.WordAt a) (n : Nat) : (s.tracked n).WordAt a := by
  obtain ⟨m, hm⟩ := s.tracked_eq n
  rw [hm]
  exact ⟨h.aligned, h.free, h.clean, h.written⟩

theorem State.WordAt.readUnit (h : s.WordAt a) (flags : Nat) :
    s.readUnit (unitBase a) flags = (s, some (s.unitData (unitBase a) (unitSize a))) := by
  have read := State.readUnit_written_unit (flags := flags) h.clean (by rw [h.free.unitSize_unit]; exact h.written)
  rwa [h.free.unitSize_unit] at read

/-- The bytes of a word. -/
def State.wordBytes (s : State) (a : Nat) : List Byte := slice (s.unitData (unitBase a) (unitSize a)) (a - unitBase a) 8

theorem State.WordAt.wordBytes_length (h : s.WordAt a) : (s.wordBytes a).length = 8 := by
  obtain ⟨hu, hl⟩ := word_in_unit h.aligned
  simp only [State.wordBytes, slice, List.length_take, List.length_drop, State.unitData_length]
  omega

theorem State.WordAt.getElem?_wordBytes (h : s.WordAt a) {k : Nat} (hk : k < 8) : (s.wordBytes a)[k]? = s.byteAt (a + k) := by
  obtain ⟨hu, hl⟩ := word_in_unit h.aligned
  have place : unitBase a + (a - unitBase a + k) = a + k := by omega
  rw [State.wordBytes, slice, List.getElem?_take_of_lt hk, List.getElem?_drop,
    State.getElem?_unitData (by omega) (h.written _ (by omega)), place]

/-- A word reads as its bytes, and only its station notes the request. -/
theorem State.WordAt.readLocal (h : s.WordAt a) : s.readLocal a 8 = (s.tracked (unitBase a), some (s.wordBytes a)) := by
  obtain ⟨hu, hl⟩ := word_in_unit h.aligned
  have one : roundUp (unitSize a) (a + 8 - unitBase a) / unitSize a = 1 := by
    rw [roundUp]
    rcases unitSize_eq a with hs | hs <;> rw [hs] at hl ⊢ <;> omega
  have data : (s.tracked (unitBase a)).unitData (unitBase a) (unitSize a) = s.unitData (unitBase a) (unitSize a) := by
    obtain ⟨m, hm⟩ := s.tracked_eq (unitBase a)
    rw [hm]
    rfl
  rw [State.readLocal]
  simp only [unitBase_eq, one, State.readUnits, (h.tracked _).readUnit, data, List.append_nil, State.wordBytes]

/-- Bytes put in the middle of a unit's old ones. -/
def merged (old : List Byte) (off : Nat) (bs : List Byte) : List Byte := old.take off ++ bs ++ old.drop (off + bs.length)

theorem merged_length {old : List Byte} {off : Nat} (h : off + bs.length ≤ old.length) : (merged old off bs).length = old.length := by
  simp only [merged, List.length_append, List.length_take, List.length_drop]
  omega

theorem getElem?_merged_inside {old : List Byte} {off k : Nat} (h : off + bs.length ≤ old.length) (hk : k < bs.length) :
    (merged old off bs)[off + k]? = bs[k]? := by
  have before : (old.take off).length = off := List.length_take_of_le (by omega)
  rw [merged, List.append_assoc, List.getElem?_append_right (by omega), before, Nat.add_sub_cancel_left, List.getElem?_append_left hk]

theorem getElem?_merged_outside {old : List Byte} {off i : Nat} (h : off + bs.length ≤ old.length) (hi : i < off ∨ off + bs.length ≤ i) :
    (merged old off bs)[i]? = old[i]? := by
  have before : (old.take off).length = off := List.length_take_of_le (by omega)
  rcases hi with hi | hi
  · rw [merged, List.append_assoc, List.getElem?_append_left (by omega), List.getElem?_take_of_lt hi]
  · rw [merged, List.getElem?_append_right (by rw [List.length_append]; omega), List.getElem?_drop, List.length_append, before]
    congr 1
    omega

/-- A write that covers a word alone: of the unit's other bytes each is written back as it was. -/
theorem State.WordAt.wrote_word (h : s.WordAt a) (hl : bs.length = 8) :
    ∃ t, s.writeUnit (unitBase a) (a % unitSize a) bs = (t, true) ∧ State.Wrote s t a bs := by
  obtain ⟨hu, he⟩ := word_in_unit h.aligned
  have unfixed : s.linkFixed (unitBase a) = s := by
    refine if_neg fun hm => ?_
    simpa [Upset.correctable] using h.clean.2 _ hm
  have place : unitBase a + a % unitSize a = a := Nat.div_add_mod' a (unitSize a)
  rcases unitSize_eq a with hs | hs
  · have old : (s.unitData (unitBase a) (unitSize a)).length = unitSize a := State.unitData_length _
    have fits : a % unitSize a + bs.length ≤ (s.unitData (unitBase a) (unitSize a)).length := by omega
    refine ⟨s.setBytes (unitBase a) (merged (s.unitData (unitBase a) (unitSize a)) (a % unitSize a) bs), ?_, ?_⟩
    · have part : ¬ (a % unitSize a = 0 && bs.length = unitSize a) = true := by simp [hs, hl]
      simp only [State.writeUnit, unfixed, h.free.unitSize_unit, part, if_false, Bool.false_eq_true, h.readUnit]
      rfl
    · have wrote := h.free.wrote_setBytes (bs := merged (s.unitData (unitBase a) (unitSize a)) (a % unitSize a) bs)
        ((merged_length fits).trans old)
      have size := (merged_length fits).trans old
      refine ⟨fun k hk => ?_, fun b hb => ?_, wrote.slots, wrote.fabric, wrote.net, wrote.upsets⟩
      · have byte := wrote.inside (a % unitSize a + k) (by omega)
        rwa [getElem?_merged_inside fits hk, ← Nat.add_assoc, place] at byte
      · by_cases hin : unitBase a ≤ b ∧ b < unitBase a + unitSize a
        · have byte := wrote.inside (b - unitBase a) (by omega)
          rwa [getElem?_merged_outside fits (by omega), State.getElem?_unitData (by omega) (h.written _ (by omega)),
            Nat.add_sub_cancel' hin.1] at byte
        · exact wrote.outside b (by omega)
  · have start : a % unitSize a = 0 := hs ▸ h.aligned
    have whole : (a % unitSize a = 0 && bs.length = unitSize a) = true := by simp [hs, hl, h.aligned]
    refine ⟨(s.clearUpset (unitBase a)).setBytes (unitBase a) bs, ?_, ?_⟩
    · simp only [State.writeUnit, unfixed, h.free.unitSize_unit, whole, if_true]
    · have cleared : (s.clearUpset (unitBase a)).FreeAt a := h.free
      have wrote := (s.wrote_clearUpset (unitBase a) (unitBase a)).append (cleared.wrote_setBytes (hl.trans hs.symm))
      have base : unitBase a = a := by rwa [start] at place
      rw [base] at wrote
      rwa [base]

/-! ### Accesses to a word of a free place (R306, R324, R361) -/

/-- A word of a free place lies in one window. -/
theorem State.WordAt.oneWindow (h : s.WordAt a) : oneWindow a 8 = true := by
  have last : regionOf (a + 8 - 1) = regionOf a := h.free.regionOf_word h.aligned (i := 7) (by omega)
  rw [Machine.oneWindow, last]
  rcases h.free with hr | hr | ⟨k, n, hr, -⟩ | ⟨c, hr, -⟩ <;> rw [hr] <;> rfl

theorem State.WordAt.writeRefusal (h : s.WordAt a) : s.writeRefusal a 8 = none := by
  rw [State.writeRefusal, h.oneWindow]
  rcases h.free with hr | hr | ⟨k, n, hr, hn, hs⟩ | ⟨c, hr, hs, hc, -⟩ <;> rw [hr]
  · rfl
  · rfl
  · simp [hs, Nat.not_le.mpr hn]
  · simp [hc, State.coreHeld, hs]

theorem State.WordAt.readRefusal (h : s.WordAt a) : s.readRefusal a 8 = none := by
  have last : regionOf (a + 8 - 1) = regionOf a := h.free.regionOf_word h.aligned (i := 7) (by omega)
  rw [State.readRefusal, h.oneWindow, last]
  rcases h.free with hr | hr | ⟨k, n, hr, -⟩ | ⟨c, hr, -, hc, -⟩ <;> rw [hr]
  · rfl
  · rfl
  · rfl
  · have one : (a % 0x10000 + 8 - 1) / 0x10000 = 0 := by
      have := h.aligned
      omega
    simp only [one]
    simp [hc]

theorem State.WordAt.readAccess (h : s.WordAt a) : s.readAccess a 8 = (s.tracked (unitBase a), .ok (s.wordBytes a)) := by
  rw [State.readAccess, h.readRefusal]
  rcases h.free with hr | hr | ⟨k, n, hr, -⟩ | ⟨c, hr, -⟩ <;> simp only [hr, h.readLocal]

theorem State.WordAt.writeAccess (h : s.WordAt a) (hl : bs.length = 8) :
    ∃ t, s.writeAccess a bs = (t, .ok) ∧ State.Wrote s t a bs := by
  obtain ⟨hu, he⟩ := word_in_unit h.aligned
  have place : a - a % unitSize a = unitBase a := by
    have := Nat.div_add_mod' a (unitSize a)
    rw [unitBase]
    omega
  have offset : unitBase a + a % unitSize a = a := Nat.div_add_mod' a (unitSize a)
  have fits : bs.length ≤ unitSize a - a % unitSize a := by omega
  have ne : bs ≠ [] := by
    rintro rfl
    simp at hl
  obtain ⟨t, ht, wrote⟩ := (h.tracked a).wrote_word hl
  refine ⟨t, ?_, (s.wrote_tracked a a).append wrote⟩
  rw [State.writeAccess, hl, h.writeRefusal]
  simp only [State.writeLocal, State.writeUnits, ne, if_false, place, List.take_of_length_le fits, List.drop_of_length_le fits, ht,
      State.writeUnits_nil, Bool.and_self, if_true]

/-! ### Whole lines of HBM and of the GENERAL region (R306, R324) -/

/-- A line of HBM or of the GENERAL region, where the link of the Larder made no error. -/
structure State.LineAt (s : State) (a : Nat) : Prop where
  aligned : a % 64 = 0
  data : regionOf a = .hbm ∨ regionOf a = .general
  link : .linkError a ∉ s.upsets

theorem State.LineAt.free (h : s.LineAt a) : s.FreeAt a := h.data.imp_right .inl

theorem State.LineAt.unitSize (h : s.LineAt a) : unitSize a = 64 := by
  rcases h.data with hr | hr <;> simp [Machine.unitSize, hr, Region.lined]

theorem State.LineAt.unitBase (h : s.LineAt a) : unitBase a = a := by
  rw [Machine.unitBase, h.unitSize]
  have := h.aligned
  omega

theorem State.LineAt.writeRefusal (h : s.LineAt a) : s.writeRefusal a 64 = none := by
  have last : regionOf (a + 64 - 1) = regionOf a := by
    have byte := h.free.regionOf_unit (i := 63) (by rw [h.unitSize]; omega)
    rwa [h.unitBase] at byte
  have window : oneWindow a 64 = true := by
    rw [oneWindow, last]
    rcases h.data with hr | hr <;> rw [hr] <;> rfl
  rw [State.writeRefusal, window]
  rcases h.data with hr | hr <;> rw [hr] <;> rfl

theorem State.LineAt.writeAccess (h : s.LineAt a) (hl : bs.length = 64) : ∃ t, s.writeAccess a bs = (t, .ok) ∧ State.Wrote s t a bs := by
  have ne : bs ≠ [] := by
    rintro rfl
    simp at hl
  have link : .linkError a ∉ (s.tracked a).upsets := by rw [State.tracked_upsets]; exact h.link
  have unfixed : (s.tracked a).linkFixed a = s.tracked a := if_neg link
  have free : ((s.tracked a).clearUpset a).FreeAt a := by
    obtain ⟨m, hm⟩ := s.tracked_eq a
    rw [hm]
    exact h.free
  refine ⟨((s.tracked a).clearUpset a).setBytes a bs, ?_, ?_⟩
  · have fits : bs.length ≤ 64 := hl.le
    rw [State.writeAccess, hl, h.writeRefusal]
    simp only [State.writeLocal, State.writeUnits, ne, if_false, h.unitSize, h.aligned, Nat.sub_zero, List.take_of_length_le fits,
      List.drop_of_length_le fits, State.writeUnit, unfixed, hl, decide_true, Bool.and_self, if_true, State.writeUnits_nil]
  · have wrote := free.wrote_setBytes (hl.trans h.unitSize.symm)
    rw [h.unitBase] at wrote
    exact ((s.wrote_tracked a a).append ((State.wrote_clearUpset _ a a))).append wrote

/-- Lines written one after another all stand there. -/
theorem State.writeLines_data (n : Nat) : ∀ {s : State} {a : Nat} {bs : List Byte}, bs.length = 64 * n →
    (∀ i, i < n → s.LineAt (a + 64 * i)) → ∃ t, s.writeLines a bs n = (t, .ok) ∧ State.Wrote s t a bs := by
  induction n with
  | zero =>
    intro s a bs hl _
    rw [List.length_eq_zero_iff.mp hl]
    exact ⟨s, rfl, by simp, fun _ _ => rfl, rfl, rfl, rfl, List.Subset.refl _⟩
  | succ n ih =>
    intro s a bs hl h
    have head : (bs.take 64).length = 64 := List.length_take_of_le (by omega)
    obtain ⟨t, ht, first⟩ := (h 0 (by omega)).writeAccess head
    have rest : ∀ i, i < n → t.LineAt (a + 64 + 64 * i) := fun i hi => by
      obtain ⟨ha, hd, hk⟩ := h (i + 1) (by omega)
      have line : a + 64 * (i + 1) = a + 64 + 64 * i := by omega
      rw [line] at ha hd hk
      exact ⟨ha, hd, fun hm => hk (first.upsets hm)⟩
    obtain ⟨v, hv, last⟩ := ih (bs := bs.drop 64) (by rw [List.length_drop]; omega) rest
    refine ⟨v, ?_, ?_⟩
    · have write : s.writeAccess a (bs.take 64) = (t, .ok) := ht
      simp only [State.writeLines, write, hv]
    · have whole := first.append (by rw [head]; exact last)
      rwa [List.take_append_drop] at whole

end Sys2Proof.Machine
end

section
/-! Remote operations at their target: what a request that arrives leaves as it is, and what each operation does and answers (R244 to R246,
R359 to R363). -/

namespace Sys2Proof.Machine

variable {s t : State} {r : Request} {a : Nat} {bs : List Byte} {op : RemoteOp}

/-! ### A request that arrives (R279, R285) -/

/-- A step has left alone all that an access to the local windows depends on, and the messages under way. -/
structure State.SameWindows (s t : State) : Prop where
  mem : t.mem = s.mem
  cores : t.cores = s.cores
  upsets : t.upsets = s.upsets
  net : t.net = s.net
  cluster : ∀ k, (t.cluster k).placed = (s.cluster k).placed ∧ (t.cluster k).sliceSlot = (s.cluster k).sliceSlot

theorem State.SameWindows.refl (s : State) : State.SameWindows s s := ⟨rfl, rfl, rfl, rfl, fun _ => ⟨rfl, rfl⟩⟩

theorem State.sameWindows_modCluster (s : State) (k : Nat) {f : Cluster → Cluster}
    (hf : ∀ c, (f c).placed = c.placed ∧ (f c).sliceSlot = c.sliceSlot) : State.SameWindows s (s.modCluster k f) := by
  refine ⟨rfl, rfl, rfl, rfl, fun j => ?_⟩
  by_cases hj : k = j
  · rw [hj, State.cluster_modCluster]
    exact hf _
  · rw [State.cluster_modCluster_of_ne _ _ hj]
    exact ⟨rfl, rfl⟩

namespace State.SameWindows

theorem trans {u : State} (h : State.SameWindows s t) (k : State.SameWindows t u) : State.SameWindows s u :=
  ⟨k.mem.trans h.mem, k.cores.trans h.cores, k.upsets.trans h.upsets, k.net.trans h.net,
    fun n => ⟨(k.cluster n).1.trans (h.cluster n).1, (k.cluster n).2.trans (h.cluster n).2⟩⟩

theorem core (h : State.SameWindows s t) (c : Nat) : t.core c = s.core c := by
  rw [State.core, State.core, h.cores]

theorem byteAt (h : State.SameWindows s t) (b : Nat) : t.byteAt b = s.byteAt b :=
  State.byteAt_congr (by rw [h.mem]) (fun k => (h.cluster k).1) (fun d => by rw [h.core]; exact ⟨rfl, rfl⟩)
    fun d _ => by rw [h.core]

theorem freeAt (h : State.SameWindows s t) (ha : s.FreeAt a) : t.FreeAt a := by
  rcases ha with hr | hr | ⟨k, n, hr, hn, hs⟩ | ⟨c, hr, hc⟩
  · exact .inl hr
  · exact .inr (.inl hr)
  · exact .inr (.inr (.inl ⟨k, n, hr, hn, by rw [(h.cluster k).2, hs]⟩))
  · exact .inr (.inr (.inr ⟨c, hr, by rwa [h.core]⟩))

theorem wordAt (h : State.SameWindows s t) (ha : s.WordAt a) : t.WordAt a :=
  ⟨ha.aligned, h.freeAt ha.free, ha.clean.of_upsets h.upsets, fun i hi => by rw [h.byteAt]; exact ha.written i hi⟩

end State.SameWindows

/-- Counting an event of a cluster whose event selects are sound changes the cluster's counters alone. -/
theorem State.sameWindows_count {k : Nat} (hk : k < 144) (h : s.liveBad 8 k = false) (code n : Nat) :
    State.SameWindows s (s.count k code n) := by
  have checked : s.checkCounters k = s := by simp [State.checkCounters, h]
  simp only [State.count, checked]
  split_ifs
  · exact s.sameWindows_modCluster k fun _ => ⟨rfl, rfl⟩
  · omega
  · omega
  · exact .refl s

/-- An address that a crossbar serves lies in a cluster of the module. -/
theorem addressTarget_lt {k p : Nat} (h : addressTarget a = some (k, p)) (hp : p ≠ 100) : k < 144 := by
  rw [addressTarget] at h
  cases hr : regionOf a with
  | slice j n =>
    rw [hr] at h
    rw [regionOf_slice_iff, sliceBase] at hr
    simp only [Option.some.injEq, Prod.mk.injEq] at h
    omega
  | store c =>
    rw [hr] at h
    rw [regionOf_store_iff, storeBase] at hr
    simp only [Option.some.injEq, Prod.mk.injEq, clusterOf, gridX, gridY] at h
    omega
  | sync j n =>
    rw [hr] at h
    rw [regionOf_sync_iff, syncBase] at hr
    simp only [Option.some.injEq, Prod.mk.injEq] at h
    omega
  | outside =>
    rw [hr] at h
    cases h
  | _ =>
    rw [hr] at h
    simp only [Option.some.injEq, Prod.mk.injEq, Target.port] at h
    exact absurd h.2.symm hp

theorem State.destination_request_lt {k p : Nat} (h : s.destination (.request r) = some (k, p)) (hp : p ≠ 100) : k < 144 := by
  simp only [State.destination] at h
  split_ifs at h
  exact addressTarget_lt h hp

/-- A request that arrives leaves the windows alone where the event selects of the clusters are sound. -/
theorem State.sameWindows_accept (h : ∀ k, k < 144 → s.liveBad 8 k = false) :
    State.SameWindows (s.arrive (.request r)) (s.accept (.request r)) := by
  simp only [State.accept]
  split
  · next k p hd =>
    split_ifs with hc hp
    · exact State.sameWindows_modCluster _ k fun _ => ⟨rfl, rfl⟩
    · exact .refl _
    · have hk : k < 144 := State.destination_request_lt hd (by rintro rfl; simp at hp)
      refine (State.sameWindows_modCluster _ k ?_).trans (State.sameWindows_count hk ?_ _ _)
      · exact fun _ => ⟨rfl, rfl⟩
      · exact h k hk
  · exact .refl _

/-! ### When a request is served (R244, R363) -/

/-- A request that has come to this module and to its turn is served, and its answer goes out. -/
theorem State.serveRemote_served {v : Machine.Served} (ho : r.op = op) (hm : hallModule r.address = s.fabric.moduleId)
    (hl : s.servedLater r = false) (hs : s.signalHeld r = false) (hv : (s.accept (.request r)).serve r = (t, v)) :
    s.serveRemote op r = t.answerRequest r v.status v.value v.data := by
  simp [State.serveRemote, ho, hm, hl, hs, hv]

theorem State.serveRemote_waits (h : ¬ hallModule r.address = s.fabric.moduleId ∨ r.op ≠ op ∨ s.servedLater r = true ∨
    s.signalHeld r = true) : s.serveRemote op r = s := by
  refine if_pos ?_
  simp only [Bool.or_eq_true, decide_eq_true_eq]
  tauto

/-! ### What each operation does (R359, R361, R362) -/

section Operations
variable (h8 : hallLocal r.address % 8 = 0)

theorem State.serve_unaligned (h : hallLocal r.address % r.op.align ≠ 0) : s.serve r = (s, { status := .refused 5 }) := if_pos h

include h8 in
theorem State.serve_read_ok (ho : r.op = .read) (hr : s.readAccess (hallLocal r.address) 8 = (t, .ok bs)) :
    s.serve r = (t, { status := .ok, value := leNat bs }) := by
  simp only [State.serve, ho, RemoteOp.align, h8, ne_eq, not_true_eq_false, if_false, hr]

include h8 in
theorem State.serve_read_error {e : RStatus} (ho : r.op = .read) (hr : s.readAccess (hallLocal r.address) 8 = (t, .error e)) :
    s.serve r = (t, { status := e }) := by
  simp only [State.serve, ho, RemoteOp.align, h8, ne_eq, not_true_eq_false, if_false, hr]

/-- The operations that change a word where it lies (R359). -/
def RemoteOp.changesWord (op : RemoteOp) : Prop := op = .write ∨ op = .add ∨ op = .maxu ∨ op = .maxs ∨ op = .cas

include h8 in
/-- An operation that changes a word goes to the word, but for an ADD at a sync object. -/
theorem State.serve_word (ho : r.op.changesWord) (hs : r.op = .add → ∀ k x, regionOf (hallLocal r.address) ≠ .sync k x) :
    s.serve r = s.serveWord r (hallLocal r.address) := by
  rcases ho with ho | ho | ho | ho | ho
  case inr.inl =>
    simp only [State.serve, ho, RemoteOp.align, h8, ne_eq, not_true_eq_false, if_false]
    cases hr : regionOf (hallLocal r.address) with
    | sync k x => exact absurd hr (hs ho k x)
    | _ => rfl
  all_goals simp only [State.serve, ho, RemoteOp.align, h8, ne_eq, not_true_eq_false, if_false]

theorem State.serveWord_refused {e : RStatus} (hw : s.writeRefusal a 8 = some e) : s.serveWord r a = (s.logDiscarded a e, { status := e }) := by
  simp only [State.serveWord, hw]

/-- What an operation that changes a word leaves there: a WRITE its operand, an atomic its result. -/
def RemoteOp.leaves (op : RemoteOp) (old a b : Nat) : Nat := if op = .write then a else atomicWord op old a b

/-- The value that an operation that changes a word answers: a WRITE none, an atomic the old word. -/
def RemoteOp.answers (op : RemoteOp) (old : Nat) : Nat := if op = .write then 0 else old

/-- At a word of a free place a word operation puts its new word. -/
theorem State.WordAt.serveWord (h : s.WordAt a) : ∃ t,
    s.serveWord r a = (t, { status := .ok, value := r.op.answers (leNat (s.wordBytes a)) }) ∧
      State.Wrote s t a (leBytes 8 (r.op.leaves (leNat (s.wordBytes a)) r.operandA r.operandB)) := by
  by_cases ho : r.op = .write
  · rw [RemoteOp.leaves, RemoteOp.answers, if_pos ho, if_pos ho]
    obtain ⟨t, ht, wrote⟩ := h.writeAccess (leBytes_length 8 r.operandA)
    refine ⟨t, ?_, wrote⟩
    simp only [State.serveWord, h.writeRefusal, ho, if_true, ht]
  · rw [RemoteOp.leaves, RemoteOp.answers, if_neg ho, if_neg ho]
    obtain ⟨t, ht, wrote⟩ := (h.tracked (unitBase a)).writeAccess
      (leBytes_length 8 (atomicWord r.op (leNat (s.wordBytes a)) r.operandA r.operandB))
    refine ⟨t, ?_, (s.wrote_tracked _ a).append wrote⟩
    simp only [State.serveWord, h.writeRefusal, ho, if_false, h.readAccess, ht, if_true]

include h8 in
theorem State.serve_add_sync {k x : Nat} (ho : r.op = .add) (hr : regionOf (hallLocal r.address) = .sync k x) :
    s.serve r = s.serveSignal r (hallLocal r.address) := by
  simp only [State.serve, ho, RemoteOp.align, h8, ne_eq, not_true_eq_false, if_false, hr, if_true]

include h8 in
theorem State.serve_signal (ho : r.op = .signal) : s.serve r = s.serveSignal r (hallLocal r.address) := by
  simp only [State.serve, ho, RemoteOp.align, h8, ne_eq, not_true_eq_false, if_false]

include h8 in
theorem State.serve_waitReg (ho : r.op = .waitReg) : s.serve r = s.serveWaitReg r (hallLocal r.address) := by
  simp only [State.serve, ho, RemoteOp.align, h8, ne_eq, not_true_eq_false, if_false]

end Operations

/-- The first place of a range where a search finds something. -/
theorem findSome?_range_first {α : Type} {f : Nat → Option α} {n i : Nat} {b : α} (hi : i < n) (he : f i = some b)
    (hf : ∀ j, j < i → f j = none) : (List.range n).findSome? f = some b := by
  obtain ⟨m, rfl⟩ := Nat.exists_eq_add_of_lt hi
  have before : (List.range i).findSome? f = none := List.findSome?_eq_none_iff.mpr fun j hj => hf j (List.mem_range.mp hj)
  rw [Nat.add_assoc, List.range_add, List.findSome?_append, before, Option.none_or, List.range_succ_eq_map, List.map_cons,
    List.findSome?_cons, Nat.add_zero, he]

/-- A range of data lies in one window. -/
theorem oneWindow_of_inData {len : Nat} (h : inData a len = true) : oneWindow a len = true := by
  simp only [inData, Bool.and_eq_true, Bool.or_eq_true, decide_eq_true_eq] at h
  obtain ⟨hl, ⟨hf, he⟩ | ⟨hf, he⟩⟩ := h <;> simp [oneWindow, hl, hf, he]

/-- Every line of a range of data lies in HBM or in the GENERAL region. -/
theorem inData_line {n i : Nat} (h : inData a (64 * n) = true) (hi : i < n) :
    regionOf (a + 64 * i) = .hbm ∨ regionOf (a + 64 * i) = .general := by
  simp only [inData, Bool.and_eq_true, Bool.or_eq_true, decide_eq_true_eq, regionOf_hbm_iff, regionOf_general_iff] at h ⊢
  omega

section Bulk
variable (h64 : hallLocal r.address % 64 = 0)
include h64

theorem State.serve_bulkRead_ok (ho : r.op = .bulkRead)
    (hr : s.readAccess (hallLocal r.address) (64 * (r.linesM1 + 1)) = (t, .ok bs)) : s.serve r = (t, { status := .ok, data := bs }) := by
  simp only [State.serve, ho, RemoteOp.align, h64, ne_eq, not_true_eq_false, if_false, hr]

theorem State.serve_bulkRead_error {e : RStatus} (ho : r.op = .bulkRead)
    (hr : s.readAccess (hallLocal r.address) (64 * (r.linesM1 + 1)) = (t, .error e)) : s.serve r = (t, { status := e }) := by
  simp only [State.serve, ho, RemoteOp.align, h64, ne_eq, not_true_eq_false, if_false, hr]

/-- A BULK_WRITE of which a line may not be written changes nothing, and its first such line says why. -/
theorem State.serve_bulkWrite_refused {i : Nat} {e : RStatus} (ho : r.op = .bulkWrite)
    (hw : oneWindow (hallLocal r.address) (64 * (r.linesM1 + 1)) = true) (hi : i ≤ r.linesM1)
    (he : s.writeRefusal (hallLocal r.address + 64 * i) 64 = some e)
    (hf : ∀ j, j < i → s.writeRefusal (hallLocal r.address + 64 * j) 64 = none) :
    s.serve r = (s.logDiscarded (hallLocal r.address + 64 * i) e, { status := e }) := by
  have first := findSome?_range_first (f := fun i => (s.writeRefusal (hallLocal r.address + 64 * i) 64).map fun e =>
    (hallLocal r.address + 64 * i, e)) (Nat.lt_succ_of_le hi) (by rw [he]; rfl) fun j hj => by rw [hf j hj]; rfl
  simp only [State.serve, ho, RemoteOp.align, h64, ne_eq, not_true_eq_false, if_false, hw, if_true, first]

/-- A BULK_WRITE into HBM or the GENERAL region writes its lines. -/
theorem State.serve_bulkWrite_data (ho : r.op = .bulkWrite) (hd : inData (hallLocal r.address) (64 * (r.linesM1 + 1)) = true)
    (hl : r.data.length = 64 * (r.linesM1 + 1)) (hk : ∀ i, i ≤ r.linesM1 → .linkError (hallLocal r.address + 64 * i) ∉ s.upsets) :
    ∃ t, s.serve r = (t, { status := .ok }) ∧ State.Wrote s t (hallLocal r.address) r.data := by
  have lines (i : Nat) (hi : i < r.linesM1 + 1) : s.LineAt (hallLocal r.address + 64 * i) :=
    ⟨by omega, inData_line hd hi, hk i (Nat.le_of_lt_succ hi)⟩
  obtain ⟨t, ht, wrote⟩ := State.writeLines_data (r.linesM1 + 1) hl lines
  have allowed : (List.range (r.linesM1 + 1)).findSome? (fun i => (s.writeRefusal (hallLocal r.address + 64 * i) 64).map fun e =>
      (hallLocal r.address + 64 * i, e)) = none :=
    List.findSome?_eq_none_iff.mpr fun i hi => by rw [(lines i (List.mem_range.mp hi)).writeRefusal]; rfl
  have whole : r.data.take (64 * (r.linesM1 + 1)) ++ zeros (64 * (r.linesM1 + 1) - r.data.length) = r.data := by
    rw [List.take_of_length_le hl.le, hl, Nat.sub_self]
    exact List.append_nil _
  refine ⟨t, ?_, wrote⟩
  simp only [State.serve, ho, RemoteOp.align, h64, ne_eq, not_true_eq_false, if_false, oneWindow_of_inData hd, if_true, allowed, whole, ht]

end Bulk

/-! ### Sync objects (R244 to R246, R359) -/

section Objects
variable {p : Nat × Nat} {o : SyncObj}

theorem State.serveSignal_noObject (hp : syncAt a = none) : s.serveSignal r a = (s, { status := .refused 3 }) := by
  simp only [State.serveSignal, hp]

theorem State.serveSignal_signal (hr : r.op = .signal) (hp : syncAt a = some p) (ho : s.object p = some o) : s.serveSignal r a =
    (s.signalArrive { object := r.address, count := r.operandA % 512, epoch := r.epoch, runGen := r.runGen, slot := 0xFE },
      { status := .ok }) := by
  simp only [State.serveSignal, hp, ho, hr, if_true]

theorem State.serveSignal_addPlain (hr : r.op = .add) (hp : syncAt a = some p) (ho : s.object p = some o) (hm : o.mode = 1) :
    s.serveSignal r a =
      (s.signalArrive { object := r.address, count := r.operandA % 2 ^ 24, epoch := 0, runGen := 0, slot := 0xFE }, { status := .ok }) := by
  simp only [State.serveSignal, hp, ho, hr, hm, reduceCtorEq, if_false, if_true]

theorem State.serveSignal_addRefused (hr : r.op = .add) (hp : syncAt a = some p) (ho : s.object p = some o) (hm : o.mode ≠ 1) :
    s.serveSignal r a = (s, { status := .refused 3 }) := by
  simp only [State.serveSignal, hp, ho, hr, hm, reduceCtorEq, if_false]

theorem State.serveWaitReg_object (hp : syncAt a = some p) (ho : s.object p = some o) : s.serveWaitReg r a =
    (s.waitArrive { object := r.address, epoch := r.epoch, runGen := r.runGen, slot := 0xFE,
                    waiter := .remote r.srcModule r.operandA r.epoch }, { status := .ok }) := by
  simp only [State.serveWaitReg, hp, ho]

theorem regionOf_of_syncAt (hp : syncAt a = some p) : ∃ k x, regionOf a = .sync k x := by
  rw [syncAt] at hp
  split at hp
  · next k x hr => exact ⟨k, x, hr⟩
  · cases hp

/-- A word of a sync object may not be written. -/
theorem State.writeRefusal_sync {k x : Nat} (h8 : a % 8 = 0) (hr : regionOf a = .sync k x) : s.writeRefusal a 8 = some (.refused 3) := by
  have last : regionOf (a + 8 - 1) = .sync k x := by
    rw [regionOf_sync_iff, syncBase] at hr ⊢
    omega
  have window : oneWindow a 8 = true := by
    rw [oneWindow, last, hr]
    rfl
  rw [State.writeRefusal, window, hr]
  rfl

theorem State.logDiscarded_refused3 (a : Nat) : s.logDiscarded a (.refused 3) = s := by
  cases hr : regionOf a <;> simp only [State.logDiscarded, hr]

end Objects

/-! ### Answers (R359, R361, R363) -/

theorem State.answerRequest_waitReg {st : RStatus} {value : Nat} (ho : r.op = .waitReg) : s.answerRequest r st value bs = s :=
  if_pos (by simp [ho])

/-- A request of another module is answered with a response. -/
theorem State.answerRequest_remote {st : RStatus} {value : Nat} (ho : r.op ≠ .waitReg) (hb : hallModule r.address ≠ 0xFFFF)
    (hs : r.srcModule ≠ s.fabric.moduleId) :
    s.answerRequest r st value bs = s.send (.response (r.answer s.fabric.moduleId st value bs)) := by
  simp [State.answerRequest, ho, hb, hs]

theorem State.signalHeld_of_ne (ho : r.op ≠ .signal) : s.signalHeld r = false := by
  simp [State.signalHeld, ho]

/-! ### A word as a number (R359) -/

theorem leBytes_leNat : ∀ bs : List Byte, leBytes bs.length (leNat bs) = bs
  | [] => rfl
  | b :: bs => by
    have low : (b.toNat + 256 * leNat bs) % 256 = b.toNat := by
      have := b.isLt
      omega
    have high : (b.toNat + 256 * leNat bs) / 256 = leNat bs := by
      have := b.isLt
      omega
    rw [List.length_cons, leBytes, leNat, low, high, leBytes_leNat bs, BitVec.ofNat_toNat, BitVec.setWidth_eq]

theorem signed_eq_toInt (v : Nat) : signed 64 v = (BitVec.ofNat 64 v).toInt := by
  rw [signed_eq_bmod 63, BitVec.toInt_ofNat']

theorem State.WordAt.wordBytes_eq {old : List Byte} (h : s.WordAt a)
    (ho : (List.range 8).map (fun i => s.byteAt (a + i)) = old.map some) : s.wordBytes a = old := by
  have size : old.length = 8 := by simpa using (congrArg List.length ho).symm
  refine List.ext_getElem? fun k => ?_
  by_cases hk : k < 8
  · have byte := congrArg (fun l => l[k]?) ho
    simp only [List.getElem?_map, List.getElem?_range hk, Option.map_some] at byte
    rw [h.getElem?_wordBytes hk]
    rw [List.getElem?_eq_getElem (by omega)] at byte ⊢
    exact Option.some.inj byte
  · rw [List.getElem?_eq_none (by rw [h.wordBytes_length]; omega), List.getElem?_eq_none (by omega)]

/-- A read of a word leaves it as it is. -/
theorem State.WordAt.wrote_read (h : s.WordAt a) (n : Nat) : State.Wrote s (s.tracked n) a (leBytes 8 (leNat (s.wordBytes a))) := by
  have bytes : leBytes 8 (leNat (s.wordBytes a)) = s.wordBytes a := by
    have := leBytes_leNat (s.wordBytes a)
    rwa [h.wordBytes_length] at this
  obtain ⟨m, hm⟩ := s.tracked_eq n
  rw [bytes, hm]
  refine ⟨fun k hk => ?_, fun _ _ => rfl, rfl, rfl, rfl, List.Subset.refl _⟩
  rw [h.wordBytes_length] at hk
  exact (h.getElem?_wordBytes hk).symm

theorem State.WordAt.serve_read (h : s.WordAt (hallLocal r.address)) (ho : r.op = .read) : s.serve r =
    (s.tracked (unitBase (hallLocal r.address)), { status := .ok, value := leNat (s.wordBytes (hallLocal r.address)) }) :=
  State.serve_read_ok h.aligned ho h.readAccess

/-- A free place is none of a sync object. -/
theorem State.FreeAt.not_sync (h : s.FreeAt a) (k x : Nat) : regionOf a ≠ .sync k x := by
  rcases h with h | h | ⟨j, n, h, -⟩ | ⟨c, h, -⟩ <;> simp [h]

/-! ### Flipped bits that a request meets (R483, R585) -/

theorem State.parityReport_upsets_subset (s : State) (domain inst : Nat) : (s.parityReport domain inst).upsets ⊆ s.upsets := by
  rw [State.parityReport, State.raise_upsets]
  exact State.logError_upsets_subset _ _

theorem State.count_upsets_subset (s : State) (u code n : Nat) : (s.count u code n).upsets ⊆ s.upsets := by
  have checked : (s.checkCounters u).upsets ⊆ s.upsets := by
    simp only [State.checkCounters]
    split_ifs
    any_goals exact State.parityReport_upsets_subset _ _ _
    exact List.Subset.refl _
  have same : (s.count u code n).upsets = (s.checkCounters u).upsets := by
    simp only [State.count]
    split_ifs <;> rfl
  rwa [same]

theorem State.accept_upsets_subset (s : State) (m : Msg) : (s.accept m).upsets ⊆ s.upsets := by
  simp only [State.accept]
  split
  · split_ifs
    · exact List.Subset.refl _
    · exact List.Subset.refl _
    · exact State.count_upsets_subset _ _ _ _
  · exact List.Subset.refl _

/-! ### A word operation of another module (R359, R361, R362) -/

/-- A request to a word ends: new bytes at the word, a response with the status OK and a value, and all else as it was. -/
def State.WordServed (s : State) (r : Request) (out : Out) (new value : Nat) : Prop :=
  ∃ t, out = .next t ∧ (∀ k, k < 8 → t.byteAt (hallLocal r.address + k) = (leBytes 8 new)[k]?) ∧
    (∀ b, b < hallLocal r.address ∨ hallLocal r.address + 8 ≤ b → t.byteAt b = s.byteAt b) ∧ t.slots = s.slots ∧
    t.net = s.net.erase (.request r) ++ [.response (r.answer s.fabric.moduleId .ok value [])]

section Words
variable (hm : hallModule r.address = s.fabric.moduleId) (hn : s.fabric.moduleId ≠ 0xFFFF) (hs : r.srcModule ≠ s.fabric.moduleId)
  (hl : s.servedLater r = false) (hb : ∀ k, k < 144 → s.liveBad 8 k = false) (word : s.WordAt (hallLocal r.address))
  {old : List Byte} (hold : (List.range 8).map (fun i => s.byteAt (hallLocal r.address + i)) = old.map some)
include hm hn hs hl hb

theorem State.wordServed_of_serve {new value : Nat} (ho : r.op = op) (hw : op ≠ .waitReg) (hg : op ≠ .signal)
    (hv : (s.accept (.request r)).serve r = (t, { status := .ok, value := value }))
    (hr : State.Wrote (s.accept (.request r)) t (hallLocal r.address) (leBytes 8 new)) :
    s.WordServed r (.next (s.serveRemote op r)) new value := by
  have same : State.SameWindows (s.arrive (.request r)) (s.accept (.request r)) := State.sameWindows_accept hb
  have fabric : t.fabric = s.fabric := hr.fabric.trans (s.accept_fabric _)
  have answered := State.serveRemote_served ho hm hl (State.signalHeld_of_ne (ho ▸ hg)) hv
  rw [State.answerRequest_remote (ho ▸ hw) (hm ▸ hn) (by rwa [fabric]), fabric] at answered
  refine ⟨_, congrArg _ answered, fun k hk => ?_, fun b hb => ?_, ?_, ?_⟩
  · exact hr.inside k (by rwa [leBytes_length])
  · exact (hr.outside b (by rwa [leBytes_length])).trans (same.byteAt b)
  · exact hr.slots.trans (s.accept_slots _)
  · exact congrArg (· ++ _) (hr.net.trans same.net)

include word hold

omit hm hn hs hl in
theorem State.wordAt_accept : (s.accept (.request r)).WordAt (hallLocal r.address) ∧
    (s.accept (.request r)).wordBytes (hallLocal r.address) = old := by
  have same : State.SameWindows (s.arrive (.request r)) (s.accept (.request r)) := State.sameWindows_accept hb
  have here := same.wordAt ⟨word.aligned, word.free, word.clean, word.written⟩
  exact ⟨here, here.wordBytes_eq ((List.map_congr_left fun i _ => same.byteAt _).trans hold)⟩

theorem State.wordServed_read (ho : r.op = .read) :
    s.WordServed r (.next (s.serveRemote .read r)) (leNat old) (leNat old) := by
  obtain ⟨here, bytes⟩ := State.wordAt_accept hb word hold
  exact State.wordServed_of_serve hm hn hs hl hb ho (by decide) (by decide) (bytes ▸ here.serve_read ho) (bytes ▸ here.wrote_read _)

theorem State.wordServed_changes (hc : op.changesWord) (ho : r.op = op) : s.WordServed r (.next (s.serveRemote op r))
    (op.leaves (leNat old) r.operandA r.operandB) (op.answers (leNat old)) := by
  obtain ⟨here, bytes⟩ := State.wordAt_accept hb word hold
  obtain ⟨t, ht, wrote⟩ := here.serveWord (r := r)
  rw [bytes] at ht wrote
  subst ho
  refine State.wordServed_of_serve hm hn hs hl hb rfl ?_ ?_ ?_ wrote
  · rintro h
    simp [RemoteOp.changesWord, h] at hc
  · rintro h
    simp [RemoteOp.changesWord, h] at hc
  · rw [State.serve_word here.aligned hc fun _ => here.free.not_sync, ht]

end Words

/-! ### The obligation -/

/-- The command of each operation (R359). -/
def RemoteOp.command (op : RemoteOp) (r : Request) : Instr :=
  match op with
  | .read => .remoteRead r
  | .write => .remoteWrite r
  | .add => .remoteAdd r
  | .maxu => .remoteMaxu r
  | .maxs => .remoteMaxs r
  | .cas => .remoteCas r
  | .bulkRead => .remoteBulkRead r
  | .bulkWrite => .remoteBulkWrite r
  | .signal => .remoteSignal r
  | .waitReg => .remoteWaitReg r

theorem RemoteOp.exec_command (op : RemoteOp) (r : Request) (s : State) : exec (op.command r) s = .next (s.serveRemote op r) := by
  cases op <;> rfl

section Answers
variable (ho : r.op = op) (hm : hallModule r.address = s.fabric.moduleId) (hl : s.servedLater r = false) (hs : s.signalHeld r = false)
include ho hm hl hs

/-- A command whose request is served ends with the answer to it. -/
theorem RemoteOp.exec_served {st : RStatus} {value : Nat} (hv : (s.accept (.request r)).serve r = (t, ⟨st, value, bs⟩)) :
    exec (op.command r) s = .next (t.answerRequest r st value bs) := by
  rw [op.exec_command, State.serveRemote_served ho hm hl hs hv]

/-- A word operation at a word that may not be written is refused. -/
theorem RemoteOp.exec_wordRefused {e : RStatus} (hc : op.changesWord) (h8 : hallLocal r.address % 8 = 0)
    (hr : op = .add → ∀ k x, regionOf (hallLocal r.address) ≠ .sync k x)
    (he : (s.accept (.request r)).writeRefusal (hallLocal r.address) 8 = some e) : exec (op.command r) s =
      .next (((s.accept (.request r)).logDiscarded (hallLocal r.address) e).answerRequest r e 0 []) := by
  subst ho
  exact RemoteOp.exec_served rfl hm hl hs ((State.serve_word h8 hc hr).trans (State.serveWord_refused he))

/-- A word operation other than an ADD may not change a sync object. -/
theorem RemoteOp.exec_wordAtSync {k x : Nat} (hc : op.changesWord) (ha : op ≠ .add) (h8 : hallLocal r.address % 8 = 0)
    (hr : regionOf (hallLocal r.address) = .sync k x) : exec (op.command r) s =
      .next ((s.accept (.request r)).answerRequest r (.refused 3) 0 []) := by
  have refused := RemoteOp.exec_wordRefused ho hm hl hs hc h8 (fun h => absurd h ha) (State.writeRefusal_sync h8 hr)
  rwa [State.logDiscarded_refused3] at refused

end Answers

/-- Settles O57: a word operation by what it reads and puts at its word, any other by its alignment, its range and its object. -/
theorem remoteOperations : Obligations.RemoteOperations := by
  unfold Obligations.RemoteOperations
  constructor
  · intro s r old a w unit free does hm hn hs hl h8 hf hup hcor hb hw hold _ _
    have word : s.WordAt a := ⟨h8, hf, ⟨hup, hcor⟩, hw⟩
    have changes {op : RemoteOp} (hc : op.changesWord) := State.wordServed_changes hm hn hs hl hb word hold hc
    refine ⟨State.wordServed_read hm hn hs hl hb word hold, changes (.inl rfl), changes (.inr (.inl rfl)),
      changes (.inr (.inr (.inl rfl))), fun ho => ?_, changes (.inr (.inr (.inr (.inr rfl))))⟩
    have served := changes (.inr (.inr (.inr (.inl rfl)))) ho
    rwa [RemoteOp.leaves, if_neg (by decide), atomicWord, signed_eq_toInt, signed_eq_toInt] at served
  · intro s r p o here a n u answers forms words sig
    have command : ∀ f ∈ forms, f.2 = f.1.command r := by
      simp [forms, RemoteOp.command]
    have word : ∀ f ∈ words, f.2 = f.1.command r ∧ f.1.changesWord := by
      simp [words, RemoteOp.command, RemoteOp.changesWord]
    refine ⟨fun f hf hw => ?_, fun hm hl hs => ?_⟩
    · rw [command f hf, f.1.exec_command, State.serveRemote_waits hw]
    have served (op : RemoteOp) (ho : r.op = op) {t : State} {st : RStatus} {value : Nat} {bs : List Byte}
        (hv : u.serve r = (t, ⟨st, value, bs⟩)) : exec (op.command r) s = .next (t.answerRequest r st value bs) :=
      RemoteOp.exec_served ho hm hl hs hv
    refine ⟨fun f hf ho ha => ?_, fun ho h8 => ⟨fun t bs hr => ?_, fun t e hr => ?_⟩, fun f hf e ho h8 hr he => ?_,
      fun f hf k x ho ha h8 hr => ?_, fun ho h64 => ⟨fun t bs hr => ?_, fun t e hr => ?_⟩, fun ho h64 hd hn hk => ?_,
      fun i e ho h64 hw hi he hf => ?_, fun ho h8 hp hb => ?_, fun ho h8 hp => ?_, fun ho h8 hp hb => ?_, fun ho h8 hp hb => ?_⟩
    · rw [command f hf]
      exact served f.1 ho (State.serve_unaligned (ho ▸ ha))
    · exact served .read ho (State.serve_read_ok h8 ho hr)
    · exact served .read ho (State.serve_read_error h8 ho hr)
    · obtain ⟨hc, hw⟩ := word f hf
      rw [hc]
      exact RemoteOp.exec_wordRefused ho hm hl hs hw h8 (fun _ => hr) he
    · obtain ⟨hc, hw⟩ := word f hf
      rw [hc]
      exact RemoteOp.exec_wordAtSync ho hm hl hs hw ha h8 hr
    · exact served .bulkRead ho (State.serve_bulkRead_ok h64 ho hr)
    · exact served .bulkRead ho (State.serve_bulkRead_error h64 ho hr)
    · obtain ⟨t, ht, wrote⟩ := State.serve_bulkWrite_data (s := u) h64 ho hd hn
        fun i hi hu => hk i hi (State.accept_upsets_subset s _ hu)
      exact ⟨t, served .bulkWrite ho ht, fun k hk => wrote.inside k (hn ▸ hk), fun b hb => wrote.outside b (hn ▸ hb), wrote.net⟩
    · exact served .bulkWrite ho (State.serve_bulkWrite_refused h64 ho hw hi he hf)
    · exact served .signal ho ((State.serve_signal h8 ho).trans (State.serveSignal_signal ho hp hb))
    · exact served .signal ho ((State.serve_signal h8 ho).trans (State.serveSignal_noObject hp))
    · obtain ⟨k, x, hr⟩ := regionOf_of_syncAt hp
      have serves := State.serve_add_sync (s := u) h8 ho hr
      split_ifs with hmode
      · exact served .add ho (serves.trans (State.serveSignal_addPlain ho hp hb hmode))
      · exact served .add ho (serves.trans (State.serveSignal_addRefused ho hp hb hmode))
    · have registered := served .waitReg ho ((State.serve_waitReg h8 ho).trans (State.serveWaitReg_object hp hb))
      rwa [State.answerRequest_waitReg ho] at registered

end Sys2Proof.Machine
end

section
/-! Steps of one fabric port: what leaves all ports and all traffic as they are, and what changes one port alone (R336, R339, R575). -/

namespace Sys2Proof.Machine

variable {s t u : State} {n : Nat} {x y : Port}

/-! ### Traffic -/

/-- The ports, the slots and cores they serve, and the messages under way. -/
def State.traffic (s : State) : Tbl Port × Tbl Slot × Tbl Core × List Msg := (s.ports, s.slots, s.cores, s.net)

@[simp] theorem State.sendMsix_traffic (s : State) (v : Nat) : (s.sendMsix v).traffic = s.traffic := by
  obtain ⟨p, m, h⟩ := s.sendMsix_eq v
  rw [h]
  rfl

@[simp] theorem State.raise_traffic (s : State) (k : Nat) : (s.raise k).traffic = s.traffic := by
  obtain ⟨i, p, m, h⟩ := s.raise_eq k
  rw [h]
  rfl

@[simp] theorem State.logError_traffic (s : State) (e : ErrEntry) : (s.logError e).traffic = s.traffic := by
  rw [State.logError_eq, State.raise_traffic]
  rfl

@[simp] theorem State.correctedError_traffic (s : State) (code unitKind i a : Nat) :
    (s.correctedError code unitKind i a).traffic = s.traffic := by
  simp only [State.correctedError]
  split_ifs
  · exact State.logError_traffic ..
  · rfl

@[simp] theorem State.parityReport_traffic (s : State) (domain inst : Nat) : (s.parityReport domain inst).traffic = s.traffic := by
  rw [State.parityReport, State.raise_traffic, State.logError_traffic]
  rfl

@[simp] theorem State.mgRaise_traffic (s : State) (k : Nat) : (s.mgRaise k).traffic = s.traffic := by
  obtain ⟨m, h, -⟩ := s.mgRaise_eq k
  rw [h]
  rfl

@[simp] theorem State.mgLog_traffic (s : State) (k : Nat) (p : Bool) (d : List Byte) : (s.mgLog k p d).traffic = s.traffic := by
  obtain ⟨m, h, -⟩ := s.mgLog_eq k p d
  rw [h]
  rfl

@[simp] theorem State.logCord_traffic (s : State) (p : Nat) (r : List Byte) : (s.logCord p r).traffic = s.traffic :=
  State.mgLog_traffic ..

theorem State.hostStatus_traffic (s : State) (o : Order) (e : Ending) : (s.hostStatus o e).traffic = s.traffic := by
  simp only [State.hostStatus]
  split_ifs
  · exact State.sendMsix_traffic ..
  · rfl
  · rfl

@[simp] theorem State.finish_traffic (s : State) (o : Order) (e : Ending) (accept : Nat) :
    (s.finish o e accept).traffic = s.traffic := by
  have closed (t : State) (a : Arbiter) (m : Mgmt) : State.traffic { t with arbiter := a, mgmt := m } = t.traffic := rfl
  have journalled (a : Nat) (bs : List Byte) : (s.putWhole a bs).traffic = s.traffic := rfl
  have managed (t : State) : (t.mgmtStatus o e).traffic = t.traffic := by
    simp only [State.mgmtStatus]
    split_ifs <;> rfl
  have recorded (t : State) : (t.recordCommand o e).traffic = t.traffic := by
    simp only [State.recordCommand]
    split_ifs <;> rfl
  rw [State.finish, closed]
  split_ifs <;> simp only [managed, recorded, State.mgLog_traffic, State.hostStatus_traffic, journalled]

@[simp] theorem State.finishId_traffic (s : State) (id : Nat) (e : Ending) : (s.finishId id e).traffic = s.traffic := by
  simp only [State.finishId]
  split
  · exact State.finish_traffic ..
  · rfl

/-- Commands that wait for ports complete without any traffic. -/
@[simp] theorem State.settlePorts_traffic (s : State) : s.settlePorts.traffic = s.traffic := by
  simp only [State.settlePorts]
  split_ifs
  · rw [foldl_keeps State.traffic fun _ _ => State.finishId_traffic .., foldl_keeps State.traffic fun _ _ => State.finishId_traffic ..]
    rfl
  · rw [foldl_keeps State.traffic fun _ _ => State.finishId_traffic ..]
    rfl

/-! ### A change of one port -/

/-- A step has made a port what it says; every other port, the slots, the cores and the messages under way are as they were. -/
structure State.PortBecomes (s t : State) (n : Nat) (x : Port) : Prop where
  port : t.port n = x
  others : ∀ k, k ≠ n → t.port k = s.port k
  slots : t.slots = s.slots
  cores : t.cores = s.cores
  net : t.net = s.net

namespace State.PortBecomes

theorem of_traffic (h : t.traffic = s.traffic) (n : Nat) : State.PortBecomes s t n (s.port n) := by
  simp only [State.traffic, Prod.mk.injEq] at h
  obtain ⟨hp, hs, hc, hn⟩ := h
  have port (k : Nat) : t.port k = s.port k := by rw [State.port, State.port, hp]
  exact ⟨port n, fun k _ => port k, hs, hc, hn⟩

theorem refl (s : State) (n : Nat) : State.PortBecomes s s n (s.port n) := of_traffic rfl n

theorem setPort (s : State) (n : Nat) (x : Port) : State.PortBecomes s (s.setPort n x) n x :=
  ⟨s.port_setPort n x, fun _ hk => s.port_setPort_of_ne x hk.symm, rfl, rfl, rfl⟩

theorem modPort (s : State) (n : Nat) (f : Port → Port) : State.PortBecomes s (s.modPort n f) n (f (s.port n)) := setPort s n _

theorem trans (h : State.PortBecomes s t n x) (k : State.PortBecomes t u n y) : State.PortBecomes s u n y where
  port := k.port
  others j hj := (k.others j hj).trans (h.others j hj)
  slots := k.slots.trans h.slots
  cores := k.cores.trans h.cores
  net := k.net.trans h.net

/-- A step without traffic may follow. -/
theorem then_traffic (h : State.PortBecomes s t n x) (k : u.traffic = t.traffic) : State.PortBecomes s u n x :=
  h.trans (h.port ▸ of_traffic k n)

/-- The port may change once more. -/
theorem then_setPort (h : State.PortBecomes s t n x) (y : Port) : State.PortBecomes s (t.setPort n y) n y := h.trans (setPort t n y)

theorem then_modPort (h : State.PortBecomes s t n x) (f : Port → Port) : State.PortBecomes s (t.modPort n f) n (f x) := by
  rw [State.modPort, h.port]
  exact h.then_setPort _

end State.PortBecomes

/-! ### Events of a port are counted (R575 to R577) -/

/-- The port with other counters. -/
def Port.recounted (x : Port) (counters : Tbl Nat) (frozen : Bool) : Port := { x with counters := counters, parityFrozen := frozen }

/-- Counting an event of a port changes its counters alone. -/
theorem State.portBecomes_count (s : State) (hn : n < 12) (code k : Nat) :
    ∃ c b, State.PortBecomes s (s.count (0x100 + n) code k) n ((s.port n).recounted c b) := by
  have fabric : ¬ 0x100 + n < 0x100 := by omega
  have port : ¬ 0x100 + n = 0x10F := by omega
  have self : 0x100 + n - 0x100 = n := by omega
  have checked : ∃ b, State.PortBecomes s (s.checkCounters (0x100 + n)) n ((s.port n).recounted (s.port n).counters b) := by
    simp only [State.checkCounters, fabric, port, self, if_false]
    split_ifs
    · exact ⟨true, (State.PortBecomes.modPort s n _).then_traffic (State.parityReport_traffic ..)⟩
    · exact ⟨_, State.PortBecomes.refl s n⟩
  obtain ⟨b, checked⟩ := checked
  simp only [State.count, fabric, port, self, if_false]
  split_ifs
  · exact ⟨_, b, checked.then_modPort _⟩
  · exact ⟨_, b, checked⟩

/-- An event of a port may be counted after a change of it. -/
theorem State.PortBecomes.then_count (h : State.PortBecomes s t n x) (hn : n < 12) (code k : Nat) :
    ∃ c b, State.PortBecomes s (t.count (0x100 + n) code k) n (x.recounted c b) := by
  obtain ⟨c, b, counted⟩ := t.portBecomes_count hn code k
  rw [h.port] at counted
  exact ⟨c, b, h.trans counted⟩

end Sys2Proof.Machine
end

section
/-! Frames of the fabric ports: what a frame that arrives and a frame that goes out make of their port (R340 to R351). -/

namespace Sys2Proof.Machine

variable {s t : State} {n : Nat} {x : Port} {f : DataFrame}

/-! ### Frames that arrive (R343, R347) -/

/-- A frame of which a codeword, or a slot, cannot be used. -/
def DataFrame.spoiled (f : DataFrame) : Bool := f.lostWords ≠ [] || f.slots.any fun q => q.tag = .unused

/-- The state once the codewords of a frame are counted and their errors logged. -/
def State.wordsCounted (s : State) (n : Nat) (f : DataFrame) : State :=
  let s := s.modPort n fun x => x.countWords f
  if f.spoiled || f.corrected.any (fun n => n ≠ 0) then s.correctedError 0x0007 4 n else s

theorem State.portBecomes_wordsCounted (s : State) (n : Nat) (f : DataFrame) :
    State.PortBecomes s (s.wordsCounted n f) n ((s.port n).countWords f) := by
  have counted : State.PortBecomes s (s.modPort n fun x => x.countWords f) n ((s.port n).countWords f) :=
    State.PortBecomes.modPort s n _
  simp only [State.wordsCounted]
  split_ifs
  · exact counted.then_traffic (State.correctedError_traffic ..)
  · exact counted

theorem execDataFrame_up (hn : n < 12) (hu : (s.port n).state = .up) (f : DataFrame) : execDataFrame n f s = .next
    (if f.spoiled then (s.wordsCounted n f).modPort n Port.frameLost else ((s.wordsCounted n f).frameDecoded n f).checkLimits n) := by
  rw [execDataFrame, unit_present hn]
  exact congrArg _ (if_neg fun h => h hu)

theorem DataFrame.spoiled_iff : f.spoiled = true ↔ ¬ (f.lostWords = [] ∧ ∀ q ∈ f.slots, q.tag ≠ .unused) := by
  simp only [DataFrame.spoiled, Bool.or_eq_true, decide_eq_true_eq, List.any_eq_true, not_and_or, not_forall, not_not, exists_prop]

theorem DataFrame.mem_lostWords {k : Nat} : k ∈ f.lostWords ↔ k < 4 ∧ (k ∈ f.bad ∨ 7 < (f.corrected[k]?).getD 0) := by
  simp [DataFrame.lostWords]

theorem State.checkLimits_within (h : (s.port n).overLimit = false) : s.checkLimits n = s := by
  rw [State.checkLimits, h]
  rfl

/-- A decoded frame without a LINK slot, by what the port waits for: a frame asked for again, one accepted before, or the next. -/
theorem State.frameDecoded_noLinks (h : ∀ q ∈ f.slots, q.tag ≠ .link) : s.frameDecoded n f =
    if (s.port n).rxNak.isSome then s.setPort n { s.port n with rxNakCount := (s.port n).rxNakCount + 1 }
    else if (s.port n).rxNext < (s.port n).rxHigh then s.setPort n { s.port n with rxNext := (s.port n).rxNext + 1 }
    else f.slots.foldl (State.takeSlot n) (s.setPort n
      { s.port n with rxNext := (s.port n).rxNext + 1, rxHigh := (s.port n).rxNext + 1, accepted := (s.port n).accepted + 1 }) := by
  have links : (f.slots.filterMap fun q => if q.tag = .link then q.link else none) = [] :=
    List.filterMap_eq_nil_iff.mpr fun q hq => if_neg (h q hq)
  simp only [State.frameDecoded, links, List.foldl_nil, List.any_nil, Bool.false_eq_true, if_false, State.modPort, State.port_setPort,
    State.setPort_setPort]

/-- The port has accepted the next frame. -/
def Port.accepts (x : Port) : Port := { x with rxNext := x.rxNext + 1, rxHigh := x.rxNext + 1, accepted := x.accepted + 1 }

/-- The next frame is accepted, and its slots are taken in their order. -/
theorem State.frameDecoded_next (h : ∀ q ∈ f.slots, q.tag ≠ .link) (hk : (s.port n).rxNak = none)
    (hh : (s.port n).rxHigh ≤ (s.port n).rxNext) :
    s.frameDecoded n f = f.slots.foldl (State.takeSlot n) (s.setPort n (s.port n).accepts) := by
  rw [State.frameDecoded_noLinks h, if_neg (by simp [hk]), if_neg (Nat.not_lt.mpr hh)]
  rfl

theorem State.takeSlot_idle (s : State) : State.takeSlot n s idleSlot = s := rfl

theorem State.takeIdle (s : State) (k : Nat) : (List.replicate k idleSlot).foldl (State.takeSlot n) s = s :=
  List.foldlRecOn (motive := fun t => t = s) _ _ rfl fun t ht q hq => by rw [(List.mem_replicate.mp hq).2, State.takeSlot_idle, ht]

/-- A packet of channel 0 takes its place in the receive buffer (R350). -/
theorem State.portBecomes_bufferPacket (s : State) (hn : n < 12) {q : FabricPacket} (hv : q.vc = 0) (hp : q.pooled = false) :
    ∃ c b, State.PortBecomes s (s.bufferPacket n q) n
      (Port.recounted { s.port n with rxBuf := (s.port n).rxBuf ++ [q], rxHead := none } c b) := by
  have place : s.bufferPacket n q =
      (s.modPort n fun x => { x with rxBuf := x.rxBuf ++ [q], rxHead := none }).count (0x100 + n) 0x0100 q.flits := by
    obtain ⟨vc, flits, hops, dest, poison, pooled, arrival, msg⟩ := q
    obtain rfl : vc = 0 := hv
    obtain rfl : pooled = false := hp
    rfl
  rw [place]
  exact (State.PortBecomes.modPort s n _).then_count hn _ _

/-- A repeat of the NAK is due after 1,024 frames (R347). -/
theorem execNakRepeat_due (hn : n < 12) (hu : (s.port n).state = .up) (hk : (s.port n).rxNak.isSome = true)
    (hc : 1024 ≤ (s.port n).rxNakCount) :
    execNakRepeat n s = .next (s.setPort n { s.port n with rxNakDue := true, rxNakCount := 0 }) := by
  rw [execNakRepeat, unit_present hn]
  simp [hu, hk, hc]

theorem execNakRepeat_waits (hn : n < 12) (h : (s.port n).rxNak = none ∨ (s.port n).rxNakCount < 1024) :
    execNakRepeat n s = .next s := by
  rw [execNakRepeat, unit_present hn]
  rcases h with h | h
  · simp [h]
  · simp [Nat.not_le.mpr h]

/-! ### Frames that go out (R340, R344, R345, R347) -/

/-- The port once a data frame has left (R345, R372). -/
def Port.sentFrame (x : Port) (slots : List FlitSlot) (number : Option Nat) : Port :=
  let link := slots.any fun f => f.tag = .link
  { x with
    sent := x.sent + 1, flitsSent := x.flitsSent + (slots.filter FlitSlot.flit).length, linkDue := if link then 0 else x.linkDue + 1
    rxNakDue := x.rxNakDue && !link, sentData := some (number.getD 0, slots), position := x.position + 1 }

theorem State.PortBecomes.then_frameSent (h : State.PortBecomes s t n x) (hn : n < 12) (slots : List FlitSlot) (number : Option Nat) :
    ∃ c b, State.PortBecomes s (t.frameSent n slots number) n ((x.sentFrame slots number).recounted c b) := by
  have sent : State.PortBecomes s (t.setPort n ((t.port n).sentFrame slots number)) n (x.sentFrame slots number) := by
    rw [h.port]
    exact h.then_setPort _
  obtain ⟨c, b, counted⟩ := sent.then_count hn 0x0110 1
  obtain ⟨c', b', linked⟩ := counted.then_count hn 0x0113 1
  have frame : t.frameSent n slots number =
      if (slots.any fun f => f.tag = .link) then
        ((t.setPort n ((t.port n).sentFrame slots number)).count (0x100 + n) 0x0110 1).count (0x100 + n) 0x0113 1
      else (t.setPort n ((t.port n).sentFrame slots number)).count (0x100 + n) 0x0110 1 := rfl
  rw [frame]
  split_ifs
  · exact ⟨c', b', linked⟩
  · exact ⟨c, b, counted⟩

/-- Where nothing waits for a port it fills every slot with nothing. -/
theorem Port.fill_nothing (x : Port) (hr : x.txRest = []) (hq : x.txQueue = []) : ∀ k, x.fill k [] = (List.replicate k idleSlot, x, [])
  | 0 => rfl
  | k + 1 => by
    have waiting (vc : Nat) : x.waitingOn [] vc = none := by simp [Port.waitingOn, hq]
    have next : x.nextPacket [] = none := by
      simp only [Port.nextPacket, List.filterMap_cons, waiting, List.filterMap_nil, List.filter_nil, List.getLast?_nil, List.head?_nil,
        ite_self, Option.map_none]
    simp only [Port.fill, hr, next]

/-- The new data frame of a port for which nothing waits and no LINK slot is due. -/
theorem State.sendNew_idle (hr : (s.port n).txRest = []) (hq : (s.port n).txQueue = []) (hl : s.lockPackets n = [])
    (hd : (s.port n).linkNow = false) : s.sendNew n =
    (((s.setPort n { s.port n with txNext := (s.port n).txNext + 1 }).frameSent n (List.replicate 20 idleSlot)
      (some (s.port n).txNext)).count (0x100 + n) 0x0101 0).endFences := by
  have waiting : (s.port n).waitingOn [] 0 = none := by simp [Port.waitingOn, hq]
  have nothing : (if (s.port n).txNext < (s.port n).txAck + 255 then (s.port n).fill 20 []
      else (List.replicate 20 idleSlot, s.port n, [])) = (List.replicate 20 idleSlot, s.port n, []) := by
    rw [(s.port n).fill_nothing hr hq, ite_self]
  have idle : (List.replicate 20 idleSlot).any FlitSlot.flit = false := rfl
  have none_sent : ((List.replicate 20 idleSlot).filter fun (f : FlitSlot) => f.flit && f.tag ≠ .neighbour).length = 0 := rfl
  simp only [State.sendNew, hl, hd, waiting, Bool.false_eq_true, if_false, List.length_nil, Nat.sub_zero, List.nil_append, nothing,
    List.filter_nil, List.foldl_nil, idle, none_sent]

/-- Such a frame of twenty empty slots takes the next number. -/
theorem State.portBecomes_sendNew (hn : n < 12) (hr : (s.port n).txRest = []) (hq : (s.port n).txQueue = []) (hl : s.lockPackets n = [])
    (hd : (s.port n).linkNow = false) : ∃ c b, State.PortBecomes s (s.sendNew n) n
      ((Port.sentFrame { s.port n with txNext := (s.port n).txNext + 1 } (List.replicate 20 idleSlot) (some (s.port n).txNext)).recounted
        c b) := by
  rw [State.sendNew_idle hr hq hl hd]
  obtain ⟨c, b, sent⟩ := (State.PortBecomes.setPort s n { s.port n with txNext := (s.port n).txNext + 1 }).then_frameSent hn
    (List.replicate 20 idleSlot) (some (s.port n).txNext)
  obtain ⟨c', b', counted⟩ := sent.then_count hn 0x0101 0
  exact ⟨c', b', counted.then_traffic rfl⟩

/-- A REPLAY frame leaves, and the frames that it announces wait to be sent again (R347). -/
theorem State.portBecomes_sendReplay (s : State) (hn : n < 12) (k : Nat) : ∃ rest c b, rest.length = (s.port n).txNext - k ∧
    State.PortBecomes s (s.sendReplay n k) n ((Port.sentFrame { s.port n with replayFrom := none, replaySend := rest }
      (linkFlit ((s.port n).linkSlot (some k)) :: List.replicate 19 idleSlot) none).recounted c b) := by
  obtain ⟨c, b, sent⟩ := (State.PortBecomes.setPort s n _).then_frameSent hn
    (linkFlit ((s.port n).linkSlot (some k)) :: List.replicate 19 idleSlot) none
  exact ⟨_, c, b, by rw [List.length_map, List.length_range], sent⟩

theorem execFrameSend_align (hn : n < 12) (hu : (s.port n).state = .up) (hp : (s.port n).position % 64 = 0)
    (hr : (s.port n).replayFrom = none) : execFrameSend n s = .next (s.setPort n { s.port n with
      sentAlign := some { link := (s.port n).linkSlot none, lanes := (s.port n).lanesUsed, width := (s.port n).width, port := n,
                          moduleId := s.fabric.moduleId,
                          nextFrame := ((s.port n).txNext - (s.port n).replaySend.length) % 2 ^ 32 }
      rxNakDue := false, position := (s.port n).position + 1 }) := by
  rw [execFrameSend, unit_present hn]
  simp [hu, hp, hr]

theorem execFrameSend_replay (hn : n < 12) (hu : (s.port n).state = .up) (hp : (s.port n).position % 64 ≠ 0) {k : Nat}
    (hr : (s.port n).replayFrom = some k) : execFrameSend n s = .next (s.sendReplay n k) := by
  rw [execFrameSend, unit_present hn]
  simp [hu, hp, hr]

theorem execFrameSend_new (hn : n < 12) (hu : (s.port n).state = .up) (hp : (s.port n).position % 64 ≠ 0)
    (hr : (s.port n).replayFrom = none) (hs : (s.port n).replaySend = []) : execFrameSend n s = .next (s.sendNew n) := by
  rw [execFrameSend, unit_present hn]
  simp [hu, hp, hr, hs]

/-! ### The obligation -/

section Received
variable (hn : n < 12) (hu : (s.port n).state = .up)
include hn hu

/-- A frame that cannot be used. -/
theorem dataFrame_lost (h : f.spoiled = true) : ∃ t, exec (.dataFrame n f) s = .next t ∧
    State.PortBecomes s t n ((s.port n).countWords f).frameLost := by
  refine ⟨_, execDataFrame_up hn hu f, ?_⟩
  rw [if_pos h]
  exact (s.portBecomes_wordsCounted n f).then_modPort _

variable (hl : ∀ q ∈ f.slots, q.tag ≠ .link)
include hl

/-- A good frame while another one is asked for again. -/
theorem dataFrame_waits (h : f.spoiled = false) (hk : (s.port n).rxNak.isSome = true) (ho : (s.port n).overLimit = false) :
    ∃ t, exec (.dataFrame n f) s = .next t ∧
      State.PortBecomes s t n { (s.port n).countWords f with rxNakCount := (s.port n).rxNakCount + 1 } := by
  have counted := s.portBecomes_wordsCounted n f
  have waits : State.PortBecomes s ((s.wordsCounted n f).frameDecoded n f) n
      { (s.port n).countWords f with rxNakCount := (s.port n).rxNakCount + 1 } := by
    rw [State.frameDecoded_noLinks hl, counted.port]
    exact (if_pos hk).symm ▸ counted.then_setPort _
  refine ⟨_, execDataFrame_up hn hu f, ?_⟩
  rw [h, if_neg (by decide), State.checkLimits_within (by rw [waits.port]; exact ho)]
  exact waits

/-- The next frame, where its slots make a port of the one that accepted it. -/
theorem dataFrame_next (h : f.spoiled = false) (hk : (s.port n).rxNak = none) (hh : (s.port n).rxHigh ≤ (s.port n).rxNext)
    {p : Port → Port} (hp : ∀ t : State, ∃ c b, State.PortBecomes t (f.slots.foldl (State.takeSlot n) t) n ((p (t.port n)).recounted c b))
    (hq : ∀ y, (p y).overLimit = y.overLimit) (ho : (s.port n).overLimit = false) :
    ∃ t c b, exec (.dataFrame n f) s = .next t ∧ State.PortBecomes s t n ((p ((s.port n).countWords f).accepts).recounted c b) := by
  have counted := s.portBecomes_wordsCounted n f
  have accepts := counted.then_setPort ((s.port n).countWords f).accepts
  have decoded : (s.wordsCounted n f).frameDecoded n f =
      f.slots.foldl (State.takeSlot n) ((s.wordsCounted n f).setPort n ((s.port n).countWords f).accepts) := by
    have next := State.frameDecoded_next (s := s.wordsCounted n f) (n := n) hl (counted.port ▸ hk) (counted.port ▸ hh)
    rwa [counted.port] at next
  obtain ⟨c, b, taken⟩ := hp ((s.wordsCounted n f).setPort n ((s.port n).countWords f).accepts)
  rw [accepts.port] at taken
  have within : ((p ((s.port n).countWords f).accepts).recounted c b).overLimit = false := (hq _).trans ho
  refine ⟨_, c, b, execDataFrame_up hn hu f, ?_⟩
  rw [h, if_neg (by decide), decoded, State.checkLimits_within (taken.port ▸ within)]
  exact accepts.trans taken

end Received

/-- The slots that hold nothing leave a port as it is. -/
theorem State.portBecomes_takeIdle (s : State) (n k : Nat) : ∃ c b,
    State.PortBecomes s ((List.replicate k idleSlot).foldl (State.takeSlot n) s) n ((s.port n).recounted c b) := by
  rw [State.takeIdle]
  exact ⟨_, _, State.PortBecomes.refl s n⟩

/-- The port with a packet of one flit at the end of its receive buffer. -/
def Port.buffered (m : Msg) (hops dest : Nat) (x : Port) : Port :=
  { x with
    rxBuf := x.rxBuf ++ [{ vc := 0, flits := 1, hops := hops, destModule := dest, poison := false, pooled := false, arrival := none, msg := m }]
    rxHead := none }

theorem State.portBecomes_takeSingle (s : State) (hn : n < 12) (m : Msg) (hops dest k : Nat) : ∃ c b, State.PortBecomes s
    (({ tag := .single 0, link := none, msg := some m, index := 0, hops := hops, destModule := dest } ::
      List.replicate k idleSlot).foldl (State.takeSlot n) s) n (((s.port n).buffered m hops dest).recounted c b) := by
  rw [List.foldl_cons, State.takeIdle]
  exact s.portBecomes_bufferPacket hn rfl rfl

/-- Settles O56: a frame by what it makes of its port, the frame that goes out by the position it takes. -/
theorem frameCommands : Obligations.FrameCommands := by
  unfold Obligations.FrameCommands
  intro s n f hn hu x ran good last
  have fine (hw : f.lostWords = []) (ht : ∀ q ∈ f.slots, q.tag ≠ .unused) : f.spoiled = false := by
    rw [← Bool.not_eq_true, DataFrame.spoiled_iff, not_not]
    exact ⟨hw, ht⟩
  have linkNow (hd : x.linkDue < 7) (hk : x.rxNakDue = false) : x.linkNow = false := by
    simp [Port.linkNow, hk, Nat.not_le.mpr hd]
  refine ⟨fun k => DataFrame.mem_lostWords, fun hb => ?_, fun m hops dest hw hl hs => ?_, fun hw hs ho => ⟨fun hl => ?_, fun k hk => ?_⟩,
    fun hk hc => ?_, fun hk => ?_, fun hp hr => ?_, fun hp hr hs ht hq hl hd hk _ => ?_, fun k hp hr _ => ?_⟩
  · obtain ⟨t, ht, lost⟩ := dataFrame_lost hn hu (DataFrame.spoiled_iff.mpr hb)
    refine ⟨t, ht, ?_, lost.others, lost.slots, lost.cores, lost.net⟩
    rw [lost.port]
    refine ⟨rfl, rfl, rfl, rfl, rfl, ?_⟩
    cases hk : (s.port n).rxNak <;> simp [Port.frameLost, Port.countWords, x, hk]
  · obtain ⟨hk, hh, ho⟩ := hl
    obtain ⟨t, c, b, ht, next⟩ := dataFrame_next hn hu (by simp [hs, idleSlot]) (fine hw (by simp [hs, idleSlot])) hk hh
      (p := Port.buffered m hops dest) (fun t => hs ▸ t.portBecomes_takeSingle hn m hops dest 19) (fun _ => rfl) ho
    refine ⟨t, ht, ?_, next.others, next.slots, next.cores, next.net⟩
    rw [next.port]
    exact ⟨rfl, rfl, rfl⟩
  · obtain ⟨hk, hh, ho⟩ := hl
    obtain ⟨t, c, b, ht, next⟩ := dataFrame_next hn hu (by simp [hs, idleSlot]) (fine hw (by simp [hs, idleSlot])) hk hh
      (p := id) (fun t => hs ▸ t.portBecomes_takeIdle n 20) (fun _ => rfl) ho
    refine ⟨t, ht, ?_, next.others, next.slots, next.cores, next.net⟩
    rw [next.port]
    exact ⟨rfl, rfl, rfl⟩
  · obtain ⟨t, ht, waits⟩ := dataFrame_waits hn hu (by simp [hs, idleSlot]) (fine hw (by simp [hs, idleSlot]))
      (Option.isSome_iff_exists.mpr ⟨k, hk⟩) ho
    refine ⟨t, ht, ?_, waits.others, waits.slots, waits.cores, waits.net⟩
    rw [waits.port]
    exact ⟨hk, rfl, rfl, rfl⟩
  · exact execNakRepeat_due hn hu hk hc
  · exact execNakRepeat_waits hn hk
  · refine ⟨_, execFrameSend_align hn hu hp hr, ?_, fun k hk => s.port_setPort_of_ne _ hk.symm, rfl, rfl, rfl⟩
    rw [s.port_setPort]
    exact ⟨rfl, rfl, rfl, _, rfl, rfl, rfl, rfl, rfl⟩
  · obtain ⟨c, b, sent⟩ := State.portBecomes_sendNew hn ht hq hl (linkNow hd hk)
    refine ⟨_, execFrameSend_new hn hu hp hr hs, ?_, sent.others, sent.slots, sent.cores, sent.net⟩
    rw [sent.port]
    exact ⟨rfl, rfl, rfl, rfl, rfl, rfl⟩
  · obtain ⟨rest, c, b, length, sent⟩ := s.portBecomes_sendReplay hn k
    refine ⟨_, execFrameSend_replay hn hu hp hr, ?_, sent.others, sent.slots, sent.cores, sent.net⟩
    rw [sent.port]
    exact ⟨rfl, rfl, rfl, rfl, length⟩

end Sys2Proof.Machine
end

section
/-! Cords and training of the fabric ports: what their events make of a port (R335 to R339, R376 to R385, R618). -/

namespace Sys2Proof.Machine

variable {s t : State} {n lanes lane : Nat} {x y : Port}

/-! ### States of a port (R336, R337, R339) -/

/-- A port that enters a state changes in nothing else. -/
theorem State.portBecomes_enterPort (s : State) (n : Nat) (st : PortState) :
    State.PortBecomes s (s.enterPort n st) n { s.port n with state := st } := by
  have entered : State.PortBecomes s (s.modPort n fun x => { x with state := st }) n { s.port n with state := st } :=
    State.PortBecomes.modPort s n _
  simp only [State.enterPort]
  split_ifs
  · exact entered.then_traffic (State.raise_traffic ..)
  · exact entered

theorem State.PortBecomes.then_enterPort (h : State.PortBecomes s t n x) (st : PortState) :
    State.PortBecomes s (t.enterPort n st) n { x with state := st } := by
  have entered := t.portBecomes_enterPort n st
  rw [h.port] at entered
  exact h.trans entered

@[simp] theorem State.enterPort_mem (s : State) (n : Nat) (st : PortState) : (s.enterPort n st).mem = s.mem := by
  simp only [State.enterPort]
  split_ifs
  · exact State.raise_mem ..
  · rfl

/-- The port once it has stopped: its link is gone. -/
def Port.stopped (x : Port) (st : PortState) (reason : Nat) : Port :=
  { x.clearLink with
    state := st, downReason := reason, cordStep := .idle, nonce := []
    downs := if st = .down && x.state ≠ .down then satInc 0xFF x.downs else x.downs }

/-- A port without traffic that stops loses its link alone. -/
theorem State.PortBecomes.then_stopPort (h : State.PortBecomes s t n x) (hc : x.state.carries = false) (st : PortState) (reason : Nat) :
    State.PortBecomes s (t.stopPort n st reason) n (x.stopped st reason) := by
  have dropped : State.PortBecomes s (t.dropNonce n) n x := h.then_traffic rfl
  simp only [State.stopPort, h.port, hc, Bool.false_eq_true, if_false]
  exact ((dropped.then_setPort _).then_enterPort st).then_traffic (State.settlePorts_traffic _)

theorem State.PortBecomes.then_portDown (h : State.PortBecomes s t n x) (hc : x.state.carries = false) (reason : Nat) :
    State.PortBecomes s (t.portDown n reason) n (x.stopped .down reason) := h.then_stopPort hc .down reason

/-! ### Cords (R376 to R382, R618) -/

/-- The port with nothing known of its cord or its lanes (R336). -/
def Port.unknown (x : Port) : Port :=
  { x with cordStep := .nonceWait, nonce := [], cordAuth := false, lanesOut := 0, lanesOk := 0, laneSince := [], widen := true }

/-- A port whose cord exchange begins asks for a nonce. -/
theorem State.PortBecomes.then_startAuth (h : State.PortBecomes s t n x) :
    State.PortBecomes s (t.startAuth n) n { x.unknown with state := .authenticating } :=
  ((h.then_modPort Port.unknown).then_enterPort .authenticating).then_traffic rfl

theorem State.nonce_mem_startAuth (s : State) (n : Nat) : .nonce n ∈ (s.startAuth n).entropy.rot :=
  List.mem_append_right _ (List.mem_singleton_self _)

/-- The port with a new cord of a kind (R382). -/
def Port.plugged (x : Port) (kind : Nat) : Port :=
  { x with cordPresent := true, cordKind := kind, cordAuth := false, cordWear := 3, cordPct := 0 }

theorem execCordPresent_plugged (hn : n < 12) {kind : Nat} (hp : (s.port n).cordPresent = false) (hk : kind = 1 ∨ kind = 2)
    (ha : s.platform.aux = true) : execCordPresent n kind s = .next
      (if (s.port n).state = .noCord then (s.setPort n ((s.port n).plugged kind)).startAuth n
       else s.setPort n ((s.port n).plugged kind)) := by
  rw [execCordPresent, unit_present hn]
  rcases hk with rfl | rfl <;> simp [hp, ha, Port.plugged]

theorem execCordPresent_present (hn : n < 12) {kind : Nat} (hp : (s.port n).cordPresent = true) : execCordPresent n kind s = .next s := by
  rw [execCordPresent, unit_present hn]
  simp [hp]

/-- The port without its cord (R377). -/
def Port.unplugged (x : Port) : Port :=
  { x with cordPresent := false, cordKind := 0, cordAuth := false, cordWear := 3, cordPct := 0, vcordOff := false }

theorem execCordRemoved_present (hn : n < 12) (hp : (s.port n).cordPresent = true) : execCordRemoved n s = .next
    (if (s.port n).state = .disabled then s.setPort n (s.port n).unplugged
     else if (s.port n).state.carries then (s.setPort n (s.port n).unplugged).stopPort n .noCord 0
     else ((s.setPort n (s.port n).unplugged).stopPort n .noCord 0).linkLoss n) := by
  rw [execCordRemoved, unit_present hn]
  simp [hp, Port.unplugged]

section Cause
variable {a : CordAnswer} {nonce : List Byte} {kind : Nat} {c : CordCert} {rest : List CordCert}

theorem CordAnswer.cause_badChain (h : a.chain = [] ∨ chainGood a.chain = false) : a.cause nonce kind = 2 := by
  rw [CordAnswer.cause]
  split
  · rfl
  · next c rest hc =>
    have bad : chainGood a.chain = false := h.resolve_left (by simp [hc])
    simp [bad]

variable (hc : a.chain = c :: rest) (hg : chainGood a.chain = true)
include hc hg

theorem CordAnswer.cause_badSignature (h : rsaVerify c.modulus c.exponent (nonce ++ a.record) a.signature = false) :
    a.cause nonce kind = 3 := by
  rw [hc] at hg
  simp [CordAnswer.cause, hc, hg, h]

variable (hs : rsaVerify c.modulus c.exponent (nonce ++ a.record) a.signature = true)
include hs

theorem CordAnswer.cause_badName (h : ¬ (fieldAt a.record 0 4 = 1 ∧
    subjectNames c.subject (fieldAt a.record 8 8) (fieldAt a.record 24 1) = true ∧ fieldAt a.record 23 1 = kind)) :
    a.cause nonce kind = 4 := by
  rw [hc] at hg
  have named : ¬ ((fieldAt a.record 0 4 = 1 ∧ subjectNames c.subject (fieldAt a.record 8 8) (fieldAt a.record 24 1) = true) ∧
    fieldAt a.record 23 1 = kind) := by rwa [and_assoc]
  simp [CordAnswer.cause, hc, hg, hs, named]

theorem CordAnswer.cause_good (h : fieldAt a.record 0 4 = 1 ∧
    subjectNames c.subject (fieldAt a.record 8 8) (fieldAt a.record 24 1) = true ∧ fieldAt a.record 23 1 = kind) :
    a.cause nonce kind = 0 := by
  rw [hc] at hg
  obtain ⟨h1, h2, h3⟩ := h
  simp [CordAnswer.cause, hc, hg, hs, h1, h2, h3]

end Cause

/-- A cord exchange that fails takes the port down with its cause. -/
theorem State.portBecomes_authFail (s : State) (hc : (s.port n).state = .authenticating) (cause : Nat) :
    State.PortBecomes s (s.authFail n cause) n (Port.stopped { s.port n with cordCause := cause } .down 1) :=
  (State.PortBecomes.modPort s n _).then_portDown (by rw [hc]; rfl) 1

section Answer
variable (hn : n < 12) {a : CordAnswer} (hu : (s.port n).state = .authenticating) (hc : (s.port n).cordStep = .challenged)
include hn hu hc

theorem execCordNoAnswer_challenged : execCordNoAnswer n s = .next (s.authFail n 1) := by
  rw [execCordNoAnswer, unit_present hn]
  simp [hu, hc]

/-- A cord that does not answer takes the port down. -/
theorem cordNoAnswer_down : ∃ t, exec (.cordNoAnswer n) s = .next t ∧ (t.port n).state = .down ∧ (t.port n).downReason = 1 ∧
    (t.port n).cordCause = 1 := by
  refine ⟨_, execCordNoAnswer_challenged hn hu hc, ?_⟩
  rw [(s.portBecomes_authFail hu 1).port]
  exact ⟨rfl, rfl, rfl⟩

variable (hr : a.record.length = 64) (hv : (s.port n).vcordOff = false)
include hr hv

theorem execCordAnswer_fails {cause : Nat} (h : a.cause (s.port n).nonce (s.port n).cordKind = cause) (h0 : cause ≠ 0) :
    execCordAnswer n a s = .next (s.authFail n cause) := by
  rw [execCordAnswer, unit_present hn]
  simp [hu, hc, hr, hv, h, h0]

/-- An answer that fails takes the port down, and its cause is kept. -/
theorem cordAnswer_down {cause : Nat} (h : a.cause (s.port n).nonce (s.port n).cordKind = cause) (h0 : cause ≠ 0) :
    ∃ t, exec (.cordAnswer n a) s = .next t ∧ (t.port n).state = .down ∧ (t.port n).downReason = 1 ∧ (t.port n).cordCause = cause := by
  refine ⟨_, execCordAnswer_fails hn hu hc hr hv h h0, ?_⟩
  rw [(s.portBecomes_authFail hu cause).port]
  exact ⟨rfl, rfl, rfl⟩

theorem execCordAnswer_good (h : a.cause (s.port n).nonce (s.port n).cordKind = 0) (hb : s.liveBad 5 n = false) :
    execCordAnswer n a s = .next (s.authDone n a.record) := by
  rw [execCordAnswer, unit_present hn]
  simp [hu, hc, hr, hv, h, hb]

end Answer

/-- The port that has read an end record's wear (R379, R382). -/
def Port.worn (x : Port) (r : List Byte) : Port := { x with cordWear := wearState r, cordPct := wearPct r }

/-- An expired cord that the policy refuses takes the port down. -/
theorem State.portBecomes_authDone_refused (hu : (s.port n).state = .authenticating) {r : List Byte} (hw : wearState r = 2)
    (hr : bitAt (s.liveReg (cordPolicyKey n)) 0 = 1) :
    State.PortBecomes s (s.authDone n r) n (Port.stopped { (s.port n).worn r with cordCause := 5 } .down 4) := by
  have refused : (wearState r = 2 && decide (bitAt (s.liveReg (cordPolicyKey n)) 0 = 1)) = true := by simp [hw, hr]
  rw [State.authDone]
  simp only [refused, if_true]
  exact ((State.PortBecomes.modPort s n fun x => x.worn r).then_modPort _).then_portDown (congrArg PortState.carries hu) 4

/-- The port whose cord is taken for its training (R376). -/
def Port.authenticated (x : Port) (r : List Byte) : Port :=
  { x.worn r with cordRecord := some r, cordAuth := true, cordCause := 0, cordStep := .idle, nonce := [], state := .training }

theorem State.portBecomes_authDone_taken {r : List Byte} (h : ¬ (wearState r = 2 ∧ bitAt (s.liveReg (cordPolicyKey n)) 0 = 1)) :
    State.PortBecomes s (s.authDone n r) n ((s.port n).authenticated r) := by
  have taken : ¬ (wearState r = 2 && decide (bitAt (s.liveReg (cordPolicyKey n)) 0 = 1)) = true := by simpa using h
  rw [State.authDone]
  simp only [taken]
  exact (((State.PortBecomes.modPort s n fun x => x.worn r).then_modPort _).then_traffic (State.logCord_traffic ..)).then_enterPort _

/-- A poll of the cord's end record changes the record and the wear of the port alone. -/
theorem execCordRecordPoll_record (hn : n < 12) (hc : (s.port n).state.carries = true) {r : List Byte} (hr : r.length = 64) :
    ∃ t, execCordRecordPoll n r s = .next t ∧ State.PortBecomes s t n { (s.port n).worn r with cordRecord := some r } := by
  have polled := State.PortBecomes.setPort s n { (s.port n).worn r with cordRecord := some r }
  have logged := polled.then_traffic (State.logCord_traffic _ n r)
  rw [execCordRecordPoll, unit_present hn]
  simp only [hc, hr, Bool.not_true, Bool.false_eq_true, if_false, ne_eq, not_true_eq_false]
  split_ifs
  · exact ⟨_, rfl, polled⟩
  · exact ⟨_, rfl, logged.then_traffic (State.parityReport_traffic ..)⟩
  · exact ⟨_, rfl, logged.then_traffic ((State.mgRaise_traffic ..).trans (State.raise_traffic ..))⟩
  · exact ⟨_, rfl, logged⟩

/-- An overcurrent turns VCORD off and is logged as a contained error. -/
theorem execVcordOvercurrent_on (hn : n < 12) (hv : (s.port n).vcordOff = false) (hr : s.platform.rails = true) :
    ∃ t, execVcordOvercurrent n s = .next t ∧ State.PortBecomes s t n { s.port n with vcordOff := true } ∧
      t.host.errContained = satInc (2 ^ 32 - 1) s.host.errContained := by
  refine ⟨(s.setPort n { s.port n with vcordOff := true }).contained 0x000F 4 n, ?_,
    (State.PortBecomes.setPort s n _).then_traffic (State.logError_traffic ..), State.logError_contained _ rfl⟩
  rw [execVcordOvercurrent, unit_present hn]
  simp only [hv, hr, Bool.not_true, Bool.or_self, Bool.false_eq_true, if_false]
  rfl

/-! ### Training (R335, R336, R338, R339) -/

/-- The port with the lanes that trained (R335). -/
def Port.trained (x : Port) (lanes asked : Nat) (eye : Tbl Nat) : Port :=
  let w := chooseWidth (if x.widen then asked else min x.width asked) (Nat.land lanes (15 - x.lanesOut))
  { x with
    width := w.1, lanesUsed := w.2, lanesOk := lanes % 16, laneLocked := lanes % 16, laneSince := [], laneEye := eye, aligned := true,
    position := 0 }

theorem State.trainLanes_eq (s : State) (n lanes : Nat) : ∃ eye, s.trainLanes n lanes =
    s.nextFree.2.setPort n ((s.port n).trained lanes (bitsAt (s.liveReg (portCtrlKey n)) 5 4) eye) := ⟨_, rfl⟩

/-- Trained lanes change their port alone. -/
theorem State.portBecomes_trainLanes (s : State) (n lanes : Nat) : ∃ eye, State.PortBecomes s (s.trainLanes n lanes) n
    ((s.port n).trained lanes (bitsAt (s.liveReg (portCtrlKey n)) 5 4) eye) := by
  obtain ⟨eye, h⟩ := s.trainLanes_eq n lanes
  rw [h]
  exact ⟨eye, ((State.PortBecomes.refl s n).then_traffic (u := s.nextFree.2) rfl).then_setPort _⟩

/-- The width is the widest of 8, 4 and 2 lanes that the port may use and that trained (R335). -/
theorem chooseWidth_widest {most lanes : Nat} (hm : most ≤ 3) :
    if most = 3 ∧ Nat.land lanes 15 = 15 then chooseWidth most lanes = (3, 15)
    else if 2 ≤ most ∧ Nat.land lanes 3 = 3 then chooseWidth most lanes = (2, 3)
    else if 2 ≤ most ∧ Nat.land lanes 12 = 12 then chooseWidth most lanes = (2, 12)
    else (chooseWidth most lanes).1 ≤ 1 := by
  have widest : 3 ≤ most ↔ most = 3 := ⟨fun h => Nat.le_antisymm hm h, fun h => h.ge⟩
  simp only [chooseWidth, Bool.and_eq_true, decide_eq_true_eq, widest]
  split_ifs
  · rfl
  · rfl
  · rfl
  · split
    · exact Nat.le_refl 1
    · exact Nat.zero_le 1

/-- Lanes of which the port may use one. -/
def Port.mayTrain (x : Port) (lanes : Nat) : Prop := 1 ≤ lanes ∧ lanes ≤ 15 ∧ Nat.land lanes (15 - x.lanesOut) ≠ 0

theorem Port.trained_widest (x : Port) {asked : Nat} (ha : asked ≤ 3) (lanes : Nat) (eye : Tbl Nat) :
    let most := if x.widen then asked else min x.width asked
    let l := Nat.land lanes (15 - x.lanesOut)
    let y := x.trained lanes asked eye
    if most = 3 ∧ Nat.land l 15 = 15 then y.width = 3 ∧ y.lanesUsed = 15
    else if 2 ≤ most ∧ Nat.land l 3 = 3 then y.width = 2 ∧ y.lanesUsed = 3
    else if 2 ≤ most ∧ Nat.land l 12 = 12 then y.width = 2 ∧ y.lanesUsed = 12
    else y.width ≤ 1 := by
  intro most l y
  have hm : most ≤ 3 := by
    simp only [most]
    split_ifs <;> omega
  have widest := chooseWidth_widest (lanes := l) hm
  have hw : y.width = (chooseWidth most l).1 := rfl
  have hl : y.lanesUsed = (chooseWidth most l).2 := rfl
  rw [hw, hl]
  split_ifs at widest ⊢
  all_goals simp [widest]

theorem State.checkPort_sound (hb : s.liveBad 4 n = false) : s.checkPort n = s := by
  rw [State.checkPort, hb]
  rfl

theorem Port.mayTrain_iff : x.mayTrain lanes ↔ ¬ (lanes = 0 ∨ 15 < lanes ∨ Nat.land lanes (15 - x.lanesOut) = 0) := by
  rw [Port.mayTrain]
  omega

/-- The port in RETRAINING (R338). -/
def Port.retrained (x : Port) (out : Nat) (full : Bool) : Port :=
  { x with
    lanesOut := out, widen := full, retrains := if x.state = .retraining then x.retrains else satInc 0xFF x.retrains, aligned := false
    nakRun := 0, replayTimes := [], state := .retraining }

theorem State.PortBecomes.then_retrain (h : State.PortBecomes s t n x) (full : Bool) :
    ∃ out, State.PortBecomes s (t.retrain n full) n (x.retrained out full) := by
  have advanced : State.PortBecomes s (if full then t else t.nextFree.2) n x := by
    split_ifs
    · exact h
    · exact h.then_traffic rfl
  simp only [State.retrain, h.port]
  exact ⟨_, (advanced.then_setPort _).then_enterPort .retraining⟩

theorem State.retrain_mem (s : State) (n : Nat) (full : Bool) : (s.retrain n full).mem = s.mem := by
  simp only [State.retrain, State.enterPort_mem, State.setPort_mem]
  split_ifs <;> rfl

/-- The port with a lane without lock (R338). -/
def Port.unlocked (x : Port) (lane : Nat) : Port := { x with laneLocked := x.laneLocked - bitAt x.laneLocked lane * 2 ^ lane }

section Training
variable (hn : n < 12)
include hn

theorem execTrainFail_training (hu : (s.port n).state = .training) (ha : (s.port n).aligned = false) :
    execTrainFail n s = .next ((s.modPort n fun x => { x with lanesOk := 0 }).portDown n 2) := by
  rw [execTrainFail, unit_present hn]
  simp [hu, ha]

theorem execLaneLockLoss_up (hu : (s.port n).state = .up) (hl : lane < 4) (hb : bitAt (s.port n).lanesUsed lane = 1) :
    execLaneLockLoss n lane s = .next ((s.setPort n ((s.port n).unlocked lane)).retrain n false) := by
  rw [execLaneLockLoss, unit_present hn]
  simp [hu, hl, hb, Port.unlocked]

theorem execLaneLockLoss_other (h : ¬ ((s.port n).state = .up ∧ lane < 4 ∧ bitAt (s.port n).lanesUsed lane = 1)) :
    execLaneLockLoss n lane s = .next s := by
  rw [execLaneLockLoss, unit_present hn]
  refine congrArg _ (if_neg ?_)
  simpa [and_assoc] using h

/-- A lane that loses its lock changes its port alone. -/
theorem execLaneLockLoss_becomes : ∃ u y, execLaneLockLoss n lane s = .next u ∧ State.PortBecomes s u n y ∧ u.mem = s.mem := by
  by_cases h : (s.port n).state = .up ∧ lane < 4 ∧ bitAt (s.port n).lanesUsed lane = 1
  · obtain ⟨hu, hl, hb⟩ := h
    obtain ⟨out, retrained⟩ := (State.PortBecomes.setPort s n _).then_retrain false
    exact ⟨_, _, execLaneLockLoss_up hn hu hl hb, retrained, State.retrain_mem ..⟩
  · exact ⟨_, _, execLaneLockLoss_other hn h, State.PortBecomes.refl s n, rfl⟩

variable (hb : s.liveBad 4 n = false)
include hb

theorem execLanesTrained_may (hu : (s.port n).state = .training) (ha : (s.port n).aligned = false) (hm : (s.port n).mayTrain lanes) :
    execLanesTrained n lanes s = .next (s.trainLanes n lanes) := by
  rw [Port.mayTrain_iff] at hm
  rw [execLanesTrained, unit_present hn, State.checkPort_sound hb]
  refine congrArg _ (if_neg ?_)
  simpa [hu, ha, or_assoc] using hm

/-- Lanes that train change their port alone. -/
theorem execLanesTrained_becomes : ∃ u y, execLanesTrained n lanes s = .next u ∧ State.PortBecomes s u n y ∧ u.mem = s.mem := by
  by_cases h : (s.port n).state = .training ∧ (s.port n).aligned = false ∧ (s.port n).mayTrain lanes
  · obtain ⟨hu, ha, hm⟩ := h
    obtain ⟨eye, trained⟩ := s.portBecomes_trainLanes n lanes
    exact ⟨_, _, execLanesTrained_may hn hb hu ha hm, trained, rfl⟩
  · refine ⟨s, _, ?_, State.PortBecomes.refl s n, rfl⟩
    rw [Port.mayTrain_iff, ← Bool.not_eq_true] at h
    rw [execLanesTrained, unit_present hn]
    refine congrArg _ (if_pos ?_)
    simp only [Bool.or_eq_true, decide_eq_true_eq]
    tauto

/-- The port that is UP again and replays from the first frame not acknowledged (R338, R347). -/
def Port.upAgain (x : Port) : Port := { x with replayFrom := some x.txAck, replaySend := [], state := .up }

theorem execRetrainDone_up (hu : (s.port n).state = .retraining) (hm : (s.port n).mayTrain lanes) : ∃ u eye,
    execRetrainDone n lanes s = .next u ∧
      State.PortBecomes s u n ((s.port n).trained lanes (bitsAt (s.liveReg (portCtrlKey n)) 5 4) eye).upAgain := by
  obtain ⟨eye, trained⟩ := s.portBecomes_trainLanes n lanes
  have still : ((s.trainLanes n lanes).port n).state = .retraining := by rw [trained.port]; exact hu
  have guard : ¬ ((s.port n).state ≠ .retraining || decide (lanes = 0) || decide (15 < lanes) ||
      decide (Nat.land lanes (15 - (s.port n).lanesOut) = 0)) = true := by
    simpa [hu, or_assoc] using Port.mayTrain_iff.mp hm
  refine ⟨_, eye, ?_, ((trained.then_modPort fun x => { x with replayFrom := some x.txAck, replaySend := [] }).then_enterPort .up).then_traffic
    (State.settlePorts_traffic _)⟩
  rw [execRetrainDone, unit_present hn]
  simp only [guard, State.checkPort_sound hb, still, Bool.false_eq_true, if_false, ne_eq, not_true_eq_false]

/-- A retraining that ends changes its port alone. -/
theorem execRetrainDone_becomes : ∃ u y, execRetrainDone n lanes s = .next u ∧ State.PortBecomes s u n y := by
  by_cases h : (s.port n).state = .retraining ∧ (s.port n).mayTrain lanes
  · obtain ⟨hu, hm⟩ := h
    obtain ⟨u, eye, hi, up⟩ := execRetrainDone_up hn hb hu hm
    exact ⟨u, _, hi, up⟩
  · refine ⟨s, _, ?_, State.PortBecomes.refl s n⟩
    rw [Port.mayTrain_iff] at h
    rw [execRetrainDone, unit_present hn]
    refine congrArg _ (if_pos ?_)
    simp only [Bool.or_eq_true, decide_eq_true_eq]
    tauto

end Training

/-- The port with the peer's identity (R336). -/
def Port.withPeer (x : Port) (f : AlignFrame) : Port := { x with peerId := f.moduleId, peerPort := f.port }

section Identity
variable (hn : n < 12) {f : AlignFrame} (hu : (s.port n).state = .training) (ha : (s.port n).aligned = true)
include hn hu ha

theorem execAlignmentFrame_training : execAlignmentFrame n f s = .next
    (if f.moduleId = s.fabric.moduleId then (s.setPort n ((s.port n).withPeer f)).portDown n 3
     else (((s.setPort n ((s.port n).withPeer f)).modPort n Port.start).enterPort n .up).settlePorts) := by
  rw [execAlignmentFrame, unit_present hn]
  simp [hu, ha, Port.withPeer]

/-- The peer of another module brings the port UP. -/
theorem execAlignmentFrame_up (hf : f.moduleId ≠ s.fabric.moduleId) : ∃ u, execAlignmentFrame n f s = .next u ∧
    State.PortBecomes s u n { ((s.port n).withPeer f).start with state := .up } := by
  rw [execAlignmentFrame_training hn hu ha, if_neg hf]
  exact ⟨_, rfl, (((State.PortBecomes.setPort s n _).then_modPort Port.start).then_enterPort .up).then_traffic (State.settlePorts_traffic _)⟩

theorem execAlignmentFrame_self (hf : f.moduleId = s.fabric.moduleId) : ∃ u, execAlignmentFrame n f s = .next u ∧
    State.PortBecomes s u n (((s.port n).withPeer f).stopped .down 3) := by
  rw [execAlignmentFrame_training hn hu ha, if_pos hf]
  exact ⟨_, rfl, (State.PortBecomes.setPort s n ((s.port n).withPeer f)).then_portDown (congrArg PortState.carries hu) 3⟩

end Identity

/-! ### The obligation -/

/-- Settles O55: a cord's event and a training by what they make of their port. -/
theorem cordsAndPorts : Obligations.CordsAndPorts := by
  unfold Obligations.CordsAndPorts
  constructor
  · intro s n kind a rec hn x ran challenged r chained signed named fails wear refuse
    refine ⟨fun hp hk ha => ?_, fun hp => execCordPresent_present hn hp, fun hp => ⟨fun hd => ?_, fun hd hc => ?_, fun hd hc => ?_⟩,
      fun ⟨hu, hc⟩ hr hv => ⟨fun hg => cordAnswer_down hn hu hc hr hv (CordAnswer.cause_badChain hg) (by decide),
        fun c rest hl hg => ⟨fun hs => cordAnswer_down hn hu hc hr hv (CordAnswer.cause_badSignature hl hg hs) (by decide),
          fun hs hm => cordAnswer_down hn hu hc hr hv (CordAnswer.cause_badName hl hg hs hm) (by decide),
          fun hs hm hb hw hf => ?_, fun hs hm hb hw => ?_⟩⟩,
      fun ⟨hu, hc⟩ => cordNoAnswer_down hn hu hc, fun hc hr => ?_, fun hv hr => ?_⟩
    · refine ⟨_, execCordPresent_plugged hn hp hk ha, ?_⟩
      have plugged := State.PortBecomes.setPort s n ((s.port n).plugged kind)
      split_ifs with hu
      · rw [plugged.then_startAuth.port]
        exact ⟨rfl, rfl, rfl, fun _ => ⟨rfl, State.nonce_mem_startAuth _ n⟩, fun h => absurd hu h⟩
      · rw [plugged.port]
        exact ⟨rfl, rfl, rfl, fun h => absurd h hu, fun _ => rfl⟩
    · rw [exec_cordRemoved, execCordRemoved_present hn hp, if_pos hd]
      rfl
    · rw [exec_cordRemoved, execCordRemoved_present hn hp, if_neg hd, if_pos hc]
      rfl
    · rw [exec_cordRemoved, execCordRemoved_present hn hp, if_neg hd, if_neg (by rw [hc]; decide)]
      rfl
    · refine ⟨_, execCordAnswer_good hn hu hc hr hv (CordAnswer.cause_good hl hg hs hm) hb, ?_⟩
      rw [(State.portBecomes_authDone_refused hu hw hf).port]
      exact ⟨rfl, rfl, rfl⟩
    · refine ⟨_, execCordAnswer_good hn hu hc hr hv (CordAnswer.cause_good hl hg hs hm) hb, ?_⟩
      rw [(State.portBecomes_authDone_taken (not_and_or.mpr hw)).port]
      exact ⟨rfl, rfl, rfl, rfl⟩
    · obtain ⟨t, ht, polled⟩ := execCordRecordPoll_record hn hc hr
      refine ⟨t, ht, ?_⟩
      rw [polled.port]
      exact ⟨rfl, rfl, rfl⟩
    · obtain ⟨t, ht, off, counted⟩ := execVcordOvercurrent_on hn hv hr
      exact ⟨t, ht, by rw [off.port], counted⟩
  · intro s n lanes lane f hn hb x ran asked most may has width goesDown
    have widest (eye : Tbl Nat) : width (x.trained lanes asked eye) := x.trained_widest (Nat.le_of_lt_succ (Nat.mod_lt _ (by decide))) lanes eye
    have ofFour (hm : may) : lanes % 16 = lanes := Nat.mod_eq_of_lt (Nat.lt_succ_of_le hm.2.1)
    refine ⟨fun k hk t ht => ?_, fun t ht => ?_, fun hu ha hm => ?_, fun hu ha => ?_, fun hu ha => ⟨fun hf => ?_, fun hf => ?_⟩,
      fun hu hl hb => ?_, fun hu hm => ?_, fun hu => ?_, fun hc => ?_, fun hc => ⟨?_, ?_⟩⟩
    · have alone {i : Instr} (h : ∃ u y, exec i s = .next u ∧ State.PortBecomes s u n y) (ht : exec i s = .next t) :
          t.port k = s.port k ∧ t.slots = s.slots ∧ t.cores = s.cores ∧ t.net = s.net := by
        obtain ⟨u, y, hi, becomes⟩ := h
        obtain rfl : u = t := Host.Outcome.next.inj (hi.symm.trans ht)
        exact ⟨becomes.others k hk, becomes.slots, becomes.cores, becomes.net⟩
      rcases ht with ht | ht | ht
      · obtain ⟨u, y, hi, becomes, -⟩ := execLanesTrained_becomes (lanes := lanes) hn hb
        exact alone (i := .lanesTrained n lanes) ⟨u, y, hi, becomes⟩ ht
      · obtain ⟨u, y, hi, becomes, -⟩ := execLaneLockLoss_becomes (s := s) (lane := lane) hn
        exact alone (i := .laneLockLoss n lane) ⟨u, y, hi, becomes⟩ ht
      · exact alone (i := .retrainDone n lanes) (execRetrainDone_becomes hn hb) ht
    · rcases ht with ht | ht
      · obtain ⟨u, y, hi, -, mem⟩ := execLanesTrained_becomes (lanes := lanes) hn hb
        rwa [Host.Outcome.next.inj (hi.symm.trans ht)] at mem
      · obtain ⟨u, y, hi, -, mem⟩ := execLaneLockLoss_becomes (s := s) (lane := lane) hn
        rwa [Host.Outcome.next.inj (hi.symm.trans ht)] at mem
    · obtain ⟨eye, trained⟩ := s.portBecomes_trainLanes n lanes
      refine ⟨_, execLanesTrained_may hn hb hu ha hm, ?_⟩
      rw [trained.port]
      exact ⟨rfl, ofFour hm, hu, widest eye⟩
    · have down := (State.PortBecomes.modPort s n fun x => { x with lanesOk := 0 }).then_portDown (congrArg PortState.carries hu) 2
      have hi := execTrainFail_training hn hu ha
      refine ⟨⟨_, hi, ?_⟩, ⟨_, hi, ?_⟩⟩
      · rw [down.port]
        exact ⟨rfl, rfl, rfl⟩
      · rw [down.port]
        rfl
    · obtain ⟨u, hi, up⟩ := execAlignmentFrame_up hn hu ha hf
      refine ⟨u, hi, ?_⟩
      rw [up.port]
      exact ⟨rfl, rfl, rfl, rfl, rfl, rfl, rfl, rfl⟩
    · obtain ⟨u, hi, down⟩ := execAlignmentFrame_self hn hu ha hf
      refine ⟨u, hi, ?_⟩
      rw [down.port]
      exact ⟨rfl, rfl, rfl⟩
    · obtain ⟨out, retrained⟩ := (State.PortBecomes.setPort s n ((s.port n).unlocked lane)).then_retrain false
      refine ⟨_, execLaneLockLoss_up hn hu hl hb, ?_⟩
      rw [retrained.port]
      exact ⟨rfl, rfl, rfl, if_neg fun h => by cases hu.symm.trans h⟩
    · obtain ⟨u, eye, hi, up⟩ := execRetrainDone_up hn hb hu hm
      refine ⟨u, hi, ?_⟩
      rw [up.port]
      exact ⟨rfl, ofFour hm, rfl, rfl, widest eye⟩
    · rw [exec_retrainFail, execRetrainFail, unit_present hn]
      exact congrArg _ (if_pos hu)
    · rw [exec_peerDisabled, execPeerDisabled, unit_present hn]
      exact congrArg _ (if_pos hc)
    · rw [exec_peerDisabled, execPeerDisabled, unit_present hn]
      exact congrArg _ (if_neg (by rw [hc]; decide))
    · refine execLaneLockLoss_other hn fun h => ?_
      rw [h.1] at hc
      cases hc

end Sys2Proof.Machine
end

section
/-! Doorbells, passes of the arbiter, the journal and the first checks (R391, R392, R397, R398, R403, R405, R462, R464, R465). -/

namespace Sys2Proof.Machine

variable {s : State}

/-! ### Doorbells (R391, R392) -/

section Doorbells

variable {q : Nat} {tail : Bool} {v : Word}

theorem State.doorbellWrite_barsDown (h : s.barsUp = false) : s.doorbellWrite q tail v = s := by
  simp [State.doorbellWrite, h]

theorem State.doorbellWrite_held (h : s.barsUp = true) (hp : s.postedOpen = true) : s.doorbellWrite q tail v =
    { s with host := { s.host with doorbells := s.host.doorbells ++ [(q, tail, v.toNat)] } } := by
  simp [State.doorbellWrite, h, hp]

theorem State.doorbellWrite_effective (h : s.barsUp = true) (hp : s.postedOpen = false) :
    s.doorbellWrite q tail v = s.doorbell q tail v.toNat := by
  simp [State.doorbellWrite, h, hp]

theorem execSqTail_of_lt (hq : q < 64) : execSqTail q v s = .next (s.doorbellWrite q true v) := unit_present hq _

theorem execCqHead_of_lt (hq : q < 64) : execCqHead q v s = .next (s.doorbellWrite q false v) := unit_present hq _

end Doorbells

/-! ### A pass with no queue that runs (R403, R465) -/

section Pass

variable (h : s.runningQueues = [])
include h

theorem State.passLength_of_no_queue : s.passLength = min 16 s.arbiter.mgmt.length + s.arbiter.noted.length := by
  simp [State.passLength, h]

theorem State.pass_of_nothing (hn : s.passLength = 0 ∨ s.platform.boot ≠ .ready) : s.pass = s := by
  rw [State.pass, h, List.foldl_nil]
  exact if_pos (by rcases hn with hn | hn <;> simp [hn])

/-- With every ring position free or freed by an abort, a pass accepts the management orders in front of it, the first group first, and
then the slot changes noted. -/
theorem State.pass_of_management (hn : s.passLength ≠ 0) (hb : s.platform.boot = .ready)
    (free : ∀ i, i < s.passLength → ∀ o, s.ringHolder (s.arbiter.newest + 1 + i) = some o → s.abortable o = true) :
    s.pass =
      let mg := s.arbiter.mgmt.take 16
      let first := mg.filter fun o => firstGroup.contains o.opcode
      let last := mg.filter fun o => !firstGroup.contains o.opcode
      s.arbiter.noted.foldl State.acceptNote ((first ++ last).foldl (State.acceptOrder first)
        { s with arbiter := { s.arbiter with mgmt := s.arbiter.mgmt.drop 16, noted := [] } }) := by
  have none_runs (a : Arbiter) : ({ s with arbiter := a } : State).runningQueues = [] := h
  simp only [State.pass, h, List.foldl_nil, none_runs, List.filter_nil, List.append_nil]
  refine if_neg ?_
  simp only [hb, hn, ne_eq, not_true_eq_false, decide_false, Bool.false_or, List.any_eq_true, List.mem_range, not_exists, not_and]
  intro i hi
  cases ho : s.ringHolder (s.arbiter.newest + 1 + i) with
  | none => simp
  | some o => simp [free i hi o ho]

end Pass

/-! ### An order of a pass (R397, R405, R462, R464) -/

section Accept

variable {mgmt : List Order} {o : Order}

/-- The state once the next journal sequence is given and an order's entry is written there. -/
def State.journaledNext (s : State) (o : Order) : State :=
  ({ s with arbiter := { s.arbiter with newest := s.arbiter.newest + 1 } }).putWhole (journalAddr (s.arbiter.newest + 1))
    (journalEntry (s.arbiter.newest + 1) o.tag o.opcode o.flags o.target o.source 1 0 0xFF 0 0 ((sha256 ((pktBytes o.packet).drop 16)).take 16))

/-- An order with the next journal sequence. -/
def Order.sequenced (o : Order) (s : State) : Order := { o with seq := s.arbiter.newest + 1 }

variable (free : s.ringHolder (s.arbiter.newest + 1) = none)
include free

theorem State.nextSeq_of_free :
    s.nextSeq = (s.arbiter.newest + 1, { s with arbiter := { s.arbiter with newest := s.arbiter.newest + 1 } }) := by
  simp only [State.nextSeq, State.freeRing, free]

/-- An order at a free ring position is journalled, and then refused, overridden or dispatched. -/
theorem State.acceptOrder_of_free : s.acceptOrder mgmt o =
    match (s.journaledNext o).acceptCheck (o.sequenced s) with
    | some e => (s.journaledNext o).finish (o.sequenced s) e 2
    | none =>
      if o.source ≠ 0x80 && mgmt.any fun m => preempts m (o.sequenced s) then (s.journaledNext o).finish (o.sequenced s) { status := 0x04 } 3
      else { s.journaledNext o with arbiter := { (s.journaledNext o).arbiter with orders := s.arbiter.orders ++ [o.sequenced s] } } := by
  simp only [State.acceptOrder, State.nextSeq_of_free free] <;> rfl

theorem State.acceptOrder_refused {e : Ending} (hc : (s.journaledNext o).acceptCheck (o.sequenced s) = some e) :
    s.acceptOrder mgmt o = (s.journaledNext o).finish (o.sequenced s) e 2 := by
  rw [State.acceptOrder_of_free free, hc]

theorem State.acceptOrder_overridden (hc : (s.journaledNext o).acceptCheck (o.sequenced s) = none) (hs : o.source ≠ 0x80)
    (hm : ∃ m ∈ mgmt, preempts m (o.sequenced s) = true) :
    s.acceptOrder mgmt o = (s.journaledNext o).finish (o.sequenced s) { status := 0x04 } 3 := by
  rw [State.acceptOrder_of_free free, hc]
  exact if_pos (by simp [hs, List.any_eq_true.mpr hm])

theorem State.acceptOrder_dispatched (hc : (s.journaledNext o).acceptCheck (o.sequenced s) = none)
    (hm : o.source = 0x80 ∨ ∀ m ∈ mgmt, preempts m (o.sequenced s) = false) : s.acceptOrder mgmt o =
    { s.journaledNext o with arbiter := { (s.journaledNext o).arbiter with orders := s.arbiter.orders ++ [o.sequenced s] } } := by
  rw [State.acceptOrder_of_free free, hc]
  refine if_neg ?_
  rcases hm with hm | hm
  · simp [hm]
  · simpa using fun _ => hm

end Accept

/-! ### The checks before any other (R397, R398) -/

section Checks

variable {o : Order} (hs : o.source ≠ 0x80)
include hs

theorem Order.slot?_of_host : o.slot? = if o.opcode ∈ slotOpcodes ∧ o.target < 48 then some o.target else none := by
  simp [Order.slot?, hs]

theorem State.acceptCheck_unknown (ho : o.opcode ∉ hostOpcodes) : s.acceptCheck o = some { status := 0x10 } := by
  simp [State.acceptCheck, hs, ho]

variable (ho : o.opcode ∈ hostOpcodes)
include ho

omit hs in
theorem State.acceptCheck_reserved (hf : o.field 4 4 ≠ 0) : s.acceptCheck o = some { status := 0x11, d17 := 4 } := by
  simp [State.acceptCheck, ho, hf, Ending.badParam]

variable (hf : o.field 4 4 = 0)
include hf

theorem State.acceptCheck_unprivileged (hp : o.opcode ∈ privilegedOpcodes) (hq : bitAt (s.queueCtrl o.source) 24 = 0) :
    s.acceptCheck o = some { status := 0x14 } := by
  simp [State.acceptCheck, hs, ho, hf, hp, hq]

theorem State.acceptCheck_slot (hp : o.opcode ∈ privilegedOpcodes → bitAt (s.queueCtrl o.source) 24 ≠ 0) :
    s.acceptCheck o = if o.opcode ∈ slotOpcodes ∧ o.target < 48 ∧ bitAt (s.slotMask o.source) o.target = 0
      then some { status := 0x14 } else none := by
  have privileged : (decide (o.source ≠ 0x80) && privilegedOpcodes.contains o.opcode && decide (bitAt (s.queueCtrl o.source) 24 = 0)) = false := by
    simpa using fun _ => hp
  simp only [State.acceptCheck, privileged, Order.slot?_of_host hs]
  by_cases hn : o.opcode ∈ slotOpcodes ∧ o.target < 48
  · simp [hs, ho, hf, hn]
  · have unnamed : ¬ (o.opcode ∈ slotOpcodes ∧ o.target < 48 ∧ bitAt (s.slotMask o.source) o.target = 0) :=
      fun ⟨hop, ht, _⟩ => hn ⟨hop, ht⟩
    simp [ho, hf, hn, unnamed]

end Checks

/-! ### The obligation -/

/-- Settles O33: a doorbell by the BARs and by the posted writes open, a pass by whether it has anything to take, an order of it by the
check of R397, and that check by the first of its conditions that an order breaks. -/
theorem arbiterCommands : Obligations.ArbiterCommands := by
  refine ⟨fun s q v hq => ?_, fun s hr => ?_, fun s mgmt o free => ?_, fun s o hs => ?_⟩
  · rw [exec_sqTail, exec_cqHead, execSqTail_of_lt hq, execCqHead_of_lt hq]
    refine ⟨fun h => ?_, fun h hp => ?_, fun h hp => ?_⟩
    · exact ⟨congrArg _ (State.doorbellWrite_barsDown h), congrArg _ (State.doorbellWrite_barsDown h)⟩
    · exact ⟨congrArg _ (State.doorbellWrite_held h hp), congrArg _ (State.doorbellWrite_held h hp)⟩
    · exact ⟨congrArg _ (State.doorbellWrite_effective h hp), congrArg _ (State.doorbellWrite_effective h hp)⟩
  · rw [exec_arbiterPass, execArbiterPass]
    intro n mg first last u
    have length : s.passLength = n := State.passLength_of_no_queue hr
    refine ⟨fun h => congrArg _ (State.pass_of_nothing hr (by rwa [length])), fun hn hb ring => congrArg _ ?_⟩
    exact State.pass_of_management hr (by rwa [length]) hb (by rwa [length])
  · exact ⟨fun e => State.acceptOrder_refused free, State.acceptOrder_overridden free, State.acceptOrder_dispatched free⟩
  · exact ⟨State.acceptCheck_unknown hs, State.acceptCheck_reserved, State.acceptCheck_unprivileged hs, State.acceptCheck_slot hs⟩

end Sys2Proof.Machine
end

section
/-! Reads and writes through the BAR4 window, their time-outs, and its size (R388, R393, R394, R398, R399, R406). -/

namespace Sys2Proof.Machine

variable {s : State} {offset len hall : Nat} {bytes : List Byte}

/-! ### What a logged error changes (R585, R596) -/

theorem State.raise_host (s : State) (n : Nat) : ∃ p m, (s.raise n).host = { s.host with msixPend := p, msix := m } := by
  obtain ⟨i, p, m, h⟩ := s.raise_eq n
  exact ⟨p, m, congrArg State.host h⟩

/-- Of the host station a logged error changes the counts of its class, and it may send a message. -/
theorem State.logError_host (s : State) (e : ErrEntry) :
    ∃ p m, (s.logError e).host = { s.host.countError e.cls with msixPend := p, msix := m } := by
  rw [s.logError_eq]
  exact (s.entered e).raise_host 4

@[simp] theorem State.logError_slots (s : State) (e : ErrEntry) : (s.logError e).slots = s.slots := by
  rw [s.logError_eq, State.raise_slots]
  rfl

@[simp] theorem State.logError_cores (s : State) (e : ErrEntry) : (s.logError e).cores = s.cores := by
  rw [s.logError_eq, State.raise_cores]
  rfl

/-! ### Accesses that are refused (R394, R399, R407) -/

/-- An access that finds the window closed is counted and logged. -/
theorem State.bar4Fail_closed (s : State) (hall : Nat) : s.bar4Fail (.refused 0) hall =
    ({ s with host := { s.host with bar4Ur := satInc 0xFF s.host.bar4Ur } }).logError
      { cls := .contained, code := 0x0011, unitKind := 7, unit := 0, address := hall } := by
  simp [State.bar4Fail, State.loggedHere]

theorem State.bar4Fail_closed_host (s : State) (hall : Nat) : (s.bar4Fail (.refused 0) hall).host.bar4Ur = satInc 0xFF s.host.bar4Ur ∧
    (s.bar4Fail (.refused 0) hall).host.aer = s.host.aer := by
  obtain ⟨p, m, h⟩ := State.logError_host { s with host := { s.host with bar4Ur := satInc 0xFF s.host.bar4Ur } }
    { cls := .contained, code := 0x0011, unitKind := 7, unit := 0, address := hall }
  rw [State.bar4Fail_closed, h]
  exact ⟨rfl, rfl⟩

@[simp] theorem State.bar4Fail_closed_slots (s : State) (hall : Nat) : (s.bar4Fail (.refused 0) hall).slots = s.slots := by
  rw [State.bar4Fail_closed, State.logError_slots]

@[simp] theorem State.bar4Fail_closed_cores (s : State) (hall : Nat) : (s.bar4Fail (.refused 0) hall).cores = s.cores := by
  rw [State.bar4Fail_closed, State.logError_cores]

/-! ### Reads (R393, R394, R399, R406) -/

theorem State.bar4ReadDone_ok (s : State) (hall len : Nat) (bs : List Byte) :
    s.bar4ReadDone hall len .ok bs = { s with reply := .data bs } := rfl

/-- A read that finds the window closed is an Unsupported Request, which AER reports. -/
theorem State.bar4ReadDone_closed (s : State) (hall len : Nat) :
    let t := s.bar4ReadDone hall len (.refused 0) []
    t.reply = .unsupported ∧ t.host.bar4Ur = satInc 0xFF s.host.bar4Ur ∧ t.host.aer = .unsupportedRequest :: s.host.aer ∧
      t.slots = s.slots ∧ t.cores = s.cores := by
  obtain ⟨counted, kept⟩ := s.bar4Fail_closed_host hall
  exact ⟨rfl, counted, congrArg _ kept, s.bar4Fail_closed_slots hall, s.bar4Fail_closed_cores hall⟩

/-- A read of this module gives the bytes of the lines that it touches, from its own address on. -/
theorem State.bar4Get_here {t : State} {bs : List Byte} (hf : s.far hall = false)
    (hr : ({ s with host := { s.host with peak := max s.host.peak (s.host.inUse + 1) } }).readAccess (hallLocal (hall / 64 * 64))
      (64 * linesOf hall len) = (t, .ok bs)) :
    s.bar4Get hall len = { t with reply := .data ((bs.drop (hall - hall / 64 * 64)).take len) } := by
  simp only [State.bar4Get, hf, Bool.false_eq_true, if_false, hr, State.bar4ReadDone_ok]

theorem State.checkWindow_sound (hl : s.liveBad 2 0 = false) : s.checkWindow = s := by
  simp [State.checkWindow, hl]

theorem State.windowOpen_iff : s.windowOpen = true ↔ s.regs.winOpen = true ∧ s.platform.boot = .ready := by
  simp [State.windowOpen]

section Read

variable (hl : s.liveBad 2 0 = false) (hw : len ≠ 0 ∧ offset + len ≤ 2 ^ s.platform.bar4Log2 ∧ linesOf offset len ≤ 64)
include hw

theorem execBar4Read_barsDown (hb : s.barsUp = false) : execBar4Read offset len s = .next { s with reply := .unsupported } := by
  simp [execBar4Read, hw, hb]

include hl

/-- A read inside the window, by whether the window is open and a tracker is left. -/
theorem execBar4Read_inWindow (hb : s.barsUp = true) : execBar4Read offset len s = .next
    (if s.windowOpen = true then
      (if 1216 ≤ (s.host.bar4Open.filter fun b => !b.write).length then s else s.bar4Get (s.winAddr offset) len)
      else s.bar4ReadDone (s.winAddr offset) len (.refused 0) []) := by
  by_cases ho : s.windowOpen = true <;> simp [execBar4Read, bar4Share, hw, hb, ho, State.checkWindow_sound hl]

end Read

/-! ### Writes (R393, R394, R399) -/

/-- The state once a poisoned write is counted, reported and logged. -/
def State.bar4Poisoned (s : State) (hall : Nat) : State :=
  ({ s with host := { s.host with bar4EpIn := satInc 0xFF s.host.bar4EpIn, aer := .poisonedTlp :: s.host.aer } }).logError
    { cls := .contained, code := 0x0015, unitKind := 7, unit := 0, address := hall }

theorem State.bar4Poisoned_host (s : State) (hall : Nat) : (s.bar4Poisoned hall).host.bar4EpIn = satInc 0xFF s.host.bar4EpIn ∧
    (s.bar4Poisoned hall).host.errContained = satInc (2 ^ 32 - 1) s.host.errContained ∧
    (s.bar4Poisoned hall).host.aer = .poisonedTlp :: s.host.aer := by
  obtain ⟨p, m, h⟩ := State.logError_host
    { s with host := { s.host with bar4EpIn := satInc 0xFF s.host.bar4EpIn, aer := .poisonedTlp :: s.host.aer } }
    { cls := .contained, code := 0x0015, unitKind := 7, unit := 0, address := hall }
  rw [State.bar4Poisoned, h]
  exact ⟨rfl, rfl, rfl⟩

/-- A write that touches one line is one piece. -/
theorem linePieces_one (h : linesOf hall bytes.length = 1) : linePieces hall bytes = [(hall, bytes)] := by
  have first : max hall (hall / 64 * 64) = hall := max_eq_left (Nat.div_mul_le_self hall 64)
  have whole : bytes.length ≤ (hall / 64 + 1) * 64 - hall := by
    unfold linesOf at h
    omega
  simp [linePieces, h, first, List.take_of_length_le whole]

theorem State.bar4Piece_here (hf : s.far hall = false) : s.bar4Piece (hall, bytes) =
    (s.writeAccess (hallLocal hall) bytes).1.bar4Fail (s.writeAccess (hallLocal hall) bytes).2 hall := by
  simp [State.bar4Piece, hf]

section Write

variable (hl : s.liveBad 2 0 = false) (hne : bytes ≠ []) (hw : offset + bytes.length ≤ 2 ^ s.platform.bar4Log2) (hb : s.barsUp = true)
include hl hne hw hb

theorem execBar4Write_poisoned : execBar4Write offset bytes true s = .next (s.bar4Poisoned (s.winAddr offset)) := by
  simp [execBar4Write, State.bar4Poisoned, hne, hw, hb, State.checkWindow_sound hl]

theorem execBar4Write_inWindow : execBar4Write offset bytes false s = .next
    (if s.windowOpen = true then (linePieces (s.winAddr offset) bytes).foldl State.bar4Piece s
      else s.bar4Fail (.refused 0) (s.winAddr offset)) := by
  simp [execBar4Write, hne, hw, hb, State.checkWindow_sound hl]

end Write

/-! ### Time-outs and the window's size (R388, R394, R398) -/

theorem State.bar4Answer_none {tag : Nat} {r : RStatus} (h : (s.host.bar4Open.find? fun b => b.tag = tag) = none) (bs : List Byte) :
    s.bar4Answer tag r bs = s := by
  rw [State.bar4Answer, h]

theorem State.bar4Answer_read {tag : Nat} {r : RStatus} {b : Bar4Access} (h : (s.host.bar4Open.find? fun b => b.tag = tag) = some b)
    (hr : b.write = false) (bs : List Byte) : s.bar4Answer tag r bs =
    (({ s with host := { s.host with bar4Open := s.host.bar4Open.filter fun x => x.tag ≠ tag, inUse := s.host.inUse - 1 } }).bar4ReadDone
      b.address b.length r ((bs.drop (b.address % 64)).take b.length)).releaseDoorbells := by
  simp [State.bar4Answer, h, hr]

theorem execBar4Resize_allowed {log2 : Nat} (hlow : 36 ≤ log2) (hhigh : log2 ≤ 39) : execBar4Resize log2 s = .next
    { s with platform := { s.platform with bar4Log2 := log2 }
             regs := { s.regs with winOpen := s.regs.winOpen && baseFits s.winBase log2 } } :=
  congrArg _ (if_pos (by simp [hlow, hhigh]))

/-! ### The obligation -/

/-- Settles O50: a read and a write by whether the window is open and where they go, a time-out by the access of its tag. -/
theorem windowAccesses : Obligations.WindowAccesses := by
  intro s offset len tag log2 bytes b hl hall first open_ h inWindow
  refine ⟨fun hw hb => ?_, fun hw hb ho => ?_, fun hw hb ho hn => ?_, fun hw hb ho hn hf => ?_,
    fun hne hw hb => ⟨?_, fun ho => ?_, fun ho hf h1 => ?_⟩, fun hf => ?_, fun hf hr => ?_, fun hlow hhigh => ?_⟩
  · exact execBar4Read_barsDown hw hb
  · refine ⟨_, (execBar4Read_inWindow hl hw hb).trans (congrArg _ (if_neg (mt State.windowOpen_iff.mp ho))), ?_⟩
    exact s.bar4ReadDone_closed _ len
  · exact (execBar4Read_inWindow hl hw hb).trans (congrArg _ ((if_pos (State.windowOpen_iff.mpr ho)).trans (if_pos hn)))
  · intro u t bs hr
    refine (execBar4Read_inWindow hl hw hb).trans (congrArg _ ?_)
    rw [if_pos (State.windowOpen_iff.mpr ho), if_neg (Nat.not_le.mpr hn)]
    exact State.bar4Get_here hf hr
  · obtain ⟨counted, logged, reported⟩ := s.bar4Poisoned_host (s.winAddr offset)
    exact ⟨_, execBar4Write_poisoned hl hne hw hb, counted, logged, reported, State.logError_slots .., State.logError_cores ..⟩
  · refine ⟨_, (execBar4Write_inWindow hl hne hw hb).trans (congrArg _ (if_neg (mt State.windowOpen_iff.mp ho))), ?_⟩
    exact ⟨(s.bar4Fail_closed_host _).1, s.bar4Fail_closed_slots _, s.bar4Fail_closed_cores _⟩
  · refine (execBar4Write_inWindow hl hne hw hb).trans (congrArg _ ?_)
    rw [if_pos (State.windowOpen_iff.mpr ho), linePieces_one h1, List.foldl_cons, List.foldl_nil, State.bar4Piece_here hf]
  · exact congrArg _ (State.bar4Answer_none hf _)
  · refine congrArg _ ((State.bar4Answer_read hf hr _).trans ?_)
    rw [List.drop_nil, List.take_nil]
  · exact ⟨_, execBar4Resize_allowed hlow hhigh, rfl, rfl, rfl, rfl⟩

end Sys2Proof.Machine
end

section
/-! Deferred tests, completions of host memory, and the host link (R386, R387, R399, R407, R439, R598). -/

namespace Sys2Proof.Machine

variable {s : State}

/-! ### Deferred tests (R439) -/

section Tests

variable {w : TestOutcome}

theorem Ending.ran_iff (e : Ending) : e.ran = true ↔ e.status = 0 := decide_eq_true_iff

/-- The mark of a deferred test that did not run or did not pass, in its error-log record. -/
theorem bitOf_failed (e : Ending) (w : TestOutcome) :
    bitOf (!e.ran || !w.pass) * 2 ^ 40 = if e.status ≠ 0 ∨ w.pass = false then 2 ^ 40 else 0 := by
  by_cases he : e.status = 0 <;> cases hp : w.pass <;> simp [bitOf, Ending.ran, he]

theorem execDeferredTestRun_idle (h : s.platform.boot ≠ .ready ∨ s.arbiter.tests.find? s.testReady = none) :
    execDeferredTestRun w s = .next s := by
  rw [execDeferredTestRun]
  refine congrArg _ ?_
  split_ifs with hb
  · rw [State.runDeferred, h.resolve_left (not_not_intro hb)]
  · rfl

theorem execDeferredTestRun_ready (hb : s.platform.boot = .ready) : execDeferredTestRun w s = .next (s.runDeferred w) :=
  congrArg _ (if_pos hb)

/-- A deferred test that runs leaves the list, takes effect where it was carried out, and is logged and noted for the journal. -/
theorem State.runDeferred_ready {k : PendingTest} (h : s.arbiter.tests.find? s.testReady = some k) :
    let e := s.testEnding k.calibrate k.code w
    let u := { s with arbiter := { s.arbiter with tests := s.arbiter.tests.erase k } }
    s.runDeferred w =
      (((if e.status = 0 then u.applyTest k.calibrate k.code k.unit w else u).logError
        { cls := .test, code := 0x0018, action := 5, unitKind := testUnitKind k.calibrate k.code, unit := k.unit
          info := e.result + k.code * 2 ^ 32 + (if e.status ≠ 0 ∨ w.pass = false then 2 ^ 40 else 0), seq := k.seq }).note
        { opcode := 0xC4, target := k.unit % 2 ^ 16, status := e.status, detail := e.d17, result := k.seq }).retryStarts := by
  intro e u
  simp only [State.runDeferred, h, ← bitOf_failed, ← Ending.ran_iff] <;> rfl

end Tests

/-! ### Completions of host memory (R387, R399, R407) -/

section Completions

variable {tag : Nat} {res : ReadResult}

theorem State.nextHeld_aer (s : State) : s.nextHeld.host.aer = s.host.aer := by
  unfold State.nextHeld
  split
  · rfl
  · split_ifs
    · rfl
    · unfold State.sendRead
      split_ifs <;> rfl

theorem State.endRead_aer (s : State) (tag : Nat) : (s.endRead tag).host.aer = s.host.aer := by
  refine (State.nextHeld_aer _).trans ?_
  dsimp only
  split_ifs <;> rfl

theorem execHostMemoryCompletion_unknown (h : s.arbiter.reads.find? (fun x => x.1 = tag) = none) :
    execHostMemoryCompletion tag res s = .next s := by
  rw [execHostMemoryCompletion, h]

section Open

variable {r : HostRead} (h : s.arbiter.reads.find? (fun x => x.1 = tag) = some (tag, r))
include h

/-- While the host has the completion timeout disabled, no read of its memory times out. -/
theorem execHostMemoryCompletion_timeoutOff (hm : r.ofMgmt = false) (ht : res = .timeout) (hp : s.platform.pcie.timeoutOff = true) :
    execHostMemoryCompletion tag res s = .next s := by
  simp [execHostMemoryCompletion, h, hm, ht, hp]

theorem execHostMemoryCompletion_packet {q i : Nat} (ht : res ≠ .timeout ∨ s.platform.pcie.timeoutOff = false) (hr : r = .packet q i) :
    execHostMemoryCompletion tag res s = .next (((s.endRead tag).reportRead res).packetFetched q i res) := by
  have comes : ¬ (res = .timeout ∧ s.platform.pcie.timeoutOff = true) := by simpa [imp_iff_not_or] using ht
  subst hr
  simp [execHostMemoryCompletion, h, HostRead.ofMgmt, comes]

theorem execHostMemoryCompletion_copied {o : Nat} (bs : List Byte) (hr : r = .copy o) :
    execHostMemoryCompletion tag (.data bs) s = .next ((s.endRead tag).transferData o bs) := by
  subst hr
  simp [execHostMemoryCompletion, h, HostRead.ofMgmt, State.reportRead]

theorem execHostMemoryCompletion_copyError {o : Nat} (hr : r = .copy o) :
    execHostMemoryCompletion tag .error s = .next (((s.endRead tag).reportRead .error).transferError o) := by
  subst hr
  simp [execHostMemoryCompletion, h, HostRead.ofMgmt]

theorem execHostMemoryCompletion_copyTimeout {o : Nat} (ht : s.platform.pcie.timeoutOff = false) (hr : r = .copy o) :
    execHostMemoryCompletion tag .timeout s = .next (((s.endRead tag).reportRead .timeout).transferError o) := by
  subst hr
  simp [execHostMemoryCompletion, h, ht, HostRead.ofMgmt]

end Open

end Completions

/-! ### The host link (R386, R598) -/

section Link

variable {speed width : Nat} {flit : Bool}

/-- What the host may program into Device Control lies within what the function supports. -/
theorem PcieControl.free_supported (w : DWord) : (PcieControl.free w).maxPayload ∈ [128, 256, 512] ∧
    (PcieControl.free w).maxRead ∈ [128, 256, 512, 1024, 2048, 4096] := by
  have payload : ∀ n < 3, 128 * 2 ^ n ∈ [128, 256, 512] := by decide
  have request : ∀ n < 6, 128 * 2 ^ n ∈ [128, 256, 512, 1024, 2048, 4096] := by decide
  exact ⟨payload _ (Nat.mod_lt _ (by decide)), request _ (Nat.mod_lt _ (by decide))⟩

theorem Platform.mayLink_iff {p : Platform} : p.mayLink = true ↔
    p.rails = true ∧ p.perstHigh = true ∧ p.alignedWait = false ∧ (p.boot = .training ∨ p.boot = .ready) := by
  simp [Platform.mayLink, and_assoc]

theorem execD3hotTransition_linkUp (hr : s.platform.rails = true) (hl : s.platform.linkSpeed ≠ 0) (d3 : Bool) :
    execD3hotTransition d3 s = .next { s with platform := { s.platform with d3hot := d3 } } :=
  congrArg _ (if_pos (by simp [hr, hl]))

theorem execHostLinkChange_down (s : State) (width : Nat) (flit : Bool) : execHostLinkChange 0 width flit s =
    .next { s with platform := { s.platform with linkSpeed := 0, linkWidth := 0, linkFlit := false, pcie := PcieControl.reset } } := rfl

theorem execHostLinkChange_trained (hp : s.platform.mayLink = true) (hs : speed ∈ [4, 5, 6]) (hw : width ∈ [1, 2, 4, 8, 16]) :
    execHostLinkChange speed width flit s = .next { s with
      free := s.free + 1
      platform := { s.platform with linkSpeed := speed, linkWidth := width, linkFlit := flit || decide (speed = 6)
                                    pcie := PcieControl.free (Config.freeWord s.free) } } := by
  have up : speed ≠ 0 := by rintro rfl; simp at hs
  have allowed : (s.platform.mayLink && [4, 5, 6].contains speed && [1, 2, 4, 8, 16].contains width) = true := by
    simp only [hp, List.contains_iff_mem.mpr hs, List.contains_iff_mem.mpr hw, Bool.and_self]
  exact congrArg _ ((if_neg up).trans (if_pos allowed))

theorem execHostLinkChange_prevented (hs : speed ≠ 0) (hp : s.platform.mayLink = false) : execHostLinkChange speed width flit s = .next s :=
  congrArg _ ((if_neg hs).trans (if_neg (by simp [hp])))

end Link

/-! ### The obligation -/

/-- Settles O60: a deferred test by whether one can run, a completion by the read of its tag and what sent it, a change of the host link by
whether the link may be up. -/
theorem platformEvents : Obligations.PlatformEvents := by
  intro s w tag speed width i q flit d3 res p
  refine ⟨execDeferredTestRun_idle, fun k hb hk => ?_, execHostMemoryCompletion_unknown, fun r h hm => ?_,
    fun hr hl => execD3hotTransition_linkUp hr hl d3, execHostLinkChange_down s width flit, fun hr hp ha hb hs hw => ?_, fun hs hp => ?_⟩
  · exact (execDeferredTestRun_ready hb).trans (congrArg _ (State.runDeferred_ready hk))
  · refine ⟨execHostMemoryCompletion_timeoutOff h hm, fun ht => ⟨?_, execHostMemoryCompletion_packet h ht, fun o ho => ?_⟩⟩
    · cases res with
      | data bs => exact s.endRead_aer tag
      | error => exact congrArg _ (s.endRead_aer tag)
      | timeout => exact congrArg _ (s.endRead_aer tag)
    · cases res with
      | data bs => exact execHostMemoryCompletion_copied h bs ho
      | error => exact execHostMemoryCompletion_copyError h ho
      | timeout => exact execHostMemoryCompletion_copyTimeout h (ht.resolve_left (not_not_intro rfl)) ho
  · obtain ⟨payload, request⟩ := PcieControl.free_supported (Config.freeWord s.free)
    exact ⟨_, payload, request, execHostLinkChange_trained (Platform.mayLink_iff.mpr ⟨hr, hp, ha, hb⟩) hs hw⟩
  · refine execHostLinkChange_prevented hs (Bool.eq_false_iff.mpr fun may => ?_)
    obtain ⟨rails, high, released, -⟩ := Platform.mayLink_iff.mp may
    simp [p, rails, high, released] at hp

end Sys2Proof.Machine
end

section
/-! A write of WIN_CTRL that finds a mismatch in the window's live registers (R398, R473, R478, R483, R585). -/

namespace Sys2Proof.Machine

variable {s : State}

/-! ### A mismatch of live registers is logged (R483, R585) -/

theorem State.raise_errNewest (s : State) (n : Nat) : (s.raise n).host.errNewest = s.host.errNewest := by
  obtain ⟨p, m, h⟩ := s.raise_host n
  rw [h]

theorem HostStation.countError_errNewest (h : HostStation) (c : ErrClass) : (h.countError c).errNewest = h.errNewest + 1 := by
  cases c <;> rfl

theorem State.logError_errNewest (s : State) (e : ErrEntry) : (s.logError e).host.errNewest = s.host.errNewest + 1 := by
  obtain ⟨p, m, h⟩ := s.logError_host e
  rw [h]
  exact HostStation.countError_errNewest ..

theorem State.parityReport_errNewest (s : State) (domain inst : Nat) :
    (s.parityReport domain inst).host.errNewest = s.host.errNewest + 1 := by
  rw [State.parityReport, State.raise_errNewest, State.logError_errNewest]

theorem State.checkWindow_errNewest (hl : s.liveBad 2 0 = true) (hp : s.regs.winParityStop = false) :
    s.checkWindow.host.errNewest = s.host.errNewest + 1 := by
  rw [State.checkWindow, if_pos (by simp [hl, hp]), State.parityReport_errNewest]

/-! ### A write of WIN_CTRL (R398, R473) -/

/-- A write of a register with no live copy changes the register file and the counts of refused and reserved bits alone. -/
theorem State.writeFields_unbuffered {d : RegDesc} (hd : d.buffered = none) (s : State) (key : Nat) (page : Page) (v : Nat) :
    ∃ writes touched file, s.writeFields key d page v =
      { s with regs := { s.regs with lockWrites := writes, reservedTouched := touched, file := file } } := by
  simp only [State.writeFields, hd, ite_self, State.writeStored, State.countLocked]
  split_ifs <;> exact ⟨_, _, _, rfl⟩

theorem regDesc_winCtrl : regDesc 0x03100C = some { rw := 1, reserved := 0xFFFFFFFE } := by decide

theorem State.writeReg_winCtrl (s : State) (page : Page) (v : Nat) : ∃ writes touched file, s.writeReg 0x03100C page v =
    ({ s with regs := { s.regs with lockWrites := writes, reservedTouched := touched, file := file } }).writeWindow page v := by
  obtain ⟨writes, touched, file, h⟩ := State.writeFields_unbuffered (d := { rw := 1, reserved := 0xFFFFFFFE }) rfl s 0x03100C page v
  refine ⟨writes, touched, file, ?_⟩
  rw [← h]
  simp [State.writeReg, regDesc_winCtrl, State.writeEffect]

theorem State.hostReg_barsUp (hb : s.barsUp = true) (key : Nat) (page : Page) (v : Word) :
    s.hostReg key page v = s.writeReg key page v.toNat := if_pos hb

/-- While the window's live registers have a mismatch that has not stopped it yet, a write of WIN_CTRL makes an entry in the error log. -/
theorem execWinOpen_mismatch {page : Page} {v : Word} (hb : s.barsUp = true) (hl : s.liveBad 2 0 = true)
    (hp : s.regs.winParityStop = false) : ∃ t, execWinOpen page v s = .next t ∧ t.host.errNewest = s.host.errNewest + 1 := by
  obtain ⟨writes, touched, file, h⟩ := s.writeReg_winCtrl page v.toNat
  refine ⟨_, by rw [execWinOpen, State.hostReg_barsUp hb, h], ?_⟩
  exact State.checkWindow_errNewest (s := { s with regs := { s.regs with lockWrites := writes, reservedTouched := touched, file := file } }) hl hp

/-! ### The obligation -/

/-- The module after a power-up, with a mismatch in the live registers of the window. -/
def State.windowMismatch : State := { State.reset with upsets := [.cfgLive 2 0] }

/-- Refutes O47: where the window's live registers have a mismatch, a write of WIN_CTRL meets it and makes an entry in the error log, which
is neither a register nor the window (R483). -/
theorem not_controlRegisters : ¬ Obligations.ControlRegisters := by
  intro h
  obtain ⟨-, ⟨t, ht, frame, -⟩, -⟩ := h State.windowMismatch 0 0 .value 0 (by decide)
  obtain ⟨u, hu, logged⟩ := execWinOpen_mismatch (s := State.windowMismatch) (page := .value) (v := 0) (by decide) (by decide) rfl
  obtain rfl : u = t := Host.Outcome.next.inj (hu.symm.trans ht)
  rw [frame] at logged
  cases logged

end Sys2Proof.Machine
end

section
/-! COUNTER_CONFIG and TAG_CONFIG (R447, R480, R485, R576, R577, R582). -/

namespace Sys2Proof.Machine

variable {s : State} {id : Nat} {o : Order}

/-! ### COUNTER_CONFIG (R447, R577) -/

/-- The counter unit that a COUNTER_CONFIG names (R577). -/
def Order.counterUnit (o : Order) : Nat := if o.field 16 1 = 2 then o.field 18 2 else 0x100 + o.field 18 2

/-- The event-select register that a COUNTER_CONFIG names. -/
def Order.counterKey (o : Order) : Nat := evselKey o.counterUnit (o.field 20 1)

/-- What that register is to hold: its upper half as it stands, and the event. -/
def State.eventSelect (s : State) (o : Order) : Nat := Nat.land (s.stored o.counterKey) 0xFFFF0000 + o.field 22 2

/-- A COUNTER_CONFIG that names a counter, an action and, for action 0, an event of its unit. -/
def Order.NamesCounter (o : Order) : Prop :=
  (o.field 16 1 = 2 ∧ o.field 18 2 < 144 ∨ o.field 16 1 = 4 ∧ (o.field 18 2 < 12 ∨ o.field 18 2 = 15)) ∧ o.field 20 1 < 16 ∧
    o.field 24 1 ≤ 3 ∧ (o.field 24 1 = 0 → eventOk (counterKind o.counterUnit) (o.field 22 2) = true)

/-- The action of a COUNTER_CONFIG on a unit whose counters no mismatch has stopped (R447, R576). -/
def State.counterAction (s : State) (o : Order) (v : Nat) : State :=
  match o.field 24 1 with
  | 0 => s.stageStrobe o o.counterKey v 8 o.counterUnit ((List.range 16).map fun i => evselKey o.counterUnit i)
  | 1 => (s.clearCounters o.counterUnit).finish o Ending.ok
  | 2 => (s.runCounters o.counterUnit false).finish o Ending.ok
  | _ => (s.runCounters o.counterUnit true).finish o Ending.ok

section Counter

variable (h : s.mayRun 0x58 id o) (hl : o.lawful 0 (o.target = 0xFFFF) [(16, 1), (18, 3), (22, 3)]) (hn : o.NamesCounter)
include h hl hn

/-- A COUNTER_CONFIG that names a counter passes its checks and comes to the lock. -/
theorem execCounterConfig_named :
    let u := s.begin o
    let w := u.checkCounters o.counterUnit
    execCounterConfig id s = .next (
      if decide (o.field 24 1 = 0) && u.secLocked 7 && decide (u.eventSelect o ≠ u.stored o.counterKey) then
        u.countLocked.finish o.begun Ending.locked
      else if w.counterParity o.counterUnit then w.finish o.begun { status := 0x32 }
      else w.counterAction o.begun (u.eventSelect o)) := by
  obtain ⟨hunit, hcounter, haction, hevent⟩ := hn
  refine (runOrder_mayRun h).trans (congrArg _ (State.checked_pass _ (Order.begun_params_noTarget hl ?_)))
  refine List.forall_mem_cons.mpr ⟨?_, List.forall_mem_cons.mpr ⟨?_, List.forall_mem_cons.mpr ⟨decide_eq_true hcounter,
    List.forall_mem_cons.mpr ⟨?_, List.forall_mem_singleton.mpr (decide_eq_true haction)⟩⟩⟩⟩
  · exact Bool.or_eq_true_iff.mpr (hunit.imp (fun h => decide_eq_true h.1) fun h => decide_eq_true h.1)
  · rcases hunit with ⟨hc, hi⟩ | ⟨hc, hi⟩
    · exact (if_pos hc).trans (decide_eq_true hi)
    · exact (if_neg (by simp [hc])).trans (Bool.or_eq_true_iff.mpr (hi.imp decide_eq_true decide_eq_true))
  · exact Bool.or_eq_true_iff.mpr ((Decidable.em (o.field 24 1 = 0)).symm.imp decide_eq_true hevent)

/-- Under COUNTER_LOCK an event select does not change (R485). -/
theorem execCounterConfig_locked (ha : o.field 24 1 = 0) (hs : (s.begin o).secLocked 7 = true)
    (hv : (s.begin o).eventSelect o ≠ (s.begin o).stored o.counterKey) :
    execCounterConfig id s = .next ((s.begin o).countLocked.finish o.begun Ending.locked) :=
  (execCounterConfig_named h hl hn).trans (congrArg _ (if_pos (by simp [ha, hs, hv])))

/-- Where the lock has no say, the unit's live copies are checked, and a unit that a mismatch stopped takes no action (R577). -/
theorem execCounterConfig_unlocked
    (hu : o.field 24 1 = 0 → (s.begin o).secLocked 7 = false ∨ (s.begin o).eventSelect o = (s.begin o).stored o.counterKey) :
    let w := (s.begin o).checkCounters o.counterUnit
    (w.counterParity o.counterUnit = true → execCounterConfig id s = .next (w.finish o.begun { status := 0x32 })) ∧
    (w.counterParity o.counterUnit = false →
      execCounterConfig id s = .next (w.counterAction o.begun ((s.begin o).eventSelect o))) := by
  have passes := (execCounterConfig_named h hl hn).trans (congrArg _ (if_neg (by
    simp only [Bool.and_eq_true, decide_eq_true_eq]
    rintro ⟨⟨ha, hs⟩, hv⟩
    exact (hu ha).elim (fun hs' => by simp [hs'] at hs) hv)))
  exact ⟨fun hp => passes.trans (congrArg _ (if_pos hp)), fun hp => passes.trans (congrArg _ (if_neg (by simp [hp])))⟩

end Counter

/-! ### TAG_CONFIG (R447, R582) -/

section Tag

/-- The tag control that a TAG_CONFIG asks for. -/
def State.tagControl (s : State) (o : Order) : Nat := Nat.land (s.stored 0x0B0008) 0xFFFF00E0 + o.field 17 1 * 256 + o.field 16 1

variable (h : s.mayRun 0x59 id o) (hl : o.lawful 0 (o.target = 0xFFFF) [(16, 2)]) (hn : tagOk (o.field 16 1) 0xFF = true)
  (hs : tagOk 0 (o.field 17 1) = true)
include h hl hn hs

theorem execTagConfig_named : execTagConfig id s = .next (
    let u := s.begin o
    if u.secLocked 7 && decide (u.tagControl o ≠ u.stored 0x0B0008) then u.countLocked.finish o.begun Ending.locked
    else if u.checkTag.perf.tagParity then u.checkTag.finish o.begun { status := 0x32 }
    else u.checkTag.stageStrobe o.begun 0x0B0008 (u.tagControl o) 8 0x200 [0x0B0008]) :=
  (runOrder_mayRun h).trans (congrArg _ (State.checked_pass _ (Order.begun_params_noTarget hl
    (List.forall_mem_cons.mpr ⟨hn, List.forall_mem_singleton.mpr hs⟩))))

theorem execTagConfig_locked (hk : (s.begin o).secLocked 7 = true) (hv : (s.begin o).tagControl o ≠ (s.begin o).stored 0x0B0008) :
    execTagConfig id s = .next ((s.begin o).countLocked.finish o.begun Ending.locked) :=
  (execTagConfig_named h hl hn hs).trans (congrArg _ (if_pos (by simp [hk, hv])))

theorem execTagConfig_unlocked (hk : (s.begin o).secLocked 7 = false ∨ (s.begin o).tagControl o = (s.begin o).stored 0x0B0008)
    (hp : (s.begin o).checkTag.perf.tagParity = false) :
    execTagConfig id s = .next
      ((s.begin o).checkTag.stageStrobe o.begun 0x0B0008 ((s.begin o).tagControl o) 8 0x200 [0x0B0008]) :=
  (execTagConfig_named h hl hn hs).trans (congrArg _ ((if_neg (by rcases hk with hk | hk <;> simp [hk])).trans
    (if_neg (by simp [hp]))))

end Tag

/-- Settles O44: each command by what the lock lets it do, COUNTER_CONFIG then by its action. -/
theorem counterOrders : Obligations.CounterOrders := by
  unfold Obligations.CounterOrders
  refine fun s id o => ⟨fun h hl hunit hcounter haction hevent => ?_, fun h hl hn hs =>
    ⟨execTagConfig_locked h hl hn hs, execTagConfig_unlocked h hl hn hs⟩⟩
  have named : o.NamesCounter := ⟨hunit, hcounter, haction, hevent⟩
  refine ⟨execCounterConfig_locked h hl named, fun hu => ?_⟩
  obtain ⟨stopped, acts⟩ := execCounterConfig_unlocked h hl named hu
  refine ⟨stopped, fun hp => ⟨fun ha => ?_, fun ha => ?_, fun ha => ?_, fun ha => ?_⟩⟩ <;>
  · refine (acts hp).trans (congrArg _ ?_)
    simp only [State.counterAction, Order.begun_field, ha]
    rfl

end Sys2Proof.Machine
end

section
/-! SELFTEST, CALIBRATE and MG_SELFTEST; CORE_FENCE, MG_FENCE and CORE_CASTLE (R31, R438 to R440, R444, R445, R553, R572). -/

namespace Sys2Proof.Machine

variable {s : State} {id : Nat} {o : Order} {w : TestOutcome}

/-! ### Tests (R438 to R440, R553, R572) -/

section Tests

/-- A test order for which FORCE has stopped nothing yet starts as any order does. -/
theorem testOrder_unforced (opcode : Nat) {start : State → Order → State} (hr : ∀ r ∈ s.arbiter.runningTests, r.order ≠ id) :
    testOrder opcode id s w start = runOrder opcode id s start := by
  have unforced : s.arbiter.runningTests.find? (fun r => r.order = id) = none := by simpa [List.find?_eq_none] using hr
  rw [testOrder, unforced]

variable (hr : ∀ r ∈ s.arbiter.runningTests, r.order ≠ id) (hl : o.lawful 4 (o.target = 0xFFFF) [(16, 1), (20, 4)])
include hr hl

theorem execSelftest_starts (h : s.mayRun 0x38 id o) (hlow : 1 ≤ o.field 16 1) (hhigh : o.field 16 1 ≤ 6)
    (hu : testUnitOk false (o.field 16 1) (o.field 20 4) = true) :
    execSelftest id w s = .next ((s.begin o).startTest o.begun false (o.field 16 1) w) :=
  (testOrder_unforced 0x38 hr).trans ((runOrder_mayRun h).trans (congrArg _
    (State.checked_pass _ (Order.begun_params_noTarget hl (by simp [hlow, hhigh, hu])))))

theorem execCalibrate_starts (h : s.mayRun 0x39 id o) (hlow : 1 ≤ o.field 16 1) (hhigh : o.field 16 1 ≤ 3)
    (hu : testUnitOk true (o.field 16 1) (o.field 20 4) = true) :
    execCalibrate id w s = .next ((s.begin o).startTest o.begun true (o.field 16 1) w) :=
  (testOrder_unforced 0x39 hr).trans ((runOrder_mayRun h).trans (congrArg _
    (State.checked_pass _ (Order.begun_params_noTarget hl (by simp [hlow, hhigh, hu])))))

/-- MG_SELFTEST has the codes of SELFTEST below 0x80 and those of CALIBRATE above (R572). -/
theorem execMgSelftest_starts {code : Nat} {cal : Bool} (h : s.mayRun 0x88 id o)
    (hraw : o.field 16 1 = if cal then 0x80 + code else code) (hlow : 1 ≤ code) (hhigh : code ≤ if cal then 3 else 6)
    (hu : testUnitOk cal code (o.field 20 4) = true) :
    execMgSelftest id w s = .next ((s.begin o).startTest o.begun cal code w) := by
  have cal_iff : 0x80 ≤ o.field 16 1 ↔ cal = true := by
    cases cal <;> simp only [hraw, if_true, if_false, Bool.false_eq_true, iff_false, iff_true] at hhigh ⊢ <;> omega
  have code_eq : o.field 16 1 % 0x80 = code := by
    cases cal <;> simp only [hraw, if_true, if_false, Bool.false_eq_true] at hhigh ⊢ <;> omega
  refine (testOrder_unforced 0x88 hr).trans ((runOrder_mayRun h).trans (congrArg _
    ((State.checked_pass _ (Order.begun_params_noTarget hl ?_)).trans ?_)))
  · simp [cal_iff, code_eq, hlow, hhigh, hu]
  · simp only [Order.begun_field, cal_iff, code_eq, Bool.decide_eq_true]

omit hr hl in
/-- How an order starts its test: what blocks it, whether it is intrusive, FORCE, and what FORCE finds in its way. -/
theorem State.startTest_eq (cal : Bool) (code : Nat) : s.startTest o cal code w =
    if s.testBlocked cal code then s.finish o { status := 0x32 }
    else if s.intrusive cal code (o.field 20 4) = false then s.runTest o cal code (o.field 20 4) false w
    else if bitAt o.flags 2 = 0 then s.deferTest o cal code (o.field 20 4)
    else if s.forcedSlots cal code (o.field 20 4) = [] ∧ laneTest cal code = false then s.runTest o cal code (o.field 20 4) true w
    else s.forceTest o cal code (o.field 20 4) := by
  simp only [State.startTest, Bool.not_eq_true', Bool.and_eq_true, decide_eq_true_eq]

end Tests

/-! ### Fences (R31, R101, R444, R572) -/

section Fences

variable (hl : o.lawful 4 (o.target < 9216) [])
include hl

theorem State.fenceOrder_lawful : s.fenceOrder o w =
    if bitAt o.flags 2 = 1 then s.liftFence o o.target w
    else (s.fenceCore o.target false false).1.finish o (Ending.ok ((s.fenceCore o.target false false).2.getD 0xFFFFFFFF)) :=
  State.checked_pass _ (Order.params_none.mpr ⟨by rwa [decide_eq_true_eq], by simp⟩)

theorem State.fenceOrder_fences (hf : bitAt o.flags 2 = 0) : s.fenceOrder o w =
    (s.fenceCore o.target false false).1.finish o (Ending.ok ((s.fenceCore o.target false false).2.getD 0xFFFFFFFF)) :=
  (State.fenceOrder_lawful hl).trans (if_neg (by omega))

/-- LIFT acts on a fenced core that holds no work: its lanes are tested, a pass makes it a spare, and one with no working lane is fenced
again (R101, R444). -/
theorem State.fenceOrder_lifts (hf : bitAt o.flags 2 = 1) :
    let lifted := s.modCore o.target fun x => { x with laneOk := BitVec.ofNat 8 w.value }
    let back := if w.pass then lifted.modCore o.target fun x => { x with kind := .spare, colander := false, castledIn := false } else lifted
    s.fenceOrder o w = if (s.core o.target).kind = .fenced ∧ (s.core o.target).slot = none
      then (back.checkLanes o.target).finish o { status := 0, d17 := bitOf (!w.pass), result := 0xFFFFFFFF }
      else s.finish o Ending.badState := by
  refine (State.fenceOrder_lawful hl).trans ((if_pos hf).trans ?_)
  by_cases free : (s.core o.target).kind = .fenced ∧ (s.core o.target).slot = none
  · rw [if_pos free]
    exact if_neg (by simp [free])
  · rw [if_neg free]
    exact if_pos (by simpa [Option.isSome_iff_ne_none, imp_iff_not_or] using free)

omit hl

theorem execCoreFence_runs (h : s.mayRun 0x48 id o) : execCoreFence id w s = .next ((s.begin o).fenceOrder o.begun w) :=
  runOrder_mayRun h

theorem execMgFence_runs (h : s.mayRun 0x82 id o) : execMgFence id w s = .next ((s.begin o).fenceOrder o.begun w) :=
  runOrder_mayRun h

end Fences

/-! ### Castling by order (R31, R445) -/

/-- The core that a CORE_CASTLE moves block-replicas to: the one named, where that may stand in, or the one chosen. -/
def State.castlesTo (s : State) (o : Order) (d : Option Nat) : Prop :=
  o.field 16 4 = 0xFFFFFFFF ∧ d = s.chooseSpare o.target false ∨
    o.field 16 4 < 9216 ∧ ((s.core o.target).kind = .fenced ∨ (s.core (o.field 16 4)).kind = .spare ∧ o.field 16 4 ≠ o.target) ∧
      d = some (o.field 16 4)

theorem execCoreCastle_moves {d : Option Nat} (h : s.mayRun 0x49 id o) (hl : o.lawful 0 (o.target < 9216) [(16, 4)])
    (hn : (s.begin o).castlesTo o d) :
    let r := (s.begin o).fenceOnto o.target d false
    execCoreCastle id s = .next (r.1.finish o.begun
      (Ending.ok (r.2.getD 0xFFFFFFFF + 2 ^ 32 * if r.2.isSome then (s.core o.target).members.length else 0))) := by
  have spare : (if o.field 16 4 = 0xFFFFFFFF then (s.begin o).chooseSpare o.target false else some (o.field 16 4)) = d := by
    obtain ⟨hn, hd⟩ | ⟨hn, -, hd⟩ := hn
    · rw [hd, if_pos hn]
    · rw [hd, if_neg (by omega)]
  refine (runOrder_mayRun h).trans (congrArg _ ((State.checked_pass _ (Order.params_none.mpr ⟨?_,
    List.forall_mem_singleton.mpr (Bool.or_eq_true_iff.mpr ?_)⟩)).trans ?_))
  · rwa [decide_eq_true_eq]
  · obtain ⟨hn, -⟩ | ⟨hn, hk, -⟩ := hn
    · exact .inl (decide_eq_true hn)
    · refine .inr (Bool.and_eq_true_iff.mpr ⟨decide_eq_true hn, Bool.or_eq_true_iff.mpr (hk.imp decide_eq_true fun hk => ?_)⟩)
      exact Bool.and_eq_true_iff.mpr ⟨decide_eq_true hk.1, decide_eq_true hk.2⟩
  · rw [← spare]
    rfl

/-- Settles O42: a test starts by what blocks it or stands in its way, a fence order by LIFT, a castling by the core it names. -/
theorem testAndFenceOrders : Obligations.TestAndFenceOrders := by
  unfold Obligations.TestAndFenceOrders
  refine ⟨fun s id o w => ?_, fun s id o w => ?_⟩
  · intro u p code unit starts hr hl
    have starting (cal : Bool) (code : Nat) : u.startTest p cal code w = starts cal code := State.startTest_eq cal code
    refine ⟨fun h h1 h6 hu => ?_, fun h h1 h3 hu => ?_, fun h h1 h6 hu => ?_, fun h h1 h3 hu => ?_⟩
    · exact (execSelftest_starts hr hl h h1 h6 hu).trans (congrArg _ (starting ..))
    · exact (execCalibrate_starts hr hl h h1 h3 hu).trans (congrArg _ (starting ..))
    · exact (execMgSelftest_starts (cal := false) hr hl h rfl h1 h6 hu).trans (congrArg _ (starting ..))
    · exact (execMgSelftest_starts (cal := true) hr hl h (by simp; omega) (by omega) (by simp; omega) hu).trans
        (congrArg _ (starting ..))
  · intro u p c r named lifted free back lifts moves
    have fences (hl : o.lawful 4 (c < 9216) []) (hf : bitAt o.flags 2 = 0) :
        u.fenceOrder p w = r.1.finish p (Ending.ok (r.2.getD 0xFFFFFFFF)) := State.fenceOrder_fences (o := p) hl hf
    have lifting (hl : o.lawful 4 (c < 9216) []) (hf : bitAt o.flags 2 = 1) : u.fenceOrder p w = lifts :=
      State.fenceOrder_lifts (o := p) hl hf
    exact ⟨fun hl => ⟨fun h hf => (execCoreFence_runs h).trans (congrArg _ (fences hl hf)),
        fun h hf => (execMgFence_runs h).trans (congrArg _ (fences hl hf)),
        fun h hf => (execCoreFence_runs h).trans (congrArg _ (lifting hl hf)),
        fun h hf => (execMgFence_runs h).trans (congrArg _ (lifting hl hf))⟩,
      fun h hl => ⟨fun hn => execCoreCastle_moves h hl (.inl ⟨hn, rfl⟩), fun hn hk => execCoreCastle_moves h hl (.inr ⟨hn, hk, rfl⟩)⟩⟩

end Sys2Proof.Machine
end

section
/-! What the completion of a command leaves as it is, and which orders stay open (R396, R400, R463, R464, R584). -/

namespace Sys2Proof.Machine

variable {s : State}

/-! ### A completion closes its order and leaves the clusters and the rest of the arbiter -/

/-- The clusters and the arbiter. -/
def State.atWork (s : State) : Tbl Cluster × Arbiter := (s.clusters, s.arbiter)

theorem State.hostStatus_atWork (s : State) (o : Order) (e : Ending) : (s.hostStatus o e).atWork = s.atWork := by
  have sent (t : State) (v : Nat) : (t.sendMsix v).atWork = t.atWork := by
    obtain ⟨p, m, h⟩ := t.sendMsix_eq v
    rw [h]
    rfl
  simp only [State.hostStatus]
  split_ifs
  · exact sent ..
  · rfl
  · rfl

theorem State.finish_atWork (s : State) (o : Order) (e : Ending) (accept : Nat) : (s.finish o e accept).atWork =
    (s.clusters, { s.arbiter with orders := s.arbiter.orders.filter fun x => x.id ≠ o.id }) := by
  have closed (t : State) (m : Mgmt) (h : t.atWork = s.atWork) :
      State.atWork { t with arbiter := { t.arbiter with orders := t.arbiter.orders.filter fun x => x.id ≠ o.id }, mgmt := m } =
        (s.clusters, { s.arbiter with orders := s.arbiter.orders.filter fun x => x.id ≠ o.id }) := by
    simp only [State.atWork, Prod.mk.injEq] at h ⊢
    rw [h.1, h.2]
    exact ⟨rfl, rfl⟩
  have journalled (a : Nat) (bs : List Byte) : (s.putWhole a bs).atWork = s.atWork := rfl
  have logged (t : State) (k : Nat) (d : List Byte) : (t.mgLog k false d).atWork = t.atWork := by
    simp only [State.atWork, State.mgLog_clusters, State.mgLog_arbiter]
  have managed (t : State) : (t.mgmtStatus o e).atWork = t.atWork := by
    simp only [State.mgmtStatus]
    split_ifs <;> rfl
  have recorded (t : State) : (t.recordCommand o e).atWork = t.atWork := by
    simp only [State.recordCommand]
    split_ifs <;> rfl
  refine closed _ _ ?_
  split_ifs <;> simp only [managed, recorded, logged, State.hostStatus_atWork, journalled]

section Finish

variable (s) (o : Order) (e : Ending) (accept : Nat)

@[simp] theorem State.finish_orders : (s.finish o e accept).arbiter.orders = s.arbiter.orders.filter fun x => x.id ≠ o.id :=
  congrArg (·.2.orders) (s.finish_atWork o e accept)

@[simp] theorem State.finish_clusters : (s.finish o e accept).clusters = s.clusters := congrArg (·.1) (s.finish_atWork o e accept)

@[simp] theorem State.finish_slots : (s.finish o e accept).slots = s.slots := congrArg (·.2.1) (s.finish_traffic o e accept)

@[simp] theorem State.finish_cores : (s.finish o e accept).cores = s.cores := congrArg (·.2.2.1) (s.finish_traffic o e accept)

@[simp] theorem State.finish_net : (s.finish o e accept).net = s.net := congrArg (·.2.2.2) (s.finish_traffic o e accept)

end Finish

/-! ### Completions by id -/

/-- An order completed by its id is open no longer. -/
theorem State.finishId_orders (s : State) (id : Nat) (e : Ending) :
    (s.finishId id e).arbiter.orders = s.arbiter.orders.filter fun x => x.id ≠ id := by
  simp only [State.finishId]
  split
  · next o h =>
    have found : o.id = id := by simpa using List.find?_some h
    rw [State.finish_orders, found]
  · next h =>
    refine (List.filter_eq_self.mpr fun x hx => ?_).symm
    simpa using List.find?_eq_none.mp h x hx

theorem State.finishId_clusters (s : State) (id : Nat) (e : Ending) : (s.finishId id e).clusters = s.clusters := by
  simp only [State.finishId]
  split
  · exact State.finish_clusters ..
  · rfl

/-- Completes the open orders of some ids, each in the same way. -/
def State.finishAll (s : State) (ids : List Nat) (e : Ending) : State := ids.foldl (fun s id => s.finishId id e) s

section FinishAll

variable (s) (ids : List Nat) (e : Ending)

theorem State.mem_finishAll_orders {q : Order} : q ∈ (s.finishAll ids e).arbiter.orders ↔ q ∈ s.arbiter.orders ∧ q.id ∉ ids := by
  induction ids generalizing s with
  | nil => simp [State.finishAll]
  | cons id ids ih =>
    rw [State.finishAll, List.foldl_cons]
    refine (ih (s.finishId id e)).trans ?_
    simp [State.finishId_orders, and_assoc]

@[simp] theorem State.finishAll_clusters : (s.finishAll ids e).clusters = s.clusters :=
  foldl_keeps State.clusters (fun _ _ => State.finishId_clusters ..) ids s

theorem State.finishAll_traffic : (s.finishAll ids e).traffic = s.traffic :=
  foldl_keeps State.traffic (fun _ _ => State.finishId_traffic ..) ids s

@[simp] theorem State.finishAll_slots : (s.finishAll ids e).slots = s.slots := congrArg (·.2.1) (s.finishAll_traffic ids e)

@[simp] theorem State.finishAll_cores : (s.finishAll ids e).cores = s.cores := congrArg (·.2.2.1) (s.finishAll_traffic ids e)

@[simp] theorem State.finishAll_net : (s.finishAll ids e).net = s.net := congrArg (·.2.2.2) (s.finishAll_traffic ids e)

end FinishAll

end Sys2Proof.Machine
end

section
/-! SYNC_ALLOC, SYNC_FREE, SYNC_SIGNAL and SYNC_WAIT (R434 to R436). -/

namespace Sys2Proof.Machine

variable {s : State} {id : Nat} {o : Order} {k : Nat × Nat} {y : SyncObj}

/-! ### SYNC_ALLOC (R434) -/

/-- Whether the object that a SYNC_ALLOC names is free. -/
def State.namesFree (s : State) (o : Order) : Bool :=
  match s.ownObject (o.field 16 8) with | some p => (s.object p).isNone | none => false

/-- What a SYNC_ALLOC checks of its parameters. -/
def State.allocChecks (s : State) (o : Order) : List Check :=
  if bitAt o.flags 2 = 1 then
    [{ byte := 1, ok := o.slotTarget }, { byte := 16, ok := o.field 16 8 ≠ 0 && (syncAt (hallLocal (o.field 16 8))).isSome }]
  else
    [{ byte := 16, ok := o.field 16 8 = 0 || s.namesFree o }, { byte := 32, ok := 1 ≤ o.field 32 4 && o.field 32 4 ≤ 2 ^ 24 },
      { byte := 36, ok := if o.field 38 1 = 2 then o.field 36 2 ≤ 4096 else o.field 36 2 = 0 },
      { byte := 38, ok := o.field 38 1 = 1 || (o.field 38 1 = 2 && o.slotTarget) },
      { byte := 39, ok := o.slotTarget || o.field 39 1 = 0 }]

/-- The handle that a SYNC_ALLOC for a slot binds. -/
def State.bindHandle (s : State) (o : Order) (hall : Nat) : State :=
  if o.slotTarget then s.modSlot o.target fun x => { x with handles := x.handles.put (o.field 39 1) hall } else s

/-- The object that a SYNC_ALLOC writes. -/
def State.allocObject (s : State) (o : Order) (k : Nat × Nat) : State :=
  s.setObject k (newObject (o.field 38 1) (if o.slotTarget then o.target else 0xFE) (o.field 36 2) (o.field 32 4)
    (if o.field 38 1 = 2 then (s.slot o.target).resume else 0) (o.field 24 8))

/-- The object that a SYNC_ALLOC chooses, if there is one. -/
def State.allocChoice (s : State) (o : Order) : Option (Nat × Nat) :=
  if o.field 16 8 = 0 then s.freeObject else s.ownObject (o.field 16 8)

/-- The work of a SYNC_ALLOC that passes its checks. -/
def State.allocate (s : State) (o : Order) : State :=
  if o.slotTarget && ((s.slot o.target).handles.at (o.field 39 1)).isSome then s.finish o (Ending.badState (s.slot o.target).state.code)
  else if bitAt o.flags 2 = 1 then (s.bindHandle o (o.field 16 8)).finish o (Ending.ok (o.field 16 8))
  else match s.allocChoice o with
    | none => s.finish o Ending.busy
    | some k => ((s.allocObject o k).bindHandle o (s.hallOf (objectAddr k))).finish o (Ending.ok (s.hallOf (objectAddr k)))

theorem State.syncAlloc_eq (s : State) (o : Order) : s.syncAlloc o =
    s.checked o (o.params 4 (o.slotTarget || o.noTarget) [(16, 24)] (s.allocChecks o)) fun s =>
      if o.slotTarget then s.inState o (fun st => st = .loaded || st = .stopped) (·.allocate o) else s.allocate o := by
  unfold State.syncAlloc State.allocChecks
  rfl

/-- A SYNC_ALLOC without BIND_ONLY whose threshold, mode and waiters fit. -/
def Order.FitsObject (o : Order) : Prop :=
  bitAt o.flags 2 = 0 ∧ 1 ≤ o.field 32 4 ∧ o.field 32 4 ≤ 2 ^ 24 ∧
    (o.field 38 1 = 1 ∧ o.field 36 2 = 0 ∨ o.field 38 1 = 2 ∧ o.target < 48 ∧ o.field 36 2 ≤ 4096)

/-- The free object that a SYNC_ALLOC takes: the first one, or the one named (R434). -/
def State.takesObject (s : State) (o : Order) (k : Nat × Nat) : Prop :=
  (o.field 16 8 = 0 ∧ s.freeObject = some k) ∨ (o.field 16 8 ≠ 0 ∧ s.ownObject (o.field 16 8) = some k ∧ s.object k = none)

theorem State.takesObject.named (h : s.takesObject o k) : o.field 16 8 = 0 ∨ s.namesFree o = true := by
  obtain ⟨h0, -⟩ | ⟨-, hp, hk⟩ := h
  · exact .inl h0
  · exact .inr (by simp [State.namesFree, hp, hk])

theorem State.takesObject.choice (h : s.takesObject o k) : s.allocChoice o = some k := by
  obtain ⟨h0, hp⟩ | ⟨h0, hp, -⟩ := h
  · rw [State.allocChoice, if_pos h0, hp]
  · rw [State.allocChoice, if_neg h0, hp]

theorem State.allocChecks_fits (hf : o.FitsObject) (hr : o.field 16 8 = 0 ∨ s.namesFree o = true)
    (hh : o.target < 48 ∨ o.field 39 1 = 0) : ∀ c ∈ s.allocChecks o, c.ok = true := by
  obtain ⟨hb, hlow, hhigh, hm⟩ := hf
  have waiters : (if o.field 38 1 = 2 then decide (o.field 36 2 ≤ 4096) else decide (o.field 36 2 = 0)) = true := by
    obtain ⟨hm, hw⟩ | ⟨hm, -, hw⟩ := hm <;> simp [hm, hw]
  have mode : o.field 38 1 = 1 ∨ o.field 38 1 = 2 ∧ o.target < 48 := hm.imp (·.1) fun h => ⟨h.1, h.2.1⟩
  rw [State.allocChecks, if_neg (by omega)]
  simpa [Order.slotTarget, hlow, hr, waiters, mode, hh] using hhigh

theorem State.allocChecks_bind (hb : bitAt o.flags 2 = 1) (ht : o.target < 48) (h0 : o.field 16 8 ≠ 0)
    (hs : (syncAt (hallLocal (o.field 16 8))).isSome = true) : ∀ c ∈ s.allocChecks o, c.ok = true := by
  simp [State.allocChecks, hb, Order.slotTarget, ht, h0, hs]

section Allocate

theorem Order.slotTarget_false (ht : o.target = 0xFFFF) : o.slotTarget = false := decide_eq_false (by omega)

theorem Order.slotTarget_true (ht : o.target < 48) : o.slotTarget = true := decide_eq_true ht

/-- A SYNC_ALLOC of the host that passes its checks goes to work. -/
theorem State.syncAlloc_host (hl : o.lawful 4 (o.target = 0xFFFF) [(16, 24)]) (hc : ∀ c ∈ s.allocChecks o, c.ok = true) :
    s.syncAlloc o = s.allocate o := by
  obtain ⟨hflags, htarget, hstray⟩ := hl
  rw [State.syncAlloc_eq, State.checked_pass _ (Order.params_none.mpr ⟨⟨hflags, by simp [Order.noTarget, htarget], hstray⟩, hc⟩),
    Order.slotTarget_false htarget]
  rfl

/-- One for a slot does in the states that allow it. -/
theorem State.syncAlloc_slot (hl : o.lawful 4 (o.target < 48) [(16, 24)]) (hs : (s.slot o.target).state ∈ [SlotState.loaded, .stopped])
    (hc : ∀ c ∈ s.allocChecks o, c.ok = true) : s.syncAlloc o = s.allocate o := by
  obtain ⟨hflags, htarget, hstray⟩ := hl
  have slot : o.slotTarget = true := Order.slotTarget_true htarget
  rw [State.syncAlloc_eq, State.checked_pass _ (Order.params_none.mpr ⟨⟨hflags, by simp [slot], hstray⟩, hc⟩), if_pos slot,
    State.inState_pass _ (SlotState.loaded_or_stopped_iff.mpr hs)]

theorem State.allocate_bound (ht : o.target < 48) (hx : ((s.slot o.target).handles.at (o.field 39 1)).isSome = true) :
    s.allocate o = s.finish o (Ending.badState (s.slot o.target).state.code) :=
  if_pos (by rw [Order.slotTarget_true ht, hx]; rfl)

variable (hx : o.target < 48 → (s.slot o.target).handles.at (o.field 39 1) = none)
include hx

theorem State.allocate_unbound : s.allocate o =
    if bitAt o.flags 2 = 1 then (s.bindHandle o (o.field 16 8)).finish o (Ending.ok (o.field 16 8))
    else match s.allocChoice o with
      | none => s.finish o Ending.busy
      | some k => ((s.allocObject o k).bindHandle o (s.hallOf (objectAddr k))).finish o (Ending.ok (s.hallOf (objectAddr k))) := by
  refine if_neg ?_
  simp only [Order.slotTarget, Bool.and_eq_true, decide_eq_true_eq, not_and]
  intro ht
  simp [hx ht]

theorem State.allocate_busy (hb : bitAt o.flags 2 = 0) (h0 : o.field 16 8 = 0) (hn : s.freeObject = none) :
    s.allocate o = s.finish o Ending.busy := by
  rw [State.allocate_unbound hx, if_neg (by omega), State.allocChoice, if_pos h0, hn]

theorem State.allocate_takes (hb : bitAt o.flags 2 = 0) (hk : s.takesObject o k) : s.allocate o =
    ((s.allocObject o k).bindHandle o (s.hallOf (objectAddr k))).finish o (Ending.ok (s.hallOf (objectAddr k))) := by
  rw [State.allocate_unbound hx, if_neg (by omega), hk.choice]

theorem State.allocate_binds (hb : bitAt o.flags 2 = 1) :
    s.allocate o = (s.bindHandle o (o.field 16 8)).finish o (Ending.ok (o.field 16 8)) :=
  (State.allocate_unbound hx).trans (if_pos hb)

omit hx

/-! The commands, for the host and for a slot. -/

theorem State.allocObject_host (ht : o.target = 0xFFFF) (hf : o.FitsObject) (s : State) (k : Nat × Nat) :
    s.allocObject o k = s.setObject k (newObject (o.field 38 1) 0xFE (o.field 36 2) (o.field 32 4) 0 (o.field 24 8)) := by
  obtain ⟨-, -, -, ⟨hm, -⟩ | ⟨-, ht', -⟩⟩ := hf
  · rw [State.allocObject, Order.slotTarget_false ht, if_neg (show ¬ o.field 38 1 = 2 by omega)]
    rfl
  · omega

section Host

variable (h : s.mayRun 0x28 id o) (hl : o.lawful 4 (o.target = 0xFFFF) [(16, 24)]) (hf : o.FitsObject) (h0 : o.field 39 1 = 0)
include h hl hf h0

theorem execSyncAlloc_host (hr : o.field 16 8 = 0 ∨ s.namesFree o = true) :
    execSyncAlloc id s = .next ((s.begin o).allocate o.begun) :=
  (runOrder_mayRun h).trans (congrArg _
    (State.syncAlloc_host (o := o.begun) hl (State.allocChecks_fits (s := s.begin o) (o := o.begun) hf hr (.inr h0))))

theorem execSyncAlloc_hostTakes (hk : s.takesObject o k) : execSyncAlloc id s = .next
    (((s.begin o).setObject k (newObject (o.field 38 1) 0xFE (o.field 36 2) (o.field 32 4) 0 (o.field 24 8))).finish o.begun
      (Ending.ok (s.hallOf (objectAddr k)))) := by
  have ht : o.target = 0xFFFF := hl.2.1
  have nobody : o.target < 48 → (s.slot o.target).handles.at (o.field 39 1) = none := fun h48 => by omega
  refine (execSyncAlloc_host h hl hf h0 hk.named).trans (congrArg _
    ((State.allocate_takes (s := s.begin o) (o := o.begun) nobody hf.1 hk).trans ?_))
  rw [State.allocObject_host (o := o.begun) ht hf, State.bindHandle, Order.slotTarget_false (o := o.begun) ht]
  rfl

theorem execSyncAlloc_hostBusy (hz : o.field 16 8 = 0) (hn : s.freeObject = none) :
    execSyncAlloc id s = .next ((s.begin o).finish o.begun Ending.busy) := by
  have ht : o.target = 0xFFFF := hl.2.1
  have nobody : o.target < 48 → (s.slot o.target).handles.at (o.field 39 1) = none := fun h48 => by omega
  exact (execSyncAlloc_host h hl hf h0 (.inl hz)).trans (congrArg _
    (State.allocate_busy (s := s.begin o) (o := o.begun) nobody hf.1 hz hn))

end Host

section Slot

variable (h : s.mayRun 0x28 id o) (hl : o.lawful 4 (o.target < 48) [(16, 24)])
  (hs : (s.slot o.target).state ∈ [SlotState.loaded, .stopped])
include h hl hs

theorem execSyncAlloc_slot (hc : ∀ c ∈ s.allocChecks o, c.ok = true) :
    execSyncAlloc id s = .next ((s.begin o).allocate o.begun) :=
  (runOrder_mayRun h).trans (congrArg _ (State.syncAlloc_slot (s := s.begin o) (o := o.begun) hl hs hc))

theorem execSyncAlloc_slotTakes (hf : o.FitsObject) (hk : s.takesObject o k)
    (hx : (s.slot o.target).handles.at (o.field 39 1) = none) : execSyncAlloc id s = .next
      ((((s.begin o).setObject k (newObject (o.field 38 1) o.target (o.field 36 2) (o.field 32 4)
        (if o.field 38 1 = 2 then (s.slot o.target).resume else 0) (o.field 24 8))).modSlot o.target
          fun x => { x with handles := x.handles.put (o.field 39 1) (s.hallOf (objectAddr k)) }).finish o.begun
            (Ending.ok (s.hallOf (objectAddr k)))) := by
  refine (execSyncAlloc_slot h hl hs (State.allocChecks_fits hf hk.named (.inl hl.2.1))).trans (congrArg _
    ((State.allocate_takes (s := s.begin o) (o := o.begun) (fun _ => hx) hf.1 hk).trans ?_))
  rw [State.allocObject, State.bindHandle, Order.slotTarget_true (o := o.begun) hl.2.1]
  rfl

theorem execSyncAlloc_slotBinds (hb : bitAt o.flags 2 = 1) (h0 : o.field 16 8 ≠ 0)
    (hy : (syncAt (hallLocal (o.field 16 8))).isSome = true) (hx : (s.slot o.target).handles.at (o.field 39 1) = none) :
    execSyncAlloc id s = .next (((s.begin o).modSlot o.target
      fun x => { x with handles := x.handles.put (o.field 39 1) (o.field 16 8) }).finish o.begun (Ending.ok (o.field 16 8))) := by
  refine (execSyncAlloc_slot h hl hs (State.allocChecks_bind hb hl.2.1 h0 hy)).trans (congrArg _
    ((State.allocate_binds (s := s.begin o) (o := o.begun) (fun _ => hx) hb).trans ?_))
  rw [State.bindHandle, Order.slotTarget_true (o := o.begun) hl.2.1]
  rfl

theorem execSyncAlloc_slotBound (hf : o.FitsObject) (hk : s.takesObject o k)
    (hx : ((s.slot o.target).handles.at (o.field 39 1)).isSome = true) :
    execSyncAlloc id s = .next ((s.begin o).finish o.begun (Ending.badState (s.slot o.target).state.code)) :=
  (execSyncAlloc_slot h hl hs (State.allocChecks_fits hf hk.named (.inl hl.2.1))).trans (congrArg _
    (State.allocate_bound (s := s.begin o) (o := o.begun) hl.2.1 hx))

end Slot

end Allocate

/-! ### SYNC_FREE (R435) -/

theorem execSyncFree_slot (h : s.mayRun 0x29 id o) (hl : o.lawful 0 (o.target < 48) [(16, 1)])
    (hs : (s.slot o.target).state ∈ [SlotState.loaded, .stopped, .faulted, .disabled]) :
    execSyncFree id s = .next (if ((s.slot o.target).handles.at (o.field 16 1)).isSome = true
      then ((s.begin o).freeHandle o.target (o.field 16 1)).finish o.begun Ending.ok
      else (s.begin o).finish o.begun (Ending.badState (s.slot o.target).state.code)) := by
  obtain ⟨hflags, htarget, hstray⟩ := hl
  refine (runOrder_mayRun h).trans (congrArg _ ((if_pos (Order.slotTarget_true (o := o.begun) htarget)).trans
    ((State.checked_pass _ (Order.params_none.mpr ⟨⟨hflags, rfl, hstray⟩, by simp⟩)).trans
      ((State.inState_pass _ (SlotState.unloadable_iff.mpr hs)).trans ?_))))
  by_cases hx : ((s.slot o.target).handles.at (o.field 16 1)).isSome = true
  · rw [if_pos hx]
    exact if_neg (by simpa [Option.isSome_iff_ne_none] using hx)
  · rw [if_neg hx]
    exact if_pos (by simpa using hx)

theorem execSyncFree_host (h : s.mayRun 0x29 id o) (hl : o.lawful 0 (o.target = 0xFFFF) [(16, 8)])
    (hk : s.ownObject (o.field 16 8) = some k) (hy : s.object k = some y) (ho : y.owner = 0xFE) :
    execSyncFree id s = .next (((s.begin o).freeObjectAt k).finish o.begun Ending.ok) := by
  have own : (s.begin o).ownObject (o.field 16 8) = some k := hk
  have here : (s.begin o).object k = some y := hy
  refine (runOrder_mayRun h).trans (congrArg _ ((if_neg ?_).trans ((State.checked_pass _ (Order.begun_params_noTarget hl ?_)).trans ?_)))
  · rw [Order.begun_slotTarget, Order.slotTarget_false hl.2.1]
    exact Bool.false_ne_true
  · simp [own, here, ho]
  · simp only [Order.begun_field, own]

/-! ### What freeing leaves (R435) -/

/-- The objects after one of them was written. -/
theorem State.object_setObject (s : State) (k j : Nat × Nat) (x : SyncObj) :
    (s.setObject k x).object j = if j = k then some x else s.object j := by
  obtain ⟨c, i⟩ := k
  obtain ⟨d, l⟩ := j
  by_cases hc : c = d
  · subst hc
    rw [State.object, State.setObject, State.cluster_modCluster, Tbl.at_put]
    simp only [Prod.mk.injEq, true_and, eq_comm (a := i)]
    rfl
  · rw [State.object, State.setObject, State.cluster_modCluster_of_ne _ _ hc, if_neg (by simp [Ne.symm hc])]
    rfl

/-- Takes an object out of its cluster. -/
def State.dropObject (s : State) (k : Nat × Nat) : State := s.modCluster k.1 fun c => { c with objects := c.objects.del k.2 }

theorem State.object_dropObject (s : State) (k j : Nat × Nat) :
    (s.dropObject k).object j = if j = k then none else s.object j := by
  obtain ⟨c, i⟩ := k
  obtain ⟨d, l⟩ := j
  by_cases hc : c = d
  · subst hc
    rw [State.object, State.dropObject, State.cluster_modCluster, Tbl.at_del]
    simp only [Prod.mk.injEq, true_and, eq_comm (a := i)]
    rfl
  · rw [State.object, State.dropObject, State.cluster_modCluster_of_ne _ _ hc, if_neg (by simp [Ne.symm hc])]
    rfl

theorem SyncObj.mem_orders {i : Nat} : i ∈ y.orders ↔ .order i ∈ y.waiting ++ y.crossbar := by
  rw [SyncObj.orders, List.mem_filterMap]
  constructor
  · rintro ⟨w, hw, h⟩
    cases w <;> simp at h
    exact h ▸ hw
  · exact fun h => ⟨_, h, rfl⟩

/-- Freeing an object takes it away and ends the orders that wait there. -/
theorem State.freeObjectAt_eq (hy : s.object k = some y) :
    s.freeObjectAt k = (s.dropObject k).finishAll y.orders Ending.aborted := by
  rw [State.freeObjectAt, hy]
  rfl

theorem State.object_freeObjectAt (hy : s.object k = some y) (j : Nat × Nat) :
    (s.freeObjectAt k).object j = if j = k then none else s.object j := by
  rw [State.freeObjectAt_eq hy, State.object_of_clusters (State.finishAll_clusters ..), State.object_dropObject]

theorem State.freeObjectAt_slots (s : State) (k : Nat × Nat) : (s.freeObjectAt k).slots = s.slots := by
  cases hy : s.object k with
  | none => rw [State.freeObjectAt, hy]
  | some y => rw [State.freeObjectAt_eq hy, State.finishAll_slots]; rfl

/-- Takes a handle from its slot. -/
def State.dropHandle (s : State) (n h : Nat) : State := s.modSlot n fun x => { x with handles := x.handles.del h }

section Handle

variable {n h hall : Nat} (hh : (s.slot n).handles.at h = some hall)
include hh

theorem State.freeHandle_owned (hp : s.ownObject hall = some k) (hy : s.object k = some y) (ho : y.owner = n) :
    s.freeHandle n h = (s.dropHandle n h).freeObjectAt k := by
  have own : (s.dropHandle n h).ownObject hall = some k := hp
  have here : (s.dropHandle n h).object k = some y := hy
  simp only [State.dropHandle] at own here
  simp only [State.freeHandle, hh, own, here, if_pos ho]
  rfl

theorem State.freeHandle_foreign (hp : s.ownObject hall = some k) (hy : s.object k = some y) (ho : y.owner ≠ n) :
    s.freeHandle n h = s.dropHandle n h := by
  have own : (s.dropHandle n h).ownObject hall = some k := hp
  have here : (s.dropHandle n h).object k = some y := hy
  simp only [State.dropHandle] at own here
  simp only [State.freeHandle, hh, own, here, if_neg ho]
  rfl

/-- Whatever becomes of the object, the slot has lost the handle. -/
theorem State.freeHandle_slots : (s.freeHandle n h).slots = (s.dropHandle n h).slots := by
  simp only [State.freeHandle, hh]
  split
  · split
    · split_ifs
      · exact State.freeObjectAt_slots ..
      · rfl
    · rfl
  · rfl

theorem State.freeHandle_unbinds : ((s.freeHandle n h).slot n).handles.at h = none := by
  have slot : (s.freeHandle n h).slot n = (s.dropHandle n h).slot n := by simp only [State.slot, State.freeHandle_slots hh]
  rw [slot, State.dropHandle, State.slot_modSlot, Tbl.at_del, if_pos rfl]

end Handle

/-! ### SYNC_SIGNAL and SYNC_WAIT (R245, R436) -/

section Plain

variable (hp : s.ownObject (o.field 16 8) = some k) (hy : s.object k = some y) (hm : y.mode = 1)
include hp

/-- An object of this module is named by an address of this module. -/
theorem State.far_of_ownObject : s.far (o.field 16 8) = false ∧ syncAt (hallLocal (o.field 16 8)) = some k := by
  rw [State.ownObject] at hp
  split_ifs at hp with hf
  exact ⟨by simpa using hf, hp⟩

include hy hm

theorem State.plainTarget_own : s.plainTarget (o.field 16 8) = true := by
  rw [State.plainTarget, (State.far_of_ownObject hp).1, hp]
  simp [hy, hm]

theorem execSyncSignal_plain (h : s.mayRun 0x2A id o) (hl : o.lawful 0 (o.target = 0xFFFF) [(16, 11)]) (hn : o.field 24 3 ≠ 0) :
    execSyncSignal id s = .next (((s.begin o).signalArrive
      { object := o.field 16 8, count := o.field 24 3, epoch := 0, runGen := 0, slot := 0xFE }).finish o.begun Ending.ok) := by
  have plain : (s.begin o).plainTarget (o.field 16 8) = true := State.plainTarget_own (s := s.begin o) hp hy hm
  have near : (!(s.begin o).far (o.begun.field 16 8)) = true := by
    rw [Order.begun_field, (State.far_of_ownObject (s := s.begin o) hp).1]
    rfl
  exact (runOrder_mayRun h).trans (congrArg _ ((State.checked_pass _ (Order.begun_params_noTarget hl (by simp [plain, hn]))).trans
    (if_pos near)))

theorem execSyncWait_plain (h : s.mayRun 0x2B id o) (hl : o.lawful 0 (o.target = 0xFFFF) [(16, 8)]) (hid : s.fabric.moduleId ≠ 0xFFFF) :
    execSyncWait id s = .next ((s.begin o).waitArrive
      { object := o.field 16 8, epoch := 0, runGen := 0, slot := 0xFE, waiter := .order o.id }) := by
  have plain : (s.begin o).plainTarget (o.field 16 8) = true := State.plainTarget_own (s := s.begin o) hp hy hm
  have near := (State.far_of_ownObject (s := s.begin o) hp).1
  have module : hallModule (o.field 16 8) = s.fabric.moduleId := of_not_not (of_decide_eq_false near)
  have here : (!(s.begin o).far (o.begun.field 16 8)) = true := by
    rw [Order.begun_field, near]
    rfl
  exact (runOrder_mayRun h).trans (congrArg _ ((State.checked_pass _ (Order.begun_params_noTarget hl
    (by simp [plain, module, hid]))).trans (if_pos here)))

end Plain

/-- The notices of a fire are sent one to each waiter. -/
theorem State.notify_eq (hall gen : Nat) (ws : List Waiter) : ∀ s : State,
    s.notify hall gen ws = { s with net := s.net ++ ws.map fun w => .notice w hall gen } := by
  induction ws with
  | nil => exact fun s => by simp [State.notify]
  | cons w ws ih => exact fun s => (ih _).trans (by simp [State.send])

/-- A PLAIN object without a target that reaches its threshold once, with nobody behind its places, fires once. -/
theorem State.signalArrive_firesOnce {m : SyncSignal} (hp : syncAt (hallLocal m.object) = some k) (hy : s.object k = some y)
    (hm : y.mode = 1) (ht : y.target = 0) (hc : y.threshold ≤ y.count0 + m.count) (hc2 : y.count0 + m.count < 2 * y.threshold)
    (hx : y.crossbar = []) : s.signalArrive m =
      { s.setObject k { y with count0 := y.count0 + m.count - y.threshold, generation := (y.generation + 1) % 2 ^ 32, waiting := [] } with
        net := s.net ++ y.waiting.map fun w => .notice w m.object ((y.generation + 1) % 2 ^ 32) } := by
  have once : (y.count0 + m.count) / y.threshold = 1 := Nat.div_eq_of_lt_le (by omega) (by omega)
  have rest : (y.count0 + m.count) % y.threshold = y.count0 + m.count - y.threshold := by
    rw [Nat.mod_eq_sub, once, mul_one]
  refine (State.signalArrive_fires hp hy hm (by omega) hc ((congrArg (SyncObj.fires · _) once).trans (SyncObj.fires_succ 0 hx))).trans ?_
  rw [if_pos ht, State.notify_eq, rest]
  rfl

/-- A state in which one object has changed and messages were sent. -/
theorem State.object_changed (s : State) (k : Nat × Nat) (x : SyncObj) (net : List Msg) :
    let t := { s.setObject k x with net := net }
    t.object k = some x ∧ (∀ j, j ≠ k → t.object j = s.object j) ∧ t.slots = s.slots ∧ t.cores = s.cores :=
  ⟨(State.object_setObject s k k x).trans (if_pos rfl), fun j hj => (State.object_setObject s k j x).trans (if_neg hj), rfl, rfl⟩

/-- Settles O41: SYNC_ALLOC by its checks and the object it takes, SYNC_FREE by what it takes away, a signal by the threshold, a wait by
its place. -/
theorem syncOrders : Obligations.SyncOrders := by
  unfold Obligations.SyncOrders
  refine ⟨fun s id o k => ?_, fun s k y hy => ?_, fun s n h hall k y hh => ?_, fun s id o k y => ?_⟩
  · exact ⟨fun h hl hf h0 => ⟨execSyncAlloc_hostTakes h hl hf h0, execSyncAlloc_hostBusy h hl hf h0⟩,
      fun h hl hs => ⟨execSyncAlloc_slotTakes h hl hs, execSyncAlloc_slotBinds h hl hs, execSyncAlloc_slotBound h hl hs⟩,
      execSyncFree_slot, fun y => execSyncFree_host⟩
  · intro t
    have object (j : Nat × Nat) : t.object j = if j = k then none else s.object j := State.object_freeObjectAt hy j
    have frees : t = (s.dropObject k).finishAll y.orders Ending.aborted := State.freeObjectAt_eq hy
    refine ⟨(object k).trans (if_pos rfl), fun j hj => (object j).trans (if_neg hj), ?_, ?_, ?_, fun q hq => ?_⟩
    · rw [frees, State.finishAll_slots]; rfl
    · rw [frees, State.finishAll_cores]; rfl
    · rw [frees, State.finishAll_net]; rfl
    · rw [frees, State.mem_finishAll_orders, SyncObj.mem_orders] at hq
      exact hq
  · refine ⟨State.freeHandle_unbinds hh, fun hp hy => ⟨fun ho => ?_, fun ho => ?_⟩⟩
    · have here : (s.dropHandle n h).object k = some y := hy
      rw [State.freeHandle_owned hh hp hy ho]
      exact (State.object_freeObjectAt here k).trans (if_pos rfl)
    · rw [State.freeHandle_foreign hh hp hy ho]
      rfl
  · intro obj c hp hy hm hthr h0
    have place : syncAt (hallLocal obj) = some k := (State.far_of_ownObject hp).2
    have here : (s.begin o).object k = some y := hy
    refine ⟨fun h hl hn => ⟨fun hc => ?_, fun hc hc2 hx => ?_⟩, fun h hl hid hw hx => ?_⟩
    · refine ⟨_, execSyncSignal_plain hp hy hm h hl hn, ?_⟩
      rw [State.signalArrive_below place here hm hc (show y.count0 + o.field 24 3 < _ by omega)]
      obtain ⟨own, others, slots, cores⟩ := State.object_changed (s.begin o) k { y with count0 := c } s.net
      exact ⟨own, others, rfl, slots, cores⟩
    · refine ⟨_, execSyncSignal_plain hp hy hm h hl hn, ?_⟩
      rw [State.signalArrive_firesOnce place here hm h0 hc hc2 hx]
      obtain ⟨own, others, slots, cores⟩ := State.object_changed (s.begin o) k
        { y with count0 := c - y.threshold, generation := (y.generation + 1) % 2 ^ 32, waiting := [] }
        (s.net ++ y.waiting.map fun w => .notice w obj ((y.generation + 1) % 2 ^ 32))
      exact ⟨own, others, slots, cores, rfl⟩
    · refine ⟨_, execSyncWait_plain hp hy hm h hl hid, ?_⟩
      rw [State.waitArrive_plain place here hm, SyncObj.enroll_room _ hw hx]
      obtain ⟨own, others, slots, cores⟩ := State.object_changed (s.begin o) k { y with waiting := y.waiting ++ [.order o.id], crossbar := [] } s.net
      exact ⟨hx ▸ own, others, rfl, slots, cores, rfl⟩

end Sys2Proof.Machine
end

section
/-! SLOT_CONFIG, SLOT_SAVE and SLOT_RESTORE (R423, R426, R452, R457 to R460). -/

namespace Sys2Proof.Machine

variable {s t : State} {id : Nat} {o : Order} {g : Image}

theorem SlotState.restorable_iff {x : SlotState} : (x = .loaded || x = .stopped || x = .faulted) = true ↔
    x ∈ [SlotState.loaded, .stopped, .faulted] := by
  simp [or_assoc]

/-- An address of this module that is aligned passes its check (R411). -/
theorem State.localAddr_ok {byte align : Nat} (hm : hallModule (o.field byte 8) = s.fabric.moduleId) (ha : o.field byte 8 % align = 0) :
    (s.localAddr o byte align).ok = true := by
  simp [State.localAddr, hm, ha]

/-- A SLOT_CONFIG whose block is read stages its items, a seed only before the first start (R423, R452). -/
theorem execSlotConfig_read {k : Staged} {seeds : Bool} (h : s.mayRun 0x18 id o) (hl : o.lawful 0 (o.target < 48) [(16, 8)])
    (hm : hallModule (o.field 16 8) = s.fabric.moduleId) (hs : (s.slot o.target).state ∈ [SlotState.loaded, .stopped])
    (hr : (s.begin o).readConfig o.begun = (t, .ok (k, seeds))) :
    let u := t.dropRemote o.id
    let y := u.slot o.target
    execSlotConfig id s = .next (if seeds ∧ (y.state ≠ .loaded ∨ y.started) then u.finish o.begun (Ending.badState y.state.code)
      else (u.setSlot o.target { y with staged := k }).finish o.begun Ending.ok) := by
  have near : (s.begin o).far (o.field 16 8) = false := decide_eq_false (not_not.mpr hm)
  refine (runOrder_mayRun h).trans (congrArg _ ((State.checked_pass _ (Order.begun_params_slotTarget hl ?_)).trans
    ((State.inState_pass _ (SlotState.loaded_or_stopped_iff.mpr hs)).trans ?_)))
  · simp [near]
  · simp only [hr, State.conclude_ok, Bool.and_eq_true, Bool.or_eq_true, decide_eq_true_eq]
    rfl

/-- A SLOT_SAVE of a STOPPED slot into a range that holds its context writes body and header (R426, R457, R458). -/
theorem execSlotSave_stopped (h : s.mayRun 0x1B id o) (hl : o.lawful 0 (o.target < 48) [(16, 16)])
    (hm : hallModule (o.field 16 8) = s.fabric.moduleId) (ha : o.field 16 8 % 64 = 0) (hn : o.field 24 8 % 64 = 0)
    (hc : ∀ c ∈ (s.begin o).rangeChecks (o.field 16 8) (o.field 24 8) 16 24, c.ok = true)
    (hf : (s.begin o).rangeHeld (o.field 16 8) (o.field 24 8) = none) (hg : (s.slot o.target).image = some g)
    (hz : (contextLayout g (s.slot o.target).replicas (s.slot o.target).segmentSize).2.2.2.2 ≤ o.field 24 8)
    (hs : (s.slot o.target).state = .stopped) :
    let u := s.begin o
    let x := s.slot o.target
    let body := x.contextBody x.rungs x.exch (u.recordOf o.target)
    execSlotSave id s = .next (((u.putWhole (hallLocal (o.field 16 8) + 256) body).putWhole (hallLocal (o.field 16 8))
      (x.contextHeader g (u.slotSat o.target) body)).finish o.begun (Ending.ok (256 + body.length))) := by
  have image : ((s.begin o).slot o.begun.target).image = some g := hg
  refine (runOrder_mayRun h).trans (congrArg _ ((State.checked_pass _ (Order.begun_params_slotTarget hl ?_)).trans
    ((State.inState_pass _ (decide_eq_true hs)).trans ?_)))
  · simp only [image, List.forall_mem_append, List.forall_mem_cons, List.not_mem_nil, false_implies, implies_true, and_true]
    exact ⟨⟨⟨State.localAddr_ok hm ha, decide_eq_true hn⟩, hc⟩, decide_eq_true hz⟩
  · have held : (s.begin o).rangeHeld (o.begun.field 16 8) (o.begun.field 24 8) = none := hf
    simp only [held, image]
    rfl

/-- A SLOT_RESTORE of a context that passes its checks puts it in force, where it has the result version of the slot (R258, R460). -/
theorem execSlotRestore_read {c : List Byte} (h : s.mayRun 0x1C id o) (hl : o.lawful 0 (o.target < 48) [(16, 16)])
    (hm : hallModule (o.field 16 8) = s.fabric.moduleId) (hg : (s.slot o.target).image = some g)
    (hs : (s.slot o.target).state ∈ [SlotState.loaded, .stopped, .faulted])
    (hr : (s.begin o).readContext o.begun g = (t, .ok c)) :
    let u := t.dropRemote o.id
    let x := s.slot o.target
    execSlotRestore id s = .next (if fieldAt c 24 4 = x.results then (u.restoreContext o.target g c).finish o.begun Ending.ok
      else u.finish o.begun (Ending.badState x.state.code)) := by
  have image : ((s.begin o).slot o.begun.target).image = some g := hg
  refine (runOrder_mayRun h).trans (congrArg _ ((State.checked_pass _ (Order.begun_params_slotTarget hl ?_)).trans
    ((State.inState_pass _ (SlotState.restorable_iff.mpr hs)).trans ?_)))
  · exact List.forall_mem_singleton.mpr (State.localAddr_ok hm (Nat.mod_one _))
  · simp only [image, hr, State.conclude_ok, ite_not]
    rfl

/-- Settles O38: each command by its checks and by what it reads. -/
theorem contextOrders : Obligations.ContextOrders := by
  unfold Obligations.ContextOrders
  exact fun s t id o g k seeds c => ⟨execSlotConfig_read, execSlotSave_stopped, execSlotRestore_read⟩

end Sys2Proof.Machine
end

section
/-! NOP, IDENTIFY, GET_STATUS, JOURNAL_QUERY, FILL, COPY and SCRUB_DECLARE (R409, R414 to R419). -/

namespace Sys2Proof.Machine

variable {s t : State} {id : Nat} {o : Order} {bs : List Byte}

/-! ### NOP, IDENTIFY, GET_STATUS and JOURNAL_QUERY (R409, R414 to R416) -/

theorem execNop_lawful (h : s.mayRun 0x00 id o) (hl : o.lawful 0 (o.target = 0xFFFF) []) :
    execNop id s = .next ((s.begin o).finish o.begun Ending.ok) :=
  (runOrder_mayRun h).trans (congrArg _ (State.checked_pass _ (Order.begun_params_noTarget hl (by simp))))

theorem execIdentify_lawful (h : s.mayRun 0x01 id o) (hl : o.lawful 0 (o.target = 0xFFFF) [(16, 16)]) (hr : o.hostRoom 16 24 128)
    (hb : s.barsUp = true) : execIdentify id s = .next
      (((s.begin o).hostWrite (o.field 16 8) (s.begin o).identifyRecord).finish o.begun Ending.ok) :=
  (runOrder_mayRun h).trans (congrArg _ ((State.checked_pass _ (Order.begun_params_noTarget hl
    (Order.hostRange_ok.mpr hr))).trans (State.answerHost_barsUp (s := s.begin o) hb ..)))

theorem execGetStatus_slot (h : s.mayRun 0x02 id o) (hl : o.lawful 0 (o.target < 48) []) :
    execGetStatus id s = .next ((s.begin o).finish o.begun (Ending.ok ((s.begin o).slotStatus o.target))) := by
  obtain ⟨hflags, htarget, hstray⟩ := hl
  have slot : o.begun.slotTarget = true := decide_eq_true htarget
  refine (runOrder_mayRun h).trans (congrArg _ ((State.checked_pass _
    (Order.params_none.mpr ⟨⟨hflags, by rw [slot]; rfl, hstray⟩, by simp⟩)).trans ?_))
  rw [if_pos slot]
  rfl

theorem execGetStatus_module (h : s.mayRun 0x02 id o) (hl : o.lawful 0 (o.target = 0xFFFF) []) :
    execGetStatus id s = .next ((s.begin o).finish o.begun (Ending.ok (s.begin o).moduleStatus)) := by
  obtain ⟨hflags, htarget, hstray⟩ := hl
  have module : o.begun.slotTarget = false := decide_eq_false (show ¬ o.target < 48 by omega)
  have none : o.begun.noTarget = true := decide_eq_true htarget
  refine (runOrder_mayRun h).trans (congrArg _ ((State.checked_pass _
    (Order.params_none.mpr ⟨⟨hflags, by rw [none, Bool.or_true], hstray⟩, by simp⟩)).trans ?_))
  rw [module]
  rfl

/-- The first journal sequence that a JOURNAL_QUERY answers with (R416, R462). -/
def State.queryFirst (s : State) (o : Order) : Nat := max (o.field 16 8) s.oldestSeq

/-- How many entries it answers. -/
def State.queryCount (s : State) (o : Order) : Nat := min (o.field 32 8 / 64) (s.arbiter.newest + 1 - s.queryFirst o)

theorem execJournalQuery_read (h : s.mayRun 0x03 id o) (hl : o.lawful 0 (o.target = 0xFFFF) [(16, 24)]) (hr : o.hostRoom 24 32 0)
    (hj : (s.begin o).journalRead ((s.begin o).queryFirst o) ((s.begin o).queryCount o) = (t, some bs)) (hb : t.barsUp = true) :
    execJournalQuery id s = .next ((t.hostWrite (o.field 24 8) bs).finish o.begun
      { status := 0, d17 := bitOf (decide (o.field 16 8 < (s.begin o).oldestSeq))
        result := (s.begin o).queryCount o + 2 ^ 32 * t.arbiter.newest }) := by
  have read : (s.begin o).journalRead (max (o.begun.field 16 8) (s.begin o).oldestSeq) (min (o.begun.field 32 8 / 64)
      ((s.begin o).arbiter.newest + 1 - max (o.begun.field 16 8) (s.begin o).oldestSeq)) = (t, some bs) := hj
  refine (runOrder_mayRun h).trans (congrArg _ ((State.checked_pass _ (Order.begun_params_noTarget hl (Order.hostRange_ok.mpr hr))).trans ?_))
  simp only [read, State.answerHost_barsUp hb]
  rfl

/-! ### FILL and COPY (R417, R418) -/

/-- A FILL of whole lines of a range that it may write starts its transfer. -/
theorem execFill_lawful (h : s.mayRun 0x08 id o) (hl : o.lawful 0 (o.target = 0xFFFF) [(16, 24)])
    (ha : o.field 16 8 ≠ 0) (ha64 : o.field 16 8 % 64 = 0) (hn : o.field 24 8 ≠ 0) (hn64 : o.field 24 8 % 64 = 0)
    (hc : ∀ c ∈ (s.begin o).rangeChecks (o.field 16 8) (o.field 24 8) 16 24, c.ok = true)
    (hf : (s.begin o).rangeHeld (o.field 16 8) (o.field 24 8) = none) : execFill id s = .next ((s.begin o).goTransfer
      { order := o.id, src := .pattern (o.field 32 8), dst := .hall (o.field 16 8), length := o.field 24 8, moved := 0, data := none }) := by
  have held : (s.begin o).rangeHeld (o.begun.field 16 8) (o.begun.field 24 8) = none := hf
  refine (runOrder_mayRun h).trans (congrArg _ ((State.checked_pass _ (Order.begun_params_noTarget hl
    (List.forall_mem_append.mpr ⟨by simp [ha, ha64, hn, hn64], hc⟩))).trans ?_))
  simp only [held]
  rfl

/-- Where a COPY takes its bytes and where it puts them, by its direction (R418). -/
def Order.copies (o : Order) : Transfer :=
  { order := o.id, src := if o.flags / 4 % 4 = 0 then .host (o.field 16 8) else .hall (o.field 16 8)
    dst := if o.flags / 4 % 4 = 1 then .host (o.field 24 8) else .hall (o.field 24 8), length := o.field 32 8, moved := 0, data := none }

theorem forall_mem_ite_nil {α : Type} {p : Prop} [Decidable p] {l : List α} {good : α → Prop} (h : ¬ p → ∀ c ∈ l, good c) :
    ∀ c ∈ (if p then [] else l), good c := by
  by_cases hp : p
  · simp [hp]
  · simpa [hp] using h hp

/-- A COPY of whole lines, of a source it may read to a range it may write, starts its transfer. -/
theorem execCopy_lawful (h : s.mayRun 0x09 id o) (hl : o.lawful 0x0C (o.target = 0xFFFF) [(16, 24)]) (hd : o.flags / 4 % 4 ≠ 3)
    (ha : o.field 16 8 % 64 = 0) (hb : o.field 24 8 % 64 = 0) (hn : o.field 32 8 % 64 = 0)
    (hs : o.flags / 4 % 4 ≠ 0 → ∀ c ∈ (s.begin o).sourceChecks (o.field 16 8) (o.field 32 8), c.ok = true)
    (ho : o.flags / 4 % 4 = 2 → rangesOverlap (o.field 16 8) (o.field 24 8) (o.field 32 8) = false)
    (hc : o.flags / 4 % 4 ≠ 1 → (∀ c ∈ (s.begin o).rangeChecks (o.field 24 8) (o.field 32 8) 24 32, c.ok = true) ∧
      (s.begin o).rangeHeld (o.field 24 8) (o.field 32 8) = none) :
    execCopy id s = .next ((s.begin o).goTransfer o.copies) := by
  have held : (if o.begun.flags / 4 % 4 = 1 then none else (s.begin o).rangeHeld (o.begun.field 24 8) (o.begun.field 32 8)) = none := by
    by_cases h1 : o.flags / 4 % 4 = 1
    · exact if_pos h1
    · exact (if_neg h1).trans (hc h1).2
  refine (runOrder_mayRun h).trans (congrArg _ ((State.checked_pass _ (Order.begun_params_noTarget hl
    (List.forall_mem_append.mpr ⟨List.forall_mem_append.mpr ⟨?_, ?_⟩, ?_⟩))).trans ?_))
  · have disjoint : (!(decide (o.flags / 4 % 4 = 2) && rangesOverlap (o.field 16 8) (o.field 24 8) (o.field 32 8))) = true := by
      by_cases h2 : o.flags / 4 % 4 = 2 <;> simp [h2, ho]
    exact List.forall_mem_cons.mpr ⟨decide_eq_true hd, List.forall_mem_cons.mpr ⟨decide_eq_true ha, List.forall_mem_cons.mpr
      ⟨decide_eq_true hb, List.forall_mem_cons.mpr ⟨decide_eq_true hn, List.forall_mem_singleton.mpr disjoint⟩⟩⟩⟩
  · exact forall_mem_ite_nil hs
  · exact forall_mem_ite_nil fun h1 => (hc h1).1
  · simp only [held]
    rfl

/-! ### SCRUB_DECLARE (R419) -/

/-- A range is entered at every station that holds a line of it, or taken out (R419). -/
def State.declareRange (s : State) (o : Order) (remove : Bool) : State :=
  (rangeStations (hallLocal (o.field 16 8)) (o.field 24 8)).foldl (fun s n => s.modStation n fun m =>
    if remove then m.removeRange (hallLocal (o.field 16 8), o.field 24 8)
    else { m with ranges := m.ranges ++ [(hallLocal (o.field 16 8), o.field 24 8)] }) s

theorem execScrubDeclare_lawful {remove : Bool} (h : s.mayRun 0x0A id o) (hl : o.lawful 4 (o.target = 0xFFFF) [(16, 16)])
    (hm : hallModule (o.field 16 8) = s.fabric.moduleId) (ha : o.field 16 8 % 4096 = 0)
    (hw : scrubbable (hallLocal (o.field 16 8)) 1 = true) (hn : o.field 24 8 ≠ 0) (hn4 : o.field 24 8 % 4096 = 0)
    (hr : scrubbable (hallLocal (o.field 16 8)) (o.field 24 8) = true) (hf : remove = decide (bitAt o.flags 2 = 1))
    (hs : (if remove then (rangeStations (hallLocal (o.field 16 8)) (o.field 24 8)).all (fun n => (s.station n).ranges.contains
        (hallLocal (o.field 16 8), o.field 24 8)) && decide (rangeStations (hallLocal (o.field 16 8)) (o.field 24 8) ≠ [])
      else (rangeStations (hallLocal (o.field 16 8)) (o.field 24 8)).all fun n => decide ((s.station n).ranges.length < 16)) = true) :
    execScrubDeclare id s = .next (((s.begin o).declareRange o remove).finish o.begun
      (Ending.ok ((s.begin o).declareRange o remove).mostRanges)) := by
  subst hf
  have whole : (decide (o.field 24 8 ≠ 0) && decide (o.field 24 8 % 4096 = 0) && scrubbable (hallLocal (o.field 16 8)) (o.field 24 8)) = true := by
    simp [hn, hn4, hr]
  refine (runOrder_mayRun h).trans (congrArg _ ((State.checked_pass _ (Order.begun_params_noTarget hl
    (List.forall_mem_cons.mpr ⟨State.localAddr_ok (s := s.begin o) hm ha, List.forall_mem_cons.mpr ⟨hw, List.forall_mem_cons.mpr
      ⟨whole, List.forall_mem_singleton.mpr ?_⟩⟩⟩))).trans ?_))
  · simp only [decide_eq_true_eq] at hs
    exact hs
  · simp only [State.declareRange, decide_eq_true_eq]
    rfl

/-! ### A local FILL (R417) -/

section
variable {v : State} {t : Transfer} {a pat n m k : Nat}

/-- The pattern of a FILL, m times. -/
def patternBytes (pat m : Nat) : List Byte := (List.replicate m (leBytes 8 pat)).flatten

theorem patternBytes_length : (patternBytes pat m).length = 8 * m := by
  simp [patternBytes, leBytes, Nat.mul_comm]

theorem patternBytes_getElem? (h : k < 8 * m) : (patternBytes pat m)[k]? = (leBytes 8 pat)[k % 8]? := by
  induction m generalizing k with
  | zero => omega
  | succ m ih =>
    have size : (leBytes 8 pat).length = 8 := by simp [leBytes]
    have cons : patternBytes pat (m + 1) = leBytes 8 pat ++ patternBytes pat m := by simp [patternBytes, List.replicate_succ]
    rw [cons, List.getElem?_append, size]
    split
    · rw [Nat.mod_eq_of_lt (by assumption)]
    · rw [ih (by omega), ← Nat.mod_eq_sub_mod (by omega)]

/-- State v is s with n bytes of the pattern written from hall address a on. -/
structure State.FilledTo (s v : State) (a pat n : Nat) : Prop where
  bytes : ∀ k, k < n → Mem.get memBackground v.mem (hallLocal a + k) = (leBytes 8 pat)[k % 8]?
  rest : ∀ b, b < hallLocal a ∨ hallLocal a + n ≤ b → Mem.get memBackground v.mem b = Mem.get memBackground s.mem b
  slots : v.slots = s.slots
  cores : v.cores = s.cores
  net : v.net = s.net
  arbiter : v.arbiter = s.arbiter
  fabric : v.fabric = s.fabric

theorem State.FilledTo.zero : s.FilledTo s a pat 0 :=
  ⟨fun k h => absurd h (Nat.not_lt_zero k), fun _ _ => rfl, rfl, rfl, rfl, rfl, rfl⟩

theorem State.FilledTo.putWhole (h : s.FilledTo v a pat n) (h8 : n % 8 = 0) :
    s.FilledTo (v.putWhole (hallLocal a + n) (patternBytes pat m)) a pat (n + 8 * m) where
  bytes k hk := by
    rw [State.putWhole_mem]
    by_cases old : k < n
    · rw [Mem.get_write_outside _ _ _ _ _ (.inl (by omega)), h.bytes k old]
    · have place : hallLocal a + k - (hallLocal a + n) = k - n := by omega
      have inside : hallLocal a + k - (hallLocal a + n) < (patternBytes pat m).length := by rw [patternBytes_length]; omega
      rw [Mem.get_write_inside _ _ _ _ _ (by omega) inside, ← List.getElem?_eq_getElem, place, patternBytes_getElem? (by omega),
        show (k - n) % 8 = k % 8 by omega]
  rest b hb := by
    rw [State.putWhole_mem, Mem.get_write_outside _ _ _ _ _ (by rw [patternBytes_length]; omega), h.rest b (by omega)]
  slots := h.slots
  cores := h.cores
  net := h.net
  arbiter := h.arbiter
  fabric := h.fabric

/-- The bytes of the next chunk of a FILL. -/
theorem Transfer.chunk_pattern (hs : t.src = .pattern pat) : t.chunk s = min 4096 (t.length - t.moved) := by
  simp [Transfer.chunk, hs]

theorem State.transferRead_pattern (hs : t.src = .pattern pat) :
    s.transferRead t = (s, .more { t with data := some (patternBytes pat (t.chunk s / 8)) }) := by
  simp [State.transferRead, hs, patternBytes]

theorem State.transferWrite_near {bs : List Byte} (hd : t.dst = .hall a) (hn : s.far (a + t.moved) = false) :
    s.transferWrite t bs = (s.putWhole (hallLocal (a + t.moved)) bs, .more (t.wrote bs.length)) := by
  simp [State.transferWrite, hd, hn]

theorem State.runTransfer_read {fuel : Nat} (hs : t.src = .pattern pat) (hdata : t.data = none) (hlt : t.moved < t.length) :
    s.runTransfer t (fuel + 1) = s.runTransfer { t with data := some (patternBytes pat (t.chunk s / 8)) } fuel := by
  simp only [State.runTransfer, hdata, State.transferRead_pattern hs, if_neg (not_le.mpr hlt)]

theorem State.runTransfer_write {fuel : Nat} {bs : List Byte} (hd : t.dst = .hall a) (hdata : t.data = some bs) (hlt : t.moved < t.length)
    (hn : s.far (a + t.moved) = false) :
    s.runTransfer t (fuel + 1) = (s.putWhole (hallLocal (a + t.moved)) bs).runTransfer (t.wrote bs.length) fuel := by
  simp only [State.runTransfer, hdata, State.transferWrite_near hd hn, if_neg (not_le.mpr hlt)]

/-- A local FILL writes its next chunk in two steps. -/
theorem State.runTransfer_fill_chunk {fuel : Nat} (hs : t.src = .pattern pat) (hd : t.dst = .hall a) (hdata : t.data = none)
    (hlt : t.moved < t.length) (hn : s.far (a + t.moved) = false) :
    s.runTransfer t (fuel + 2) = (s.putWhole (hallLocal (a + t.moved)) (patternBytes pat (t.chunk s / 8))).runTransfer
      (t.wrote (8 * (t.chunk s / 8))) fuel := by
  refine (State.runTransfer_read hs hdata hlt).trans ((State.runTransfer_write
    (t := { t with data := some (patternBytes pat (t.chunk s / 8)) }) hd rfl hlt hn).trans ?_)
  rw [patternBytes_length]
  rfl

theorem State.runTransfer_ends {fuel : Nat} (hs : t.src = .pattern pat) (h : t.length ≤ t.moved) :
    s.runTransfer t (fuel + 1) = s.endTransfer t (Ending.ok 0) := by
  simp [State.runTransfer, h, hs]

/-- Places of a range that ends in the local address space are on the module that the range begins on. -/
theorem hallModule_add (h : hallLocal a + n < 2 ^ 48) : hallModule (a + n) = hallModule a := by
  simp only [hallLocal, hallModule] at *
  omega

theorem hallLocal_add (h : hallLocal a + n < 2 ^ 48) : hallLocal (a + n) = hallLocal a + n := by
  simp only [hallLocal] at *
  omega

theorem State.runTransfer_fill (lines : Nat) {fuel : Nat} (hs : t.src = .pattern pat) (hd : t.dst = .hall a) (hdata : t.data = none)
    (hlen : t.length % 64 = 0) (hmoved : t.moved % 64 = 0) (hle : t.moved ≤ t.length) (hlines : t.length - t.moved ≤ 64 * lines)
    (hfuel : 2 * lines + 1 ≤ fuel) (hm : hallModule a = s.fabric.moduleId) (hend : hallLocal a + t.length ≤ 2 ^ 48)
    (hv : s.FilledTo v a pat t.moved) : ∃ (w : State) (e : Transfer), v.runTransfer t fuel = w.endTransfer e (Ending.ok 0) ∧
      e.order = t.order ∧ e.moved = t.length ∧ e.dst = t.dst ∧ s.FilledTo w a pat t.length := by
  induction lines generalizing v t fuel with
  | zero =>
    obtain ⟨fuel, rfl⟩ := Nat.exists_eq_add_of_le' hfuel
    have all : t.moved = t.length := by omega
    exact ⟨v, t, runTransfer_ends hs all.ge, rfl, all, rfl, all ▸ hv⟩
  | succ lines ih =>
    by_cases all : t.length ≤ t.moved
    · obtain ⟨fuel, rfl⟩ := Nat.exists_eq_add_of_le' (Nat.le_of_add_left_le hfuel)
      have same : t.moved = t.length := by omega
      exact ⟨v, t, runTransfer_ends hs all, rfl, same, rfl, same ▸ hv⟩
    · obtain ⟨fuel, rfl⟩ := Nat.exists_eq_add_of_le' (show 2 ≤ fuel by omega)
      have inside : hallLocal a + t.moved < 2 ^ 48 := by omega
      have near : v.far (a + t.moved) = false := by
        rw [State.far, hallModule_add inside, hm, hv.fabric]
        exact decide_eq_false (not_not.mpr rfl)
      have size : t.chunk v = min 4096 (t.length - t.moved) := Transfer.chunk_pattern hs
      rw [runTransfer_fill_chunk hs hd hdata (by omega) near, hallLocal_add inside]
      exact ih (t := t.wrote _) hs hd rfl hlen (show (t.moved + _) % 64 = 0 by omega) (show t.moved + _ ≤ t.length by omega)
        (show t.length - (t.moved + _) ≤ _ by omega) (by omega) hend (hv.putWhole (by omega))

end

/-- Settles O36: the commands by their checks, a local FILL by induction on the lines that are left (`State.runTransfer_fill`). -/
theorem informationAndMemoryOrders : Obligations.InformationAndMemoryOrders := by
  unfold Obligations.InformationAndMemoryOrders
  refine ⟨fun s id o => ⟨execNop_lawful, execIdentify_lawful, execGetStatus_slot, execGetStatus_module,
    fun h hl hr _ _ hj hb => execJournalQuery_read h hl hr hj hb⟩, fun s id o => ⟨execFill_lawful, execCopy_lawful, ?_⟩, ?_⟩
  · intro h hl hm ha hw hn hn4 hr
    refine ⟨fun hf room => execScrubDeclare_lawful (remove := false) h hl hm ha hw hn hn4 hr ?_ ?_,
      fun hf some held => execScrubDeclare_lawful (remove := true) h hl hm ha hw hn hn4 hr ?_ ?_⟩
    · simp [hf]
    · simpa using room
    · simp [hf]
    · simpa [some] using held
  · intro s t a pat hs hd hmoved hdata hlen hm hend
    obtain ⟨v, e, run, order, moved, dst, filled⟩ := State.runTransfer_fill (t.length / 64) hs hd hdata hlen (by omega) (by omega)
      (by omega) (show 2 * (t.length / 64) + 1 ≤ t.fuel by rw [Transfer.fuel]; omega) hm hend (hmoved ▸ State.FilledTo.zero)
    exact ⟨v, e, run, order, moved, dst, filled.bytes, filled.rest, filled.slots, filled.cores, filled.net, filled.arbiter⟩

end Sys2Proof.Machine
end

section
/-! SLOT_START, SLOT_ENABLE, SLOT_STOP and SLOT_DISABLE (R241, R424, R425, R427, R428, R439, R452, R455). -/

namespace Sys2Proof.Machine

variable {s : State} {id n : Nat} {o : Order}

/-! ### SLOT_START and SLOT_ENABLE (R424, R428, R439) -/

theorem execSlotStart_lawful (h : s.mayRun 0x19 id o) (hl : o.lawful 0 (o.target < 48) []) : execSlotStart id s =
    .next ((s.begin o).inState o.begun (fun st => st = .loaded || st = .stopped) fun s =>
      if (s.slot o.target).effective.startRefusal ≠ 0 then
        s.finish o.begun { status := 0x12, d17 := (s.slot o.target).state.code, d18 := (s.slot o.target).effective.startRefusal }
      else if s.testsPending.any fun t => s.testWaitsFor t o.target then
        s.setSlot o.target { s.slot o.target with waitingStart := some o.id }
      else (s.finish o.begun (Ending.ok (s.slot o.target).resume)).startSlot o.target) :=
  (runOrder_mayRun h).trans (congrArg _ (State.checked_pass _ (Order.begun_params_slotTarget hl (by simp))))

theorem execSlotStart_badState (h : s.mayRun 0x19 id o) (hl : o.lawful 0 (o.target < 48) [])
    (hs : (s.slot o.target).state ∉ [SlotState.loaded, .stopped]) :
    execSlotStart id s = .next ((s.begin o).finish o.begun (Ending.badState (s.slot o.target).state.code)) := by
  rw [execSlotStart_lawful h hl, State.inState_fail _ (Bool.eq_false_iff.mpr (SlotState.loaded_or_stopped_iff.not.mpr hs))]
  rfl

theorem execSlotStart_allowed (h : s.mayRun 0x19 id o) (hl : o.lawful 0 (o.target < 48) [])
    (hs : (s.slot o.target).state ∈ [SlotState.loaded, .stopped]) : execSlotStart id s = .next
      (if (s.slot o.target).effective.startRefusal ≠ 0 then (s.begin o).finish o.begun
        { status := 0x12, d17 := (s.slot o.target).state.code, d18 := (s.slot o.target).effective.startRefusal }
      else if (s.begin o).testsPending.any fun t => (s.begin o).testWaitsFor t o.target then
        (s.begin o).setSlot o.target { s.slot o.target with waitingStart := some o.id }
      else ((s.begin o).finish o.begun (Ending.ok (s.slot o.target).resume)).startSlot o.target) := by
  rw [execSlotStart_lawful h hl, State.inState_pass _ (SlotState.loaded_or_stopped_iff.mpr hs)]
  rfl

theorem execSlotEnable_lawful (h : s.mayRun 0x1E id o) (hl : o.lawful 0 (o.target < 48) []) : execSlotEnable id s =
    .next ((s.begin o).inState o.begun (fun st => st = .disabled) fun s =>
      (if (s.slot o.target).disabledFaulted then s.setSlot o.target { s.slot o.target with
          state := if (s.slot o.target).disabledFaulted then .faulted else if (s.slot o.target).started then .stopped else .loaded
          disabledFaulted := false }
        else (s.setSlot o.target { s.slot o.target with
          state := if (s.slot o.target).disabledFaulted then .faulted else if (s.slot o.target).started then .stopped else .loaded
          disabledFaulted := false }).thawSlot o.target).finish o.begun Ending.ok) :=
  (runOrder_mayRun h).trans (congrArg _ (State.checked_pass _ (Order.begun_params_slotTarget hl (by simp))))

theorem execSlotEnable_badState (h : s.mayRun 0x1E id o) (hl : o.lawful 0 (o.target < 48) [])
    (hs : (s.slot o.target).state ≠ .disabled) :
    execSlotEnable id s = .next ((s.begin o).finish o.begun (Ending.badState (s.slot o.target).state.code)) := by
  rw [execSlotEnable_lawful h hl, State.inState_fail _ (decide_eq_false hs)]
  rfl

theorem execSlotEnable_faulted (h : s.mayRun 0x1E id o) (hl : o.lawful 0 (o.target < 48) [])
    (hs : (s.slot o.target).state = .disabled) (hf : (s.slot o.target).disabledFaulted = true) : execSlotEnable id s = .next
      (((s.begin o).setSlot o.target { s.slot o.target with state := .faulted, disabledFaulted := false }).finish o.begun Ending.ok) := by
  rw [execSlotEnable_lawful h hl, State.inState_pass _ (decide_eq_true hs)]
  simp only [State.begin_slot, hf, if_true]

theorem execSlotEnable_disabled (h : s.mayRun 0x1E id o) (hl : o.lawful 0 (o.target < 48) [])
    (hs : (s.slot o.target).state = .disabled) (hf : (s.slot o.target).disabledFaulted = false) : execSlotEnable id s = .next
      ((((s.begin o).setSlot o.target { s.slot o.target with
        state := if (s.slot o.target).started then .stopped else .loaded, disabledFaulted := false }).thawSlot o.target).finish o.begun
          Ending.ok) := by
  rw [execSlotEnable_lawful h hl, State.inState_pass _ (decide_eq_true hs)]
  simp only [State.begin_slot, hf, Bool.false_eq_true, if_false]
  rfl

/-! ### SLOT_STOP and SLOT_DISABLE (R425, R427) -/

/-- Whether the stop of a slot that is under way is HARD. -/
def Slot.underHard (x : Slot) : Bool := match x.drain with | some d => d.hard | none => false

theorem Slot.underHard_iff {x : Slot} : x.underHard = true ↔ ∃ d, x.drain = some d ∧ d.hard = true := by
  cases h : x.drain <;> simp [Slot.underHard, h]

/-- What SLOT_STOP does with a slot in each state (R425). -/
def State.stopSlot (s : State) (o : Order) : State :=
  match (s.slot o.target).state with
  | .running => s.beginStop o.target (newDrain (bitAt o.flags 2 = 1) (o.field 16 8) [o.id] none)
  | .stopping =>
    if decide (bitAt o.flags 2 = 1) && !(s.slot o.target).underHard then s.takeOver o.target [o.id] none else s.joinStop o.target o.id
  | .stopped => s.finish o (Ending.ok (s.slot o.target).resume)
  | _ => s.finish o (Ending.badState (s.slot o.target).state.code)

theorem execSlotStop_lawful (h : s.mayRun 0x1A id o) (hl : o.lawful 4 (o.target < 48) [(16, 8)]) :
    execSlotStop id s = .next ((s.begin o).stopSlot o.begun) :=
  (runOrder_mayRun h).trans (congrArg _ (State.checked_pass _ (Order.begun_params_slotTarget hl (by simp))))

theorem State.stopSlot_running (hx : (s.slot o.target).state = .running) :
    s.stopSlot o = s.beginStop o.target (newDrain (bitAt o.flags 2 = 1) (o.field 16 8) [o.id] none) := by
  simp only [State.stopSlot, hx]

theorem State.stopSlot_hard (hx : (s.slot o.target).state = .stopping) (hh : bitAt o.flags 2 = 1)
    (hd : ¬ ∃ d, (s.slot o.target).drain = some d ∧ d.hard = true) : s.stopSlot o = s.takeOver o.target [o.id] none := by
  have soft : (s.slot o.target).underHard = false := Bool.eq_false_iff.mpr (Slot.underHard_iff.not.mpr hd)
  simp [State.stopSlot, hx, hh, soft]

theorem State.stopSlot_joins (hx : (s.slot o.target).state = .stopping)
    (hd : ¬ bitAt o.flags 2 = 1 ∨ ∃ d, (s.slot o.target).drain = some d ∧ d.hard = true) : s.stopSlot o = s.joinStop o.target o.id := by
  rw [← Slot.underHard_iff] at hd
  rcases hd with hd | hd <;> simp [State.stopSlot, hx, hd]

theorem State.stopSlot_stopped (hx : (s.slot o.target).state = .stopped) :
    s.stopSlot o = s.finish o (Ending.ok (s.slot o.target).resume) := by
  simp only [State.stopSlot, hx]

theorem State.stopSlot_badState (hx : (s.slot o.target).state ∉ [SlotState.running, .stopping, .stopped]) :
    s.stopSlot o = s.finish o (Ending.badState (s.slot o.target).state.code) := by
  cases h : (s.slot o.target).state <;> simp [h] at hx <;> simp only [State.stopSlot, h]

/-- What SLOT_DISABLE does with a slot in each state (R427). -/
def State.disableSlot (s : State) (o : Order) : State :=
  match (s.slot o.target).state with
  | .empty => s.finish o (Ending.badState 0)
  | .disabled => s.finish o Ending.ok
  | .running => (s.abortOrders o.target o.seq).beginStop o.target (newDrain (bitAt o.flags 2 = 1) 0 [] (some o.id))
  | .stopping =>
    if decide (bitAt o.flags 2 = 1) && !((s.abortOrders o.target o.seq).slot o.target).underHard then
      (s.abortOrders o.target o.seq).takeOver o.target [] (some o.id)
    else (s.abortOrders o.target o.seq).modSlot o.target fun x => { x with drain := x.drain.map fun d =>
      { d with disable := true, disableOrder := some o.id } }
  | _ => ((s.abortOrders o.target o.seq).disableNow o.target).finish o Ending.ok

theorem execSlotDisable_lawful (h : s.mayRun 0x1D id o) (hl : o.lawful 4 (o.target < 48) []) :
    execSlotDisable id s = .next ((s.begin o).disableSlot o.begun) :=
  (runOrder_mayRun h).trans (congrArg _ (State.checked_pass _ (Order.begun_params_slotTarget hl (by simp))))

theorem State.disableSlot_empty (hx : (s.slot o.target).state = .empty) : s.disableSlot o = s.finish o (Ending.badState 0) := by
  simp only [State.disableSlot, hx]

theorem State.disableSlot_disabled (hx : (s.slot o.target).state = .disabled) : s.disableSlot o = s.finish o Ending.ok := by
  simp only [State.disableSlot, hx]

theorem State.disableSlot_running (hx : (s.slot o.target).state = .running) : s.disableSlot o =
    (s.abortOrders o.target o.seq).beginStop o.target (newDrain (bitAt o.flags 2 = 1) 0 [] (some o.id)) := by
  simp only [State.disableSlot, hx]

theorem State.disableSlot_hard (hx : (s.slot o.target).state = .stopping) (hh : bitAt o.flags 2 = 1)
    (hd : ¬ ∃ d, ((s.abortOrders o.target o.seq).slot o.target).drain = some d ∧ d.hard = true) :
    s.disableSlot o = (s.abortOrders o.target o.seq).takeOver o.target [] (some o.id) := by
  have soft : ((s.abortOrders o.target o.seq).slot o.target).underHard = false := Bool.eq_false_iff.mpr (Slot.underHard_iff.not.mpr hd)
  simp [State.disableSlot, hx, hh, soft]

theorem State.disableSlot_joins (hx : (s.slot o.target).state = .stopping)
    (hd : ¬ bitAt o.flags 2 = 1 ∨ ∃ d, ((s.abortOrders o.target o.seq).slot o.target).drain = some d ∧ d.hard = true) :
    s.disableSlot o = (s.abortOrders o.target o.seq).modSlot o.target fun x => { x with drain := x.drain.map fun d =>
      { d with disable := true, disableOrder := some o.id } } := by
  rw [← Slot.underHard_iff] at hd
  rcases hd with hd | hd <;> simp [State.disableSlot, hx, hd]

theorem State.disableSlot_still (hx : (s.slot o.target).state ∈ [SlotState.loaded, .stopped, .faulted]) :
    s.disableSlot o = ((s.abortOrders o.target o.seq).disableNow o.target).finish o Ending.ok := by
  simp only [List.mem_cons, List.not_mem_nil, or_false] at hx
  rcases hx with hx | hx | hx <;> simp only [State.disableSlot, hx]

/-! ### What a stop does to a slot, and to the network (R241, R425, R427) -/

theorem State.toParts_eq (mk : Nat → Nat → Msg) : s.toParts n mk = { s with net := s.net ++ (s.partSlots n).map fun p => mk p.1 p.2 } := by
  have sent (ps : List (Nat × Nat)) (t : State) : ps.foldl (fun s p => s.send (mk p.1 p.2)) t =
      { t with net := t.net ++ ps.map fun p => mk p.1 p.2 } := by
    induction ps generalizing t with
    | nil => simp
    | cons p ps ih => rw [List.foldl_cons, ih]; simp [State.send]
  exact sent ..

@[simp] theorem State.toParts_slots (mk : Nat → Nat → Msg) : (s.toParts n mk).slots = s.slots := by rw [State.toParts_eq]

@[simp] theorem State.toParts_cores (mk : Nat → Nat → Msg) : (s.toParts n mk).cores = s.cores := by rw [State.toParts_eq]

@[simp] theorem State.toParts_arbiter (mk : Nat → Nat → Msg) : (s.toParts n mk).arbiter = s.arbiter := by rw [State.toParts_eq]

theorem State.toParts_net (mk : Nat → Nat → Msg) : (s.toParts n mk).net = s.net ++ (s.partSlots n).map fun p => mk p.1 p.2 := by
  rw [State.toParts_eq]

/-- A slot as the begin of a stop leaves it. -/
def Slot.stopping (x : Slot) (d : Drain) : Slot := { x with state := .stopping, drain := some d }

section BeginStop

variable (s) (n) (d : Drain)

theorem State.beginStop_eq : s.beginStop n d = (s.modSlot n (Slot.stopping · d)).toParts n fun m k => .freeze k m d.hard := rfl

theorem State.beginStop_slot : (s.beginStop n d).slot n = (s.slot n).stopping d := by
  rw [← State.slot_modSlot s n (Slot.stopping · d), State.beginStop_eq]
  simp only [State.slot, State.toParts_slots]

theorem State.beginStop_slot_of_ne {k : Nat} (hk : k ≠ n) : (s.beginStop n d).slot k = s.slot k := by
  rw [← State.slot_modSlot_of_ne s (Slot.stopping · d) hk.symm, State.beginStop_eq]
  simp only [State.slot, State.toParts_slots]

@[simp] theorem State.beginStop_cores : (s.beginStop n d).cores = s.cores := by
  rw [State.beginStop_eq, State.toParts_cores, State.modSlot_cores]

@[simp] theorem State.beginStop_arbiter : (s.beginStop n d).arbiter = s.arbiter := by
  rw [State.beginStop_eq, State.toParts_arbiter, State.modSlot_arbiter]

theorem State.beginStop_net : (s.beginStop n d).net = s.net ++ (s.partSlots n).map fun p => .freeze p.2 p.1 d.hard := by
  have parts : (s.modSlot n (Slot.stopping · d)).partSlots n = s.partSlots n := by simp [State.partSlots, Slot.stopping]
  rw [State.beginStop_eq, State.toParts_net, parts, State.modSlot_net]

end BeginStop

/-- The drain of the slot as a HARD stop finds it, none where no stop is under way. -/
def State.oldDrain (s : State) (n : Nat) : Drain := (s.slot n).drain.getD (newDrain true 0 [] none)

theorem State.takeOver_eq (ids : List Nat) (dis : Option Nat) : s.takeOver n ids dis =
    (s.finishAll (s.oldDrain n).orders Ending.aborted).beginStop n
      { newDrain true 0 ids (dis <|> (s.oldDrain n).disableOrder) with aborted := (s.oldDrain n).aborted } := rfl

theorem State.joinStop_slot {d : Drain} (hd : (s.slot n).drain = some d) :
    (s.joinStop n id).slot n = { s.slot n with drain := some { d with orders := d.orders ++ [id] } } := by
  rw [State.joinStop, State.slot_modSlot, hd]
  rfl

/-! ### The cores of a slot (R229, R241) -/

theorem Tbl.at_map_if {α : Type} (t : Tbl α) (p : α → Prop) [DecidablePred p] (f : α → α) (i : Nat) :
    Tbl.at (t.map fun e => if p e.2 then (e.1, f e.2) else e) i = (t.at i).map fun x => if p x then f x else x := by
  rw [← Tbl.at_map]
  refine congrArg (Tbl.at · i) (List.map_congr_left fun e _ => ?_)
  split_ifs <;> rfl

theorem State.modSlotCores_core (f : Core → Core) (c : Nat) :
    (s.modSlotCores n f).core c = if (s.core c).slot = some n then f (s.core c) else s.core c := by
  have found := Tbl.at_map_if s.cores (fun x => x.slot = some n) f c
  have idle : Core.idle (coreKindAtReset c) =
      if (Core.idle (coreKindAtReset c)).slot = some n then f (Core.idle (coreKindAtReset c)) else Core.idle (coreKindAtReset c) := rfl
  calc (s.modSlotCores n f).core c
      = ((s.cores.at c).map fun x => if x.slot = some n then f x else x).getD (Core.idle (coreKindAtReset c)) :=
        congrArg (Option.getD · _) found
    _ = _ := by rw [idle, Option.getD_map]; rfl

theorem State.modSlotCores_core_held {f : Core → Core} {c : Nat} (h : (s.core c).slot = some n) :
    (s.modSlotCores n f).core c = f (s.core c) := by
  rw [State.modSlotCores_core, if_pos h]

theorem State.modSlotCores_core_other {f : Core → Core} {c : Nat} (h : (s.core c).slot ≠ some n) :
    (s.modSlotCores n f).core c = s.core c := by
  rw [State.modSlotCores_core, if_neg h]

theorem State.slotCores_modSlotCores {f : Core → Core} (hf : ∀ c, (f c).slot = c.slot) : (s.modSlotCores n f).slotCores n = s.slotCores n := by
  have cores : ∀ l : Tbl Core, ((l.map fun p => if p.2.slot = some n then (p.1, f p.2) else p).filter fun p => p.2.slot = some n).map (·.1) =
      (l.filter fun p => p.2.slot = some n).map (·.1) := by
    intro l
    induction l with
    | nil => rfl
    | cons p l ih => by_cases hp : p.2.slot = some n <;> simp [hp, hf, ih]
  exact cores s.cores

theorem State.freezeSlot_core {c : Nat} (h : (s.core c).slot = some n) :
    (s.freezeSlot n).core c = (s.core c).modLaunch fun l => { l with frozen := true } :=
  State.modSlotCores_core_held h

theorem State.disarmSlot_core {c : Nat} (h : (s.core c).slot = some n) :
    (s.disarmSlot n).core c = (s.core c).modLaunch fun l => { l with armed := false } :=
  State.modSlotCores_core_held h

theorem State.thawSlot_core {c : Nat} (h : (s.core c).slot = some n) :
    (s.thawSlot n).core c = (s.core c).modLaunch fun l => { l with frozen := false } :=
  State.modSlotCores_core_held h

theorem State.disableNow_core {c : Nat} (h : (s.core c).slot = some n) :
    (s.disableNow n).core c = (s.core c).modLaunch fun l => { l with frozen := true, armed := false } := by
  have frozen := State.freezeSlot_core h
  have held : ((s.freezeSlot n).core c).slot = some n := by rw [frozen]; exact h
  have disarmed := State.disarmSlot_core held
  rw [frozen] at disarmed
  exact disarmed

theorem State.disableNow_slot : (s.disableNow n).slot n =
    { s.slot n with state := .disabled, disabledFaulted := (s.slot n).state = .faulted } :=
  State.slot_modSlot ..

/-! ### A restart with nothing to prepare: RUNS as before, no stop under way (R229, R240, R424, R452) -/

/-- Whether a drain that a start goes on with has frozen the slot's cores (R241). -/
def frozenBy (drain : Option Drain) : Bool := match drain with | some d => !d.limitSet | none => false

/-- A slot as a start leaves it, with the drain that it goes on with. -/
def Slot.startWith (x : Slot) (drain : Option Drain) : Slot :=
  let y := x.effective
  { y with
    state := if drain.isSome then .stopping else .running, drain := drain, started := true, staged := noStaged
    segment := some y.nextSegment.1, curveDigest := y.nextSegment.2, configTag := y.tagOf
    epochLimit := if drain.isSome && !frozenBy drain then min y.epochLimit y.naturalLimit else y.naturalLimit, waitingStart := none
    rungs := if (!y.started && x.segment.isNone) || x.staged.ladderSet then List.range y.replicas else y.rungs
    settings := { first := y.resume, runs := y.runs, interval := y.interval, tag := y.tagOf } :: y.settings }

/-- The start of a slot, with the drain that it goes on with and whether RUNS changed. -/
def State.startWith (s : State) (n : Nat) (drain : Option Drain) (changed : Bool) : State :=
  let x := (s.slot n).startWith drain
  let s := s.setSlot n x
  let s := if x.startPoint || changed then s.seedStreams n else s
  let s := s.modSlotCores n (x.armCore (frozenBy drain))
  let s := if x.startPoint then
      (((s.resetEpochObjects n x.resume).modSlot n fun x => { x with startPoint := false }).checkpointNow n x.resume false).prologue n x.resume
    else s
  ((s.unpark n).tryLaunchSlot n).limitStop n

theorem State.startSlot_eq : s.startSlot n = s.startWith n (s.slot n).effective.pendingDrain
    (decide (((s.slot n).effective.inForce ((s.slot n).effective.resume - 1)).runs ≠ (s.slot n).effective.runs)) := rfl

/-- A slot as a restart with no stop under way leaves it: RUNNING, with the staged items in force. -/
def Slot.restarted (x : Slot) : Slot := x.startWith none

theorem Slot.effective_inForce {x : Slot} (h : (x.inForce (x.resume - 1)).runs = x.effective.runs) :
    (x.effective.inForce (x.effective.resume - 1)).runs = x.effective.runs := by
  have same : (x.settings.find? fun r => r.first ≤ x.resume - 1) = x.effective.settings.find? fun r => r.first ≤ x.effective.resume - 1 := rfl
  rw [Slot.inForce, ← same]
  rw [Slot.inForce] at h
  cases found : x.settings.find? fun r => r.first ≤ x.resume - 1 with
  | none => rfl
  | some r => simpa [found] using h

theorem Slot.effective_pendingDrain {x : Slot} (h : x.drain = none) : x.effective.pendingDrain = none := by
  have none : x.effective.drain = none := h
  rw [Slot.pendingDrain, none]

/-- A core none of whose messages wait. -/
def Core.unparked (co : Core) : Core := { co with parked := [] }

theorem State.unpark_of_none (h : ∀ c ∈ s.slotCores n, (s.core c).parked = []) : s.unpark n = s.modSlotCores n Core.unparked := by
  have none : (s.slotCores n).flatMap (fun c => (s.core c).parked) = [] := List.flatMap_eq_nil_iff.mpr h
  rw [State.unpark, none]
  rfl

theorem Core.applyHeld_keeps (co : Core) (x : Slot) (t : Nat × Nat) :
    ((co.applyHeld x t).slot, (co.applyHeld x t).parked) = (co.slot, co.parked) := by
  refine foldl_keeps (fun c : Core => (c.slot, c.parked)) (fun c m => ?_) _ _
  split <;> rfl

section ArmCore

variable (x : Slot) (frozen : Bool) (co : Core)

theorem Slot.resumeCore_keeps : ((x.resumeCore frozen co).slot, (x.resumeCore frozen co).parked) = (co.slot, co.parked) := by
  rw [Slot.resumeCore]
  split_ifs
  · rfl
  · exact foldl_keeps (fun c : Core => (c.slot, c.parked)) (fun c t => c.applyHeld_keeps x t) _ _

theorem Slot.resumeCore_launch :
    (x.resumeCore frozen co).launch.armed = true ∧ (x.resumeCore frozen co).launch.frozen = frozen := by
  rw [Slot.resumeCore]
  split_ifs <;> exact ⟨rfl, rfl⟩

/-- The members of a core with the epoch before the resume epoch closed. -/
def Slot.closeMembers : Core :=
  { co with members := co.members.map fun m => if x.runs ≤ m.replica then m else
      { m with closed := if x.resume = 0 then none else some (x.resume - 1), energySent := if x.resume = 0 then none else some (x.resume - 1) } }

variable {x}

theorem Slot.armCore_resumes (h : x.startPoint = false) : x.armCore frozen co = x.resumeCore frozen (x.closeMembers co) := by
  rw [Slot.armCore, h]
  rfl

theorem Slot.armCore_slot (h : x.startPoint = false) : (x.armCore frozen co).slot = co.slot := by
  rw [Slot.armCore_resumes frozen co h]
  exact congrArg (·.1) (x.resumeCore_keeps frozen (x.closeMembers co))

theorem Slot.armCore_parked (h : x.startPoint = false) : (x.armCore frozen co).parked = co.parked := by
  rw [Slot.armCore_resumes frozen co h]
  exact congrArg (·.2) (x.resumeCore_keeps frozen (x.closeMembers co))

theorem Slot.armCore_launch (h : x.startPoint = false) :
    (x.armCore frozen co).launch.armed = true ∧ (x.armCore frozen co).launch.frozen = frozen := by
  rw [Slot.armCore_resumes frozen co h]
  exact x.resumeCore_launch frozen _

end ArmCore

/-- The slot restarted and its cores armed, before any of them launches. -/
def State.armedSlot (s : State) (n : Nat) : State :=
  (s.setSlot n (s.slot n).restarted).modSlotCores n ((s.slot n).restarted.armCore false)

def State.restartSlot (s : State) (n : Nat) : State := (s.armedSlot n).modSlotCores n Core.unparked

theorem State.armedSlot_core_held {c : Nat} (h : (s.core c).slot = some n) :
    (s.armedSlot n).core c = (s.slot n).restarted.armCore false (s.core c) :=
  State.modSlotCores_core_held (s := s.setSlot n _) h

theorem State.armedSlot_core_other {c : Nat} (h : (s.core c).slot ≠ some n) : (s.armedSlot n).core c = s.core c :=
  State.modSlotCores_core_other (s := s.setSlot n _) h

theorem State.restartSlot_core_other {c : Nat} (h : (s.core c).slot ≠ some n) : (s.restartSlot n).core c = s.core c := by
  have other : ((s.armedSlot n).core c).slot ≠ some n := by rw [State.armedSlot_core_other h]; exact h
  rw [State.restartSlot, State.modSlotCores_core_other other, State.armedSlot_core_other h]

section Restart

variable (hp : (s.slot n).startPoint = false)
include hp

theorem State.armedSlot_slotCores : (s.armedSlot n).slotCores n = s.slotCores n :=
  State.slotCores_modSlotCores (s := s.setSlot n _) fun c => Slot.armCore_slot false c hp

theorem State.armedSlot_parked (c : Nat) : ((s.armedSlot n).core c).parked = (s.core c).parked := by
  by_cases h : (s.core c).slot = some n
  · rw [State.armedSlot_core_held h, Slot.armCore_parked (x := (s.slot n).restarted) false _ hp]
  · rw [State.armedSlot_core_other h]

theorem State.restartSlot_core_held {c : Nat} (h : (s.core c).slot = some n) :
    (s.restartSlot n).core c = ((s.slot n).restarted.armCore false (s.core c)).unparked := by
  have held : ((s.armedSlot n).core c).slot = some n := by rw [State.armedSlot_core_held h, Slot.armCore_slot (x := (s.slot n).restarted) false _ hp, h]
  rw [State.restartSlot, State.modSlotCores_core_held held, State.armedSlot_core_held h]

theorem State.startSlot_restart (hd : (s.slot n).drain = none)
    (hr : ((s.slot n).inForce ((s.slot n).resume - 1)).runs = (s.slot n).effective.runs)
    (hc : ∀ c ∈ s.slotCores n, (s.core c).parked = []) : s.startSlot n = ((s.restartSlot n).tryLaunchSlot n).limitStop n := by
  have unparked : (s.armedSlot n).unpark n = s.restartSlot n := State.unpark_of_none fun c h => by
    rw [State.armedSlot_slotCores hp] at h
    rw [State.armedSlot_parked hp, hc c h]
  have same : decide (((s.slot n).effective.inForce ((s.slot n).effective.resume - 1)).runs ≠ (s.slot n).effective.runs) = false :=
    decide_eq_false (not_not.mpr (Slot.effective_inForce hr))
  have start : ((s.slot n).startWith none).startPoint = false := hp
  rw [← unparked, State.startSlot_eq, Slot.effective_pendingDrain hd, same]
  simp only [State.startWith, start, Bool.or_false, Bool.false_eq_true, if_false]
  rfl

end Restart

/-! ### Earlier orders of a slot are aborted (R427, R455) -/

/-- What the withdrawal of an order leaves as it is: the open orders, the cores, the network and the states of the slots. -/
def State.bystanders (s : State) : List Order × Tbl Core × List Msg × (Nat → SlotState) :=
  (s.arbiter.orders, s.cores, s.net, fun k => (s.slot k).state)

theorem State.modSlot_bystanders {f : Slot → Slot} (hf : ∀ x, (f x).state = x.state) : (s.modSlot n f).bystanders = s.bystanders := by
  have states : (fun k => ((s.modSlot n f).slot k).state) = fun k => (s.slot k).state := by
    funext k
    by_cases hk : k = n
    · rw [hk, State.slot_modSlot, hf]
    · rw [State.slot_modSlot_of_ne s f (Ne.symm hk)]
  simp only [State.bystanders, State.modSlot_arbiter, State.modSlot_cores, State.modSlot_net, states]

theorem State.withdraw_bystanders (o : Order) : (s.withdraw o).bystanders = s.bystanders := by
  rw [State.withdraw]
  split
  · rfl
  · exact State.modSlot_bystanders fun _ => rfl
  · exact State.modSlot_bystanders fun _ => rfl
  · exact State.modSlot_bystanders fun _ => rfl
  · exact State.modSlot_bystanders fun _ => rfl
  · rfl
  · rfl
  · rfl
  · rfl

/-- An order of slot n no longer part of its drain, or withdrawn (R455). -/
def State.releaseOrder (s : State) (n : Nat) (x : Order) : State :=
  if x.opcode = 0x1A || x.opcode = 0x1D then
    s.modSlot n fun y => { y with drain := y.drain.map fun d =>
      { d with orders := d.orders.filter fun i => i ≠ x.id, disableOrder := if d.disableOrder = some x.id then none else d.disableOrder } }
  else s.withdraw x

def State.abortOrder (s : State) (n : Nat) (x : Order) : State := ((s.releaseOrder n x).dropRemote x.id).finish x Ending.aborted

/-- The earlier orders of a slot, and those that wait at its objects. -/
def State.earlierOrders (s : State) (n seq : Nat) : List Order :=
  s.arbiter.orders.filter fun x => x.seq < seq && (x.slot? = some n || (s.objectWaits n).contains x.id)

theorem State.abortOrders_eq (seq : Nat) : s.abortOrders n seq = (s.earlierOrders n seq).foldl (fun s x => s.abortOrder n x) s := rfl

theorem State.mem_earlierOrders {seq : Nat} {q : Order} :
    q ∈ s.earlierOrders n seq ↔ q ∈ s.arbiter.orders ∧ q.seq < seq ∧ (q.slot? = some n ∨ q.id ∈ s.objectWaits n) := by
  simp [State.earlierOrders]

theorem State.releaseOrder_bystanders (x : Order) : (s.releaseOrder n x).bystanders = s.bystanders := by
  rw [State.releaseOrder]
  split_ifs
  · exact State.modSlot_bystanders fun _ => rfl
  · exact State.withdraw_bystanders x

theorem State.abortOrder_bystanders (x : Order) : (s.abortOrder n x).bystanders =
    (s.arbiter.orders.filter fun q => q.id ≠ x.id, s.cores, s.net, fun k => (s.slot k).state) := by
  have released := s.releaseOrder_bystanders (n := n) x
  simp only [State.bystanders, Prod.mk.injEq] at released ⊢
  obtain ⟨orders, cores, net, states⟩ := released
  refine ⟨?_, (State.finish_cores ..).trans cores, (State.finish_net ..).trans net, ?_⟩
  · rw [← orders]
    exact State.finish_orders ..
  · rw [← states]
    exact congrArg (fun slots k => (Tbl.at slots k).getD Slot.empty |>.state) (State.finish_slots ..)

theorem State.foldl_abortOrder_bystanders (os : List Order) (s : State) : (os.foldl (fun s x => s.abortOrder n x) s).bystanders =
    (s.arbiter.orders.filter fun q => ∀ x ∈ os, q.id ≠ x.id, s.cores, s.net, fun k => (s.slot k).state) := by
  induction os generalizing s with
  | nil => simp [State.bystanders]
  | cons x os ih =>
    have aborted := s.abortOrder_bystanders (n := n) x
    simp only [State.bystanders, Prod.mk.injEq] at aborted
    obtain ⟨orders, cores, net, states⟩ := aborted
    rw [List.foldl_cons, ih, orders, cores, net, states, List.filter_filter]
    simp [Bool.and_comm]

theorem State.abortOrders_bystanders (seq : Nat) : (s.abortOrders n seq).bystanders =
    (s.arbiter.orders.filter fun q => ∀ x ∈ s.earlierOrders n seq, q.id ≠ x.id, s.cores, s.net, fun k => (s.slot k).state) :=
  s.foldl_abortOrder_bystanders ..

theorem State.mem_abortOrders {seq : Nat} {q : Order} :
    q ∈ (s.abortOrders n seq).arbiter.orders ↔ q ∈ s.arbiter.orders ∧ ∀ x ∈ s.earlierOrders n seq, q.id ≠ x.id := by
  have orders : (s.abortOrders n seq).arbiter.orders = _ := congrArg (·.1) (s.abortOrders_bystanders (n := n) seq)
  simp [orders]

theorem State.abortOrders_cores (seq : Nat) : (s.abortOrders n seq).cores = s.cores :=
  congrArg (·.2.1) (s.abortOrders_bystanders (n := n) seq)

theorem State.abortOrders_net (seq : Nat) : (s.abortOrders n seq).net = s.net :=
  congrArg (·.2.2.1) (s.abortOrders_bystanders (n := n) seq)

theorem State.abortOrders_state (seq k : Nat) : ((s.abortOrders n seq).slot k).state = (s.slot k).state :=
  congrFun (congrArg (·.2.2.2) (s.abortOrders_bystanders (n := n) seq)) k

/-! ### The obligation -/

/-- Settles O39: the commands by what they do in each state, a restart by `State.startSlot_restart`, the aborts by induction on
the aborted orders (`State.foldl_abortOrder_bystanders`). -/
theorem slotRunOrders : Obligations.SlotRunOrders := by
  unfold Obligations.SlotRunOrders
  refine ⟨fun s id o => ⟨fun h hl => ⟨execSlotStart_badState h hl, fun hs why => ?_, fun hs why waits => ?_, fun hs why waits => ?_⟩,
    fun h hl => ⟨execSlotEnable_badState h hl, execSlotEnable_faulted h hl, execSlotEnable_disabled h hl⟩⟩,
    fun s id o => ⟨fun h hl => ?_, fun h hl => ?_⟩, fun s n d => ?_, fun s n hp hd hr hc => ?_, fun s n ids dis => ?_, fun s n seq q => ?_⟩
  · exact (execSlotStart_allowed h hl hs).trans (congrArg _ (if_pos why))
  · exact (execSlotStart_allowed h hl hs).trans (congrArg _ ((if_neg (not_not.mpr why)).trans (if_pos waits)))
  · exact (execSlotStart_allowed h hl hs).trans (congrArg _ ((if_neg (not_not.mpr why)).trans (if_neg (Bool.eq_false_iff.mp waits))))
  · have stop {t : State} (ht : (s.begin o).stopSlot o.begun = t) : execSlotStop id s = .next t :=
      (execSlotStop_lawful h hl).trans (congrArg _ ht)
    exact ⟨fun hx => stop (State.stopSlot_running (s := s.begin o) (o := o.begun) hx),
      fun hx hh hd => stop (State.stopSlot_hard (s := s.begin o) (o := o.begun) hx hh hd),
      fun hx hd => stop (State.stopSlot_joins (s := s.begin o) (o := o.begun) hx hd),
      fun hx => stop (State.stopSlot_stopped (s := s.begin o) (o := o.begun) hx),
      fun hx => stop (State.stopSlot_badState (s := s.begin o) (o := o.begun) hx)⟩
  · have disable {t : State} (ht : (s.begin o).disableSlot o.begun = t) : execSlotDisable id s = .next t :=
      (execSlotDisable_lawful h hl).trans (congrArg _ ht)
    exact ⟨fun hx => disable (State.disableSlot_empty (s := s.begin o) (o := o.begun) hx),
      fun hx => disable (State.disableSlot_disabled (s := s.begin o) (o := o.begun) hx),
      fun hx => disable (State.disableSlot_running (s := s.begin o) (o := o.begun) hx),
      fun hx hh hd => disable (State.disableSlot_hard (s := s.begin o) (o := o.begun) hx hh hd),
      fun hx hd => disable (State.disableSlot_joins (s := s.begin o) (o := o.begun) hx hd),
      fun hx => disable (State.disableSlot_still (s := s.begin o) (o := o.begun) hx)⟩
  · have stopped := s.beginStop_slot n d
    exact ⟨congrArg Slot.state stopped, congrArg Slot.drain stopped, fun k => s.beginStop_slot_of_ne n d, s.beginStop_cores n d,
      s.beginStop_net n d⟩
  · have slot : (s.restartSlot n).slot n = (s.slot n).restarted := s.slot_setSlot n _
    refine ⟨s.restartSlot n, State.startSlot_restart hp hd hr hc, ?_⟩
    rw [slot]
    refine ⟨rfl, rfl, rfl, rfl, rfl, rfl, rfl, rfl, rfl, rfl, rfl, rfl, rfl, rfl, rfl, rfl, rfl, rfl, rfl,
      fun k hk => s.slot_setSlot_of_ne _ hk.symm, rfl, rfl, rfl, fun c h => ?_, fun c => State.restartSlot_core_other⟩
    obtain ⟨armed, frozen⟩ := Slot.armCore_launch (x := (s.slot n).restarted) false (s.core c) hp
    have kept := Slot.armCore_slot (x := (s.slot n).restarted) false (s.core c) hp
    rw [State.restartSlot_core_held hp h]
    exact ⟨armed, frozen, kept.trans h⟩
  · have taken := (congrArg (State.slot · n) (s.takeOver_eq (n := n) ids dis)).trans (State.beginStop_slot ..)
    refine ⟨congrArg Slot.state taken, ⟨_, congrArg Slot.drain taken, rfl, rfl, rfl, rfl⟩, fun d hd q hq => ?_, ?_, fun id d hd => ?_,
      congrArg Slot.state State.disableNow_slot, ?_, fun c h => ?_, fun c h => ?_, rfl⟩
    · have old : s.oldDrain n = d := by rw [State.oldDrain, hd]; rfl
      rw [State.takeOver_eq, State.beginStop_arbiter, State.mem_finishAll_orders, old] at hq
      exact hq
    · rw [State.takeOver_eq, State.beginStop_cores, State.finishAll_cores]
    · have joined := State.joinStop_slot (id := id) hd
      exact ⟨(congrArg Slot.drain joined :), (congrArg Slot.state joined :), rfl, rfl, rfl⟩
    · rw [State.disableNow_slot]
      exact decide_eq_true_iff
    · rw [State.disableNow_core h]
      exact ⟨rfl, rfl, rfl⟩
    · rw [State.thawSlot_core h]
      rfl
  · refine ⟨fun hq hit z hz => ?_, fun hq clear => State.mem_abortOrders.mpr ⟨hq, fun x hx same => ?_⟩, s.abortOrders_state seq n,
      s.abortOrders_cores seq, s.abortOrders_net seq⟩
    · exact (State.mem_abortOrders.mp hz).2 q (State.mem_earlierOrders.mpr ⟨hq, hit⟩)
    · obtain ⟨opened, hit⟩ := State.mem_earlierOrders.mp hx
      exact clear x opened hit same.symm

end Sys2Proof.Machine
end

section
/-! What every command keeps: the queue without the command taken, and the canonical form of the three memories; the relation and its
rules (log entries 1, 5 and 14). -/

namespace Sys2Proof.Machine

/-- What a step may not change and what it keeps in canonical form: the queue and the three memories; with them the count of the mailbox's
captures. -/
def State.memories (s : State) : List Instr × Mem × Mem × Mem × Nat := (s.pending, s.mem, s.host.mem, s.mgmt.dest, s.regs.mbxGen)

/-- A state on the way of a command that began in state b: no command came to the queue or left it, memories that were canonical are, and,
where `steady` asks for it, no capture of the mailbox ended. -/
structure Keeps (steady : Prop) (b s : State) : Prop where
  pending : s.pending = b.pending
  memory : b.memorySafe = true → s.memorySafe = true
  captures : steady → s.regs.mbxGen = b.regs.mbxGen

/-- A command that has a next state, and keeps what a command must. -/
def KeepsOn (steady : Prop) (b : State) (o : Out) : Prop := ∃ t, o = .next t ∧ Keeps steady b t

/-- The states an instruction's own work ends in. -/
def KeepsDone (steady : Prop) (b : State) : Done → Prop
  | .retire s _ _ | .fault s _ | .hold s | .ended s => Keeps steady b s
  | .again => True

variable {steady : Prop} {b s t : State}

theorem Keeps.refl (s : State) : Keeps steady s s := ⟨rfl, id, fun _ => rfl⟩

/-- A change of anything but the queue, the memories and the count of captures. -/
theorem Keeps.same (h : Keeps steady b s) (e : t.memories = s.memories) : Keeps steady b t := by
  simp only [State.memories, Prod.mk.injEq] at e
  obtain ⟨hp, hm, hh, hd, hg⟩ := e
  refine ⟨hp.trans h.pending, fun hb => ?_, fun asked => hg.trans (h.captures asked)⟩
  have safe := h.memory hb
  simp only [State.memorySafe, hm, hh, hd] at safe ⊢
  exact safe

/-- A change of registers, with the count of captures. -/
theorem Keeps.setRegs {r : Regs} (h : Keeps steady b s) (hg : steady → r.mbxGen = s.regs.mbxGen) : Keeps steady b { s with regs := r } :=
  ⟨h.pending, h.memory, fun asked => (hg asked).trans (h.captures asked)⟩

theorem Keeps.ite {c : Prop} [Decidable c] (hs : Keeps steady b s) (ht : Keeps steady b t) : Keeps steady b (if c then s else t) := by
  split
  · exact hs
  · exact ht

theorem Keeps.foldl {α : Type} {f : State → α → State} {l : List α} (h : Keeps steady b s)
    (step : ∀ {t : State} {a : α}, Keeps steady b t → Keeps steady b (f t a)) : Keeps steady b (l.foldl f s) :=
  List.foldlRecOn l f h fun _ ht _ _ => step ht

theorem Keeps.foldl_fst {α β : Type} {f : State × β → α → State × β} {l : List α} {p : State × β} (h : Keeps steady b p.1)
    (step : ∀ {q : State × β} {a : α}, Keeps steady b q.1 → Keeps steady b (f q a).1) : Keeps steady b (l.foldl f p).1 :=
  List.foldlRecOn (motive := fun q => Keeps steady b q.1) l f h fun _ hq _ _ => step hq

/-! ### Outcomes -/

theorem Keeps.on (h : Keeps steady b s) : KeepsOn steady b (.next s) := ⟨s, rfl, h⟩

theorem KeepsOn.next (h : Keeps steady b s) : KeepsOn steady b (.next s) := h.on

theorem KeepsOn.ite {c : Prop} [Decidable c] {o p : Out} (ho : KeepsOn steady b o) (hp : KeepsOn steady b p) :
    KeepsOn steady b (if c then o else p) := by
  split
  · exact ho
  · exact hp

theorem KeepsOn.unit {ok : Bool} {o : Out} (h : Keeps steady b s) (ho : KeepsOn steady b o) : KeepsOn steady b (unit ok s o) := .ite ho h.on

theorem KeepsDone.ite {c : Prop} [Decidable c] {o p : Done} (ho : KeepsDone steady b o) (hp : KeepsDone steady b p) :
    KeepsDone steady b (if c then o else p) := by
  split
  · exact ho
  · exact hp

/-- The state that an operation with an answer leaves. -/
theorem Keeps.of_fst {α : Type} {p : State × α} {a : α} (e : p = (t, a)) (h : Keeps steady b p.1) : Keeps steady b t := by
  rw [e] at h
  exact h
/-! ### The memories -/

/-- A change that keeps the canonical form of each memory. -/
theorem Keeps.update (h : Keeps steady b s) (hp : t.pending = s.pending)
    (hm : Mem.wf memBackground s.mem = true → Mem.wf memBackground t.mem = true)
    (hh : Mem.wf noBackground s.host.mem = true → Mem.wf noBackground t.host.mem = true)
    (hd : Mem.wf noBackground s.mgmt.dest = true → Mem.wf noBackground t.mgmt.dest = true)
    (hg : steady → t.regs.mbxGen = s.regs.mbxGen) : Keeps steady b t := by
  refine ⟨hp.trans h.pending, fun hb => ?_, fun asked => (hg asked).trans (h.captures asked)⟩
  have safe := h.memory hb
  simp only [State.memorySafe, Bool.and_eq_true] at safe ⊢
  obtain ⟨⟨sm, sh⟩, sd⟩ := safe
  exact ⟨⟨hm sm, hh sh⟩, hd sd⟩

theorem Keeps.poke {a : Nat} {bs : List Byte} (h : Keeps steady b s) : Keeps steady b (s.poke a bs) :=
  h.update rfl (Mem.wf_write _ _ _ _) id id fun _ => rfl

theorem Keeps.hostWrite {a : Nat} {bs : List Byte} (h : Keeps steady b s) : Keeps steady b (s.hostWrite a bs) :=
  h.update rfl id (Mem.wf_write _ _ _ _) id fun _ => rfl

theorem Keeps.mgmtWrite {a : Nat} {bs : List Byte} (h : Keeps steady b s) : Keeps steady b (s.mgmtWrite a bs) :=
  h.update rfl id id (Mem.wf_write _ _ _ _) fun _ => rfl

theorem Keeps.putWhole {a : Nat} {bs : List Byte} (h : Keeps steady b s) : Keeps steady b (s.putWhole a bs) := .poke (h.same rfl)

/-! ### Updates of one field or one unit -/

theorem Keeps.setSupply {p : Supply} (h : Keeps steady b s) : Keeps steady b { s with supply := p } := h.same rfl

theorem Keeps.setRot {r : RootOfTrust} (h : Keeps steady b s) : Keeps steady b { s with rot := r } := h.same rfl

theorem Keeps.setPlatform {p : Platform} (h : Keeps steady b s) : Keeps steady b { s with platform := p } := h.same rfl
theorem Keeps.setCore {c : Nat} {x : Core} (h : Keeps steady b s) : Keeps steady b (s.setCore c x) := h.same rfl
theorem Keeps.modCore {c : Nat} {f : Core → Core} (h : Keeps steady b s) : Keeps steady b (s.modCore c f) := h.same rfl
theorem Keeps.modCluster {k : Nat} {f : Cluster → Cluster} (h : Keeps steady b s) : Keeps steady b (s.modCluster k f) := h.same rfl
theorem Keeps.setSlot {n : Nat} {x : Slot} (h : Keeps steady b s) : Keeps steady b (s.setSlot n x) := h.same rfl
theorem Keeps.modSlot {n : Nat} {f : Slot → Slot} (h : Keeps steady b s) : Keeps steady b (s.modSlot n f) := h.same rfl
theorem Keeps.setPort {n : Nat} {x : Port} (h : Keeps steady b s) : Keeps steady b (s.setPort n x) := h.same rfl
theorem Keeps.modPort {n : Nat} {f : Port → Port} (h : Keeps steady b s) : Keeps steady b (s.modPort n f) := h.same rfl
theorem Keeps.setStation {n : Nat} {x : MemStation} (h : Keeps steady b s) : Keeps steady b (s.setStation n x) := h.same rfl
theorem Keeps.modStation {n : Nat} {f : MemStation → MemStation} (h : Keeps steady b s) : Keeps steady b (s.modStation n f) := h.same rfl
theorem Keeps.send {m : Msg} (h : Keeps steady b s) : Keeps steady b (s.send m) := h.same rfl
theorem Keeps.arrive {m : Msg} (h : Keeps steady b s) : Keeps steady b (s.arrive m) := h.same rfl
theorem Keeps.note {c : NotedChange} (h : Keeps steady b s) : Keeps steady b (s.note c) := h.same rfl

end Sys2Proof.Machine
end

section
/-! What every command keeps: units, logs, counters, completions, slot faults, and reads and writes of the memory (O3). -/

namespace Sys2Proof.Machine

variable {steady : Prop} {b s : State}

theorem Keeps.nextFree (h : Keeps steady b s) : Keeps steady b (s.nextFree).2 := h.same rfl
theorem Keeps.sendMsix {v : Nat} (h : Keeps steady b s) : Keeps steady b (s.sendMsix v) := .ite (.ite h (h.same rfl)) (h.same rfl)
theorem Keeps.raise {n : Nat} (h : Keeps steady b s) : Keeps steady b (s.raise n) := .ite h (.ite (.sendMsix (h.same rfl)) (h.same rfl))

theorem Keeps.mgEvent {n : Nat} (h : Keeps steady b s) : Keeps steady b (s.mgEvent n) := by
  simp only [State.mgEvent]
  split
  · exact h
  · split <;> exact h.same rfl

theorem Keeps.mgLog {kind : Nat} {persistent : Bool} {data : List Byte} (h : Keeps steady b s) :
    Keeps steady b (s.mgLog kind persistent data) :=
  h.same (by simp only [State.memories, State.mgLog])

theorem Keeps.mgRaise {n : Nat} (h : Keeps steady b s) : Keeps steady b (s.mgRaise n) := .ite h h.mgEvent.mgLog

theorem Keeps.logError {e : ErrEntry} (h : Keeps steady b s) : Keeps steady b (s.logError e) := by
  simp only [State.logError]
  refine .raise ?_
  split <;> split <;> exact h.putWhole.same rfl

theorem Keeps.contained {code unitKind u : Nat} (h : Keeps steady b s) : Keeps steady b (s.contained code unitKind u) := h.logError

theorem Keeps.correctedError {code unitKind u address : Nat} (h : Keeps steady b s) :
    Keeps steady b (s.correctedError code unitKind u address) :=
  .ite (.logError (h.same rfl)) (h.same rfl)

theorem Keeps.parityReport {domain inst : Nat} (h : Keeps steady b s) : Keeps steady b (s.parityReport domain inst) :=
  .raise (.logError (h.same rfl))

theorem Keeps.checkCounters {u : Nat} (h : Keeps steady b s) : Keeps steady b (s.checkCounters u) :=
  .ite (.parityReport (.ite (h.same rfl) (.ite (h.same rfl) (h.same rfl)))) h

theorem Keeps.checkTag (h : Keeps steady b s) : Keeps steady b s.checkTag := .ite (.parityReport (h.same rfl)) h

theorem Keeps.count {u code n : Nat} (h : Keeps steady b s) : Keeps steady b (s.count u code n) :=
  .ite (.ite (h.checkCounters.same rfl) (.ite (h.checkCounters.same rfl) (h.checkCounters.same rfl))) h.checkCounters

theorem Keeps.writeShadow {q : Nat} (h : Keeps steady b s) : Keeps steady b (s.writeShadow q) := .hostWrite (h.same rfl)

theorem Keeps.queueError {q err : Nat} (h : Keeps steady b s) : Keeps steady b (s.queueError q err) :=
  .ite (.sendMsix (.writeShadow (h.same rfl))) (.writeShadow (h.same rfl))

theorem Keeps.hostStatus {o : Order} {e : Ending} (h : Keeps steady b s) : Keeps steady b (s.hostStatus o e) :=
  .ite (.ite (.sendMsix (.writeShadow (h.hostWrite.same rfl))) (.writeShadow (h.hostWrite.same rfl))) h

theorem Keeps.mgmtStatus {o : Order} {e : Ending} (h : Keeps steady b s) : Keeps steady b (s.mgmtStatus o e) :=
  .ite (h.mgmtWrite.same rfl) h
theorem Keeps.recordCommand {o : Order} {e : Ending} (h : Keeps steady b s) : Keeps steady b (s.recordCommand o e) :=
  .ite (h.same rfl) (h.same rfl)

theorem Keeps.finish {o : Order} {e : Ending} {accept : Nat} (h : Keeps steady b s) : Keeps steady b (s.finish o e accept) :=
  .same (.ite (.mgmtStatus (.mgLog (.ite h h.putWhole))) (.recordCommand (.hostStatus (.ite h h.putWhole)))) rfl

theorem Keeps.finishId {id : Nat} {e : Ending} (h : Keeps steady b s) : Keeps steady b (s.finishId id e) := by
  simp only [State.finishId]
  split
  · exact h.finish
  · exact h

theorem Keeps.toParts {n : Nat} {mk : Nat → Nat → Msg} (h : Keeps steady b s) : Keeps steady b (s.toParts n mk) := h.foldl (·.same rfl)
theorem Keeps.modSlotCores {n : Nat} {f : Core → Core} (h : Keeps steady b s) : Keeps steady b (s.modSlotCores n f) := h.same rfl
theorem Keeps.freezeSlot {n : Nat} (h : Keeps steady b s) : Keeps steady b (s.freezeSlot n) := h.same rfl
theorem Keeps.disarmSlot {n : Nat} (h : Keeps steady b s) : Keeps steady b (s.disarmSlot n) := h.same rfl

theorem Keeps.slotFault {n status epoch : Nat} {notify : Bool} (h : Keeps steady b s) :
    Keeps steady b (s.slotFault n status epoch notify) := by
  simp only [State.slotFault]
  split
  · split
    · refine .foldl ?_ (·.same rfl)
      split
      · refine .finishId ?_
        split
        · exact .foldl (h.same rfl) (·.finishId)
        · exact h.same rfl
      · split
        · exact .foldl (h.same rfl) (·.finishId)
        · exact h.same rfl
    · split
      · refine .finishId ?_
        split
        · exact .foldl (h.same rfl) (·.finishId)
        · exact h.same rfl
      · split
        · exact .foldl (h.same rfl) (·.finishId)
        · exact h.same rfl
  · exact h

theorem Keeps.sendEnergies {c : Nat} (h : Keeps steady b s) : Keeps steady b (s.sendEnergies c) := by
  simp only [State.sendEnergies]
  split
  · exact .ite ((h.foldl (·.send)).setCore.modSlot.foldl (fun k => .ite k.send k)) h
  · exact h

theorem Keeps.tryLaunch {c : Nat} (h : Keeps steady b s) : Keeps steady b (s.tryLaunch c) := by
  simp only [State.tryLaunch]
  split
  · split
    · exact .count (h.sendEnergies.same rfl)
    · exact h.sendEnergies
  · exact h.sendEnergies

theorem Keeps.overcount {c n q val : Nat} {t : Nat × Nat} (h : Keeps steady b s) : Keeps steady b (s.overcount c n q val t) :=
  .slotFault (.logError (h.same rfl))

theorem Keeps.onInput {c n : Nat} {m : StateMsg} (h : Keeps steady b s) : Keeps steady b (s.onInput c n m) :=
  .ite (h.same rfl) (.ite (.ite h (h.same rfl)) (.ite h.overcount (.ite (.overcount (h.same rfl)) (.tryLaunch (h.same rfl)))))

theorem Keeps.tryLaunchSlot {n : Nat} (h : Keeps steady b s) : Keeps steady b (s.tryLaunchSlot n) := h.foldl (·.tryLaunch)
theorem Keeps.fatalSlot {n : Nat} (h : Keeps steady b s) : Keeps steady b (s.fatalSlot n) := .ite h.slotFault (.ite (h.same rfl) h)

theorem Keeps.fatalError {code unitKind u : Nat} (h : Keeps steady b s) : Keeps steady b (s.fatalError code unitKind u) := by
  have each : Keeps steady b ((List.range 48).foldl (fun s n => s.fatalSlot n)
      (s.logError { cls := .fatal, code := code, action := 4, unitKind := unitKind, unit := u })) := h.logError.foldl (·.fatalSlot)
  exact each.setPlatform

theorem Keeps.correct {a : Nat} {u : Upset} (h : Keeps steady b s) : Keeps steady b (s.correct a u) := by
  simp only [State.correct]
  split <;> exact .correctedError (h.same rfl)

theorem Keeps.correctAll {a : Nat} (h : Keeps steady b s) : Keeps steady b (s.correctAll a) := by
  simp only [State.correctAll]
  refine h.foldl (fun k => ?_)
  split
  · exact k.correct.poke
  · exact k.correct

theorem Keeps.uncorrectable {a flags : Nat} (h : Keeps steady b s) : Keeps steady b (s.uncorrectable a flags) := by
  simp only [State.uncorrectable]
  split
  · exact .ite (.fatalError (h.same rfl)) (.logError (h.same rfl))
  · split
    · exact h.logError
    · exact h.logError
    · exact h

theorem Keeps.readUnit {a flags : Nat} (h : Keeps steady b s) : Keeps steady b (s.readUnit a flags).1 := by
  simp only [State.readUnit]
  split
  · exact h.uncorrectable
  · split
    · exact h.correctAll
    · split
      · exact .uncorrectable (h.correctAll.same rfl)
      · exact h.correctAll.same rfl

theorem Keeps.tracked {a : Nat} (h : Keeps steady b s) : Keeps steady b (s.tracked a) := .ite (h.same rfl) h

theorem Keeps.readUnits {flags : Nat} : ∀ {n a : Nat} {s : State}, Keeps steady b s → Keeps steady b (s.readUnits flags a n).1
  | 0, _, _, h => h
  | n + 1, a, s, h => by
    simp only [State.readUnits]
    split
    next e => exact Keeps.readUnits (h.tracked.readUnit.of_fst e)
    · rename_i e
      split
      · rename_i e'
        exact (Keeps.readUnits (h.tracked.readUnit.of_fst e)).of_fst e'
      · rename_i e'
        exact (Keeps.readUnits (h.tracked.readUnit.of_fst e)).of_fst e'

theorem Keeps.readLocal {a len : Nat} (h : Keeps steady b s) : Keeps steady b (s.readLocal a len).1 := by
  simp only [State.readLocal]
  split
  next e => exact h.readUnits.of_fst e
  next e => exact h.readUnits.of_fst e

theorem Keeps.setBytes {a : Nat} {bs : List Byte} (h : Keeps steady b s) : Keeps steady b (s.setBytes a bs) := by
  simp only [State.setBytes]
  split
  · exact h.same rfl
  · exact .ite h.poke (h.same rfl)
  · exact h.poke

theorem Keeps.loaderWrote {c : Nat} (h : Keeps steady b s) : Keeps steady b (s.loaderWrote c) := h.same rfl
theorem Keeps.linkFixed {a : Nat} (h : Keeps steady b s) : Keeps steady b (s.linkFixed a) := .ite h.correct h

theorem Keeps.writeUnit {unitAddr off : Nat} {bs : List Byte} (h : Keeps steady b s) : Keeps steady b (s.writeUnit unitAddr off bs).1 := by
  simp only [State.writeUnit]
  split
  · exact .setBytes (h.linkFixed.same rfl)
  · split
    next e => exact (h.linkFixed.readUnit.of_fst e).setBytes
    next e => exact h.linkFixed.readUnit.of_fst e

theorem Keeps.writeUnits : ∀ {n a : Nat} {bs : List Byte} {s : State}, Keeps steady b s → Keeps steady b (s.writeUnits n a bs).1
  | 0, _, _, _, h => h
  | _ + 1, _, _, _, h => by
    simp only [State.writeUnits]
    split
    · exact h
    · exact Keeps.writeUnits h.tracked.writeUnit

theorem Keeps.writeLocal {a : Nat} {bs : List Byte} (h : Keeps steady b s) : Keeps steady b (s.writeLocal a bs).1 := h.writeUnits

end Sys2Proof.Machine
end

section
/-! What every command keeps: reductions, the close of an epoch, checkpoints, placing, sync objects and fencing. -/

namespace Sys2Proof.Machine

variable {steady : Prop} {b s : State}

theorem Keeps.leafCollision {k n q tree e group : Nat} (h : Keeps steady b s) : Keeps steady b (s.leafCollision k n q tree e group) :=
  h.logError.slotFault

theorem Keeps.tagFault {k n q e received : Nat} (h : Keeps steady b s) : Keeps steady b (s.tagFault k n q e received) :=
  h.logError.slotFault

theorem Keeps.partialArrive {m : PartialMsg} (h : Keeps steady b s) : Keeps steady b (s.partialArrive m) := by
  simp only [State.partialArrive]
  split
  · exact h
  · split
    · exact h.tagFault
    · split
      · exact h.same rfl
      · split
        · exact h.same rfl
        · split
          · exact h.same rfl
          · exact h.leafCollision

theorem Keeps.groupsClose {k n q val e : Nat} (h : Keeps steady b s) : Keeps steady b (s.groupsClose k n q val e) :=
  .foldl (h.same rfl) (·.same rfl)

theorem Keeps.clusterClose {k n q e : Nat} (h : Keeps steady b s) : Keeps steady b (s.clusterClose k n q e) :=
  .foldl (.foldl (h.same rfl) (·.same rfl)) (·.same rfl)

theorem Keeps.exchangeDecide {n t : Nat} (h : Keeps steady b s) : Keeps steady b (s.exchangeDecide n t) :=
  .ite (.foldl (h.same rfl) (fun k => k.foldl (fun k' => k'.foldl (·.same rfl)))) h

theorem Keeps.lockHalt {n cause : Nat} {at_ : Nat × Nat × Nat} {own partner : Nat} {tell : Bool} (h : Keeps steady b s) :
    Keeps steady b (s.lockHalt n cause at_ own partner tell) := by
  simp only [State.lockHalt]
  split
  · exact h
  · exact .slotFault (.logError (.note (.setSlot (.ite h.send h))))

theorem Keeps.lockCompare {n q e c : Nat} (h : Keeps steady b s) : Keeps steady b (s.lockCompare n q e c) := by
  simp only [State.lockCompare]
  split
  · exact h
  · split
    · exact .ite (.tryLaunchSlot (h.same rfl)) h.lockHalt
    · exact h

theorem Keeps.lockFp {n q e c v : Nat} (h : Keeps steady b s) : Keeps steady b (s.lockFp n q e c v) := by
  simp only [State.lockFp]
  split
  · exact h
  · split
    · exact h
    · split
      · exact .ite h h.lockHalt
      · exact .ite h (.lockCompare (h.same rfl))

theorem Keeps.fpComplete {n q e c : Nat} (h : Keeps steady b s) : Keeps steady b (s.fpComplete n q e c) := by
  simp only [State.fpComplete]
  split
  · exact h.same rfl
  · exact .ite (h.same rfl) (.lockFp (h.same rfl))

theorem Keeps.captureWrite {n : Nat} {m : Member} {k e : Nat} (h : Keeps steady b s) : Keeps steady b (s.captureWrite n m k e) := by
  simp only [State.captureWrite]
  split
  · exact h
  · split
    · exact h.writeLocal.modSlot
    · split
      next e => exact (h.readLocal.of_fst e).writeLocal.modSlot
      next e => exact (h.readLocal.of_fst e).slotFault

theorem Keeps.publish {n : Nat} (h : Keeps steady b s) : Keeps steady b (s.publish n) := by
  simp only [State.publish]
  split
  · split
    · exact h
    · refine h.foldl (fun k => ?_)
      split
      · exact k
      · exact k.writeLocal.modSlot
  · split
    · exact h
    · refine h.foldl (fun k => ?_)
      split
      · exact k
      · exact k.writeLocal.modSlot

theorem Keeps.commit {n r : Nat} (h : Keeps steady b s) : Keeps steady b (s.commit n r) := .ite (h.poke.same rfl) h

theorem Keeps.writeCheckpoint {n r : Nat} {body : List Byte} {alone : Bool} (h : Keeps steady b s) :
    Keeps steady b (s.writeCheckpoint n r body alone) :=
  .ite h.putWhole.putWhole.putWhole.modSlot.commit h.putWhole.putWhole.putWhole.modSlot.send

theorem Keeps.checkpointNow {n r : Nat} {alone : Bool} (h : Keeps steady b s) : Keeps steady b (s.checkpointNow n r alone) :=
  h.writeCheckpoint

theorem Keeps.checkpointWrite {n : Nat} (h : Keeps steady b s) : Keeps steady b (s.checkpointWrite n) := by
  simp only [State.checkpointWrite]
  split
  · exact h
  · exact .ite (.writeCheckpoint (h.same rfl)) h

theorem Keeps.prologue {n r : Nat} (h : Keeps steady b s) : Keeps steady b (s.prologue n r) := by
  simp only [State.prologue]
  split
  · exact h
  · refine h.foldl (fun k => ?_)
    split
    · exact k
    · refine k.foldl (fun k => ?_)
      split
      · exact k
      · exact k.same rfl

theorem Keeps.resetEpochObjects {n r : Nat} (h : Keeps steady b s) : Keeps steady b (s.resetEpochObjects n r) := h.same rfl
theorem Keeps.dropWork {n : Nat} (h : Keeps steady b s) : Keeps steady b (s.dropWork n) := h.same rfl

theorem Keeps.restartAt {n r : Nat} {rungs : List Nat} {exch : List (Nat × Nat)} {rec : Nat → Nat → List Byte × Nat} {armed frozen :
    Bool} (h : Keeps steady b s) :
    Keeps steady b (s.restartAt n r rungs exch rec armed frozen) := by
  simp only [State.restartAt]
  split
  · exact h.dropWork.modSlot
  · exact (h.dropWork.modSlot.foldl (fun k => k.modCore.loaderWrote)).modSlot

theorem Keeps.newestCheckpoint {n : Nat} (h : Keeps steady b s) : Keeps steady b (s.newestCheckpoint n).1 := by
  simp only [State.newestCheckpoint]
  split
  · exact h
  · exact h
  · split
    next e => exact (h.readLocal.of_fst e).readLocal
    · rename_i e₁
      have other := h.readLocal.of_fst e₁
      split
      next e₂ => exact other.readLocal.of_fst e₂
      · rename_i e₂
        have header := other.readLocal.of_fst e₂
        split
        next e₃ => exact header.readLocal.of_fst e₃
        next e₃ => exact header.readLocal.of_fst e₃

theorem Keeps.rollback {n : Nat} (h : Keeps steady b s) : Keeps steady b (s.rollback n) := by
  simp only [State.rollback]
  split
  next e => exact (h.newestCheckpoint.of_fst e).slotFault
  next e => exact .ite (.tryLaunchSlot (.prologue ((h.newestCheckpoint.of_fst e).restartAt.same rfl))) (h.newestCheckpoint.of_fst
      e).restartAt

theorem Keeps.endStop {n : Nat} (h : Keeps steady b s) : Keeps steady b (s.endStop n) := by
  simp only [State.endStop]
  split
  · exact h
  · split
    · exact .finishId (.foldl (.ite (.note (.ite h.disarmSlot.setSlot.freezeSlot h.disarmSlot.setSlot)) (.ite
          h.disarmSlot.setSlot.freezeSlot h.disarmSlot.setSlot)) (·.finishId))
    · exact .foldl (.ite (.note (.ite h.disarmSlot.setSlot.freezeSlot h.disarmSlot.setSlot)) (.ite h.disarmSlot.setSlot.freezeSlot
          h.disarmSlot.setSlot)) (·.finishId)

theorem Keeps.finishDrain {n : Nat} (h : Keeps steady b s) : Keeps steady b (s.finishDrain n) := by
  simp only [State.finishDrain]
  split
  · exact h
  · exact .ite (.endStop (.ite (h.foldl (fun k => k.foldl (·.same rfl))) h)) h

theorem Keeps.checkDrain {n : Nat} (h : Keeps steady b s) : Keeps steady b (s.checkDrain n) := by
  simp only [State.checkDrain]
  split
  · exact h
  · exact .ite h (.finishDrain (.ite h (.ite (h.same rfl) (h.same rfl))))

theorem Keeps.checkHard {n : Nat} (h : Keeps steady b s) : Keeps steady b (s.checkHard n) := by
  simp only [State.checkHard]
  split
  · exact h
  · exact .ite (.ite h.rollback.endStop h.rollback) h

theorem Keeps.limitStop {n : Nat} (h : Keeps steady b s) : Keeps steady b (s.limitStop n) := .ite (.toParts (h.same rfl)) h
theorem Keeps.settle {n : Nat} (h : Keeps steady b s) : Keeps steady b (s.settle n) :=
  h.publish.checkpointWrite.tryLaunchSlot.limitStop.checkDrain

theorem Keeps.updateCompleted {n : Nat} (h : Keeps steady b s) : Keeps steady b (s.updateCompleted n) := by
  simp only [State.updateCompleted]
  split
  · exact h
  · exact h.same rfl

theorem Keeps.epochClose {c i e : Nat} (h : Keeps steady b s) : Keeps steady b (s.epochClose c i e) := by
  simp only [State.epochClose]
  split
  · refine .updateCompleted ?_
    split
    · split
      · exact .ite h.setCore.modSlot.captureWrite.modSlot.groupsClose.clusterClose h.setCore.modSlot.captureWrite.modSlot.groupsClose
      · exact .ite h.setCore.modSlot.groupsClose.clusterClose h.setCore.modSlot.groupsClose
    · split
      · exact .ite h.setCore.modSlot.captureWrite.groupsClose.clusterClose h.setCore.modSlot.captureWrite.groupsClose
      · exact .ite h.setCore.groupsClose.clusterClose h.setCore.groupsClose
  · exact h

theorem Keeps.choose {α : Type} : ∀ {n : Nat} {l : List α} {s : State}, Keeps steady b s → Keeps steady b (s.choose n l).1
  | 0, _, _, h => h
  | _ + 1, _, _, h => by
    simp only [State.choose]
    split
    · exact h.same rfl
    · exact Keeps.choose (h.same rfl)

theorem Keeps.writeSpilled {g : Image} {slices : List Nat} {places : List ((Nat × Nat) × Nat × Nat)} (h : Keeps steady b s) :
    Keeps steady b (s.writeSpilled g slices places) := by
  simp only [State.writeSpilled]
  split
  · exact h
  · refine h.foldl (fun k => ?_)
    split
    · exact k
    · exact k.foldl (·.putWhole)

theorem Keeps.placeCluster {n : Nat} {g : Image} {edgesAt : Nat} {c : ClusterFit} {groups : List (Nat × List (Nat × Nat))}
    (h : Keeps steady b s) :
    Keeps steady b (s.placeCluster n g edgesAt c groups).1 :=
  .writeSpilled (.ite (h.choose.same rfl) (h.choose.same rfl))

theorem Keeps.castleSlices {n d : Nat} {members : List Member} (h : Keeps steady b s) : Keeps steady b (s.castleSlices n d members).1 := by
  simp only [State.castleSlices]
  split
  · exact h
  · exact h.placeCluster

theorem Keeps.enterStation {t : Tracker} {r : Request} (h : Keeps steady b s) : Keeps steady b (s.enterStation t r) := by
  simp only [State.enterStation]
  split <;> exact h.same rfl

theorem Keeps.startHeld {port : Nat} (h : Keeps steady b s) : Keeps steady b (s.startHeld port) := by
  simp only [State.startHeld]
  split
  · exact h
  · split
    · exact h.same rfl
    · exact h

theorem Keeps.sendRequest {op : RemoteOp} {address a val lines runGen epoch : Nat} {data : List Byte} {order : Option Nat} {unit : Nat}
    {core : Option (Nat × Nat)} (h : Keeps steady b s) :
    Keeps steady b (s.sendRequest op address a val lines runGen epoch data order unit core).1 := by
  simp only [State.sendRequest]
  split
  · split
    · exact h.same rfl
    · exact h
  · split
    · exact h
    · exact h
    · split
      · exact h.same rfl
      · exact h.enterStation

theorem Keeps.signalTo {hall count epoch runGen slot unit source : Nat} (h : Keeps steady b s) :
    Keeps steady b (s.signalTo hall count epoch runGen slot unit source) :=
  .ite (h.same rfl) h.sendRequest

theorem Keeps.signalFires {target epoch runGen slot cluster : Nat} : ∀ {n : Nat} {s : State}, Keeps steady b s →
    Keeps steady b (s.signalFires target epoch runGen slot cluster n)
  | 0, _, h => h
  | n + 1, s, h => by
    rw [State.signalFires]
    exact Keeps.signalFires h.signalTo

theorem Keeps.notify {hall gen : Nat} {ws : List Waiter} (h : Keeps steady b s) : Keeps steady b (s.notify hall gen ws) :=
  h.foldl (·.same rfl)
theorem Keeps.notifyAll {hall : Nat} {ws : List (Nat × Waiter)} (h : Keeps steady b s) : Keeps steady b (s.notifyAll hall ws) :=
  h.foldl (·.same rfl)
theorem Keeps.epochObjectFault {k n e : Nat} (h : Keeps steady b s) : Keeps steady b (s.epochObjectFault k n e) := h.logError.slotFault

theorem Keeps.signalArrive {m : SyncSignal} (h : Keeps steady b s) : Keeps steady b (s.signalArrive m) := by
  simp only [State.signalArrive]
  split
  · exact h
  · split
    · exact h
    · exact .ite (.ite (.notifyAll (h.same rfl)) (.signalFires (.notifyAll (h.same rfl)))) (.ite h (.ite h.epochObjectFault (.ite
          (h.same rfl) (.ite (.signalTo (.notify (h.same rfl))) (.notify (h.same rfl))))))

theorem Keeps.waitArrive {m : WaitReg} (h : Keeps steady b s) : Keeps steady b (s.waitArrive m) := by
  simp only [State.waitArrive]
  split
  · exact h
  · split
    · exact h
    · exact .ite h (.ite h.epochObjectFault (.ite (h.same rfl) (.notify (h.same rfl))))

theorem Keeps.castleOnto {c : Nat} {spare : Option Nat} (h : Keeps steady b s) : Keeps steady b (s.castleOnto c spare).1 := by
  simp only [State.castleOnto]
  split
  · exact h.setCore
  · split
    · exact h.setCore
    · dsimp only
      exact h.setCore.setCore.castleSlices.modCore

theorem Keeps.castle {c : Nat} {sieve : Bool} (h : Keeps steady b s) : Keeps steady b (s.castle c sieve).1 := h.castleOnto

theorem Keeps.moveQuiet {n : Nat} {moved : List Nat} (h : Keeps steady b s) : Keeps steady b (s.moveQuiet n moved) := by
  simp only [State.moveQuiet]
  split
  next e => exact h.newestCheckpoint.of_fst e
  next e _ => exact h.newestCheckpoint.of_fst e
  next e _ => exact .ite (.foldl ((h.newestCheckpoint.of_fst e).same rfl) (·.same rfl)) (h.newestCheckpoint.of_fst e).restartAt

theorem Keeps.noSpare {c n : Nat} (h : Keeps steady b s) : Keeps steady b (s.noSpare c n) :=
  .ite h.logError.slotFault (.ite h.logError.freezeSlot.disarmSlot.setSlot.note (.ite h.logError.setSlot h.logError))

theorem Keeps.recover {n : Nat} {moved : List Nat} (h : Keeps steady b s) : Keeps steady b (s.recover n moved) :=
  .ite h.rollback h.moveQuiet

theorem Keeps.fenceOnto {c : Nat} {spare : Option Nat} {engine : Bool} (h : Keeps steady b s) :
    Keeps steady b (s.fenceOnto c spare engine).1 := by
  simp only [State.fenceOnto]
  split
  · exact h
  · split
    · refine .note ?_
      split
      · exact h.castleOnto.recover
      · exact h.castleOnto.noSpare
      · exact h.castleOnto
    · split
      · exact h.castleOnto.recover
      · exact h.castleOnto.noSpare
      · exact h.castleOnto

theorem Keeps.fenceCore {c : Nat} {engine sieve : Bool} (h : Keeps steady b s) : Keeps steady b (s.fenceCore c engine sieve).1 :=
  h.fenceOnto
theorem Keeps.checkLanes {c : Nat} (h : Keeps steady b s) : Keeps steady b (s.checkLanes c) := .ite h.fenceCore h
theorem Keeps.coreFault {c code : Nat} (h : Keeps steady b s) : Keeps steady b (s.coreFault c code) := .ite h h.fenceCore.logError

theorem Keeps.retireSlice {k i : Nat} (h : Keeps steady b s) : Keeps steady b (s.retireSlice k i) := by
  simp only [State.retireSlice]
  split
  · exact h.same rfl
  · split
    · exact h.same rfl
    · exact .foldl (.placeCluster (h.same rfl)) (·.same rfl)

theorem Keeps.sliceLost {n a : Nat} (h : Keeps steady b s) : Keeps steady b (s.sliceLost n a) := by
  simp only [State.sliceLost]
  split
  · exact .recover (.ite h.logError.retireSlice h.logError)
  · exact h

theorem Keeps.readSlices {n k : Nat} (h : Keeps steady b s) : Keeps steady b (s.readSlices n k).1 := by
  simp only [State.readSlices]
  split
  · exact h
  · exact h.correct
  · exact h.sliceLost

theorem Keeps.readSpill {n c e : Nat} {m : Member} (h : Keeps steady b s) : Keeps steady b (s.readSpill n c e m).1 := by
  simp only [State.readSpill]
  split
  · exact h
  · split
    · exact h.readSlices
    · split
      next e => exact (h.readLocal.of_fst e).count
      next e => exact (h.readLocal.of_fst e).slotFault

theorem Keeps.sieveParity {k : Nat} (h : Keeps steady b s) : Keeps steady b (s.sieveParity k) := by
  simp only [State.sieveParity]
  refine .logError (.foldl (.foldl_fst (h.same rfl) (fun k => ?_)) (·.recover))
  split
  · exact k.castle.same rfl
  · exact .noSpare (k.castle.same rfl)
  · exact k.castle.same rfl

end Sys2Proof.Machine
end

section
/-! What every command keeps: the instructions of stage programs. -/

namespace Sys2Proof.Machine

variable {steady : Prop} {b s : State}

theorem Keeps.tag {c : Nat} {i : Issue} {ins : Instr} {flags beats : Nat} (h : Keeps steady b s) :
    Keeps steady b (s.tag c i ins flags beats) :=
  .ite (.poke (.same (.ite h.checkTag h) rfl)) (.ite h.checkTag h)

theorem Keeps.endMember {c : Nat} (h : Keeps steady b s) : Keeps steady b (s.endMember c) := by
  simp only [State.endMember]
  split
  · split
    · exact h.same rfl
    · exact .checkHard (.tryLaunch (.foldl (h.same rfl) (·.same rfl)))
  · exact h

theorem Keeps.programFault {c : Nat} {i : Issue} {code pc : Nat} (h : Keeps steady b s) : Keeps steady b (s.programFault c i code pc) :=
  .endMember (.slotFault (.logError (h.same rfl)))

theorem Keeps.retire {c : Nat} {i : Issue} {ins : Instr} {off : Option Int} {beats : Nat} (h : Keeps steady b s) :
    Keeps steady b (s.retire c i ins off beats) := by
  simp only [State.retire]
  split
  · exact h
  · exact .ite (.programFault (.tag (h.same rfl))) (.tag (h.same rfl))

theorem Keeps.issue {c : Nat} {ins : Instr} {stage : Option Nat} {body : State → Issue → Done} (h : Keeps steady b s)
    (work : ∀ {t : State} {i : Issue}, Keeps steady b t → KeepsDone steady b (body t i)) :
    Keeps steady b (s.issue c ins stage body) := by
  have corrected {word store : Option (Upset × Bool)} : Keeps steady b
      (let t := match word with
        | some (u, _) => State.correctedError { s with upsets := s.upsets.filter fun v => v ≠ u } 0x0002 1 c
        | none => s
      match store with
        | some (u, _) => t.correct (storeBase + 0x10000 * c + u.offset) u
        | none => t) := by
    dsimp only
    split
    · refine .correct ?_
      split
      · exact Keeps.correctedError (h.same rfl)
      · exact h
    · split
      · exact Keeps.correctedError (h.same rfl)
      · exact h
  have ended {t : State} {i : Issue} {d : Done} (e : body t i = d) (ht : Keeps steady b t) : KeepsDone steady b d := e ▸ work ht
  simp only [State.issue]
  split
  · exact h
  · split
    · exact h.coreFault
    · exact h.coreFault
    · refine .ite corrected.setCore.programFault.tag (.ite corrected.setCore.programFault.tag ?_)
      split <;> rename_i e
      · exact corrected
      · exact ended e corrected.setCore
      · exact Keeps.endMember (Keeps.tag (Keeps.modCore (ended e corrected.setCore)))
      · exact Keeps.retire (ended e corrected.setCore)
      · exact Keeps.tag (Keeps.programFault (ended e corrected.setCore))

theorem Keeps.issueOn {c : Nat} {ins : Instr} {stage : Option Nat} {body : State → Issue → Done} (h : Keeps steady b s)
    (work : ∀ {t : State} {i : Issue}, Keeps steady b t → KeepsDone steady b (body t i)) :
    KeepsOn steady b (issueOn c ins stage s body) :=
  .unit h (h.issue work).on

theorem execMvs_keeps {core : Nat} {acc : BitVec 3} {val : BitVec 5} {row : BitVec 3} (h : Keeps steady b s) :
    KeepsOn steady b (execMvs core acc val row s) :=
  h.issueOn (fun k => .ite k (k.same rfl))

theorem execMvw_keeps {core : Nat} {acc : BitVec 3} {val c : BitVec 4} {row n : BitVec 3} (h : Keeps steady b s) :
    KeepsOn steady b (execMvw core acc val c row n s) :=
  h.issueOn (·.same rfl)

theorem execMop_keeps {core : Nat} {acc : BitVec 3} {val c : BitVec 4} {n m : BitVec 3} (h : Keeps steady b s) :
    KeepsOn steady b (execMop core acc val c n m s) :=
  h.issueOn (·.same rfl)

theorem execAclr_keeps {core : Nat} {acc : BitVec 3} (h : Keeps steady b s) : KeepsOn steady b (execAclr core acc s) :=
  h.issueOn (·.same rfl)

theorem execFdp_keeps {core : Nat} {a : BitVec 5} (h : Keeps steady b s) : KeepsOn steady b (execFdp core a s) :=
  h.issueOn (fun k => .ite k (.ite k (k.same rfl)))

theorem execFinca_keeps {core : Nat} {denseOff : Bool} (h : Keeps steady b s) : KeepsOn steady b (execFinca core denseOff s) :=
  h.issueOn (fun k => .ite (k.same rfl) (.ite k (k.same rfl)))

theorem execLdf_keeps {core : Nat} {a val : BitVec 5} (h : Keeps steady b s) : KeepsOn steady b (execLdf core a val s) :=
  h.issueOn (fun k => .ite k (k.same rfl))

theorem Keeps.gibbsRun {c : Nat} {js : List Nat} {i : Issue} (h : Keeps steady b s) : KeepsDone steady b (gibbsRun c js s i) := by
  simp only [Machine.gibbsRun]
  split
  · exact .coreFault (h.same rfl)
  · split
    · exact h.same rfl
    · exact h

theorem execUpdc_keeps {core : Nat} (h : Keeps steady b s) : KeepsOn steady b (execUpdc core s) := h.issueOn (·.gibbsRun)

theorem execUpdm_keeps {core : Nat} {a : BitVec 5} {val : BitVec 4} {n : BitVec 3} (h : Keeps steady b s) :
    KeepsOn steady b (execUpdm core a val n s) :=
  h.issueOn (fun k => .ite k k.gibbsRun)

theorem execRlxc_keeps {core : Nat} (h : Keeps steady b s) : KeepsOn steady b (execRlxc core s) := by
  simp only [execRlxc]
  refine h.issueOn (fun k => ?_)
  split
  · exact k.same rfl
  · exact k

theorem execDraw_keeps {core : Nat} {a val : BitVec 5} (h : Keeps steady b s) : KeepsOn steady b (execDraw core a val s) := by
  simp only [execDraw]
  refine h.issueOn (fun k => ?_)
  split
  · exact k
  · split
    · exact k.same rfl
    · exact k

theorem execMask_keeps {core : Nat} {a : BitVec 4} {val c : BitVec 5} {n : BitVec 3} (h : Keeps steady b s) :
    KeepsOn steady b (execMask core a val c n s) := by
  simp only [execMask]
  refine h.issueOn (fun k => ?_)
  split
  · exact k
  · split
    · exact k
    · split
      · exact k
      · exact k.same rfl

theorem execSievec_keeps {core : Nat} (h : Keeps steady b s) : KeepsOn steady b (execSievec core s) := by
  simp only [execSievec]
  refine h.issueOn (fun k => ?_)
  split
  · exact k
  · exact .ite (k.same rfl) (k.same rfl)

theorem execSmsg_keeps {core : Nat} (h : Keeps steady b s) : KeepsOn steady b (execSmsg core s) := by
  simp only [execSmsg]
  refine h.issueOn (fun k => ?_)
  split
  · exact k
  · split
    next e => exact k.readSpill.of_fst e
    next e => exact .ite (.foldl ((k.readSpill.of_fst e).same rfl) (·.same rfl)) ((k.readSpill.of_fst e).same rfl)

theorem execBcst_keeps {core : Nat} {a : BitVec 4} (h : Keeps steady b s) : KeepsOn steady b (execBcst core a s) :=
  h.issueOn (fun k => .ite (k.same rfl) trivial)

theorem execBrcv_keeps {core : Nat} {a : BitVec 4} {pass : Bool} (h : Keeps steady b s) : KeepsOn steady b (execBrcv core a pass s) := by
  simp only [execBrcv]
  refine h.issueOn fun k => ?_
  split
  · exact Keeps.ite k.setCore.send k.setCore
  · exact k.setCore

theorem execSig_keeps {core : Nat} {a : BitVec 5} {count : BitVec 9} (h : Keeps steady b s) :
    KeepsOn steady b (execSig core a count s) := by
  simp only [execSig]
  refine h.issueOn (fun k => ?_)
  split
  · exact k
  · split
    · exact trivial
    · split
      · exact .signalTo (k.same rfl)
      · split
        next e => exact (Keeps.of_fst e (.sendRequest (k.same rfl)))
        next e => exact (Keeps.of_fst e (.sendRequest (k.same rfl)))

theorem execWait_keeps {core : Nat} {a : BitVec 5} (h : Keeps steady b s) : KeepsOn steady b (execWait core a s) := by
  simp only [execWait]
  refine h.issueOn (fun k => ?_)
  split
  · exact k
  · exact .ite trivial (.ite (k.same rfl) (.sendRequest (k.same rfl)))

theorem Keeps.flushPartials {i : Issue} (h : Keeps steady b s) : Keeps steady b (s.flushPartials i) := by
  simp only [State.flushPartials]
  refine .foldl (h.same rfl) (fun k => ?_)
  split
  · exact k.partialArrive
  · exact k

theorem Keeps.groupComplete {core : Nat} {i : Issue} (h : Keeps steady b s) : Keeps steady b (s.groupComplete core i) :=
  .ite ((h.foldl (·.fpComplete)).foldl (·.epochClose)) (h.foldl (·.fpComplete))

theorem execPdone_keeps {core : Nat} (h : Keeps steady b s) : KeepsOn steady b (execPdone core s) :=
  h.issueOn (fun k => .ite k (.settle (.ite (.groupComplete (.flushPartials (k.same rfl))) (.flushPartials (k.same rfl)))))

theorem execRedi_keeps {core : Nat} {a val c : BitVec 5} (h : Keeps steady b s) : KeepsOn steady b (execRedi core a val c s) :=
  h.issueOn (fun k => .ite k (k.same rfl))

theorem execRedf_keeps {core : Nat} {a val : BitVec 5} {c n : BitVec 4} (h : Keeps steady b s) :
    KeepsOn steady b (execRedf core a val c n s) :=
  h.issueOn (fun k => .ite k (k.same rfl))

theorem execReda_keeps {core : Nat} {acc : BitVec 3} {val c : BitVec 5} (h : Keeps steady b s) :
    KeepsOn steady b (execReda core acc val c s) :=
  h.issueOn (fun k => .ite k (.foldl (k.same rfl) (·.same rfl)))

theorem execFpr_keeps {core : Nat} (h : Keeps steady b s) : KeepsOn steady b (execFpr core s) := h.issueOn (fun k => .ite k (k.same rfl))

theorem Keeps.branch {c : Nat} {co : Core} {taken : Bool} {off : Int} (h : Keeps steady b s) :
    KeepsDone steady b (branch c s co taken off) :=
  .ite (h.same rfl) (h.same rfl)

theorem execInstrNop_keeps {core : Nat} (h : Keeps steady b s) : KeepsOn steady b (execInstrNop core s) := h.issueOn (·.same rfl)
theorem execEndPhase_keeps {core : Nat} (h : Keeps steady b s) : KeepsOn steady b (execEndPhase core s) := h.issueOn (fun k => .ite k k)
theorem execJmp_keeps {core : Nat} {off : BitVec 24} (h : Keeps steady b s) : KeepsOn steady b (execJmp core off s) := h.issueOn (·.branch)
theorem execBz_keeps {core : Nat} {a : BitVec 5} {off : BitVec 19} (h : Keeps steady b s) : KeepsOn steady b (execBz core a off s) :=
  h.issueOn (·.branch)

theorem execBnz_keeps {core : Nat} {a : BitVec 5} {off : BitVec 19} (h : Keeps steady b s) : KeepsOn steady b (execBnz core a off s) :=
  h.issueOn (·.branch)

theorem execBlt_keeps {core : Nat} {a val : BitVec 5} {off : BitVec 14} (h : Keeps steady b s) :
    KeepsOn steady b (execBlt core a val off s) :=
  h.issueOn (·.branch)

theorem execLoop_keeps {core : Nat} {a : BitVec 5} {off : BitVec 19} (h : Keeps steady b s) : KeepsOn steady b (execLoop core a off s) :=
  h.issueOn (·.branch)

theorem execAdd_keeps {core : Nat} {a val c : BitVec 5} (h : Keeps steady b s) : KeepsOn steady b (execAdd core a val c s) :=
  h.issueOn (·.same rfl)
theorem execSub_keeps {core : Nat} {a val c : BitVec 5} (h : Keeps steady b s) : KeepsOn steady b (execSub core a val c s) :=
  h.issueOn (·.same rfl)
theorem execAnd_keeps {core : Nat} {a val c : BitVec 5} (h : Keeps steady b s) : KeepsOn steady b (execAnd core a val c s) :=
  h.issueOn (·.same rfl)
theorem execOr_keeps {core : Nat} {a val c : BitVec 5} (h : Keeps steady b s) : KeepsOn steady b (execOr core a val c s) :=
  h.issueOn (·.same rfl)
theorem execXor_keeps {core : Nat} {a val c : BitVec 5} (h : Keeps steady b s) : KeepsOn steady b (execXor core a val c s) :=
  h.issueOn (·.same rfl)
theorem execShl_keeps {core : Nat} {a val c : BitVec 5} (h : Keeps steady b s) : KeepsOn steady b (execShl core a val c s) :=
  h.issueOn (·.same rfl)
theorem execShr_keeps {core : Nat} {a val c : BitVec 5} (h : Keeps steady b s) : KeepsOn steady b (execShr core a val c s) :=
  h.issueOn (·.same rfl)
theorem execSra_keeps {core : Nat} {a val c : BitVec 5} (h : Keeps steady b s) : KeepsOn steady b (execSra core a val c s) :=
  h.issueOn (·.same rfl)

theorem execAddi_keeps {core : Nat} {a val : BitVec 5} {imm : BitVec 14} (h : Keeps steady b s) :
    KeepsOn steady b (execAddi core a val imm s) :=
  h.issueOn (·.same rfl)

theorem execMovi_keeps {core : Nat} {a : BitVec 5} {imm : BitVec 19} (h : Keeps steady b s) : KeepsOn steady b (execMovi core a imm s) :=
  h.issueOn (·.same rfl)

theorem execMovhi_keeps {core : Nat} {a : BitVec 5} {imm : BitVec 16} (h : Keeps steady b s) : KeepsOn steady b (execMovhi core a imm s) :=
  h.issueOn (·.same rfl)

theorem Keeps.loadWords {c a n : Nat} {k : State → Done} (h : Keeps steady b s) (hk : ∀ {t : State}, Keeps steady b t → KeepsDone
  steady b (k t)) :
    KeepsDone steady b (loadWords c a n s k) := by
  simp only [Machine.loadWords]
  split
  · exact h.coreFault
  · refine hk (h.foldl fun k' => ?_)
    split
    · exact k'.correct
    · exact k'

theorem execLdk_keeps {core : Nat} {a b' : BitVec 5} {imm : BitVec 14} (h : Keeps steady b s) :
    KeepsOn steady b (execLdk core a b' imm s) := by
  simp only [execLdk]
  refine h.issueOn fun k => ?_
  split
  · exact k
  · exact k.loadWords fun k' => k'.setCore

theorem execStk_keeps {core : Nat} {a val : BitVec 5} {imm : BitVec 14} (h : Keeps steady b s) :
    KeepsOn steady b (execStk core a val imm s) := by
  simp only [execStk]
  refine h.issueOn (fun k => ?_)
  split
  · exact k
  · exact k.same rfl

theorem execLdw_keeps {core : Nat} {a : BitVec 4} {b' : BitVec 5} {imm : BitVec 14} (h : Keeps steady b s) :
    KeepsOn steady b (execLdw core a b' imm s) := by
  simp only [execLdw]
  refine h.issueOn fun k => ?_
  split
  · exact k
  · exact k.loadWords fun k' => k'.setCore

theorem execStw_keeps {core : Nat} {a : BitVec 4} {val : BitVec 5} {imm : BitVec 14} (h : Keeps steady b s) :
    KeepsOn steady b (execStw core a val imm s) := by
  simp only [execStw]
  refine h.issueOn (fun k => ?_)
  split
  · exact k
  · exact k.same rfl

theorem execLdsl_keeps {core : Nat} {a : BitVec 4} {b' : BitVec 5} {imm : BitVec 14} (h : Keeps steady b s) :
    KeepsOn steady b (execLdsl core a b' imm s) := by
  simp only [execLdsl]
  refine h.issueOn fun {t i} k => ?_
  cases windowFault (storeAddr (i.co.kreg b') imm) with
  | some code => exact k
  | none =>
    generalize storeAddr (i.co.kreg b') imm = p
    cases e : t.readLocal (windowAddr core p.toNat) 64 with
    | mk u r =>
      have read := k.readLocal.of_fst e
      cases r with
      | some bs => exact read.setCore
      | none => exact read.recover

theorem execStsl_keeps {core : Nat} {a : BitVec 4} {val : BitVec 5} {imm : BitVec 14} (h : Keeps steady b s) :
    KeepsOn steady b (execStsl core a val imm s) := by
  simp only [execStsl]
  refine h.issueOn (fun k => ?_)
  split
  · exact k
  · exact k.writeLocal

theorem execWget_keeps {core : Nat} {a : BitVec 5} {val n : BitVec 4} (h : Keeps steady b s) : KeepsOn steady b (execWget core a val n s) :=
  h.issueOn (·.same rfl)

theorem execWput_keeps {core : Nat} {a : BitVec 4} {val : BitVec 5} {n : BitVec 4} (h : Keeps steady b s) :
    KeepsOn steady b (execWput core a val n s) :=
  h.issueOn (·.same rfl)

theorem execAccst_keeps {core : Nat} {acc : BitVec 3} {val : BitVec 5} (h : Keeps steady b s) :
    KeepsOn steady b (execAccst core acc val s) := by
  simp only [execAccst]
  refine h.issueOn (fun k => ?_)
  split
  · exact k
  · exact k.same rfl

end Sys2Proof.Machine
end

section
/-! What every command keeps: messages that arrive at the units of the module. -/

namespace Sys2Proof.Machine

variable {steady : Prop} {b s : State}

theorem Keeps.accept {m : Msg} (h : Keeps steady b s) : Keeps steady b (s.accept m) := by
  simp only [State.accept]
  split
  · exact .ite (h.same rfl) (.ite (h.same rfl) (.count (h.same rfl)))
  · exact h.same rfl

theorem Keeps.take {m : Msg} {go : State → State} (h : Keeps steady b s)
    (hgo : ∀ {t : State}, Keeps steady b t → Keeps steady b (go t)) :
    Keeps steady b (s.take m go) :=
  .ite (hgo h.accept) h

theorem Keeps.colanderNotice {c : Nat} {cluster : Option Nat} {slot : Nat} (h : Keeps steady b s) :
    Keeps steady b (s.colanderNotice c cluster slot) := by
  simp only [State.colanderNotice]
  split <;> exact h.same rfl

theorem Keeps.stateArrive {m : StateMsg} (h : Keeps steady b s) : Keeps steady b (s.stateArrive m) := by
  simp only [State.stateArrive]
  split
  · exact h
  · exact .ite h (.ite h.colanderNotice (.ite h (.ite (.same (.ite h.count.count h.count) rfl) (.ite (.tagFault (.ite h.count.count
        h.count)) (.ite (.settle (.onInput (.same (.ite h.count.count h.count) rfl))) (.onInput (.ite h.count.count h.count)))))))

theorem execStateMessage_keeps {m : StateMsg} (h : Keeps steady b s) : KeepsOn steady b (execStateMessage m s) :=
  (h.take (·.stateArrive)).on

theorem Keeps.vectorArrive {m : BcastMsg} (h : Keeps steady b s) : Keeps steady b (s.vectorArrive m) := by
  simp only [State.vectorArrive]
  split
  · exact h
  · split
    · exact h.colanderNotice
    · split
      · exact h
      · split
        · exact h.same rfl
        · split
          · exact .retire (.ite (h.same rfl) (h.same rfl))
          · exact h.same rfl

theorem execBroadcastVector_keeps {m : BcastMsg} (h : Keeps steady b s) : KeepsOn steady b (execBroadcastVector m s) :=
  .next (.ite (.ite h (h.same rfl)) (h.take (·.vectorArrive)))

theorem Keeps.sieveReturn {q : SieveReq} {k : Nat} {sat : Bool} (h : Keeps steady b s) : Keeps steady b (s.sieveReturn q k sat) := by
  simp only [State.sieveReturn]
  split
  · split
    · exact .ite (.retire (h.same rfl)) (h.same rfl)
    · exact h
  · exact h

theorem Keeps.sieveServe {k : Nat} (h : Keeps steady b s) : Keeps steady b (s.sieveServe k) := by
  simp only [State.sieveServe]
  split
  · exact h
  · split
    · exact h
    · split
      · exact h.sieveParity
      · split
        · split
          · exact .count (h.same rfl)
          · split
            · exact .count (h.same rfl)
            · exact .sieveReturn (.count (h.same rfl))
        · exact .count (h.same rfl)

theorem execSieveRequest_keeps {cluster : Nat} (h : Keeps steady b s) : KeepsOn steady b (execSieveRequest cluster s) :=
  .unit h h.sieveServe.on

theorem Keeps.rootCheck {n q t e : Nat} (h : Keeps steady b s) : Keeps steady b (s.rootCheck n q t e) := by
  simp only [State.rootCheck]
  split
  · exact h
  · exact .ite h (.ite (.ite (.settle (.exchangeDecide (h.same rfl))) (h.same rfl)) (.ite (.settle (h.same rfl)) (.settle
        (h.same rfl))))

theorem execReductionPartial_keeps {m : PartialMsg} (h : Keeps steady b s) : KeepsOn steady b (execReductionPartial m s) :=
  (h.take (fun k => .ite k.partialArrive.rootCheck k.partialArrive)).on

theorem Keeps.groupArrive {m : GroupMsg} (h : Keeps steady b s) : Keeps steady b (s.groupArrive m) := by
  simp only [State.groupArrive]
  split
  · exact h
  · split
    · exact .rootCheck (h.same rfl)
    · exact .ite h.leafCollision (.rootCheck (h.same rfl))

theorem execGroupValue_keeps {m : GroupMsg} (h : Keeps steady b s) : KeepsOn steady b (execGroupValue m s) := (h.take (·.groupArrive)).on
theorem Keeps.closeArrive {m : CloseMsg} (h : Keeps steady b s) : Keeps steady b (s.closeArrive m) := .ite h (.rootCheck (h.same rfl))
theorem execCloseToken_keeps {m : CloseMsg} (h : Keeps steady b s) : KeepsOn steady b (execCloseToken m s) := (h.take (·.closeArrive)).on
theorem Keeps.energyArrive {m : EnergyMsg} (h : Keeps steady b s) : Keeps steady b (s.energyArrive m) :=
  .ite h (.settle (.exchangeDecide (h.same rfl)))
theorem execExchangeEnergy_keeps {m : EnergyMsg} (h : Keeps steady b s) : KeepsOn steady b (execExchangeEnergy m s) :=
  (h.take (·.energyArrive)).on

theorem Keeps.freezeArrive {n : Nat} {hard : Bool} (h : Keeps steady b s) : Keeps steady b (s.freezeArrive n hard) :=
  .ite (h.same rfl) (.ite h (.ite (.checkHard (h.same rfl)) (.ite (h.same rfl) (h.same rfl))))

theorem execFreeze_keeps {slot module : Nat} {hard : Bool} (h : Keeps steady b s) : KeepsOn steady b (execFreeze slot module hard s) :=
  .next (.ite (.freezeArrive (h.same rfl)) (h.same rfl))

theorem execFreezeReply_keeps {slot module part highest : Nat} (h : Keeps steady b s) :
    KeepsOn steady b (execFreezeReply slot module part highest s) := by
  simp only [execFreezeReply]
  refine .next ?_
  split
  · exact h.same rfl
  · exact .ite (h.same rfl) (.ite (.toParts (h.same rfl)) (h.same rfl))

theorem Keeps.limitArrive {n l : Nat} (h : Keeps steady b s) : Keeps steady b (s.limitArrive n l) := by
  simp only [State.limitArrive]
  split
  · exact h
  · exact .ite h (.finishDrain (.settle (h.same rfl)))

theorem execLimit_keeps {slot module epochLimit : Nat} (h : Keeps steady b s) : KeepsOn steady b (execLimit slot module epochLimit s) :=
  .next (.ite (.limitArrive (h.same rfl)) (h.same rfl))

theorem execDrained_keeps {slot module part : Nat} (h : Keeps steady b s) : KeepsOn steady b (execDrained slot module part s) := by
  simp only [execDrained]
  refine .next ?_
  split
  · exact h.same rfl
  · exact .ite (h.same rfl) (.finishDrain (h.same rfl))

theorem execFaultNotice_keeps {slot module status : Nat} (h : Keeps steady b s) : KeepsOn steady b (execFaultNotice slot module status s) :=
  .next (.ite (h.same rfl) (.ite (.slotFault (h.same rfl)) (h.same rfl)))

theorem execCkptDone_keeps {slot module part epoch : Nat} (h : Keeps steady b s) :
    KeepsOn steady b (execCkptDone slot module part epoch s) :=
  .next (.ite (h.same rfl) (.ite (.toParts (h.same rfl)) (h.same rfl)))

theorem execCkptCommit_keeps {slot module epoch : Nat} (h : Keeps steady b s) : KeepsOn steady b (execCkptCommit slot module epoch s) :=
  .next (.ite (.finishDrain (.settle (.checkpointWrite (.commit (h.same rfl))))) (h.same rfl))

theorem Keeps.helloCompare {n : Nat} {m : LockMsg} (h : Keeps steady b s) : Keeps steady b (s.helloCompare n m) := by
  simp only [State.helloCompare]
  split
  · exact h
  · split
    · exact h
    · exact .finishId (h.same rfl)

theorem execHello_keeps {port : Nat} {m : LockMsg} (h : Keeps steady b s) : KeepsOn steady b (execHello port m s) := by
  simp only [execHello]
  refine .unit h (.next ?_)
  split
  · exact .helloCompare (h.same rfl)
  · exact h.same rfl

theorem execFp_keeps {port : Nat} {m : LockMsg} (h : Keeps steady b s) : KeepsOn steady b (execFp port m s) := by
  simp only [execFp]
  refine .unit h (.next ?_)
  split
  · exact h.same rfl
  · exact .lockCompare (h.same rfl)

theorem execHalt_keeps {port : Nat} {m : LockMsg} (h : Keeps steady b s) : KeepsOn steady b (execHalt port m s) := by
  simp only [execHalt]
  refine .unit h (.next ?_)
  split
  · exact h.same rfl
  · exact .ite (.lockHalt (h.same rfl)) (h.same rfl)

theorem execLsEnd_keeps {port : Nat} {m : LockMsg} (h : Keeps steady b s) : KeepsOn steady b (execLsEnd port m s) := by
  simp only [execLsEnd]
  refine .unit h (.next ?_)
  split
  · exact h.same rfl
  · exact .tryLaunchSlot (h.same rfl)

theorem execSyncObjectSignal_keeps {m : SyncSignal} (h : Keeps steady b s) : KeepsOn steady b (execSyncObjectSignal m s) :=
  (h.take (·.signalArrive)).on
theorem execWaiterRegistration_keeps {m : WaitReg} (h : Keeps steady b s) : KeepsOn steady b (execWaiterRegistration m s) :=
  (h.take (·.waitArrive)).on

theorem Keeps.noticeArrive {w : Waiter} {generation : Nat} (h : Keeps steady b s) : Keeps steady b (s.noticeArrive w generation) := by
  simp only [State.noticeArrive]
  split
  · exact h.finishId
  · exact h
  · split
    · exact .ite h.retire h
    · exact h

theorem execWaiterNotice_keeps {w : Waiter} {object generation : Nat} (h : Keeps steady b s) :
    KeepsOn steady b (execWaiterNotice w object generation s) :=
  .next (.ite (h.take (·.noticeArrive)) h)

end Sys2Proof.Machine
end

section
/-! What every command keeps: the arbiter, accesses to the windows, transfers and the BAR4 window. -/

namespace Sys2Proof.Machine

variable {steady : Prop} {b s : State}

theorem Keeps.sendRead {r : HostRead} (h : Keeps steady b s) : Keeps steady b (s.sendRead r) := .ite (h.same rfl) (h.same rfl)
theorem Keeps.hostRead {r : HostRead} (h : Keeps steady b s) : Keeps steady b (s.hostRead r) := .ite (h.same rfl) h.sendRead

theorem Keeps.nextHeld (h : Keeps steady b s) : Keeps steady b s.nextHeld := by
  simp only [State.nextHeld]
  split
  · exact h
  · exact .ite h (.sendRead (h.same rfl))

theorem Keeps.endRead {tag : Nat} (h : Keeps steady b s) : Keeps steady b (s.endRead tag) := by
  simp only [State.endRead]
  refine .nextHeld ?_
  split <;> exact h.same rfl

theorem Keeps.fetchPacket {q : Nat} (h : Keeps steady b s) : Keeps steady b (s.fetchPacket q) := .ite h.hostRead h

theorem Keeps.packetFetched {q index : Nat} {r : ReadResult} (h : Keeps steady b s) : Keeps steady b (s.packetFetched q index r) := by
  simp only [State.packetFetched]
  split
  · split
    · exact h.queueError
    · exact h.queueError
    · exact .fetchPacket (h.same rfl)
  · exact h.fetchPacket

theorem Keeps.doorbell {q : Nat} {tail : Bool} {v : Nat} (h : Keeps steady b s) : Keeps steady b (s.doorbell q tail v) :=
  .ite (.ite h.queueError (.fetchPacket (h.same rfl))) (.ite h.queueError (h.same rfl))

theorem Keeps.releaseDoorbells (h : Keeps steady b s) : Keeps steady b s.releaseDoorbells := .ite h (.foldl (h.same rfl) (·.doorbell))

theorem Keeps.doorbellWrite {q : Nat} {tail : Bool} {v : Word} (h : Keeps steady b s) : Keeps steady b (s.doorbellWrite q tail v) :=
  .ite h (.ite (h.same rfl) h.doorbell)

theorem execSqTail_keeps {queue : Nat} {v : Word} (h : Keeps steady b s) : KeepsOn steady b (execSqTail queue v s) :=
  .unit h h.doorbellWrite.on
theorem execCqHead_keeps {queue : Nat} {v : Word} (h : Keeps steady b s) : KeepsOn steady b (execCqHead queue v s) :=
  .unit h h.doorbellWrite.on

theorem Keeps.setRun {q : Nat} {val : Bool} (h : Keeps steady b s) : Keeps steady b (s.setRun q val) :=
  .ite (.ite h (.fetchPacket (h.same rfl))) (h.same rfl)

theorem Keeps.checkQueue {q : Nat} (h : Keeps steady b s) : Keeps steady b (s.checkQueue q) := .ite (.parityReport (h.setRun.same rfl)) h

theorem Keeps.withdraw {o : Order} (h : Keeps steady b s) : Keeps steady b (s.withdraw o) := by
  simp only [State.withdraw]
  split
  · exact h.same rfl
  · exact h.same rfl
  · exact h.same rfl
  · exact h.same rfl
  · exact h.same rfl
  · exact h.same rfl
  · exact h.same rfl
  · exact h.same rfl
  · exact h

theorem Keeps.freeRing {n : Nat} (h : Keeps steady b s) : Keeps steady b (s.freeRing n) := by
  simp only [State.freeRing]
  split
  · exact h.withdraw.finish
  · exact h

theorem Keeps.nextSeq (h : Keeps steady b s) : Keeps steady b (s.nextSeq).2 := h.freeRing.same rfl

theorem Keeps.acceptOrder {mgmt : List Order} {o : Order} (h : Keeps steady b s) : Keeps steady b (s.acceptOrder mgmt o) := by
  simp only [State.acceptOrder]
  split
  · exact h.nextSeq.putWhole.finish
  · exact .ite h.nextSeq.putWhole.finish (h.nextSeq.putWhole.same rfl)

theorem Keeps.acceptNote {c : NotedChange} (h : Keeps steady b s) : Keeps steady b (s.acceptNote c) := h.nextSeq.putWhole.raise

theorem Keeps.pass (h : Keeps steady b s) : Keeps steady b s.pass :=
  .ite (h.foldl (·.checkQueue)) (.foldl (.foldl (.foldl (.foldl_fst ((h.foldl (·.checkQueue)).same rfl) (·.same rfl)) (·.acceptOrder))
      (·.acceptNote)) (·.writeShadow))

theorem execArbiterPass_keeps (h : Keeps steady b s) : KeepsOn steady b (execArbiterPass s) := h.pass.on

theorem Keeps.runOrder {opcode id : Nat} {body : State → Order → State} (h : Keeps steady b s)
    (work : ∀ {t : State} {o : Order}, Keeps steady b t → Keeps steady b (body t o)) :
    KeepsOn steady b (runOrder opcode id s body) := by
  simp only [Machine.runOrder]
  refine .next ?_
  split
  · exact h
  · exact .ite h (.ite h.finish (work (h.same rfl)))

theorem Keeps.checked {o : Order} {e : Option Ending} {go : State → State} (h : Keeps steady b s)
    (hgo : ∀ {t : State}, Keeps steady b t → Keeps steady b (go t)) : Keeps steady b (s.checked o e go) := by
  simp only [State.checked]
  split
  · exact h.finish
  · exact hgo h

theorem Keeps.inState {o : Order} {ok : SlotState → Bool} {go : State → State} (h : Keeps steady b s)
    (hgo : ∀ {t : State}, Keeps steady b t → Keeps steady b (go t)) : Keeps steady b (s.inState o ok go) :=
  .ite (hgo h) h.finish

theorem Keeps.logDiscarded {a : Nat} {r : RStatus} (h : Keeps steady b s) : Keeps steady b (s.logDiscarded a r) := by
  simp only [State.logDiscarded]
  split
  · exact h.logError
  · exact h.logError
  · exact h.same rfl
  · exact h

theorem Keeps.readAccess {a len : Nat} (h : Keeps steady b s) : Keeps steady b (s.readAccess a len).1 := by
  simp only [State.readAccess]
  split
  · exact h.logDiscarded
  · split
    · exact h
    · split
      next e => exact h.readLocal.of_fst e
      next e => exact h.readLocal.of_fst e

theorem Keeps.writeAccess {a : Nat} {bs : List Byte} (h : Keeps steady b s) : Keeps steady b (s.writeAccess a bs).1 := by
  simp only [State.writeAccess]
  split
  · exact h.logDiscarded
  · exact h.writeLocal

theorem Keeps.writeLines : ∀ {n a : Nat} {bs : List Byte} {s : State}, Keeps steady b s → Keeps steady b (s.writeLines a bs n).1
  | 0, _, _, _, h => h
  | _ + 1, _, _, _, h => by
    simp only [State.writeLines]
    split
    next e => exact Keeps.writeLines (h.writeAccess.of_fst e)
    next e => exact Keeps.writeLines (h.writeAccess.of_fst e)

theorem Keeps.serveWord {r : Request} {a : Nat} (h : Keeps steady b s) : Keeps steady b (s.serveWord r a).1 := by
  simp only [State.serveWord]
  split
  · exact h.logDiscarded
  · split
    · exact h.writeAccess
    · split
      next e => exact h.readAccess.of_fst e
      next e => exact (h.readAccess.of_fst e).writeAccess

theorem Keeps.serveSignal {r : Request} {a : Nat} (h : Keeps steady b s) : Keeps steady b (s.serveSignal r a).1 := by
  simp only [State.serveSignal]
  split
  · exact h
  · split
    · exact h
    · split
      · exact h.signalArrive
      · split
        · exact h.signalArrive
        · exact h

theorem Keeps.serveWaitReg {r : Request} {a : Nat} (h : Keeps steady b s) : Keeps steady b (s.serveWaitReg r a).1 := by
  simp only [State.serveWaitReg]
  split
  · exact h
  · split
    · exact h
    · exact h.waitArrive

theorem Keeps.serve {r : Request} (h : Keeps steady b s) : Keeps steady b (s.serve r).1 := by
  simp only [State.serve]
  split
  · exact h
  · split
    · split
      next e => exact h.readAccess.of_fst e
      next e => exact h.readAccess.of_fst e
    · split
      next e => exact h.readAccess.of_fst e
      next e => exact h.readAccess.of_fst e
    · split
      · split
        · exact h.logDiscarded
        · exact h.writeLines
      · exact h
    · exact h.serveSignal
    · exact h.serveWaitReg
    · split
      · split
        · exact h.serveSignal
        · exact h.serveWord
      · split
        · exact h.serveSignal
        · exact h.serveWord
    · exact h.serveWord

theorem Keeps.transferRead {t : Transfer} (h : Keeps steady b s) : Keeps steady b (s.transferRead t).1 := by
  simp only [State.transferRead]
  split
  · exact h
  · exact h.hostRead
  · split
    · split
      next e => exact h.sendRequest.of_fst e
      next e => exact h.sendRequest.of_fst e
    · split
      next e => exact h.readAccess.of_fst e
      next e => exact h.readAccess.of_fst e

theorem Keeps.transferWrite {t : Transfer} {bs : List Byte} (h : Keeps steady b s) : Keeps steady b (s.transferWrite t bs).1 := by
  simp only [State.transferWrite]
  split
  · exact h
  · split
    · exact h.hostWrite
    · exact h
  · split
    · split
      next e => exact h.sendRequest.of_fst e
      next e => exact h.sendRequest.of_fst e
    · exact h.putWhole

theorem Keeps.fillCounts {hall len : Nat} (h : Keeps steady b s) : Keeps steady b (s.fillCounts hall len) := by
  simp only [State.fillCounts]
  split
  · exact .ite h (h.foldl (·.same rfl))
  · exact h

theorem Keeps.endTransfer {t : Transfer} {e : Ending} (h : Keeps steady b s) : Keeps steady b (s.endTransfer t e) := by
  simp only [State.endTransfer]
  refine .finishId ?_
  split
  · exact .fillCounts (h.same rfl)
  · exact h.same rfl

theorem Keeps.runTransfer : ∀ {n : Nat} {t : Transfer} {s : State}, Keeps steady b s → Keeps steady b (s.runTransfer t n)
  | 0, _, _, h => h.same rfl
  | n + 1, t, s, h => by
    simp only [State.runTransfer]
    have moved : Keeps steady b (match t.data with | some bs => s.transferWrite t bs | none => s.transferRead t).1 := by
      split
      · exact h.transferWrite
      · exact h.transferRead
    split
    · exact h.endTransfer
    · split
      · exact Keeps.runTransfer moved
      · exact moved.same rfl
      · exact moved.endTransfer

theorem Keeps.goTransfer {t : Transfer} (h : Keeps steady b s) : Keeps steady b (s.goTransfer t) := h.runTransfer

theorem Keeps.transferData {order : Nat} {bs : List Byte} (h : Keeps steady b s) : Keeps steady b (s.transferData order bs) := by
  simp only [State.transferData]
  split
  · exact .ite h.goTransfer (h.same rfl)
  · exact h

theorem Keeps.transferAnswer {order : Nat} {op : RemoteOp} {r : RStatus} {bs : List Byte} (h : Keeps steady b s) :
    Keeps steady b (s.transferAnswer order op r bs) := by
  simp only [State.transferAnswer]
  split
  · exact h
  · exact .ite h.endTransfer (.ite h.transferData h.goTransfer)

theorem Keeps.transferError {order : Nat} (h : Keeps steady b s) : Keeps steady b (s.transferError order) := by
  simp only [State.transferError]
  split
  · exact h.endTransfer
  · exact h

theorem Keeps.checkWindow (h : Keeps steady b s) : Keeps steady b s.checkWindow := .ite (.parityReport (h.same rfl)) h

theorem Keeps.bar4Fail {r : RStatus} {hall : Nat} (h : Keeps steady b s) : Keeps steady b (s.bar4Fail r hall) := by
  simp only [State.bar4Fail]
  split
  · exact h
  · split
    · split <;> exact h.same rfl
    · refine .logError ?_
      split <;> exact h.same rfl

theorem Keeps.bar4ReadDone {hall len : Nat} {r : RStatus} {bs : List Byte} (h : Keeps steady b s) :
    Keeps steady b (s.bar4ReadDone hall len r bs) :=
  h.bar4Fail.same rfl

theorem Keeps.bar4Wait {write : Bool} {hall len : Nat} (h : Keeps steady b s) : Keeps steady b (s.bar4Wait write hall len) := by
  simp only [State.bar4Wait]
  split
  · exact h
  · exact h.same rfl

theorem Keeps.bar4Answer {tag : Nat} {r : RStatus} {bs : List Byte} (h : Keeps steady b s) : Keeps steady b (s.bar4Answer tag r bs) := by
  simp only [State.bar4Answer]
  split
  · exact h
  · exact .releaseDoorbells (.ite (.bar4Fail (h.same rfl)) (.bar4ReadDone (h.same rfl)))

theorem Keeps.bar4Get {hall len : Nat} (h : Keeps steady b s) : Keeps steady b (s.bar4Get hall len) := by
  simp only [State.bar4Get]
  split
  · split
    next e => exact (h.sendRequest.of_fst e).bar4Wait
    next e => exact (h.sendRequest.of_fst e).bar4ReadDone
  · split
    next e => exact .bar4ReadDone ((Keeps.of_fst e (.readAccess (h.same rfl))))
    next e => exact .bar4ReadDone ((Keeps.of_fst e (.readAccess (h.same rfl))))

theorem execBar4Read_keeps {offset len : Nat} (h : Keeps steady b s) : KeepsOn steady b (execBar4Read offset len s) :=
  .next (.ite h (.ite (h.same rfl) (.ite h.checkWindow (.ite h.checkWindow.bar4Get h.checkWindow.bar4ReadDone))))

theorem Keeps.bar4Post {op : RemoteOp} {hall value lines : Nat} {data : List Byte} {len : Nat} (h : Keeps steady b s) :
    Keeps steady b (s.bar4Post op hall value lines data len) := by
  simp only [State.bar4Post]
  split
  next e => exact (h.sendRequest.of_fst e).bar4Wait
  next e => exact (h.sendRequest.of_fst e).bar4Fail

theorem Keeps.bar4Piece {p : Nat × List Byte} (h : Keeps steady b s) : Keeps steady b (s.bar4Piece p) :=
  .ite h.writeAccess.bar4Fail (.ite h.bar4Post (.ite (h.foldl (·.bar4Post)) h.bar4Fail))

theorem execBar4Write_keeps {offset : Nat} {bytes : List Byte} {ep : Bool} (h : Keeps steady b s) :
    KeepsOn steady b (execBar4Write offset bytes ep s) :=
  .next (.ite h (.ite (.logError (h.checkWindow.same rfl)) (.ite (h.checkWindow.foldl (·.bar4Piece)) h.checkWindow.bar4Fail)))

theorem execBar4Timeout_keeps {tag : Nat} (h : Keeps steady b s) : KeepsOn steady b (execBar4Timeout tag s) := h.bar4Answer.on
theorem execBar4Resize_keeps {log2 : Nat} (h : Keeps steady b s) : KeepsOn steady b (execBar4Resize log2 s) := .next (.ite (h.same rfl) h)

theorem Keeps.answerHost {o : Order} {a : Nat} {bs : List Byte} {e : Ending} (h : Keeps steady b s) :
    Keeps steady b (s.answerHost o a bs e) :=
  .ite h.hostWrite.finish h.finish

theorem execNop_keeps {id : Nat} (h : Keeps steady b s) : KeepsOn steady b (execNop id s) := h.runOrder (fun k => k.checked (·.finish))
theorem execIdentify_keeps {id : Nat} (h : Keeps steady b s) : KeepsOn steady b (execIdentify id s) :=
  h.runOrder (fun k => k.checked (·.answerHost))
theorem execGetStatus_keeps {id : Nat} (h : Keeps steady b s) : KeepsOn steady b (execGetStatus id s) :=
  h.runOrder (fun k => k.checked (·.finish))

theorem Keeps.journalRead : ∀ {n first : Nat} {s : State}, Keeps steady b s → Keeps steady b (s.journalRead first n).1
  | 0, _, _, h => h
  | n + 1, first, s, h => by
    simp only [State.journalRead]
    split
    next e => exact h.readLocal.of_fst e
    · rename_i e
      split
      · rename_i e'
        exact (Keeps.journalRead (h.readLocal.of_fst e)).of_fst e'
      · rename_i e'
        exact (Keeps.journalRead (h.readLocal.of_fst e)).of_fst e'

theorem execJournalQuery_keeps {id : Nat} (h : Keeps steady b s) : KeepsOn steady b (execJournalQuery id s) := by
  simp only [execJournalQuery]
  refine h.runOrder (fun k => ?_)
  refine k.checked (fun k => ?_)
  split
  next e => exact (k.journalRead.of_fst e).finish
  next e => exact (k.journalRead.of_fst e).answerHost

theorem execFill_keeps {id : Nat} (h : Keeps steady b s) : KeepsOn steady b (execFill id s) := by
  simp only [execFill]
  refine h.runOrder (fun k => ?_)
  refine k.checked (fun k => ?_)
  split
  · exact k.finish
  · exact k.goTransfer

theorem execCopy_keeps {id : Nat} (h : Keeps steady b s) : KeepsOn steady b (execCopy id s) := by
  simp only [execCopy]
  refine h.runOrder (fun k => ?_)
  refine k.checked (fun k => ?_)
  split
  · exact k.finish
  · exact k.goTransfer

theorem execScrubDeclare_keeps {id : Nat} (h : Keeps steady b s) : KeepsOn steady b (execScrubDeclare id s) :=
  h.runOrder (fun k => k.checked (fun k' => .finish (k'.foldl (·.same rfl))))

end Sys2Proof.Machine
end

section
/-! What every command keeps: models, sync objects, slots and saved contexts. -/

namespace Sys2Proof.Machine

variable {steady : Prop} {b s : State}

theorem Keeps.fitOf {g : Image} {tableBytes : List Nat} {replicas : Nat} (h : Keeps steady b s) :
    Keeps steady b (s.fitOf g tableBytes replicas).1 := by
  simp only [State.fitOf]
  split
  · exact h
  · split
    · exact h
    · exact h.choose

theorem Keeps.workNext {α β : Type} {w : Work α} {f : State → α → Work β} (h : Keeps steady b w.1)
    (hf : ∀ {t : State} {a : α}, Keeps steady b t → Keeps steady b (f t a).1) : Keeps steady b (w.next f).1 := by
  simp only [Work.next]
  split
  · exact h
  · exact hf h

theorem Keeps.workCheck {α : Type} {f : Option ImageFault} {go : State → Work α} (h : Keeps steady b s)
    (hgo : ∀ {t : State}, Keeps steady b t → Keeps steady b (go t).1) : Keeps steady b (Work.check s f go).1 := by
  simp only [Work.check]
  split
  · exact h
  · exact hgo h

theorem Keeps.readFor {a len : Nat} (h : Keeps steady b s) : Keeps steady b (s.readFor a len).1 := by
  simp only [State.readFor]
  split
  next e => exact h.readLocal.of_fst e
  next e => exact h.readLocal.of_fst e

theorem Keeps.dropRemote {id : Nat} (h : Keeps steady b s) : Keeps steady b (s.dropRemote id) := h.same rfl

theorem Keeps.readHall {o : Order} {hall len byte : Nat} (h : Keeps steady b s) : Keeps steady b (s.readHall o hall len byte).1 := by
  simp only [State.readHall]
  split
  · exact h
  · split
    · split
      next e => exact h.readAccess.of_fst e
      next e => exact h.readAccess.of_fst e
    · split
      · exact h
      · split
        next e => exact h.sendRequest.of_fst e
        next e => exact h.sendRequest.of_fst e

theorem Keeps.readImage {address regionLen replicas : Nat} (h : Keeps steady b s) :
    Keeps steady b (s.readImage address regionLen replicas).1 := by
  simp only [State.readImage]
  refine h.readFor.workNext (fun k => ?_)
  refine k.workCheck (fun k => ?_)
  split
  · exact k
  · exact k.readFor.workNext (fun k' => k'.workCheck (fun k₂ => k₂.readFor.workNext (fun k₃ => k₃.workCheck (fun kk => kk))))

theorem Keeps.readPartMap {o : Order} {g : RawImage} {load : Bool} (h : Keeps steady b s) : Keeps steady b (s.readPartMap o g load).1 := by
  simp only [State.readPartMap]
  split
  · split <;> exact h
  · split
    · split <;> exact h
    · refine h.readHall.workNext (fun k => ?_)
      split
      · split
        · exact k
        · split <;> exact k
      · split
        · exact k
        · split <;> exact k

theorem Keeps.readPart {o : Order} {load : Bool} {hall len : Nat} (h : Keeps steady b s) :
    Keeps steady b (s.readPart o load hall len).1 := by
  simp only [State.readPart]
  refine h.readHall.workNext (fun k => ?_)
  split
  · exact k.uncorrectable
  · exact k

theorem Keeps.readSections {o : Order} {load : Bool} {hall : Nat} {dir : List (Nat × Nat)} : ∀ {ns : List Nat} {bs : List Byte}
    {new : List (Nat × Nat)} {s : State}, Keeps steady b s → Keeps steady b (s.readSections o load hall dir ns bs new).1
  | [], _, _, _, h => h
  | _ :: _, _, _, _, h => h.readPart.workNext fun k => k.readSections

theorem Keeps.readForeign {o : Order} {load : Bool} {hall : Nat} (h : Keeps steady b s) : Keeps steady b (s.readForeign o load hall).1 := by
  simp only [State.readForeign]
  refine h.readPart.workNext fun k => ?_
  split
  · exact k
  · exact k.readSections.workNext fun k' => k'

theorem Keeps.readForeigns {o : Order} {load : Bool} {own : Nat} : ∀ {ps : List (Nat × Nat × Nat)} {gs : List (Option RawImage)}
    {s : State}, Keeps steady b s → Keeps steady b (s.readForeigns o load own ps gs).1
  | [], _, _, h => h
  | _ :: _, _, _, h => by
    rw [State.readForeigns]
    split
    · exact Keeps.readForeigns h
    · exact h.readForeign.workNext Keeps.readForeigns

theorem Keeps.readModel {o : Order} {load : Bool} (h : Keeps steady b s) : Keeps steady b (s.readModel o load).1 := by
  simp only [State.readModel]
  refine h.readImage.workNext (fun k => ?_)
  refine k.readPartMap.workNext (fun k => ?_)
  refine .workNext ?_ (fun k => ?_)
  · split
    · exact k.readForeigns
    · exact k
  · refine k.workCheck (fun k => ?_)
    split <;> exact k

theorem Keeps.loadModel {n : Nat} {m : Loaded} {replicas : Nat} {f : FitReport} (h : Keeps steady b s) :
    Keeps steady b (s.loadModel n m replicas f) := by
  simp only [State.loadModel]
  refine .foldl (.foldl_fst ?_ fun k => ?_) fun k => ?_
  · exact .setSlot (h.nextFree.same rfl)
  · exact k.placeCluster
  · exact k.modCore.loaderWrote

theorem Keeps.conclude {α : Type} {o : Order} {w : Work α} {go : State → α → State} (h : Keeps steady b w.1)
    (hgo : ∀ {t : State} {a : α}, Keeps steady b t → Keeps steady b (go t a)) : Keeps steady b (State.conclude o w go) := by
  simp only [State.conclude]
  split
  · exact hgo (h.same rfl)
  · exact .finish (h.same rfl)
  · exact h

theorem Keeps.modelCheck {o : Order} (h : Keeps steady b s) : Keeps steady b (s.modelCheck o) :=
  h.checked (fun k => k.readModel.conclude (fun k' => k'.fitOf.finish))

theorem Keeps.modelLoad {o : Order} (h : Keeps steady b s) : Keeps steady b (s.modelLoad o) :=
  h.checked (fun k => k.inState (fun k' => .ite k'.finish (k'.readModel.conclude (fun k₂ => .ite k₂.fitOf.loadModel.finish
      k₂.fitOf.finish))))

theorem execModelCheck_keeps {id : Nat} (h : Keeps steady b s) : KeepsOn steady b (execModelCheck id s) := h.runOrder (·.modelCheck)
theorem execModelLoad_keeps {id : Nat} (h : Keeps steady b s) : KeepsOn steady b (execModelLoad id s) := h.runOrder (·.modelLoad)

theorem Keeps.syncAlloc {o : Order} (h : Keeps steady b s) : Keeps steady b (s.syncAlloc o) := by
  simp only [State.syncAlloc]
  refine h.checked (fun k => ?_)
  split
  · refine k.inState (fun k => ?_)
    split
    · exact k.finish
    · split
      · exact .finish (k.same rfl)
      · split
        · exact k.finish
        · exact .finish (k.same rfl)
  · split
    · exact k.finish
    · split
      · exact k.finish
      · split
        · exact k.finish
        · exact .finish (k.same rfl)

theorem execSyncAlloc_keeps {id : Nat} (h : Keeps steady b s) : KeepsOn steady b (execSyncAlloc id s) := h.runOrder (·.syncAlloc)

theorem Keeps.freeObjectAt {p : Nat × Nat} (h : Keeps steady b s) : Keeps steady b (s.freeObjectAt p) := by
  simp only [State.freeObjectAt]
  split
  · exact h
  · exact .foldl (h.same rfl) (·.finishId)

theorem Keeps.freeHandle {n handle : Nat} (h : Keeps steady b s) : Keeps steady b (s.freeHandle n handle) := by
  simp only [State.freeHandle]
  split
  · exact h
  · split
    · split
      · exact .ite (.freeObjectAt (h.same rfl)) (h.same rfl)
      · exact h.same rfl
    · exact h.same rfl

theorem Keeps.freeHandles {n : Nat} (h : Keeps steady b s) : Keeps steady b (s.freeHandles n) := h.foldl (·.freeHandle)

theorem execSyncFree_keeps {id : Nat} (h : Keeps steady b s) : KeepsOn steady b (execSyncFree id s) := by
  simp only [execSyncFree]
  refine h.runOrder (fun k => ?_)
  split
  · exact k.checked (fun k' => k'.inState (fun k₂ => .ite k₂.finish k₂.freeHandle.finish))
  · refine k.checked (fun k => ?_)
    refine .finish ?_
    split
    · exact k.freeObjectAt
    · exact k

theorem execSyncSignal_keeps {id : Nat} (h : Keeps steady b s) : KeepsOn steady b (execSyncSignal id s) := by
  simp only [execSyncSignal]
  refine h.runOrder (fun k => ?_)
  refine k.checked (fun k => ?_)
  split
  · exact k.signalArrive.finish
  · split
    next e => exact k.sendRequest.of_fst e
    next e => exact (k.sendRequest.of_fst e).finish

theorem execSyncWait_keeps {id : Nat} (h : Keeps steady b s) : KeepsOn steady b (execSyncWait id s) := by
  simp only [execSyncWait]
  refine h.runOrder (fun k => ?_)
  refine k.checked (fun k => ?_)
  split
  · exact k.waitArrive
  · split
    next e => exact k.sendRequest.of_fst e
    next e => exact (k.sendRequest.of_fst e).finish

theorem Keeps.syncWaitMode {o : Order} {word : Nat} (h : Keeps steady b s) : Keeps steady b (s.syncWaitMode o word) := by
  simp only [State.syncWaitMode]
  split
  · exact h.finish
  · split
    next e => exact h.sendRequest.of_fst e
    next e => exact (h.sendRequest.of_fst e).finish

theorem Keeps.workFields {α : Type} {fs : List (Nat × Bool)} {go : State → Work α} (h : Keeps steady b s)
    (hgo : ∀ {t : State}, Keeps steady b t → Keeps steady b (go t).1) : Keeps steady b (Work.fields s fs go).1 := by
  simp only [Work.fields]
  split
  · exact h
  · exact hgo h

theorem Keeps.readCurves {o : Order} {hall : Nat} (h : Keeps steady b s) : Keeps steady b (s.readCurves o hall).1 := by
  simp only [State.readCurves]
  refine h.readHall.workNext (fun k => ?_)
  split
  · exact k
  · refine k.readHall.workNext (fun k => ?_)
    split <;> exact k

theorem Keeps.readConfig {o : Order} (h : Keeps steady b s) : Keeps steady b (s.readConfig o).1 := by
  simp only [State.readConfig]
  refine h.readHall.workNext (fun k => ?_)
  refine k.workFields (fun k => ?_)
  refine .workNext ?_ (fun k' => k'.workFields (fun k₂ => k₂.workFields (fun k₃ => k₃)))
  split
  · exact k.readCurves.workNext (fun k' => k')
  · exact k

theorem Keeps.slotConfig {o : Order} (h : Keeps steady b s) : Keeps steady b (s.slotConfig o) :=
  h.checked (fun k => k.inState (fun k' => k'.readConfig.conclude (fun k₂ => .ite k₂.finish (.finish (k₂.same rfl)))))

theorem execSlotConfig_keeps {id : Nat} (h : Keeps steady b s) : KeepsOn steady b (execSlotConfig id s) := h.runOrder (·.slotConfig)

theorem Keeps.seedStreams {n : Nat} (h : Keeps steady b s) : Keeps steady b (s.seedStreams n) := by
  simp only [State.seedStreams]
  split
  · exact h
  · exact h.same rfl

theorem Keeps.unpark {n : Nat} (h : Keeps steady b s) : Keeps steady b (s.unpark n) := .foldl (h.same rfl) (·.stateArrive)

theorem Keeps.startSlot {n : Nat} (h : Keeps steady b s) : Keeps steady b (s.startSlot n) :=
  .limitStop (.tryLaunchSlot (.unpark (.ite (.prologue (.checkpointNow (.modSlot (.resetEpochObjects (.modSlotCores (.ite
      h.setSlot.seedStreams h.setSlot)))))) (.modSlotCores (.ite h.setSlot.seedStreams h.setSlot)))))

theorem Keeps.slotStart {o : Order} (h : Keeps steady b s) : Keeps steady b (s.slotStart o) :=
  h.checked (fun k => k.inState (fun k' => .ite k'.finish (.ite (k'.same rfl) k'.finish.startSlot)))

theorem execSlotStart_keeps {id : Nat} (h : Keeps steady b s) : KeepsOn steady b (execSlotStart id s) := h.runOrder (·.slotStart)
theorem Keeps.beginStop {n : Nat} {d : Drain} (h : Keeps steady b s) : Keeps steady b (s.beginStop n d) := .toParts (h.same rfl)

theorem Keeps.takeOver {n : Nat} {orders : List Nat} {disable : Option Nat} (h : Keeps steady b s) :
    Keeps steady b (s.takeOver n orders disable) :=
  (h.foldl (·.finishId)).beginStop

theorem execSlotStop_keeps {id : Nat} (h : Keeps steady b s) : KeepsOn steady b (execSlotStop id s) := by
  simp only [execSlotStop]
  refine h.runOrder (fun k => ?_)
  refine k.checked (fun k => ?_)
  split
  · exact k.beginStop
  · exact .ite k.takeOver (k.same rfl)
  · exact k.finish
  · exact k.finish

theorem Keeps.abortOrders {n seq : Nat} (h : Keeps steady b s) : Keeps steady b (s.abortOrders n seq) :=
  h.foldl (fun k => .finish (.dropRemote (.ite k.modSlot k.withdraw)))

theorem execSlotDisable_keeps {id : Nat} (h : Keeps steady b s) : KeepsOn steady b (execSlotDisable id s) := by
  simp only [execSlotDisable]
  refine h.runOrder (fun k => ?_)
  refine k.checked (fun k => ?_)
  split
  · exact k.finish
  · exact k.finish
  · exact k.abortOrders.beginStop
  · exact .ite k.abortOrders.takeOver (k.abortOrders.same rfl)
  · exact .finish (k.abortOrders.same rfl)

theorem execSlotEnable_keeps {id : Nat} (h : Keeps steady b s) : KeepsOn steady b (execSlotEnable id s) :=
  h.runOrder (fun k => k.checked (fun k' => k'.inState (fun k₂ => .finish (.ite (k₂.same rfl) (k₂.same rfl)))))

theorem execLockstepBegin_keeps {id : Nat} (h : Keeps steady b s) : KeepsOn steady b (execLockstepBegin id s) := by
  simp only [execLockstepBegin]
  refine h.runOrder (fun k => ?_)
  refine k.checked (fun k => ?_)
  refine k.inState (fun k => ?_)
  split
  · split
    · exact k.finish
    · split
      · exact k.finish
      · split
        · exact k.finish
        · split
          · exact .helloCompare (k.same rfl)
          · exact k.same rfl
  · split
    · exact k.finish
    · split
      · exact k.finish
      · split
        · exact k.finish
        · split
          · exact .helloCompare (k.same rfl)
          · exact k.same rfl

theorem Keeps.endLock {n : Nat} (h : Keeps steady b s) : Keeps steady b (s.endLock n) := by
  simp only [State.endLock]
  split
  · exact h
  · split
    · exact .ite h.modSlot.finishId.send h.modSlot.finishId
    · exact .ite h.modSlot.send h.modSlot

theorem execLockstepEnd_keeps {id : Nat} (h : Keeps steady b s) : KeepsOn steady b (execLockstepEnd id s) := by
  simp only [execLockstepEnd]
  refine h.runOrder (fun k => ?_)
  refine k.checked (fun k => ?_)
  split
  · exact k.finish
  · exact .ite k.finish k.endLock.finish.tryLaunchSlot

theorem Keeps.unloadSlot {n : Nat} (h : Keeps steady b s) : Keeps steady b (s.unloadSlot n) := h.freeHandles.endLock.same rfl

theorem execModelUnload_keeps {id : Nat} (h : Keeps steady b s) : KeepsOn steady b (execModelUnload id s) :=
  h.runOrder (fun k => k.checked (fun k' => k'.inState (fun k₂ => k₂.unloadSlot.finish)))

theorem execSlotSave_keeps {id : Nat} (h : Keeps steady b s) : KeepsOn steady b (execSlotSave id s) := by
  simp only [execSlotSave]
  refine h.runOrder (fun k => ?_)
  refine k.checked (fun k => ?_)
  refine k.inState (fun k => ?_)
  split
  · exact k.finish
  · exact k.finish
  · exact k.putWhole.putWhole.finish

theorem Keeps.restoreContext {n : Nat} {g : Image} {c : List Byte} (h : Keeps steady b s) : Keeps steady b (s.restoreContext n g c) := by
  simp only [State.restoreContext]
  have renewed : Keeps steady b (s.renewFoldArea n).nextFree.2 := h.same rfl
  exact renewed.setSlot.restartAt.checkpointNow

theorem Keeps.readContext {o : Order} {g : Image} (h : Keeps steady b s) : Keeps steady b (s.readContext o g).1 := by
  simp only [State.readContext]
  refine h.readHall.workNext (fun k => ?_)
  split
  · exact k
  · refine k.readHall.workNext (fun k => ?_)
    split <;> exact k

theorem execSlotRestore_keeps {id : Nat} (h : Keeps steady b s) : KeepsOn steady b (execSlotRestore id s) := by
  simp only [execSlotRestore]
  refine h.runOrder (fun k => ?_)
  refine k.checked (fun k => ?_)
  refine k.inState (fun k => ?_)
  split
  · exact k.finish
  · exact k.readContext.conclude (fun k' => .ite k'.finish k'.restoreContext.finish)

end Sys2Proof.Machine
end

section
/-! What every command keeps: results, signatures and the entropy source. -/

namespace Sys2Proof.Machine

variable {steady : Prop} {b s : State}

theorem Keeps.sampleRecords {x : Slot} {g : Image} {k : Nat} : ∀ {n q : Nat} {s : State}, Keeps steady b s →
    Keeps steady b (s.sampleRecords x g k q n).1
  | 0, _, _, h => h
  | n + 1, q, s, h => by
    simp only [State.sampleRecords]
    split
    next e => exact h.readLocal.of_fst e
    · rename_i e
      split
      · rename_i e'
        exact (Keeps.sampleRecords (h.readLocal.of_fst e)).of_fst e'
      · rename_i e'
        exact (Keeps.sampleRecords (h.readLocal.of_fst e)).of_fst e'

theorem execSampleRead_keeps {id : Nat} (h : Keeps steady b s) : KeepsOn steady b (execSampleRead id s) := by
  simp only [execSampleRead]
  refine h.runOrder (fun k => ?_)
  refine k.checked (fun k => ?_)
  refine k.inState (fun k => ?_)
  split
  · exact k.finish
  · split
    next e => exact (k.sampleRecords.of_fst e).finish
    next e => exact (k.sampleRecords.of_fst e).answerHost

theorem execStatsRead_keeps {id : Nat} (h : Keeps steady b s) : KeepsOn steady b (execStatsRead id s) := by
  simp only [execStatsRead]
  refine h.runOrder (fun k => ?_)
  refine k.checked (fun k => ?_)
  refine k.inState (fun k => ?_)
  split
  next e => exact (k.readLocal.of_fst e).finish
  next e => exact (k.readLocal.of_fst e).answerHost

theorem Keeps.askSignature {o : Order} {attest : Bool} (h : Keeps steady b s) : Keeps steady b (s.askSignature o attest) :=
  .ite h.finish (.ite h.finish (h.same rfl))

theorem execResultSeal_keeps {id : Nat} (h : Keeps steady b s) : KeepsOn steady b (execResultSeal id s) :=
  h.runOrder (fun k => k.checked (fun k' => k'.inState (fun k₂ => .ite (.ite k₂.askSignature k₂.finish) k₂.answerHost)))

theorem execAttest_keeps {id : Nat} (h : Keeps steady b s) : KeepsOn steady b (execAttest id s) :=
  h.runOrder (fun k => k.checked (·.askSignature))

theorem execSignatureDone_keeps {signature : List Byte} (h : Keeps steady b s) : KeepsOn steady b (execSignatureDone signature s) := by
  simp only [execSignatureDone]
  refine .next ?_
  split
  · exact h
  · split
    · exact h
    · exact h.same rfl
    · exact .ite h (.ite (.answerHost (h.same rfl)) (.answerHost (h.same rfl)))

theorem execKeyInfo_keeps {id : Nat} (h : Keeps steady b s) : KeepsOn steady b (execKeyInfo id s) :=
  h.runOrder (fun k => k.checked (·.answerHost))
theorem Keeps.failRequests {status : Nat} (h : Keeps steady b s) : Keeps steady b (s.failRequests status) :=
  .foldl (h.same rfl) (·.finishId)
theorem Keeps.failSalts (h : Keeps steady b s) : Keeps steady b s.failSalts := .foldl (h.same rfl) (·.finishId)
theorem Keeps.releaseEntropy (h : Keeps steady b s) : Keeps steady b s.releaseEntropy := .ite h (.raise (h.same rfl))
theorem Keeps.faultEntropy (h : Keeps steady b s) : Keeps steady b s.faultEntropy :=
  .ite h (.failSalts (.failRequests (.raise (h.same rfl))))
theorem Keeps.parityEntropy (h : Keeps steady b s) : Keeps steady b s.parityEntropy := .failRequests (.parityReport (h.same rfl))

theorem execEntropyStartupRound_keeps {blocks : List (List RawBlock)} (h : Keeps steady b s) :
    KeepsOn steady b (execEntropyStartupRound blocks s) :=
  .next (.ite h.parityEntropy (.ite h (.ite (.releaseEntropy (h.same rfl)) (.ite (.faultEntropy (h.same rfl)) (h.same rfl)))))

theorem Keeps.goodBlock {pair : Nat} {val : RawBlock} (h : Keeps steady b s) : Keeps steady b (s.goodBlock pair val) := by
  simp only [State.goodBlock]
  have kept : Keeps steady b (State.releaseEntropy { s with entropy := { s.entropy with discards := s.entropy.discards.put pair 0 } }) :=
    Keeps.releaseEntropy (h.same rfl)
  split
  · exact kept.same rfl
  · exact kept

theorem Keeps.badBlock {pair : Nat} {val : RawBlock} (h : Keeps steady b s) : Keeps steady b (s.badBlock pair val) :=
  .ite (.faultEntropy (h.same rfl)) (h.same rfl)

theorem execEntropyBlock_keeps {pair : Nat} {block : RawBlock} (h : Keeps steady b s) : KeepsOn steady b (execEntropyBlock pair block s) :=
  .unit h (.next (.ite h.parityEntropy (.ite h (.ite (.goodBlock (h.same rfl)) (.badBlock (h.same rfl))))))

theorem Keeps.giveSeed {id : Nat} {out : List Byte} (h : Keeps steady b s) : Keeps steady b (s.giveSeed id out) := by
  simp only [State.giveSeed]
  split
  · exact h
  · exact .ite h.finish (.answerHost (.ite (h.same rfl) h))

theorem Keeps.giveBytes {id need : Nat} {got out : List Byte} {rest : List EntReq} (h : Keeps steady b s) :
    Keeps steady b (s.giveBytes id need got out rest) := by
  simp only [State.giveBytes]
  split
  · exact h.same rfl
  · split
    · exact .answerHost (h.same rfl)
    · exact h.same rfl

theorem execEntropyServe_keeps (h : Keeps steady b s) : KeepsOn steady b (execEntropyServe s) := by
  simp only [execEntropyServe]
  refine .next ?_
  split
  · exact h
  · split
    · exact h.parityEntropy
    · split
      · exact h
      · split
        · exact h.same rfl
        · exact h.same rfl
        · exact .giveBytes (h.same rfl)
        · exact .giveSeed (h.same rfl)
        · exact h.same rfl

theorem Keeps.askEntropy {o : Order} {r : EntReq} (h : Keeps steady b s) : Keeps steady b (s.askEntropy o r) :=
  .ite h.finish (.ite h.finish (.ite h.finish (h.same rfl)))

theorem execEntropyGet_keeps {id : Nat} (h : Keeps steady b s) : KeepsOn steady b (execEntropyGet id s) :=
  h.runOrder (fun k => k.checked (·.askEntropy))

theorem execSeedFromEntropy_keeps {id : Nat} (h : Keeps steady b s) : KeepsOn steady b (execSeedFromEntropy id s) :=
  h.runOrder (fun k => k.checked (fun k' => .ite k'.finish k'.askEntropy))

theorem Keeps.setHold {hold : Bool} (h : Keeps steady b s) : Keeps steady b (s.setHold hold) := .ite (h.same rfl) (.ite h (h.same rfl))

end Sys2Proof.Machine
end

section
/-! What every command keeps: the fabric, the mesh, the watchdog and the memory stations. -/

namespace Sys2Proof.Machine

variable {steady : Prop} {b s : State}

theorem Keeps.endFences (h : Keeps steady b s) : Keeps steady b s.endFences := h.same rfl
theorem execRemoteFence_keeps {unit : Nat} (h : Keeps steady b s) : KeepsOn steady b (execRemoteFence unit s) := .next (.ite h (h.same rfl))

theorem Keeps.goRead {o : Order} {hall byte : Nat} {r : RStatus} {bs : List Byte} {go : State → Order → State} (h : Keeps steady b s)
    (hgo : ∀ {t : State} {o : Order}, Keeps steady b t → Keeps steady b (go t o)) : Keeps steady b (s.goRead o hall byte r bs go) :=
  .ite (hgo (h.same rfl)) (.finish (h.same rfl))

theorem Keeps.orderAnswer {id : Nat} {t : Tracker} {r : RStatus} {value : Nat} {bs : List Byte} (h : Keeps steady b s) :
    Keeps steady b (s.orderAnswer id t r value bs) := by
  simp only [State.orderAnswer]
  split
  · exact h
  · split
    · exact h.transferAnswer
    · exact h.transferAnswer
    · exact h.goRead (·.modelCheck)
    · exact h.goRead (·.modelLoad)
    · exact h.goRead (·.slotConfig)
    · exact h.finish
    · exact .ite h.syncWaitMode h.finish
    · exact h

theorem Keeps.coreSignalled {c e : Nat} (h : Keeps steady b s) : Keeps steady b (s.coreSignalled c e) := by
  simp only [State.coreSignalled]
  split
  · exact .ite h.retire h
  · exact h

theorem Keeps.completeRequest {t : Tracker} {r : RStatus} {value : Nat} {bs : List Byte} (h : Keeps steady b s) :
    Keeps steady b (s.completeRequest t r value bs) := by
  simp only [State.completeRequest]
  refine .endFences ?_
  split
  · exact .bar4Answer (.ite (h.same rfl) (.startHeld (.modPort (h.same rfl))))
  · split
    · exact .orderAnswer (.ite (h.same rfl) (.startHeld (.modPort (h.same rfl))))
    · split
      · exact .coreSignalled (.ite (h.same rfl) (.startHeld (.modPort (h.same rfl))))
      · exact .ite (h.same rfl) (.startHeld (.modPort (h.same rfl)))

theorem Keeps.completeTag {tag : Nat} {r : RStatus} {value : Nat} {bs : List Byte} (h : Keeps steady b s) :
    Keeps steady b (s.completeTag tag r value bs) := by
  simp only [State.completeTag]
  split
  · exact h.completeRequest
  · exact h

theorem Keeps.answerRequest {r : Request} {status : RStatus} {value : Nat} {bs : List Byte} (h : Keeps steady b s) :
    Keeps steady b (s.answerRequest r status value bs) :=
  .ite h (.ite h.completeTag (h.same rfl))

theorem Keeps.dropPacket {p : FabricPacket} {detail : Nat} (h : Keeps steady b s) : Keeps steady b (s.dropPacket p detail) := by
  simp only [State.dropPacket]
  split
  · exact h.answerRequest
  · exact h

theorem Keeps.deliverPoisoned {m : Msg} (h : Keeps steady b s) : Keeps steady b (s.deliverPoisoned m) := by
  simp only [State.deliverPoisoned]
  split
  · exact h.answerRequest
  · exact h.same rfl
  · split
    · exact .ite h.rollback h
    · exact h.contained

theorem Keeps.deliver {p : FabricPacket} {arrival : Option Nat} (h : Keeps steady b s) : Keeps steady b (s.deliver p arrival) := by
  simp only [State.deliver]
  split
  · exact h.deliverPoisoned
  · split
    · exact .ite (h.same rfl) (h.same rfl)
    · exact h.same rfl

theorem Keeps.leavesBy {m : Msg} {port : Nat} (h : Keeps steady b s) : Keeps steady b (s.leavesBy m port) := by
  simp only [State.leavesBy]
  split
  · exact .ite h (h.same rfl)
  · exact h

theorem Keeps.transmit {p : FabricPacket} {port : Nat} (h : Keeps steady b s) : Keeps steady b (s.transmit p port) :=
  .ite (.dropPacket (h.same rfl)) (h.leavesBy.same rfl)

theorem Keeps.dropHead {port : Nat} (h : Keeps steady b s) : Keeps steady b (s.dropHead port) := .contained (h.same rfl)

theorem Keeps.routePacket {p : FabricPacket} {arrival : Option Nat} (h : Keeps steady b s) : Keeps steady b (s.routePacket p arrival) := by
  simp only [State.routePacket]
  split
  · exact h.deliver
  · split
    · exact h.deliver
    · exact h.transmit
    · refine .dropPacket ?_
      split
      · exact h.same rfl
      · exact h

theorem Keeps.injectPacket {dest : Nat} {poison : Bool} {m : Msg} (h : Keeps steady b s) :
    Keeps steady b (s.injectPacket dest poison m) := by
  simp only [State.injectPacket]
  split
  · exact h
  · split
    · exact .dropHead (.ite (h.same rfl) (h.same rfl))
    · exact .routePacket (.ite (h.same rfl) (h.same rfl))

theorem Keeps.forwardPacket {port dest hops : Nat} {poison : Bool} {m : Msg} (h : Keeps steady b s) :
    Keeps steady b (s.forwardPacket port dest hops poison m) := by
  simp only [State.forwardPacket]
  split
  · exact .ite (.routePacket (h.same rfl)) h
  · exact h

theorem execPacketRoute_keeps {port destModule hops : Nat} {poison : Bool} {m : Msg} (h : Keeps steady b s) :
    KeepsOn steady b (execPacketRoute port destModule hops poison m s) :=
  .unit h (.next (.ite h.injectPacket h.forwardPacket))

theorem Keeps.serveRemote {op : RemoteOp} {r : Request} (h : Keeps steady b s) : Keeps steady b (s.serveRemote op r) :=
  .ite h h.accept.serve.answerRequest

theorem execRemoteRead_keeps {r : Request} (h : Keeps steady b s) : KeepsOn steady b (execRemoteRead r s) := h.serveRemote.on
theorem execRemoteWrite_keeps {r : Request} (h : Keeps steady b s) : KeepsOn steady b (execRemoteWrite r s) := h.serveRemote.on
theorem execRemoteAdd_keeps {r : Request} (h : Keeps steady b s) : KeepsOn steady b (execRemoteAdd r s) := h.serveRemote.on
theorem execRemoteMaxu_keeps {r : Request} (h : Keeps steady b s) : KeepsOn steady b (execRemoteMaxu r s) := h.serveRemote.on
theorem execRemoteMaxs_keeps {r : Request} (h : Keeps steady b s) : KeepsOn steady b (execRemoteMaxs r s) := h.serveRemote.on
theorem execRemoteCas_keeps {r : Request} (h : Keeps steady b s) : KeepsOn steady b (execRemoteCas r s) := h.serveRemote.on
theorem execRemoteBulkRead_keeps {r : Request} (h : Keeps steady b s) : KeepsOn steady b (execRemoteBulkRead r s) := h.serveRemote.on
theorem execRemoteBulkWrite_keeps {r : Request} (h : Keeps steady b s) : KeepsOn steady b (execRemoteBulkWrite r s) := h.serveRemote.on
theorem execRemoteSignal_keeps {r : Request} (h : Keeps steady b s) : KeepsOn steady b (execRemoteSignal r s) := h.serveRemote.on
theorem execRemoteWaitReg_keeps {r : Request} (h : Keeps steady b s) : KeepsOn steady b (execRemoteWaitReg r s) := h.serveRemote.on

theorem execRemoteResponse_keeps {r : Response} (h : Keeps steady b s) : KeepsOn steady b (execRemoteResponse r s) :=
  .next (.ite h (.ite (.completeTag (h.same rfl)) (.ite (h.same rfl) (h.same rfl))))

theorem execRequestTimeout_keeps {tag : Nat} (h : Keeps steady b s) : KeepsOn steady b (execRequestTimeout tag s) := h.completeTag.on

theorem Keeps.applyBroadcast {r : Request} (h : Keeps steady b s) : Keeps steady b (s.applyBroadcast r) := by
  simp only [State.applyBroadcast]
  split
  · exact .ite h.serve h.serve.logError
  · exact .ite h h.logError

theorem execBroadcastReceive_keeps {port : Nat} {r : Request} {hops : Nat} (h : Keeps steady b s) :
    KeepsOn steady b (execBroadcastReceive port r hops s) :=
  .unit h (.next (.ite h (h.arrive.applyBroadcast.foldl (·.transmit)).endFences))

theorem Keeps.setInput {k i : Nat} {val : List HeldPacket} (h : Keeps steady b s) : Keeps steady b (s.setInput k i val) := h.same rfl

theorem Keeps.dropPayload {p : Packet} (h : Keeps steady b s) : Keeps steady b (s.dropPayload p) := by
  simp only [State.dropPayload]
  split
  · exact h.same rfl
  · exact h

theorem Keeps.checkFlits {k i : Nat} {p : Packet} (h : Keeps steady b s) : Keeps steady b (s.checkFlits k i p).1 := by
  simp only [State.checkFlits]
  split
  · exact .dropPayload (.contained (.ite (h.same rfl) (.correctedError (h.same rfl))))
  · exact .ite (h.same rfl) (.correctedError (h.same rfl))

theorem Keeps.leaveMesh {k : Nat} {p : Packet} (h : Keeps steady b s) : Keeps steady b (s.leaveMesh k p) := by
  simp only [State.leaveMesh]
  split
  · exact .ite h h.modCluster.count
  · exact .ite (.deliverPoisoned (.arrive (.ite h h.modCluster.count))) (.modCluster (.ite (.ite h h.modCluster.count) (.send (.ite h
        h.modCluster.count))))

theorem Keeps.sendOne {k out : Nat} (h : Keeps steady b s) : Keeps steady b (s.sendOne k out) := by
  simp only [State.sendOne]
  split
  · exact h
  · split
    · exact h.setInput.modCluster.count.setInput
    · exact h.setInput.modCluster.count.leaveMesh

theorem Keeps.checkHere {k i : Nat} {p : Packet} {hd : HeldPacket} (h : Keeps steady b s) : Keeps steady b (s.checkHere k i p hd) := by
  simp only [State.checkHere]
  split
  next e => exact (h.checkFlits.of_fst e).same rfl
  next e => exact .sendOne ((h.checkFlits.of_fst e).same rfl)

theorem Keeps.routerPacket {k i : Nat} {p : Packet} (h : Keeps steady b s) : Keeps steady b (s.routerPacket k i p) := by
  simp only [State.routerPacket]
  split
  · exact h.checkHere
  · split
    · exact h.sendOne
    · split
      · exact .ite h.count h
      · split
        next e => exact h.checkFlits.of_fst e
        next e => exact .sendOne ((h.checkFlits.of_fst e).same rfl)

theorem execRouterPacket_keeps {cluster input : Nat} {pkt : Packet} (h : Keeps steady b s) :
    KeepsOn steady b (execRouterPacket cluster input pkt s) :=
  .unit h (.next (.ite h.routerPacket h))

theorem Keeps.colander {c : Nat} {item : ColanderItem} (h : Keeps steady b s) : Keeps steady b (s.colander c item) := by
  simp only [State.colander]
  split
  · exact h
  · exact .ite (.answerRequest (h.accept.same rfl)) h
  · exact h.accept.colanderNotice
  · exact h.accept.colanderNotice
  · exact h.same rfl
  · exact h
  · exact h.same rfl

theorem execColanderPacket_keeps {core : Nat} {item : ColanderItem} (h : Keeps steady b s) :
    KeepsOn steady b (execColanderPacket core item s) :=
  .unit h (.next (.ite h.colander h))

theorem execFencedNotice_keeps {cluster core slot : Nat} (h : Keeps steady b s) : KeepsOn steady b (execFencedNotice cluster core slot s) :=
  .unit h h.accept.on

theorem Keeps.watchdog (h : Keeps steady b s) : Keeps steady b s.watchdog := .foldl (.foldl (h.same rfl) (·.same rfl)) (·.same rfl)
theorem execWatchdogTick_keeps (h : Keeps steady b s) : KeepsOn steady b (execWatchdogTick s) := .next (.ite h.watchdog h)
theorem execCoreHandshake_keeps {core : Nat} (h : Keeps steady b s) : KeepsOn steady b (execCoreHandshake core s) :=
  .unit h (.next (.ite h.coreFault h))

theorem execRouterHandshake_keeps {cluster part : Nat} (h : Keeps steady b s) : KeepsOn steady b (execRouterHandshake cluster part s) :=
  .unit h (.next (.ite h.fatalError h))

theorem execAgentTickTimeout_keeps {cluster : Nat} (h : Keeps steady b s) : KeepsOn steady b (execAgentTickTimeout cluster s) :=
  .unit h (.next (.ite h.fatalError h))

theorem execMemoryRead_keeps {address : Nat} (h : Keeps steady b s) : KeepsOn steady b (execMemoryRead address s) := by
  simp only [execMemoryRead]
  refine .next ?_
  split
  · exact h.same rfl
  · split
    · exact h
    · split
      next e => exact (h.tracked.readUnit.of_fst e).same rfl
      next e => exact (h.tracked.readUnit.of_fst e).same rfl

theorem execMemoryWrite_keeps {address : Nat} {bytes : List Byte} (h : Keeps steady b s) :
    KeepsOn steady b (execMemoryWrite address bytes s) :=
  .next (.ite (h.same rfl) (.ite h (h.writeLocal.same rfl)))

theorem Keeps.scrubUnit {a : Nat} (h : Keeps steady b s) : Keeps steady b (s.scrubUnit a).1 := by
  simp only [State.scrubUnit]
  split
  · exact h.readUnit
  · exact h.uncorrectable

theorem Keeps.scrubLine {n a : Nat} (h : Keeps steady b s) : Keeps steady b (s.scrubLine n a) := by
  simp only [State.scrubLine]
  split
  next e => exact h.scrubUnit.of_fst e
  next e => exact (h.scrubUnit.of_fst e).same rfl

theorem Keeps.endLap {n : Nat} (h : Keeps steady b s) : Keeps steady b (s.endLap n) := h.same rfl

theorem Keeps.scrub {n : Nat} (h : Keeps steady b s) : Keeps steady b (s.scrub n) := by
  simp only [State.scrub]
  split
  · exact h.modStation
  · split
    · exact h.setStation.endLap
    · exact .ite h.setStation.scrubLine.modStation.endLap h.setStation.scrubLine.modStation

theorem execScrubRead_keeps {station : Nat} (h : Keeps steady b s) : KeepsOn steady b (execScrubRead station s) :=
  .unit h (.next (.ite h.scrub h))

end Sys2Proof.Machine
end

section
/-! What every command keeps: fabric ports and their frames. -/

namespace Sys2Proof.Machine

variable {steady : Prop} {b s : State}

theorem Keeps.rejectStrobe {reason domain inst : Nat} (h : Keeps steady b s) : Keeps steady b (s.rejectStrobe reason domain inst) :=
  .raise (h.same rfl)
theorem Keeps.countLocked (h : Keeps steady b s) : Keeps steady b s.countLocked := h.same rfl

theorem Keeps.writeStored {key v : Nat} {buffered : Option (Nat × Nat)} (h : Keeps steady b s) :
    Keeps steady b (s.writeStored key v buffered) := by
  simp only [State.writeStored]
  split <;> exact h.same rfl

theorem Keeps.settlePorts (h : Keeps steady b s) : Keeps steady b s.settlePorts :=
  .ite (.foldl (.foldl (h.same rfl) (·.finishId)) (·.finishId)) (.foldl (h.same rfl) (·.finishId))

theorem Keeps.enterPort {p : Nat} {st : PortState} (h : Keeps steady b s) : Keeps steady b (s.enterPort p st) :=
  .ite (.raise (h.same rfl)) (h.same rfl)
theorem Keeps.linkLoss {p : Nat} (h : Keeps steady b s) : Keeps steady b (s.linkLoss p) :=
  h.logError.foldl (fun k => .ite k.slotFault k.rollback)
theorem Keeps.lockLost {p : Nat} (h : Keeps steady b s) : Keeps steady b (s.lockLost p) := .foldl (h.same rfl) (fun k => .ite k.lockHalt k)

theorem Keeps.rerouteHeld {t : Tracker} (h : Keeps steady b s) : Keeps steady b (s.rerouteHeld t) := by
  simp only [State.rerouteHeld]
  split
  · exact .startHeld (h.same rfl)
  · exact h.completeRequest
  · exact h

theorem Keeps.portLoss {p : Nat} {x : Port} (h : Keeps steady b s) : Keeps steady b (s.portLoss p x) :=
  ((((h.foldl (·.routePacket)).foldl (·.routePacket)).foldl (·.rerouteHeld)).foldl (·.completeTag)).linkLoss.lockLost

theorem Keeps.stopPort {p : Nat} {st : PortState} {reason : Nat} (h : Keeps steady b s) : Keeps steady b (s.stopPort p st reason) :=
  .settlePorts (.ite (.portLoss (.enterPort (h.same rfl))) (.enterPort (h.same rfl)))

theorem Keeps.portDown {p reason : Nat} (h : Keeps steady b s) : Keeps steady b (s.portDown p reason) := h.stopPort
theorem Keeps.startAuth {p : Nat} (h : Keeps steady b s) : Keeps steady b (s.startAuth p) := h.modPort.enterPort.same rfl
theorem Keeps.bringUp {p : Nat} (h : Keeps steady b s) : Keeps steady b (s.bringUp p) :=
  .ite (.startAuth (h.same rfl)) (.enterPort (h.same rfl))
theorem Keeps.checkPort {p : Nat} (h : Keeps steady b s) : Keeps steady b (s.checkPort p) := .ite h.parityReport.stopPort h

theorem execCordPresent_keeps {port kind : Nat} (h : Keeps steady b s) : KeepsOn steady b (execCordPresent port kind s) :=
  .unit h (.next (.ite h (.ite (.startAuth (h.same rfl)) (h.same rfl))))

theorem execCordRemoved_keeps {port : Nat} (h : Keeps steady b s) : KeepsOn steady b (execCordRemoved port s) :=
  .unit h (.next (.ite h (.ite (h.same rfl) (.ite (.stopPort (h.same rfl)) (.linkLoss (.stopPort (h.same rfl)))))))

theorem Keeps.logCord {p : Nat} {r : List Byte} (h : Keeps steady b s) : Keeps steady b (s.logCord p r) := h.mgLog
theorem Keeps.authFail {p cause : Nat} (h : Keeps steady b s) : Keeps steady b (s.authFail p cause) := .portDown (h.same rfl)

theorem Keeps.authDone {p : Nat} {r : List Byte} (h : Keeps steady b s) : Keeps steady b (s.authDone p r) :=
  .ite (.portDown (h.same rfl)) (.enterPort (.logCord (h.same rfl)))

theorem execCordAnswer_keeps {port : Nat} {answer : CordAnswer} (h : Keeps steady b s) : KeepsOn steady b (execCordAnswer port answer s) :=
  .unit h (.next (.ite h (.ite h.authFail (.ite (h.parityReport.same rfl) h.authDone))))

theorem execCordNoAnswer_keeps {port : Nat} (h : Keeps steady b s) : KeepsOn steady b (execCordNoAnswer port s) :=
  .unit h (.next (.ite h.authFail h))

theorem execCordRecordPoll_keeps {port : Nat} {record : List Byte} (h : Keeps steady b s) :
    KeepsOn steady b (execCordRecordPoll port record s) :=
  .unit h (.next (.ite h (.ite h.contained (.ite (h.same rfl) (.ite (.parityReport (.logCord (h.same rfl))) (.ite (.mgRaise (.raise
      (.logCord (h.same rfl)))) (.logCord (h.same rfl))))))))

theorem execVcordOvercurrent_keeps {port : Nat} (h : Keeps steady b s) : KeepsOn steady b (execVcordOvercurrent port s) :=
  .unit h (.next (.ite h (.contained (h.same rfl))))

theorem execLanesTrained_keeps {port lanes : Nat} (h : Keeps steady b s) : KeepsOn steady b (execLanesTrained port lanes s) :=
  .unit h (.next (.ite h (h.checkPort.same rfl)))

theorem execTrainFail_keeps {port : Nat} (h : Keeps steady b s) : KeepsOn steady b (execTrainFail port s) :=
  .unit h (.next (.ite (.portDown (h.same rfl)) h))

theorem Keeps.retrain {p : Nat} {full : Bool} (h : Keeps steady b s) : Keeps steady b (s.retrain p full) :=
  .enterPort (.setPort (.ite h h.nextFree))

theorem execLaneLockLoss_keeps {port lane : Nat} (h : Keeps steady b s) : KeepsOn steady b (execLaneLockLoss port lane s) :=
  .unit h (.next (.ite (.retrain (h.same rfl)) h))

theorem execRetrainDone_keeps {port lanes : Nat} (h : Keeps steady b s) : KeepsOn steady b (execRetrainDone port lanes s) :=
  .unit h (.next (.ite h (.ite (h.checkPort.same rfl) (.settlePorts (.enterPort (h.checkPort.same rfl))))))

theorem execRetrainFail_keeps {port : Nat} (h : Keeps steady b s) : KeepsOn steady b (execRetrainFail port s) :=
  .unit h (.next (.ite (.portDown (h.same rfl)) h))

theorem execPeerDisabled_keeps {port : Nat} (h : Keeps steady b s) : KeepsOn steady b (execPeerDisabled port s) :=
  .unit h (.next (.ite h.portDown h))

theorem Keeps.strobePort {p v : Nat} (h : Keeps steady b s) : Keeps steady b (s.strobePort p v).1 := by
  simp only [State.strobePort]
  split
  · split
    · exact h.rejectStrobe
    · split
      · exact h.same rfl
      · exact .ite (.bringUp (.same (.ite h h.stopPort) rfl)) (.same (.ite h h.stopPort) rfl)
  · split
    · exact h.writeStored.rejectStrobe
    · split
      · exact h.writeStored.same rfl
      · exact .ite (.bringUp (.same (.ite h.writeStored h.writeStored.stopPort) rfl)) (.same (.ite h.writeStored
            h.writeStored.stopPort) rfl)

theorem execFabricConfig_keeps {id : Nat} (h : Keeps steady b s) : KeepsOn steady b (execFabricConfig id s) := by
  simp only [execFabricConfig]
  refine h.runOrder fun k => k.checked fun k' => ?_
  have strobed {want : Nat → Nat} {ports : List Nat} {t : State} (ht : Keeps steady b t) : Keeps steady b (ports.foldl (fun (a :
    State × Bool) p =>
      ((a.1.strobePort p (want p)).1, a.2 && (a.1.strobePort p (want p)).2)) (t, true)).1 := Keeps.foldl_fst ht (·.strobePort)
  refine .ite k'.countLocked.finish (.ite k'.finish (.ite (.finish (strobed ?_)) (.ite (.settlePorts (.same (strobed ?_) rfl)) (.finish
      (strobed ?_)))))
  all_goals exact .ite (k'.same rfl) k'

theorem execRouteLoad_keeps {id : Nat} (h : Keeps steady b s) : KeepsOn steady b (execRouteLoad id s) := by
  simp only [execRouteLoad]
  refine h.runOrder fun k => k.checked fun k' => ?_
  split
  · exact k'.finish
  · split
    next e => exact (k'.readAccess.of_fst e).finish
    · rename_i e
      split
      · exact (k'.readAccess.of_fst e).finish
      · exact .finish ((k'.readAccess.of_fst e).same rfl)

theorem Keeps.waitPort {o : Order} {p : Nat} (h : Keeps steady b s) : Keeps steady b (s.waitPort o p) := .settlePorts (h.same rfl)

theorem Keeps.portCommand {o : Order} {p action width : Nat} (h : Keeps steady b s) : Keeps steady b (s.portCommand o p action width) :=
  .ite h.finish (.ite (.finish (h.same rfl)) (.ite h.finish (.ite h.finish (.ite (.ite (.finish (.rejectStrobe (.ite h h.writeStored)))
      (.waitPort (.ite (.retrain (.same (.ite h h.writeStored) rfl)) (.same (.same (.ite h h.writeStored) rfl) rfl)))) (.ite
      h.strobePort.finish (.ite h.strobePort.waitPort h.strobePort.finish))))))

theorem execPortState_keeps {id : Nat} (h : Keeps steady b s) : KeepsOn steady b (execPortState id s) :=
  h.runOrder (fun k => k.checked (·.portCommand))
theorem Keeps.checkLimits {p : Nat} (h : Keeps steady b s) : Keeps steady b (s.checkLimits p) := .ite h.retrain h

theorem Keeps.bufferPacket {p : Nat} {q : FabricPacket} (h : Keeps steady b s) : Keeps steady b (s.bufferPacket p q) :=
  .count (.modPort (.ite h.nextFree h))

theorem Keeps.neighbour {p : Nat} {m : Msg} (h : Keeps steady b s) : Keeps steady b (s.neighbour p m) := by
  simp only [State.neighbour]
  split <;> exact h.same rfl

theorem Keeps.takeSlot {p : Nat} {f : FlitSlot} (h : Keeps steady b s) : Keeps steady b (s.takeSlot p f) := by
  simp only [State.takeSlot]
  split
  · exact h
  · exact h
  · exact h
  · split
    · exact h.neighbour
    · exact h
  · exact h.same rfl
  · split
    · exact h.bufferPacket
    · exact h
  · exact h.same rfl
  · exact h.same rfl
  · split
    · exact h.bufferPacket
    · exact h
  · split
    · exact h.bufferPacket
    · exact h

theorem Keeps.frameDecoded {p : Nat} {f : DataFrame} (h : Keeps steady b s) : Keeps steady b (s.frameDecoded p f) :=
  .ite (h.same rfl) (.ite (h.same rfl) (.ite (h.same rfl) (.foldl (h.same rfl) (·.takeSlot))))

theorem execDataFrame_keeps {port : Nat} {frame : DataFrame} (h : Keeps steady b s) : KeepsOn steady b (execDataFrame port frame s) :=
  .unit h (.next (.ite h (.ite (.modPort (.ite h.modPort.correctedError h.modPort)) (.checkLimits (.frameDecoded (.ite
      h.modPort.correctedError h.modPort))))))

theorem execNakRepeat_keeps {port : Nat} (h : Keeps steady b s) : KeepsOn steady b (execNakRepeat port s) :=
  .unit h (.next (.ite (h.same rfl) h))

theorem execAlignmentFrame_keeps {port : Nat} {frame : AlignFrame} (h : Keeps steady b s) :
    KeepsOn steady b (execAlignmentFrame port frame s) :=
  .unit h (.next (.ite (.ite (.portDown (h.same rfl)) (.settlePorts (.enterPort (h.same rfl)))) (.ite (.checkLimits (h.same rfl)) h)))

theorem Keeps.frameSent {p : Nat} {slots : List FlitSlot} {number : Option Nat} (h : Keeps steady b s) :
    Keeps steady b (s.frameSent p slots number) :=
  .ite (.count (.count (h.same rfl))) (.count (h.same rfl))

theorem Keeps.sendReplay {p from_ : Nat} (h : Keeps steady b s) : Keeps steady b (s.sendReplay p from_) := by
  simp only [State.sendReplay]
  exact h.setPort.frameSent

theorem Keeps.sendAgain {p : Nat} {slots : List FlitSlot} {rest : List (List FlitSlot)} (h : Keeps steady b s) :
    Keeps steady b (s.sendAgain p slots rest) :=
  .checkLimits (.count (.frameSent (h.same rfl)))

theorem Keeps.sendNew {p : Nat} (h : Keeps steady b s) : Keeps steady b (s.sendNew p) :=
  .ite (.count (.endFences (.count (.frameSent (.setPort (h.same rfl)))))) (.endFences (.count (.frameSent (.setPort (h.same rfl)))))

theorem execFrameSend_keeps {port : Nat} (h : Keeps steady b s) : KeepsOn steady b (execFrameSend port s) := by
  simp only [execFrameSend]
  refine .unit h (.next ?_)
  split
  · exact h
  · split
    · exact h.same rfl
    · split
      · exact h.same rfl
      · split
        · exact h.sendReplay
        · exact h.sendAgain
        · exact h.sendNew

end Sys2Proof.Machine
end

section
/-! What every command keeps: the supply, tests and registers. -/

namespace Sys2Proof.Machine

variable {steady : Prop} {b s : State}

theorem Keeps.applyMv {mv : Nat} (h : Keeps steady b s) : Keeps steady b (s.applyMv mv) := .ite h (h.same rfl)

theorem Keeps.supplyStep {f : State → State} (h : Keeps steady b s) (hf : ∀ {t : State}, Keeps steady b t → Keeps steady b (f t)) :
    Keeps steady b (s.supplyStep f) := by
  simp only [State.supplyStep]
  have lowered : Keeps steady b ((f s).applyMv (min (f s).supply.appliedMv (f s).targetMv)) := (hf h).applyMv
  exact .ite (.mgRaise (.ite lowered.raise lowered)) (.ite lowered.raise lowered)

theorem Keeps.checkSupply (h : Keeps steady b s) : Keeps steady b s.checkSupply := .ite (.parityReport (h.supplyStep (·.same rfl))) h
theorem Keeps.supplyStrobed (h : Keeps steady b s) : Keeps steady b s.supplyStrobed := h.supplyStep (·.same rfl)
theorem Keeps.measure {mW : Nat} (h : Keeps steady b s) : Keeps steady b (s.measure mW) :=
  .ite (h.same rfl) (.ite (.applyMv (h.same rfl)) (h.same rfl))

theorem execPowerMeasurement_keeps {mW : Nat} (h : Keeps steady b s) : KeepsOn steady b (execPowerMeasurement mW s) :=
  .next (.ite (h.checkSupply.supplyStep (·.measure)) h)

theorem execCapBoundary_keeps (h : Keeps steady b s) : KeepsOn steady b (execCapBoundary s) := by
  simp only [execCapBoundary]
  refine .next (.ite h (.setSupply (h.checkSupply.supplyStep fun k => ?_)))
  exact k.setSupply

theorem execThermalBoundary_keeps {tj : List Int} (h : Keeps steady b s) : KeepsOn steady b (execThermalBoundary tj s) :=
  .next (.ite (h.checkSupply.supplyStep (·.same rfl)) h)

theorem execThermalCrit_keeps (h : Keeps steady b s) : KeepsOn steady b (execThermalCrit s) :=
  .next (.ite (h.checkSupply.supplyStep (·.same rfl)) h)
theorem execVcoreRampDone_keeps (h : Keeps steady b s) : KeepsOn steady b (execVcoreRampDone s) := .next (h.same rfl)
theorem execVsagWarn_keeps (h : Keeps steady b s) : KeepsOn steady b (execVsagWarn s) :=
  .next (.ite h (.mgRaise (.raise (h.checkSupply.same rfl))))
theorem execVsagWarnDeassert_keeps (h : Keeps steady b s) : KeepsOn steady b (execVsagWarnDeassert s) := .next (.ite (h.same rfl) h)

theorem Keeps.testFailed {cal : Bool} {code u : Nat} (h : Keeps steady b s) : Keeps steady b (s.testFailed cal code u) :=
  .ite h (.ite (.ite h h.fenceCore) (.ite (.ite h (.coreFault (h.same rfl))) (.ite h.sieveParity h)))

theorem Keeps.applyTest {cal : Bool} {code u : Nat} {t : TestOutcome} (h : Keeps steady b s) : Keeps steady b (s.applyTest cal code u t) :=
  .ite (.checkLanes (.ite (.ite (h.same rfl) (.ite (h.same rfl) (.ite (h.same rfl) h))) (.testFailed (.ite (h.same rfl) (.ite
      (h.same rfl) (.ite (h.same rfl) h)))))) (.ite (.ite (h.same rfl) (.ite (h.same rfl) (.ite (h.same rfl) h))) (.testFailed (.ite
      (h.same rfl) (.ite (h.same rfl) (.ite (h.same rfl) h)))))

theorem Keeps.laneBack {u : Nat} (h : Keeps steady b s) : Keeps steady b (s.laneBack u) := .ite h.retrain h

theorem Keeps.retryStarts (h : Keeps steady b s) : Keeps steady b s.retryStarts := by
  simp only [State.retryStarts]
  refine h.foldl (fun k => ?_)
  split
  · exact k
  · split
    · exact .slotStart (k.same rfl)
    · exact k.same rfl

theorem Keeps.runTest {o : Order} {cal : Bool} {code u : Nat} {forced : Bool} {t : TestOutcome} (h : Keeps steady b s) :
    Keeps steady b (s.runTest o cal code u forced t) :=
  .retryStarts (.finish (.ite (.laneBack (.ite h.applyTest h)) (.ite h.applyTest h)))

theorem Keeps.forceTest {o : Order} {cal : Bool} {code u : Nat} (h : Keeps steady b s) : Keeps steady b (s.forceTest o cal code u) :=
  .ite (.enterPort (.modPort (.foldl (h.same rfl) (fun k => .ite k.beginStop k)))) (.foldl (h.same rfl) (fun k => .ite k.beginStop k))

theorem Keeps.deferTest {o : Order} {cal : Bool} {code u : Nat} (h : Keeps steady b s) : Keeps steady b (s.deferTest o cal code u) :=
  .ite h.finish (.ite h.finish (.finish (h.same rfl)))

theorem Keeps.startTest {o : Order} {cal : Bool} {code : Nat} {t : TestOutcome} (h : Keeps steady b s) :
    Keeps steady b (s.startTest o cal code t) :=
  .ite h.finish (.ite h.runTest (.ite h.deferTest (.ite h.runTest h.forceTest)))

theorem Keeps.testOrder {opcode id : Nat} {o : TestOutcome} {start : State → Order → State} (h : Keeps steady b s)
    (work : ∀ {t : State} {o : Order}, Keeps steady b t → Keeps steady b (start t o)) : KeepsOn steady b (testOrder opcode id s o
      start) := by
  simp only [Machine.testOrder]
  split
  · exact h.runOrder work
  · refine .next ?_
    split
    · exact h
    · exact .ite h (.runTest (h.same rfl))

theorem execSelftest_keeps {id : Nat} {outcome : TestOutcome} (h : Keeps steady b s) : KeepsOn steady b (execSelftest id outcome s) :=
  h.testOrder (fun k => k.checked (·.startTest))

theorem execCalibrate_keeps {id : Nat} {outcome : TestOutcome} (h : Keeps steady b s) : KeepsOn steady b (execCalibrate id outcome s) :=
  h.testOrder (fun k => k.checked (·.startTest))

theorem execMgSelftest_keeps {id : Nat} {outcome : TestOutcome} (h : Keeps steady b s) : KeepsOn steady b (execMgSelftest id outcome s) :=
  h.testOrder (fun k => k.checked (·.startTest))

theorem Keeps.runDeferred {t : TestOutcome} (h : Keeps steady b s) : Keeps steady b (s.runDeferred t) := by
  simp only [State.runDeferred]
  split
  · exact h
  · exact .retryStarts (.note (.logError (.ite (.applyTest (h.same rfl)) (h.same rfl))))

theorem execDeferredTestRun_keeps {outcome : TestOutcome} (h : Keeps steady b s) : KeepsOn steady b (execDeferredTestRun outcome s) :=
  .next (.ite h.runDeferred h)

theorem Keeps.liftFence {o : Order} {c : Nat} {t : TestOutcome} (h : Keeps steady b s) : Keeps steady b (s.liftFence o c t) :=
  .ite h.finish (.finish (.checkLanes (.ite (h.same rfl) (h.same rfl))))

theorem Keeps.fenceOrder {o : Order} {t : TestOutcome} (h : Keeps steady b s) : Keeps steady b (s.fenceOrder o t) :=
  h.checked (fun k => .ite k.liftFence k.fenceCore.finish)

theorem execCoreFence_keeps {id : Nat} {outcome : TestOutcome} (h : Keeps steady b s) : KeepsOn steady b (execCoreFence id outcome s) :=
  h.runOrder (·.fenceOrder)

theorem execMgFence_keeps {id : Nat} {outcome : TestOutcome} (h : Keeps steady b s) : KeepsOn steady b (execMgFence id outcome s) :=
  h.runOrder (·.fenceOrder)

theorem execCoreCastle_keeps {id : Nat} (h : Keeps steady b s) : KeepsOn steady b (execCoreCastle id s) :=
  h.runOrder (fun k => k.checked (fun k' => k'.fenceOnto.finish))

theorem Keeps.runCounters {u : Nat} {val : Bool} (h : Keeps steady b s) : Keeps steady b (s.runCounters u val) :=
  .ite (h.same rfl) (.ite (h.same rfl) (h.same rfl))

theorem Keeps.clearCounters {u : Nat} (h : Keeps steady b s) : Keeps steady b (s.clearCounters u) :=
  .ite (h.same rfl) (.ite (h.same rfl) (h.same rfl))

theorem Keeps.stageStrobe {o : Order} {key v domain inst : Nat} {keys : List Nat} (h : Keeps steady b s) :
    Keeps steady b (s.stageStrobe o key v domain inst keys) :=
  .ite (.finish (.rejectStrobe (.ite h h.writeStored))) (.finish (.same (.ite h h.writeStored) rfl))

theorem execCounterConfig_keeps {id : Nat} (h : Keeps steady b s) : KeepsOn steady b (execCounterConfig id s) := by
  simp only [execCounterConfig]
  refine h.runOrder (fun k => ?_)
  refine k.checked (fun k => ?_)
  split
  · split
    · exact .finish (k.same rfl)
    · split
      · exact k.checkCounters.finish
      · split
        · exact k.checkCounters.stageStrobe
        · exact k.checkCounters.clearCounters.finish
        · exact k.checkCounters.runCounters.finish
        · exact k.checkCounters.runCounters.finish
  · split
    · exact .finish (k.same rfl)
    · split
      · exact k.checkCounters.finish
      · split
        · exact k.checkCounters.stageStrobe
        · exact k.checkCounters.clearCounters.finish
        · exact k.checkCounters.runCounters.finish
        · exact k.checkCounters.runCounters.finish

theorem execTagConfig_keeps {id : Nat} (h : Keeps steady b s) : KeepsOn steady b (execTagConfig id s) :=
  h.runOrder (fun k => k.checked (fun k' => .ite (.finish (k'.same rfl)) (.ite k'.checkTag.finish k'.checkTag.stageStrobe)))

theorem Keeps.checkLive {domain inst : Nat} (h : Keeps steady b s) : Keeps steady b (s.checkLive domain inst) := by
  simp only [State.checkLive]
  split
  · exact h
  · split
    · exact h.checkQueue
    · exact h.checkWindow
    · exact .ite h.parityReport h.fenceCore.parityReport
    · exact .ite h.parityReport h.checkPort
    · exact h.checkSupply
    · exact .ite h h.parityEntropy
    · exact .ite h.checkTag h.checkCounters
    · exact h.parityReport

theorem Keeps.portStrobed {p : Nat} (h : Keeps steady b s) : Keeps steady b (s.portStrobed p) := .ite (.ite h.bringUp h) (.ite h h.stopPort)

theorem Keeps.strobed {domain inst : Nat} (h : Keeps steady b s) : Keeps steady b (s.strobed domain inst) := by
  simp only [State.strobed]
  split
  · exact h.same rfl
  · exact h.same rfl
  · exact h.checkLanes
  · exact h.portStrobed
  · exact h.supplyStrobed
  · exact .ite (h.same rfl) (h.same rfl)
  · exact .ite (h.same rfl) (.ite (h.same rfl) (.ite (h.same rfl) (h.same rfl)))
  · exact h

theorem Keeps.cfgUpdate {v : Nat} (h : Keeps steady b s) : Keeps steady b (s.cfgUpdate v) := by
  simp only [State.cfgUpdate]
  split
  · exact h.rejectStrobe
  · exact .ite h.rejectStrobe (.ite h.rejectStrobe (.strobed (h.same rfl)))

theorem Keeps.writeFields {key : Nat} {d : RegDesc} {page : Page} {v : Nat} (h : Keeps steady b s) :
    Keeps steady b (s.writeFields key d page v) :=
  .ite (.ite (.ite h h.countLocked) (.same (.ite h h.countLocked) rfl)) (.writeStored (.ite (.ite h h.countLocked) (.same (.ite h
      h.countLocked) rfl)))

theorem Keeps.irqEnabled {old : Nat} (h : Keeps steady b s) : Keeps steady b (s.irqEnabled old) := h.foldl (fun k => .ite k.sendMsix k)

theorem Keeps.writeCounterControl {page : Page} {v : Nat} (h : Keeps steady b s) : Keeps steady b (s.writeCounterControl page v) :=
  .ite (h.same rfl) (h.same rfl)

theorem Keeps.writeLock {n v : Nat} (h : Keeps steady b s) : Keeps steady b (s.writeLock n v) := by
  simp only [State.writeLock]
  split
  · exact h.same rfl
  · split
    · exact h.same rfl
    · exact .ite (h.same rfl) h
    · exact h

theorem Keeps.writeWindow {page : Page} {v : Nat} (h : Keeps steady b s) : Keeps steady b (s.writeWindow page v) := h.checkWindow.same rfl

theorem Keeps.writeEffect {key : Nat} {page : Page} {v old : Nat} (h : Keeps steady b s) :
    Keeps steady b (s.writeEffect key page v old) := by
  simp only [State.writeEffect]
  split
  · exact h.same rfl
  · exact h.same rfl
  · exact h.same rfl
  · exact h.same rfl
  · exact h.irqEnabled
  · exact h.writeWindow
  · exact h.same rfl
  · exact .ite (h.same rfl) h
  · exact h.same rfl
  · exact h.same rfl
  · exact .ite h h.setHold
  · exact h.writeCounterControl
  · exact .ite h.setRun h

theorem Keeps.writeReg {key : Nat} {page : Page} {v : Nat} (h : Keeps steady b s) : Keeps steady b (s.writeReg key page v) := by
  simp only [State.writeReg]
  split
  · exact .ite h.cfgUpdate h
  · split
    · exact .ite h.writeLock h
    · split
      · exact h
      · split
        · exact h
        · exact h.writeFields.writeEffect

theorem Keeps.indAdvance (h : Keeps steady b s) : Keeps steady b s.indAdvance := .ite h (h.same rfl)

theorem Keeps.indRead (h : Keeps steady b s) : Keeps steady b s.indRead := by
  simp only [State.indRead]
  split
  · exact h.same rfl
  · split
    · exact h.checkLive.same rfl
    · exact .indAdvance (h.same rfl)

theorem Keeps.indWrite {v : Nat} (h : Keeps steady b s) : Keeps steady b (s.indWrite v) := by
  simp only [State.indWrite]
  split
  · exact h.same rfl
  · exact h.writeReg.indAdvance

theorem execIndDataRead_keeps (h : Keeps steady b s) : KeepsOn steady b (execIndDataRead s) := .next (.ite h.indRead h)
theorem execIndDataWrite_keeps {v : Word} (h : Keeps steady b s) : KeepsOn steady b (execIndDataWrite v s) := .next (.ite h.indWrite h)
theorem execIndNoAnswer_keeps {write : Bool} (h : Keeps steady b s) : KeepsOn steady b (execIndNoAnswer write s) :=
  .next (.ite (h.same rfl) h)

theorem execSupAccessTimeout_keeps {write : Bool} (h : Keeps steady b s) : KeepsOn steady b (execSupAccessTimeout write s) :=
  .next (.ite h (.ite h.contained (h.contained.same rfl)))

theorem Keeps.hostReg {key : Nat} {page : Page} {v : Word} (h : Keeps steady b s) : Keeps steady b (s.hostReg key page v) :=
  .ite h.writeReg h
theorem execRun_keeps {queue : Nat} {page : Page} {v : Word} (h : Keeps steady b s) : KeepsOn steady b (execRun queue page v s) :=
  .unit h h.hostReg.on
theorem execWinOpen_keeps {page : Page} {v : Word} (h : Keeps steady b s) : KeepsOn steady b (execWinOpen page v s) := h.hostReg.on
theorem execCfgUpdate_keeps {v : Word} (h : Keeps steady b s) : KeepsOn steady b (execCfgUpdate v s) := h.hostReg.on
theorem execMbxSel_keeps {page : Page} {v : Word} (h : Keeps steady b s) : KeepsOn steady b (execMbxSel page v s) := h.hostReg.on
theorem execCapture_keeps {v : Word} (h : Keeps steady b s) : KeepsOn steady b (execCapture v s) := h.hostReg.on
theorem execTake_keeps {lock : Nat} {v : Word} (h : Keeps steady b s) : KeepsOn steady b (execTake lock v s) := .unit h h.hostReg.on
theorem execRelease_keeps {lock : Nat} {v : Word} (h : Keeps steady b s) : KeepsOn steady b (execRelease lock v s) := .unit h h.hostReg.on
theorem Keeps.setLock {n : Nat} {page : Page} (h : Keeps steady b s) : Keeps steady b (s.setLock n page) := h.hostReg
theorem execDebugLock_keeps {page : Page} (h : Keeps steady b s) : KeepsOn steady b (execDebugLock page s) := h.setLock.on
theorem execTestLock_keeps {page : Page} (h : Keeps steady b s) : KeepsOn steady b (execTestLock page s) := h.setLock.on
theorem execCounterLock_keeps {page : Page} (h : Keeps steady b s) : KeepsOn steady b (execCounterLock page s) := h.setLock.on
theorem execEntropyLock_keeps {page : Page} (h : Keeps steady b s) : KeepsOn steady b (execEntropyLock page s) := h.setLock.on
theorem execSupplyLock_keeps {page : Page} (h : Keeps steady b s) : KeepsOn steady b (execSupplyLock page s) := h.setLock.on
theorem execCordLock_keeps {page : Page} (h : Keeps steady b s) : KeepsOn steady b (execCordLock page s) := h.setLock.on
theorem execPortLock_keeps {page : Page} (h : Keeps steady b s) : KeepsOn steady b (execPortLock page s) := h.setLock.on
theorem execCoreLock_keeps {page : Page} (h : Keeps steady b s) : KeepsOn steady b (execCoreLock page s) := h.setLock.on
theorem execWindowLock_keeps {page : Page} (h : Keeps steady b s) : KeepsOn steady b (execWindowLock page s) := h.setLock.on
theorem execQueueLock_keeps {page : Page} (h : Keeps steady b s) : KeepsOn steady b (execQueueLock page s) := h.setLock.on
theorem execIrqEnable_keeps {page : Page} {v : Word} (h : Keeps steady b s) : KeepsOn steady b (execIrqEnable page v s) := h.hostReg.on
theorem execHold_keeps {page : Page} {v : Word} (h : Keeps steady b s) : KeepsOn steady b (execHold page v s) := h.hostReg.on
theorem execClearAll_keeps {page : Page} {v : Word} (h : Keeps steady b s) : KeepsOn steady b (execClearAll page v s) := h.hostReg.on
theorem execFreezeAll_keeps {page : Page} {v : Word} (h : Keeps steady b s) : KeepsOn steady b (execFreezeAll page v s) := h.hostReg.on
theorem execTagRun_keeps {page : Page} {v : Word} (h : Keeps steady b s) : KeepsOn steady b (execTagRun page v s) := h.hostReg.on
theorem execRbRun_keeps {page : Page} {v : Word} (h : Keeps steady b s) : KeepsOn steady b (execRbRun page v s) := h.hostReg.on

theorem execManagementLockAccess_keeps {lock tag : Nat} {release : Bool} (h : Keeps steady b s) :
    KeepsOn steady b (execManagementLockAccess lock tag release s) := by
  simp only [execManagementLockAccess]
  refine .unit h (.next ?_)
  split
  · exact h
  · split
    · exact h.same rfl
    · exact .ite (.ite (.raise (h.same rfl)) (h.same rfl)) h
    · exact h

theorem Keeps.captureLive {i : Nat} (h : Keeps steady b s) : Keeps steady b (s.captureLive i).1 := by
  simp only [State.captureLive]
  split
  · exact h
  · exact h.checkLive

theorem Keeps.captureRaw {pair : Nat} (h : Keeps steady b s) : Keeps steady b (s.captureRaw pair).1 := by
  simp only [State.captureRaw]
  split
  · exact h
  · split
    · exact h
    · exact h.same rfl

theorem Keeps.capture {sel i : Nat} (h : Keeps steady b s) : Keeps steady b (s.capture sel i).1 := by
  simp only [State.capture]
  split
  · exact h
  · exact h.captureLive
  · exact h
  · exact h
  · exact h
  · exact h
  · exact h
  · exact h
  · exact h
  · exact h
  · exact h
  · exact h
  · exact h
  · exact h
  · exact h
  · exact h
  · exact h
  · exact h
  · exact h
  · exact h
  · exact h
  · exact h
  · exact h
  · exact h
  · exact h
  · exact h.captureRaw
  · exact h
  · exact h

theorem Keeps.captured {c : Capture} (h : Keeps False b s) : Keeps False b (s.captured c) := .ite (h.setRegs False.elim) (h.same rfl)
theorem execMailboxCaptureDone_keeps (h : Keeps False b s) : KeepsOn False b (execMailboxCaptureDone s) := .next (.ite h h.capture.captured)

end Sys2Proof.Machine
end

section
/-! What every command keeps: firmware, resets and management. A reset clears the count of captures, which is asked of none of them. -/

namespace Sys2Proof.Machine

variable {b s : State}

theorem Keeps.fwLog {event : Nat} {imageB : Bool} {cause : Nat} (h : Keeps False b s) : Keeps False b (s.fwLog event imageB cause) :=
  h.mgLog.mgRaise
theorem Keeps.bootLog (h : Keeps False b s) : Keeps False b s.bootLog := h.mgLog
theorem Keeps.giveUpTrial (h : Keeps False b s) : Keeps False b s.giveUpTrial := .ite (.fwLog (h.same rfl)) h
theorem Keeps.confirmTrial (h : Keeps False b s) : Keeps False b s.confirmTrial := .ite (.fwLog (h.same rfl)) h
theorem Keeps.abortOpen {detail : Nat} (h : Keeps False b s) : Keeps False b (s.abortOpen detail) := h.foldl (·.finish)
theorem Keeps.endSlot {k : ResetKind} {n : Nat} (h : Keeps False b s) : Keeps False b (s.endSlot k n) :=
  .ite h (.foldl (h.same rfl) (·.same rfl))
theorem Keeps.endSlots {k : ResetKind} (h : Keeps False b s) : Keeps False b (s.endSlots k) := .foldl (h.same rfl) (·.endSlot)

theorem Keeps.restart {k : ResetKind} {boot : Boot} {aligned : Bool} (h : Keeps False b s) : Keeps False b (s.restart k boot aligned) := by
  have ended : Keeps False b ((s.abortOpen k.detail).endSlots k) := h.abortOpen.endSlots
  simp only [State.restart]
  generalize (s.abortOpen k.detail).endSlots k = t at ended ⊢
  refine ended.update rfl (Mem.wf_filter _ _ _) ?_ id False.elim
  cases k <;> exact id

theorem Keeps.supplyRestart (h : Keeps False b s) : Keeps False b s.supplyRestart := by
  refine .setSupply (h.supplyStep fun k => ?_)
  exact k.setSupply

theorem Keeps.resetEndpoint (h : Keeps False b s) : Keeps False b s.resetEndpoint := h.same rfl
theorem Keeps.restartChip (h : Keeps False b s) : Keeps False b s.restartChip := .bootLog (h.same rfl)
theorem Keeps.moduleRestart (h : Keeps False b s) : Keeps False b s.moduleRestart := h.restart.supplyRestart.restartChip

theorem Keeps.resetModule {k : ResetKind} {boot : Boot} {aligned : Bool} (h : Keeps False b s) :
    Keeps False b (s.resetModule k boot aligned) := by
  simp only [State.resetModule]
  split
  · exact h.giveUpTrial.moduleRestart
  · split
    · exact h.restart
    · exact h.restart.supplyRestart

theorem Keeps.dropOrders (h : Keeps False b s) : Keeps False b s.dropOrders := .foldl (h.same rfl) (·.finish)
theorem Keeps.powerLoss (h : Keeps False b s) : Keeps False b s.powerLoss :=
  h.dropOrders.update rfl (fun _ => Mem.wf_nil _) id id False.elim
theorem Keeps.powerOff (h : Keeps False b s) : Keeps False b s.powerOff := h.powerLoss.mgLog.mgRaise

theorem Keeps.supplyReset {cause : Nat} (h : Keeps False b s) : Keeps False b (s.supplyReset cause) :=
  .ite h (.same (.ite (.restartChip (.powerOff (.mgRaise (.mgLog (.ite h.giveUpTrial h))))) (.powerOff (.mgRaise (.mgLog (.ite
      h.giveUpTrial h))))) rfl)

theorem execVsagReset_keeps (h : Keeps False b s) : KeepsOn False b (execVsagReset s) := h.checkSupply.supplyReset.on
theorem execVcoreLow_keeps (h : Keeps False b s) : KeepsOn False b (execVcoreLow s) := h.supplyReset.on
theorem execThermalTrip_keeps (h : Keeps False b s) : KeepsOn False b (execThermalTrip s) := h.supplyReset.on
theorem execMain54vHigh_keeps (h : Keeps False b s) : KeepsOn False b (execMain54vHigh s) := h.supplyReset.on
theorem execAux3v3Loss_keeps (h : Keeps False b s) : KeepsOn False b (execAux3v3Loss s) := .next (.ite h (h.powerLoss.same rfl))

theorem execAux3v3Valid_keeps {boot : BootOutcome} (h : Keeps False b s) : KeepsOn False b (execAux3v3Valid boot s) :=
  .next (.ite h (.bootLog (h.giveUpTrial.same rfl)))

theorem Keeps.bistFail {failed : List Nat} {c : Nat} (h : Keeps False b s) : Keeps False b (State.bistFail failed s c) := by
  simp only [State.bistFail]
  split
  · exact h
  · exact h
  · exact h.setCore
  · split
    · exact h.setCore.modCore
    · exact h.setCore

theorem Keeps.bistDone {val : BistOutcome} (h : Keeps False b s) : Keeps False b (s.bistDone val) :=
  .foldl (.foldl (h.same rfl) (fun k => .ite (k.same rfl) k)) (·.bistFail)

theorem Keeps.fetchFailed (h : Keeps False b s) : Keeps False b s.fetchFailed := by
  simp only [State.fetchFailed]
  split
  · exact h.giveUpTrial.moduleRestart
  · refine .ite (.setPlatform (.powerOff ?_)) (.moduleRestart ?_) <;> exact h.same rfl

theorem Keeps.stepThree {val : BistOutcome} (h : Keeps False b s) : Keeps False b (s.stepThree val) :=
  .ite h.bistDone.fetchFailed (.foldl (h.bistDone.same rfl) (fun k => .ite k.bringUp k))

theorem execMain54vQualify_keeps {bist : BistOutcome} (h : Keeps False b s) : KeepsOn False b (execMain54vQualify bist s) :=
  .next (.ite h.stepThree (.ite h (.stepThree (.mgRaise (.mgLog (h.same rfl))))))

theorem Keeps.hostReady (h : Keeps False b s) : Keeps False b s.hostReady := .confirmTrial (h.same rfl)

theorem execMemoryTrainingDone_keeps {failed : List Nat} (h : Keeps False b s) : KeepsOn False b (execMemoryTrainingDone failed s) := by
  simp only [execMemoryTrainingDone]
  refine .next ?_
  split
  · exact h
  · split
    · exact .ite ((h.foldl (·.modStation)).same rfl) (.hostReady ((h.foldl (·.modStation)).same rfl))
    · exact .ite ((h.foldl (·.modStation)).same rfl) (.fatalError ((h.foldl (·.modStation)).same rfl))

theorem execTrialTimeout_keeps (h : Keeps False b s) : KeepsOn False b (execTrialTimeout s) :=
  .next (.ite (.ite h.giveUpTrial.moduleRestart h.giveUpTrial.restartChip) h)

theorem execWarmReset_keeps (h : Keeps False b s) : KeepsOn False b (execWarmReset s) :=
  .next (.ite (h.same rfl) (.ite (h.same rfl) (.resetModule (h.same rfl))))

theorem execPerstNRelease_keeps (h : Keeps False b s) : KeepsOn False b (execPerstNRelease s) := by
  simp only [execPerstNRelease]
  refine .next ?_
  split
  · exact h
  · split
    · exact h.same rfl
    · exact .ite (h.same rfl) (.hostReady (h.same rfl))
    · exact h.same rfl
    · exact h.same rfl
    · exact h.same rfl
    · exact h.same rfl

theorem execAlignedRelease_keeps (h : Keeps False b s) : KeepsOn False b (execAlignedRelease s) := .next (.ite (.hostReady (h.same rfl)) h)
theorem Keeps.flrOrder {o : Order} (h : Keeps False b s) : Keeps False b (s.flrOrder o) := .ite (.finish (h.withdraw.same rfl)) h

theorem Keeps.flr (h : Keeps False b s) : Keeps False b s.flr := by
  simp only [State.flr]
  have served {l : List Order} {t : State} (ht : Keeps False b t) : Keeps False b (l.foldl State.flrOrder t) := ht.foldl (·.flrOrder)
  refine .update (served ?_) rfl id id id False.elim
  exact h.same rfl

theorem execFlr_keeps (h : Keeps False b s) : KeepsOn False b (execFlr s) := .next (.ite h h.flr)
theorem execD3hotTransition_keeps {d3hot : Bool} (h : Keeps False b s) : KeepsOn False b (execD3hotTransition d3hot s) :=
  .next (.ite (h.same rfl) h)

theorem execHostLinkChange_keeps {speed width : Nat} {flit : Bool} (h : Keeps False b s) :
    KeepsOn False b (execHostLinkChange speed width flit s) :=
  .next (.ite (h.same rfl) (.ite (h.same rfl) h))

theorem Keeps.ringFetch (h : Keeps False b s) : Keeps False b s.ringFetch := .ite h.hostRead h

theorem Keeps.ringOrder {o : Order} (h : Keeps False b s) : Keeps False b (s.ringOrder o) :=
  .ite h.finish (.ite h.finish (.ite (.ite h.finish (h.same rfl)) (.ite h.finish (h.same rfl))))

theorem Keeps.ringTake {p : BitVec 512} (h : Keeps False b s) : Keeps False b (s.ringTake p) := .ringOrder (h.same rfl)
theorem Keeps.ringServe (h : Keeps False b s) : Keeps False b s.ringServe := h.foldl (fun k => .ite k k.ringTake)

theorem Keeps.ringFetched {index : Nat} {r : ReadResult} (h : Keeps False b s) : Keeps False b (s.ringFetched index r) := by
  simp only [State.ringFetched]
  split
  · split
    · exact h.same rfl
    · exact h.same rfl
    · exact .ringFetch (.ringServe (h.same rfl))
  · exact h.ringFetch

theorem Keeps.ringStart (h : Keeps False b s) : Keeps False b s.ringStart :=
  .ite (h.same rfl) (.ite (h.same rfl) (.ite (h.same rfl) (.ringFetch (h.same rfl))))

theorem Keeps.ringControl {v : Nat} (h : Keeps False b s) : Keeps False b (s.ringControl v) :=
  .ite (.ite h (h.same rfl)) (.ite (.ringStart (h.same rfl)) (h.same rfl))

theorem execMgRingRun_keeps {v : Word} (h : Keeps False b s) : KeepsOn False b (execMgRingRun v s) := .next (.ite h.ringControl h)
theorem Keeps.ringTail {v : Nat} (h : Keeps False b s) : Keeps False b (s.ringTail v) :=
  .ite (h.same rfl) (.ite (h.same rfl) (.ringFetch (h.same rfl)))

theorem Keeps.ringHead {v : Nat} (h : Keeps False b s) : Keeps False b (s.ringHead v) :=
  .ite (h.same rfl) (.ite (h.same rfl) (.ringFetch (.ringServe (h.same rfl))))

theorem execMgSqTail_keeps {v : Word} (h : Keeps False b s) : KeepsOn False b (execMgSqTail v s) := .next (.ite h.ringTail h)
theorem execMgCqHead_keeps {v : Word} (h : Keeps False b s) : KeepsOn False b (execMgCqHead v s) := .next (.ite h.ringHead h)

theorem execMgmtPerstN_keeps {flr level : Bool} (h : Keeps False b s) : KeepsOn False b (execMgmtPerstN flr level s) :=
  .next (.ite (.ite h.resetEndpoint h) (.same (.ite h.resetEndpoint h) rfl))

theorem Keeps.writeMgmt {off v : Nat} (h : Keeps False b s) : Keeps False b (s.writeMgmt off v) := by
  simp only [State.writeMgmt]
  split
  · exact .ite h (h.same rfl)
  · exact .ite h (h.same rfl)
  · exact .ite h (h.same rfl)
  · exact .ite h (h.same rfl)
  · exact h.ringControl
  · exact h.ringTail
  · exact h.ringHead
  · exact h.same rfl
  · exact h.same rfl
  · exact h

theorem Keeps.summaryEvents (h : Keeps False b s) : Keeps False b s.summaryEvents := .foldl (h.same rfl) (·.mgRaise)

theorem execTelemetrySample_keeps {sample : TelemetryIn} (h : Keeps False b s) : KeepsOn False b (execTelemetrySample sample s) := by
  simp only [execTelemetrySample]
  refine .next (.ite h (.ite (Keeps.summaryEvents ?_) ?_)) <;> exact h.same rfl

theorem execLocalCounterCopy_keeps (h : Keeps False b s) : KeepsOn False b (execLocalCounterCopy s) := .next (.ite h (h.same rfl))

theorem Keeps.answerMgmt {o : Order} {a : Nat} {bs : List Byte} {e : Ending} (h : Keeps False b s) :
    Keeps False b (s.answerMgmt o a bs e) :=
  .ite h.mgmtWrite.finish h.finish

theorem execMgTelemetry_keeps {id : Nat} (h : Keeps False b s) : KeepsOn False b (execMgTelemetry id s) :=
  h.runOrder (fun k => k.checked (·.answerMgmt))

theorem execMgPowerCap_keeps {id : Nat} (h : Keeps False b s) : KeepsOn False b (execMgPowerCap id s) :=
  h.runOrder (fun k => k.checked (fun k' => .finish (k'.same rfl)))

theorem execMgCordInfo_keeps {id : Nat} (h : Keeps False b s) : KeepsOn False b (execMgCordInfo id s) :=
  h.runOrder (fun k => k.checked (·.answerMgmt))
theorem execMgLogRead_keeps {id : Nat} (h : Keeps False b s) : KeepsOn False b (execMgLogRead id s) :=
  h.runOrder (fun k => k.checked (·.answerMgmt))

theorem Keeps.forced {o : Order} {go : State → State} (h : Keeps False b s)
    (hgo : ∀ {t : State}, Keeps False b t → Keeps False b (go t)) :
    Keeps False b (s.forced o go) := by
  simp only [State.forced]
  split
  · exact .ite (hgo h) h.finish
  · exact hgo h

theorem execMgReset_keeps {id : Nat} (h : Keeps False b s) : KeepsOn False b (execMgReset id s) :=
  h.runOrder (fun k => k.checked (fun k' => k'.forced (fun k₂ => .ite k₂.finish k₂.finish.resetModule)))

theorem execMgFwActivate_keeps {id : Nat} (h : Keeps False b s) : KeepsOn False b (execMgFwActivate id s) := by
  simp only [execMgFwActivate]
  refine h.runOrder fun k => k.checked fun k₁ => .ite k₁.finish (k₁.forced fun k₂ => .ite k₂.finish ?_)
  refine .moduleRestart (.setRot (.finish (.fwLog ?_)))
  exact k₂.setRot

theorem execMgFwStage_keeps {id : Nat} (h : Keeps False b s) : KeepsOn False b (execMgFwStage id s) :=
  .ite h.on (h.runOrder (fun k => k.checked (fun k' => .ite k'.finish (.ite (.hostRead (.ite (.fwLog (k'.same rfl)) k')) (.finish (.ite
      (.fwLog (k'.same rfl)) k'))))))

theorem Keeps.stageLast {o : Order} {n : Nat} (h : Keeps False b s) : Keeps False b (s.stageLast o n) :=
  .ite (.finish (.fwLog (h.same rfl))) (.finish (.fwLog (h.same rfl)))

theorem Keeps.stageData {id : Nat} {x : ReadResult} (h : Keeps False b s) : Keeps False b (s.stageData id x) := by
  simp only [State.stageData]
  split
  · exact h
  · split
    · exact h.finish
    · exact h.finish
    · exact .ite h.finish (.ite (.stageLast (h.same rfl)) (.finish (h.same rfl)))

theorem execSmbusRead_keeps {len : Nat} (h : Keeps False b s) : KeepsOn False b (execSmbusRead len s) :=
  .next (.ite (h.same rfl) (h.same rfl))

theorem execSmbusOffsetWrite_keeps {v : Byte} (h : Keeps False b s) : KeepsOn False b (execSmbusOffsetWrite v s) :=
  .next (.ite (h.same rfl) (h.same rfl))

theorem Keeps.debugServe {r : DebugReq} (h : Keeps False b s) (hr : ∀ n, r ≠ .step n) : KeepsOn False b (s.debugServe r) := by
  simp only [State.debugServe]
  split
  · exact KeepsOn.next (h.same rfl)
  · exact absurd rfl (hr _)
  · split <;> exact KeepsOn.next (h.same rfl)
  · exact KeepsOn.next (h.same rfl)

theorem execDebugRequest_keeps {r : DebugReq} (h : Keeps False b s) (hr : s.stepsProcessor (.debugRequest r) = false) :
    KeepsOn False b (execDebugRequest r s) := by
  simp only [execDebugRequest, Machine.unit]
  split
  · rename_i known
    split
    · exact h.on
    · rename_i up
      split
      · exact KeepsOn.next (.mgLog (h.same rfl))
      · rename_i unlocked
        refine h.debugServe ?_
        rintro n rfl
        have real : n < 5 := of_decide_eq_true known
        simp_all [State.stepsProcessor]
  · exact h.on

theorem Keeps.reportRead {r : ReadResult} (h : Keeps False b s) : Keeps False b (s.reportRead r) := by
  simp only [State.reportRead]
  split
  · exact h
  · exact h.same rfl
  · exact h.same rfl

theorem execHostMemoryCompletion_keeps {tag : Nat} {r : ReadResult} (h : Keeps False b s) :
    KeepsOn False b (execHostMemoryCompletion tag r s) := by
  simp only [execHostMemoryCompletion]
  refine .next ?_
  split
  · exact h
  · split
    · exact h
    · split
      · exact .packetFetched (.ite h.endRead h.endRead.reportRead)
      · exact .ringFetched (.ite h.endRead h.endRead.reportRead)
      · exact .stageData (.ite h.endRead h.endRead.reportRead)
      · exact .transferData (.ite h.endRead h.endRead.reportRead)
      · exact .transferError (.ite h.endRead h.endRead.reportRead)
      · exact .transferError (.ite h.endRead h.endRead.reportRead)

theorem Keeps.tableWrite {key v : Nat} (h : Keeps False b s) : Keeps False b (s.tableWrite key v) := .ite (h.same rfl) (h.same rfl)

theorem Keeps.bar0Write {offset v : Nat} (h : Keeps False b s) : Keeps False b (s.bar0Write offset v) :=
  .ite (.ite (.ite h.indWrite h) h.writeReg) (.ite h.tableWrite h)

theorem execRegisterWrite_keeps {space : RegSpace} {offset : Nat} {v : Word} (h : Keeps False b s) :
    KeepsOn False b (execRegisterWrite space offset v s) := by
  simp only [execRegisterWrite]
  refine .next ?_
  split
  · exact h
  · split
    · exact .ite h.bar0Write h
    · split
      · exact h
      · split
        · exact h.doorbellWrite
        · exact h.doorbellWrite
        · exact h
    · exact .ite h.writeMgmt h

end Sys2Proof.Machine
end

section
/-! Every command goes on and keeps what a step must keep, but a debug step; steps and the queue (R535, log entries 1, 2, 5, 11 and 14). -/

namespace Sys2Proof.Machine

variable {b s : State}

/-- Every command but a debug step has a next state, and it keeps what a command must. -/
theorem exec_keeps (h : Keeps False b s) : ∀ i : Instr, s.stepsProcessor i = false → KeepsOn False b (exec i s)
  | .nop _, _ => execNop_keeps h
  | .identify _, _ => execIdentify_keeps h
  | .getStatus _, _ => execGetStatus_keeps h
  | .journalQuery _, _ => execJournalQuery_keeps h
  | .fill _, _ => execFill_keeps h
  | .copy _, _ => execCopy_keeps h
  | .scrubDeclare _, _ => execScrubDeclare_keeps h
  | .modelCheck _, _ => execModelCheck_keeps h
  | .modelLoad _, _ => execModelLoad_keeps h
  | .modelUnload _, _ => execModelUnload_keeps h
  | .slotConfig _, _ => execSlotConfig_keeps h
  | .slotStart _, _ => execSlotStart_keeps h
  | .slotStop _, _ => execSlotStop_keeps h
  | .slotSave _, _ => execSlotSave_keeps h
  | .slotRestore _, _ => execSlotRestore_keeps h
  | .slotDisable _, _ => execSlotDisable_keeps h
  | .slotEnable _, _ => execSlotEnable_keeps h
  | .sampleRead _, _ => execSampleRead_keeps h
  | .statsRead _, _ => execStatsRead_keeps h
  | .resultSeal _, _ => execResultSeal_keeps h
  | .syncAlloc _, _ => execSyncAlloc_keeps h
  | .syncFree _, _ => execSyncFree_keeps h
  | .syncSignal _, _ => execSyncSignal_keeps h
  | .syncWait _, _ => execSyncWait_keeps h
  | .entropyGet _, _ => execEntropyGet_keeps h
  | .seedFromEntropy _, _ => execSeedFromEntropy_keeps h
  | .selftest _ _, _ => execSelftest_keeps h
  | .calibrate _ _, _ => execCalibrate_keeps h
  | .fabricConfig _, _ => execFabricConfig_keeps h
  | .routeLoad _, _ => execRouteLoad_keeps h
  | .portState _, _ => execPortState_keeps h
  | .coreFence _ _, _ => execCoreFence_keeps h
  | .coreCastle _, _ => execCoreCastle_keeps h
  | .lockstepBegin _, _ => execLockstepBegin_keeps h
  | .lockstepEnd _, _ => execLockstepEnd_keeps h
  | .counterConfig _, _ => execCounterConfig_keeps h
  | .tagConfig _, _ => execTagConfig_keeps h
  | .attest _, _ => execAttest_keeps h
  | .keyInfo _, _ => execKeyInfo_keeps h
  | .mgTelemetry _, _ => execMgTelemetry_keeps h
  | .mgPowerCap _, _ => execMgPowerCap_keeps h
  | .mgFence _ _, _ => execMgFence_keeps h
  | .mgCordInfo _, _ => execMgCordInfo_keeps h
  | .mgFwStage _, _ => execMgFwStage_keeps h
  | .mgFwActivate _, _ => execMgFwActivate_keeps h
  | .mgReset _, _ => execMgReset_keeps h
  | .mgLogRead _, _ => execMgLogRead_keeps h
  | .mgSelftest _ _, _ => execMgSelftest_keeps h
  | .instrNop _, _ => execInstrNop_keeps h
  | .endPhase _, _ => execEndPhase_keeps h
  | .jmp _ _, _ => execJmp_keeps h
  | .bz _ _ _, _ => execBz_keeps h
  | .bnz _ _ _, _ => execBnz_keeps h
  | .blt _ _ _ _, _ => execBlt_keeps h
  | .loop _ _ _, _ => execLoop_keeps h
  | .add _ _ _ _, _ => execAdd_keeps h
  | .sub _ _ _ _, _ => execSub_keeps h
  | .and _ _ _ _, _ => execAnd_keeps h
  | .or _ _ _ _, _ => execOr_keeps h
  | .xor _ _ _ _, _ => execXor_keeps h
  | .shl _ _ _ _, _ => execShl_keeps h
  | .shr _ _ _ _, _ => execShr_keeps h
  | .sra _ _ _ _, _ => execSra_keeps h
  | .addi _ _ _ _, _ => execAddi_keeps h
  | .movi _ _ _, _ => execMovi_keeps h
  | .movhi _ _ _, _ => execMovhi_keeps h
  | .mvs _ _ _ _, _ => execMvs_keeps h
  | .mvw _ _ _ _ _ _, _ => execMvw_keeps h
  | .mop _ _ _ _ _ _, _ => execMop_keeps h
  | .aclr _ _, _ => execAclr_keeps h
  | .fdp _ _, _ => execFdp_keeps h
  | .finca _ _, _ => execFinca_keeps h
  | .ldf _ _ _, _ => execLdf_keeps h
  | .updc _, _ => execUpdc_keeps h
  | .updm _ _ _ _, _ => execUpdm_keeps h
  | .rlxc _, _ => execRlxc_keeps h
  | .draw _ _ _, _ => execDraw_keeps h
  | .mask _ _ _ _ _, _ => execMask_keeps h
  | .sievec _, _ => execSievec_keeps h
  | .ldk _ _ _ _, _ => execLdk_keeps h
  | .stk _ _ _ _, _ => execStk_keeps h
  | .ldw _ _ _ _, _ => execLdw_keeps h
  | .stw _ _ _ _, _ => execStw_keeps h
  | .ldsl _ _ _ _, _ => execLdsl_keeps h
  | .stsl _ _ _ _, _ => execStsl_keeps h
  | .wget _ _ _ _, _ => execWget_keeps h
  | .wput _ _ _ _, _ => execWput_keeps h
  | .accst _ _ _, _ => execAccst_keeps h
  | .smsg _, _ => execSmsg_keeps h
  | .bcst _ _, _ => execBcst_keeps h
  | .brcv _ _ _, _ => execBrcv_keeps h
  | .sig _ _ _, _ => execSig_keeps h
  | .wait _ _, _ => execWait_keeps h
  | .pdone _, _ => execPdone_keeps h
  | .redi _ _ _ _, _ => execRedi_keeps h
  | .redf _ _ _ _ _, _ => execRedf_keeps h
  | .reda _ _ _ _, _ => execReda_keeps h
  | .fpr _, _ => execFpr_keeps h
  | .stateMessage _, _ => execStateMessage_keeps h
  | .broadcastVector _, _ => execBroadcastVector_keeps h
  | .sieveRequest _, _ => execSieveRequest_keeps h
  | .reductionPartial _, _ => execReductionPartial_keeps h
  | .groupValue _, _ => execGroupValue_keeps h
  | .closeToken _, _ => execCloseToken_keeps h
  | .exchangeEnergy _, _ => execExchangeEnergy_keeps h
  | .freeze _ _ _, _ => execFreeze_keeps h
  | .freezeReply _ _ _ _, _ => execFreezeReply_keeps h
  | .limit _ _ _, _ => execLimit_keeps h
  | .drained _ _ _, _ => execDrained_keeps h
  | .faultNotice _ _ _, _ => execFaultNotice_keeps h
  | .ckptDone _ _ _ _, _ => execCkptDone_keeps h
  | .ckptCommit _ _ _, _ => execCkptCommit_keeps h
  | .hello _ _, _ => execHello_keeps h
  | .fp _ _, _ => execFp_keeps h
  | .halt _ _, _ => execHalt_keeps h
  | .lsEnd _ _, _ => execLsEnd_keeps h
  | .syncObjectSignal _, _ => execSyncObjectSignal_keeps h
  | .waiterRegistration _, _ => execWaiterRegistration_keeps h
  | .waiterNotice _ _ _, _ => execWaiterNotice_keeps h
  | .colanderPacket _ _, _ => execColanderPacket_keeps h
  | .fencedNotice _ _ _, _ => execFencedNotice_keeps h
  | .routerPacket _ _ _, _ => execRouterPacket_keeps h
  | .coreHandshake _, _ => execCoreHandshake_keeps h
  | .routerHandshake _ _, _ => execRouterHandshake_keeps h
  | .agentTickTimeout _, _ => execAgentTickTimeout_keeps h
  | .watchdogTick, _ => execWatchdogTick_keeps h
  | .memoryRead _, _ => execMemoryRead_keeps h
  | .memoryWrite _ _, _ => execMemoryWrite_keeps h
  | .scrubRead _, _ => execScrubRead_keeps h
  | .arbiterPass, _ => execArbiterPass_keeps h
  | .deferredTestRun _, _ => execDeferredTestRun_keeps h
  | .sqTail _ _, _ => execSqTail_keeps h
  | .cqHead _ _, _ => execCqHead_keeps h
  | .run _ _ _, _ => execRun_keeps h
  | .winOpen _ _, _ => execWinOpen_keeps h
  | .cfgUpdate _, _ => execCfgUpdate_keeps h
  | .mbxSel _ _, _ => execMbxSel_keeps h
  | .capture _, _ => execCapture_keeps h
  | .mailboxCaptureDone, _ => execMailboxCaptureDone_keeps h
  | .indDataRead, _ => execIndDataRead_keeps h
  | .indDataWrite _, _ => execIndDataWrite_keeps h
  | .indNoAnswer _, _ => execIndNoAnswer_keeps h
  | .supAccessTimeout _, _ => execSupAccessTimeout_keeps h
  | .take _ _, _ => execTake_keeps h
  | .release _ _, _ => execRelease_keeps h
  | .debugLock _, _ => execDebugLock_keeps h
  | .testLock _, _ => execTestLock_keeps h
  | .counterLock _, _ => execCounterLock_keeps h
  | .entropyLock _, _ => execEntropyLock_keeps h
  | .supplyLock _, _ => execSupplyLock_keeps h
  | .cordLock _, _ => execCordLock_keeps h
  | .portLock _, _ => execPortLock_keeps h
  | .coreLock _, _ => execCoreLock_keeps h
  | .windowLock _, _ => execWindowLock_keeps h
  | .queueLock _, _ => execQueueLock_keeps h
  | .irqEnable _ _, _ => execIrqEnable_keeps h
  | .hold _ _, _ => execHold_keeps h
  | .clearAll _ _, _ => execClearAll_keeps h
  | .freezeAll _ _, _ => execFreezeAll_keeps h
  | .tagRun _ _, _ => execTagRun_keeps h
  | .rbRun _ _, _ => execRbRun_keeps h
  | .mgRingRun _, _ => execMgRingRun_keeps h
  | .mgSqTail _, _ => execMgSqTail_keeps h
  | .mgCqHead _, _ => execMgCqHead_keeps h
  | .registerWrite _ _ _, _ => execRegisterWrite_keeps h
  | .bar4Read _ _, _ => execBar4Read_keeps h
  | .bar4Write _ _ _, _ => execBar4Write_keeps h
  | .bar4Timeout _, _ => execBar4Timeout_keeps h
  | .bar4Resize _, _ => execBar4Resize_keeps h
  | .smbusRead _, _ => execSmbusRead_keeps h
  | .smbusOffsetWrite _, _ => execSmbusOffsetWrite_keeps h
  | .debugRequest _, hi => execDebugRequest_keeps h hi
  | .flr, _ => execFlr_keeps h
  | .mgmtPerstN _ _, _ => execMgmtPerstN_keeps h
  | .warmReset, _ => execWarmReset_keeps h
  | .perstNRelease, _ => execPerstNRelease_keeps h
  | .alignedRelease, _ => execAlignedRelease_keeps h
  | .aux3v3Valid _, _ => execAux3v3Valid_keeps h
  | .aux3v3Loss, _ => execAux3v3Loss_keeps h
  | .main54vQualify _, _ => execMain54vQualify_keeps h
  | .memoryTrainingDone _, _ => execMemoryTrainingDone_keeps h
  | .trialTimeout, _ => execTrialTimeout_keeps h
  | .vsagWarn, _ => execVsagWarn_keeps h
  | .vsagWarnDeassert, _ => execVsagWarnDeassert_keeps h
  | .vsagReset, _ => execVsagReset_keeps h
  | .vcoreLow, _ => execVcoreLow_keeps h
  | .main54vHigh, _ => execMain54vHigh_keeps h
  | .thermalTrip, _ => execThermalTrip_keeps h
  | .thermalCrit, _ => execThermalCrit_keeps h
  | .powerMeasurement _, _ => execPowerMeasurement_keeps h
  | .capBoundary, _ => execCapBoundary_keeps h
  | .thermalBoundary _, _ => execThermalBoundary_keeps h
  | .localCounterCopy, _ => execLocalCounterCopy_keeps h
  | .telemetrySample _, _ => execTelemetrySample_keeps h
  | .cordPresent _ _, _ => execCordPresent_keeps h
  | .cordRemoved _, _ => execCordRemoved_keeps h
  | .cordAnswer _ _, _ => execCordAnswer_keeps h
  | .cordNoAnswer _, _ => execCordNoAnswer_keeps h
  | .lanesTrained _ _, _ => execLanesTrained_keeps h
  | .trainFail _, _ => execTrainFail_keeps h
  | .alignmentFrame _ _, _ => execAlignmentFrame_keeps h
  | .dataFrame _ _, _ => execDataFrame_keeps h
  | .nakRepeat _, _ => execNakRepeat_keeps h
  | .frameSend _, _ => execFrameSend_keeps h
  | .laneLockLoss _ _, _ => execLaneLockLoss_keeps h
  | .retrainDone _ _, _ => execRetrainDone_keeps h
  | .retrainFail _, _ => execRetrainFail_keeps h
  | .peerDisabled _, _ => execPeerDisabled_keeps h
  | .packetRoute _ _ _ _ _, _ => execPacketRoute_keeps h
  | .broadcastReceive _ _ _, _ => execBroadcastReceive_keeps h
  | .remoteRead _, _ => execRemoteRead_keeps h
  | .remoteWrite _, _ => execRemoteWrite_keeps h
  | .remoteAdd _, _ => execRemoteAdd_keeps h
  | .remoteMaxu _, _ => execRemoteMaxu_keeps h
  | .remoteMaxs _, _ => execRemoteMaxs_keeps h
  | .remoteCas _, _ => execRemoteCas_keeps h
  | .remoteBulkRead _, _ => execRemoteBulkRead_keeps h
  | .remoteBulkWrite _, _ => execRemoteBulkWrite_keeps h
  | .remoteSignal _, _ => execRemoteSignal_keeps h
  | .remoteWaitReg _, _ => execRemoteWaitReg_keeps h
  | .remoteResponse _, _ => execRemoteResponse_keeps h
  | .requestTimeout _, _ => execRequestTimeout_keeps h
  | .remoteFence _, _ => execRemoteFence_keeps h
  | .cordRecordPoll _ _, _ => execCordRecordPoll_keeps h
  | .vcordOvercurrent _, _ => execVcordOvercurrent_keeps h
  | .entropyStartupRound _, _ => execEntropyStartupRound_keeps h
  | .entropyBlock _ _, _ => execEntropyBlock_keeps h
  | .entropyServe, _ => execEntropyServe_keeps h
  | .signatureDone _, _ => execSignatureDone_keeps h
  | .hostMemoryCompletion _ _, _ => execHostMemoryCompletion_keeps h
  | .vcoreRampDone, _ => execVcoreRampDone_keeps h
  | .d3hotTransition _, _ => execD3hotTransition_keeps h
  | .managementLockAccess _ _ _, _ => execManagementLockAccess_keeps h
  | .hostLinkChange _ _ _, _ => execHostLinkChange_keeps h

/-- A debug step of a control processor at an open debug port is the one command without a next state. -/
theorem exec_stepsProcessor {i : Instr} (hi : s.stepsProcessor i = true) : exec i s = .refused .debugStep := by
  unfold State.stepsProcessor at hi
  split at hi
  · rename_i n
    simp only [Bool.and_eq_true, Bool.not_eq_true', decide_eq_true_eq] at hi
    obtain ⟨⟨real, up⟩, unlocked⟩ := hi
    simp [execDebugRequest, Machine.unit, DebugReq.target, State.debugServe, real, up, unlocked]
  · simp at hi

/-- A step runs the command at the front of the queue on the module with the rest of the queue. -/
theorem step_cons {c : Instr} {rest : List Instr} (hq : s.pending = c :: rest) : step s = exec c { s with pending := rest } := by
  simp only [step, hq]

/-- Settles O1: both clauses by the definition of a step. -/
theorem stepRunsTheFrontCommand : Obligations.StepRunsTheFrontCommand := by
  unfold Obligations.StepRunsTheFrontCommand
  exact fun c rest s => ⟨step_cons rfl, step_idle s⟩

/-- Settles O3: the command runs on the module with the rest of the queue, whose memories are those of the module before, and
`exec_keeps` says of each command that it keeps them canonical and leaves the queue. -/
theorem stepKeepsMemory : Obligations.StepKeepsMemory := by
  unfold Obligations.StepKeepsMemory
  intro s t c rest hq ran
  rw [step_cons hq] at ran
  cases hi : State.stepsProcessor { s with pending := rest } c with
  | true =>
    rw [exec_stepsProcessor hi] at ran
    cases ran
  | false =>
    obtain ⟨u, next, kept⟩ := exec_keeps (.refl { s with pending := rest }) c hi
    rw [next] at ran
    cases ran
    exact ⟨kept.pending, kept.memory⟩

/-! ### Commands of units the module does not have (log entry 10) -/

theorem unit_missing {ok : Bool} {o : Out} (h : ok = false) : unit ok s o = .next s := by
  rw [h]
  rfl

/-- A command of a unit that does not exist reaches nothing; a memory access outside HBM and the Larder is refused (R306). -/
theorem exec_missing {i : Instr} (hi : i.unitsExist = false) :
    exec i s = .next s ∨ exec i s = .next { s with reply := .unsupported } := by
  cases i with
  | memoryRead a => exact .inr (execMemoryRead_unlined hi)
  | memoryWrite a bs =>
    have refused : (!((regionOf a).lined && (regionOf (a + bs.length - 1)).lined && oneWindow a bs.length)) = true :=
      congrArg not hi
    simp only [exec_memoryWrite, execMemoryWrite, refused, if_true, or_true]
  | _ => first | exact (Bool.true_ne_false hi).elim | exact .inl (unit_missing hi)

/-- Settles O2: every command but a debug step goes on by `exec_keeps`. -/
theorem commandsGoOn : Obligations.CommandsGoOn := by
  unfold Obligations.CommandsGoOn
  intro i s
  refine ⟨fun hi => ?_, exec_stepsProcessor, exec_missing⟩
  obtain ⟨t, next, -⟩ := exec_keeps (.refl s) i hi
  exact ⟨t, next⟩

end Sys2Proof.Machine
end

section
/-! Power-up: the bytes of the module's memory right after it, and its other values. -/

namespace Sys2Proof.Machine

/-- Only JOURNAL, ERROR_LOG and TAG_RING have a background. -/
theorem memBackground_eq_none {a : Nat} (h : a < 0x010000000000 ∨ 0x010007000000 ≤ a) : memBackground a = none :=
  if_neg (by simp only [Bool.and_eq_true, decide_eq_true_eq]; omega)

theorem memBackground_eq_zero {a : Nat} (lo : 0x010000000000 ≤ a) (hi : a < 0x010007000000) : memBackground a = some 0 :=
  if_pos (by simp only [Bool.and_eq_true, decide_eq_true_eq]; exact ⟨lo, hi⟩)

theorem regionOf_zeroed {a : Nat} (lo : 0x010000000000 ≤ a) (hi : a < 0x010007000000) :
    regionOf a = .journal ∨ regionOf a = .errorLog ∨ regionOf a = .tagRing := by
  have notHbm : ¬ a < 0x004800000000 := by omega
  have notGap : ¬ a < 0x010000000000 := by omega
  rw [regionOf, if_neg notHbm, if_neg notGap]
  by_cases journal : a < 0x010004000000
  · exact .inl (if_pos journal)
  rw [if_neg journal]
  by_cases errorLog : a < 0x010005000000
  · exact .inr (.inl (if_pos errorLog))
  rw [if_neg errorLog]
  exact .inr (.inr (if_pos hi))

/-- Nothing has written HBM, the Larder, a slice, a program window or a store. -/
theorem State.byteAt_reset_unwritten {a : Nat} (h : memBackground a = none) : State.reset.byteAt a = none := by
  have unlisted : Mem.get memBackground State.reset.mem a = none := h
  cases r : regionOf a with
  | slice k n =>
    rw [State.byteAt, r]
    exact ite_eq_iff.mpr ((Classical.em (n < 30)).imp (⟨·, unlisted⟩) (⟨·, rfl⟩))
  | store c => exact State.byteAt_store r
  | _ => simp only [State.byteAt, r, unlisted]

theorem State.byteAt_reset_zeroed {a : Nat} (lo : 0x010000000000 ≤ a) (hi : a < 0x010007000000) :
    State.reset.byteAt a = some 0 := by
  have zero : Mem.get memBackground State.reset.mem a = some 0 := memBackground_eq_zero lo hi
  rcases regionOf_zeroed lo hi with r | r | r <;> simp only [State.byteAt, r, zero]

/-- Settles O4: every value is the one `State.reset` names; what a byte reads as is the background of its region. -/
theorem resetState : Obligations.ResetState :=
  ⟨by decide, by decide, rfl, fun _ => ⟨rfl, rfl⟩, fun _ => rfl, rfl, rfl, rfl, rfl, rfl, fun _ => ⟨rfl, rfl⟩, rfl, rfl,
    fun _ => rfl, rfl, rfl, rfl, rfl, rfl, fun _ => rfl, fun _ h => State.byteAt_reset_unwritten (memBackground_eq_none h),
    fun _ => State.byteAt_reset_zeroed, rfl, rfl, rfl, rfl⟩

end Sys2Proof.Machine
end

section
/-! An error in the log: its event, its bytes and what it counts (R497, R502, R585, R596). -/

namespace Sys2Proof.Machine

theorem bitAt_add_two_pow {v n : Nat} (h : bitAt v n ≠ 1) : bitAt (v + 2 ^ n) n = 1 := by
  unfold bitAt at *
  rw [Nat.add_div_right _ (Nat.two_pow_pos n)]
  omega

theorem State.sendMsix_regs (s : State) (v : Nat) : (s.sendMsix v).regs = s.regs := by
  obtain ⟨_, _, h⟩ := s.sendMsix_eq v
  rw [h]

theorem State.raise_pending (s : State) (n : Nat) : bitAt (s.raise n).regs.irqStatus n = 1 := by
  rw [State.raise]
  by_cases pending : bitAt s.regs.irqStatus n = 1
  · rwa [if_pos pending]
  rw [if_neg pending]
  dsimp only
  split
  · rw [State.sendMsix_regs]
    exact bitAt_add_two_pow pending
  · exact bitAt_add_two_pow pending

/-- Raising an event moves the message lists and the status bits only. -/
theorem State.raise_units (s : State) (n : Nat) : (s.raise n).slots = s.slots ∧ (s.raise n).cores = s.cores ∧
    (s.raise n).clusters = s.clusters ∧ (s.raise n).net = s.net ∧
    ∃ p m, (s.raise n).host = { s.host with msixPend := p, msix := m } := by
  obtain ⟨_, p, m, h⟩ := s.raise_eq n
  rw [h]
  exact ⟨rfl, rfl, rfl, rfl, p, m, rfl⟩

/-- What the host station counts when an error of a class is logged. -/
theorem HostStation.countError_counters (h : HostStation) (c : ErrClass) :
    (h.countError c).errNewest = h.errNewest + 1 ∧
    (h.countError c).errCorrected = (if c = .corrected then satInc (2 ^ 32 - 1) h.errCorrected else h.errCorrected) ∧
    (h.countError c).errContained = (if c = .contained then satInc (2 ^ 32 - 1) h.errContained else h.errContained) ∧
    (h.countError c).errFatal = (if c = .fatal then satInc (2 ^ 32 - 1) h.errFatal else h.errFatal) ∧
    (h.countError c).errFatalSeq = (if c = .fatal then some (h.errNewest + 1) else h.errFatalSeq) := by
  cases c <;> exact ⟨rfl, rfl, rfl, rfl, rfl⟩

theorem State.logError_mem_eq (s : State) (e : ErrEntry) : (s.logError e).mem =
    Mem.write memBackground s.mem (errorLogAddr (s.host.errNewest + 1)) (e.bytes (s.host.errNewest + 1)) := by
  rw [s.logError_eq, State.raise_mem]
  rfl

theorem State.logError_bytes (s : State) (e : ErrEntry) {k : Nat} (hk : k < 64) :
    Mem.get memBackground (s.logError e).mem (errorLogAddr (s.host.errNewest + 1) + k) = (e.bytes (s.host.errNewest + 1))[k]? := by
  have inside : k < (e.bytes (s.host.errNewest + 1)).length := by rwa [ErrEntry.bytes_length]
  rw [State.logError_mem_eq, Mem.get_write_inside _ _ _ _ _ (Nat.le_add_right _ _) (by rwa [Nat.add_sub_cancel_left])]
  rw [List.getElem?_eq_getElem inside]
  simp only [Nat.add_sub_cancel_left]

theorem State.logError_outside (s : State) (e : ErrEntry) {a : Nat}
    (ha : a < errorLogAddr (s.host.errNewest + 1) ∨ errorLogAddr (s.host.errNewest + 1) + 64 ≤ a) :
    Mem.get memBackground (s.logError e).mem a = Mem.get memBackground s.mem a := by
  rw [State.logError_mem_eq]
  exact Mem.get_write_outside _ _ _ _ _ (by rwa [ErrEntry.bytes_length])

/-- Settles O27: the entry is written and counted, then ERROR_LOG is raised, which touches neither. -/
theorem errorLogEntries : Obligations.ErrorLogEntries := by
  intro s e a n t at_
  obtain ⟨slots, cores, clusters, net, _, _, host⟩ := (s.entered e).raise_units 4
  rw [← State.logError_eq] at slots cores clusters net host
  obtain ⟨newest, corrected, contained, fatal, fatalSeq⟩ := s.host.countError_counters e.cls
  have pending : bitAt t.regs.irqStatus 4 = 1 := by
    change bitAt (s.logError e).regs.irqStatus 4 = 1
    rw [State.logError_eq]
    exact State.raise_pending _ 4
  exact ⟨(congrArg HostStation.errNewest host).trans newest, pending, (congrArg HostStation.errCorrected host).trans corrected,
    (congrArg HostStation.errContained host).trans contained, (congrArg HostStation.errFatal host).trans fatal,
    (congrArg HostStation.errFatalSeq host).trans fatalSeq, fun _ => State.logError_bytes s e, State.logError_outside s e,
    slots, cores, clusters, net⟩

end Sys2Proof.Machine
end

section
/-! A step of the supervisor whose THROTTLE event the host has enabled (R402, R497, R541, R550). -/

namespace Sys2Proof.Machine

/-- The module after a power-up, with THROTTLE enabled in IRQ_ENABLE and its vector masked, as R402 leaves it. -/
def State.throttleEnabled : State := { State.reset with regs := { State.reset.regs with file := [(0x020004, 0b10)] } }

/-- THERMAL_CRIT brings the applied target from 0.75 V to 0.62 V, below SUP_CORE_V: the message of THROTTLE pends in the host station. -/
theorem execThermalCrit_throttleEnabled :
    ∃ t, exec .thermalCrit State.throttleEnabled = .next t ∧ t.supply.appliedMv = 620 ∧ t.host.msixPend = [0] :=
  ⟨_, rfl, by decide, by decide⟩

/-- Refutes O54: a step of the supervisor changes more than the supply, the registers and the management plane. Where the applied target
falls below SUP_CORE_V and THROTTLE is enabled, a message of the host's pends or is sent (R497). -/
theorem not_supplyLimits : ¬ Obligations.SupplyLimits := by
  intro h
  obtain ⟨-, -, -, ⟨t, ht, frame, -⟩, -⟩ := h State.throttleEnabled 0 [] (by decide) (by decide)
  obtain ⟨u, hu, -, pends⟩ := execThermalCrit_throttleEnabled
  obtain rfl : u = t := Host.Outcome.next.inj (hu.symm.trans ht)
  rw [frame] at pends
  cases pends

end Sys2Proof.Machine
end

section
/-! The orders of the management host (R528, R548, R563, R565, R567 to R571). -/

namespace Sys2Proof.Machine

variable {s : State} {opcode id flags : Nat} {o : Order} {fields : List (Nat × Nat)}

/-! ### Checks, the reset guard and the answer -/

@[simp] theorem State.begin_rot : (s.begin o).rot = s.rot := rfl
@[simp] theorem State.begin_telemetry : (s.begin o).mgmt.telemetry = s.mgmt.telemetry := rfl
@[simp] theorem State.begin_mgmtLog : (s.begin o).mgmt.log = s.mgmt.log := rfl
@[simp] theorem State.begin_persistent : (s.begin o).mgmt.persistent = s.mgmt.persistent := rfl
@[simp] theorem State.begin_logSeq : (s.begin o).mgmt.logSeq = s.mgmt.logSeq := rfl
@[simp] theorem State.begin_supply : (s.begin o).supply = s.supply := rfl
@[simp] theorem State.begin_port (n : Nat) : (s.begin o).port n = s.port n := rfl
@[simp] theorem State.begin_endpointUp : (s.begin o).endpointUp = s.endpointUp := rfl
@[simp] theorem State.begin_firstActive : (s.begin o).firstActive = s.firstActive := rfl

/-- The parameters of an order that has started, also where a decision about them is rewritten. -/
theorem Order.begun_fields : o.begun.field = o.field := rfl

/-- A lawful order without a target whose field checks hold goes on to what its command does. -/
theorem runOrder_noTarget {checks : State → Order → List Check} {go : State → Order → State → State} (h : s.mayRun opcode id o)
    (hl : o.lawful flags (o.target = 0xFFFF) fields) (hc : ∀ c ∈ checks (s.begin o) o.begun, c.ok = true) :
    runOrder opcode id s (fun s o => s.checked o (o.params flags o.noTarget fields (checks s o)) (go s o)) =
      .next (go (s.begin o) o.begun (s.begin o)) :=
  (runOrder_mayRun h).trans (congrArg _ (State.checked_pass _ (Order.begun_params_noTarget hl hc)))

theorem State.answerMgmt_endpointUp (h : s.endpointUp = true) (o : Order) (a : Nat) (bs : List Byte) (e : Ending) :
    s.answerMgmt o a bs e = (s.mgmtWrite a bs).finish o e := if_pos h

/-- With no active slot, or with FORCE, a reset is not held back. -/
theorem State.forced_goes (h : s.firstActive = none ∨ bitAt o.flags 2 = 1) (go : State → State) : s.forced o go = go s := by
  rw [State.forced]
  cases active : s.firstActive with
  | none => rfl
  | some n => exact if_pos (h.resolve_left (by simp [active]))

/-! ### Records and the power cap -/

theorem execMgTelemetry_latest (h : s.mayRun 0x80 id o) (hl : o.lawful 0 (o.target = 0xFFFF) [(16, 8)]) (hu : s.endpointUp = true)
    (ht : s.mgmt.telemetry ≠ []) :
    execMgTelemetry id s =
      .next (((s.begin o).mgmtWrite (o.field 16 8) s.mgmt.telemetry).finish o.begun (Ending.ok 256)) := by
  rw [execMgTelemetry, runOrder_noTarget h hl (by simp)]
  have latest : ¬ (s.begin o).mgmt.telemetry = [] := ht
  rw [if_neg latest]
  simp only [State.begin_telemetry, Order.begun_field, State.answerMgmt_endpointUp (State.begin_endpointUp.trans hu)]

theorem execMgPowerCap_sets (h : s.mayRun 0x81 id o) (hl : o.lawful 0 (o.target = 0xFFFF) [(16, 2)])
    (hw : o.field 16 2 = 0 ∨ 500 ≤ o.field 16 2 ∧ o.field 16 2 ≤ 850) :
    let capped := { s.begin o with supply := { (s.begin o).supply with mgmtCapW := o.field 16 2 } }
    execMgPowerCap id s = .next (capped.finish o.begun (Ending.ok capped.supply.capW)) := by
  rw [execMgPowerCap, runOrder_noTarget h hl (by rw [Order.begun_fields]; simpa using hw)]
  simp only [Order.begun_field]

theorem execMgCordInfo_records (h : s.mayRun 0x83 id o) (hl : o.lawful 0 (o.target = 0xFFFF) [(16, 8)]) (hu : s.endpointUp = true) :
    execMgCordInfo id s = .next (((s.begin o).mgmtWrite (o.field 16 8)
      (((List.range 12).flatMap fun n => leBytes 4 (s.port n).cord) ++ zeros 16 ++ (List.range 12).flatMap fun n =>
        match (s.port n).cordRecord with | some r => (r ++ zeros 64).take 64 | none => List.replicate 64 0xFF)).finish o.begun
      (Ending.ok 832)) := by
  rw [execMgCordInfo, runOrder_noTarget h hl (by simp)]
  simp only [State.begin_port, Order.begun_field, State.answerMgmt_endpointUp (State.begin_endpointUp.trans hu)] <;> rfl

theorem execMgLogRead_records (h : s.mayRun 0x87 id o) (hl : o.lawful 4 (o.target = 0xFFFF) [(16, 4), (24, 16)])
    (h32 : o.field 32 8 % 32 = 0) (hu : s.endpointUp = true) :
    let ring := if bitAt o.flags 2 = 1 then s.mgmt.persistent else s.mgmt.log
    let rs := (ring.filter fun r => o.field 16 4 ≤ recordSeq r).take (o.field 32 8 / 32)
    let old := match ring with | r :: _ => decide (o.field 16 4 < recordSeq r) | [] => false
    execMgLogRead id s = .next (((s.begin o).mgmtWrite (o.field 24 8) rs.flatten).finish o.begun
      { status := 0, d17 := bitOf old, result := rs.length + 2 ^ 32 * (s.mgmt.logSeq % 2 ^ 32) }) := by
  rw [execMgLogRead, runOrder_noTarget h hl (by rw [Order.begun_fields]; simpa using h32)]
  simp only [State.begin_persistent, State.begin_mgmtLog, State.begin_logSeq, Order.begun_field, Order.begun_flags,
    State.answerMgmt_endpointUp (State.begin_endpointUp.trans hu)]
  rfl

/-! ### Resets -/

theorem execMgReset_resets (h : s.mayRun 0x86 id o) (hl : o.lawful 0x0C (o.target = 0xFFFF) [(16, 1)])
    (hk : o.field 16 1 = 1 ∨ o.field 16 1 = 2) (hq : s.firstActive = none ∨ bitAt o.flags 2 = 1)
    (ha : bitAt o.flags 3 = 1 → s.platform.everTrained = true) :
    execMgReset id s = .next (((s.begin o).finish o.begun Ending.ok).resetModule (if o.field 16 1 = 1 then .warm else .module) .bist
      (bitAt o.flags 3 = 1)) := by
  have trained : ¬ (decide (bitAt o.flags 3 = 1) && !s.platform.everTrained) = true := by simpa using ha
  rw [execMgReset, runOrder_noTarget h hl (by rw [Order.begun_fields]; simpa using hk), State.forced_goes (by simpa using hq)]
  exact congrArg _ (if_neg trained)

theorem execMgFwActivate_notReady (h : s.mayRun 0x85 id o) (hl : o.lawful 4 (o.target = 0xFFFF) []) (hr : s.rot.stageReady = false) :
    execMgFwActivate id s = .next ((s.begin o).finish o.begun Ending.badState) := by
  rw [execMgFwActivate, runOrder_noTarget (checks := fun _ _ => []) h hl (by simp)]
  exact congrArg _ (if_pos (congrArg not hr))

/-- The module that completed MG_FW_ACTIVATE: its other image is in TRIAL and no longer staged (R528, R570). -/
def State.activated (s : State) (o : Order) : State :=
  (({ s.begin o with rot := { (s.rot.modOther fun x => { x with trial := true }) with stageReady := false } }).fwLog 5
    (!s.rot.runningB) 0).finish o.begun Ending.ok

theorem execMgFwActivate_restarts (h : s.mayRun 0x85 id o) (hl : o.lawful 4 (o.target = 0xFFFF) []) (hr : s.rot.stageReady = true)
    (hq : s.firstActive = none ∨ bitAt o.flags 2 = 1) (hc : s.rot.headerCause = 0) :
    execMgFwActivate id s =
      .next ({ s.activated o with rot := { (s.activated o).rot with runningB := !s.rot.runningB } }).moduleRestart := by
  have ready : ¬ (!s.rot.stageReady) = true := by simp [hr]
  rw [execMgFwActivate, runOrder_noTarget (checks := fun _ _ => []) h hl (by simp), State.begin_rot, if_neg ready,
    State.forced_goes (by simpa using hq), State.begin_rot, if_neg (not_not_intro hc)]
  rfl

/-! ### Firmware staging -/

/-- A chunk that continues a staging, on free 4 KiB pages of the idle image slot, is read from the management host. -/
theorem execMgFwStage_reads (h : s.mayRun 0x84 id o) (hl : o.lawful 0x0C (o.target = 0xFFFF) [(16, 16)])
    (alone : ∀ x ∈ s.mgmt.alone, x.opcode = 0x84 → x.started = true → x.id = id) (hoff : o.field 24 4 % 4096 = 0)
    (hlen : o.field 28 4 % 4096 = 0) (hpos : o.field 28 4 ≠ 0) (hmax : o.field 28 4 ≤ 2 ^ 20)
    (hfit : o.field 24 4 + o.field 28 4 ≤ imageSlotSize) (hrun : s.rot.running.trial = false) (hopen : s.rot.stageOpen = true)
    (hfirst : bitAt o.flags 2 = 0) (hfree : ∀ x ∈ s.rot.stageRanges, overlaps (o.field 24 4) (o.field 28 4) x.1 x.2 = false)
    (hu : s.endpointUp = true) : execMgFwStage id s = .next ((s.begin o).hostRead (.stage o.id)) := by
  have noOther : ¬ (s.mgmt.alone.any fun x => x.opcode = 0x84 && x.started && x.id ≠ id) = true := by
    simpa [and_imp] using alone
  have noOverlap : (s.rot.stageRanges.any fun x => overlaps (o.field 24 4) (o.field 28 4) x.1 x.2) = false := by
    simpa using hfree
  have start : o.field 24 4 ≤ imageSlotSize := by omega
  rw [execMgFwStage, if_neg noOther, runOrder_noTarget h hl]
  · simp [hfirst, hrun, hopen, hu]
  · rw [Order.begun_fields]
    simpa [hoff, hlen, hpos, hfit, start, noOverlap] using hmax

/-- Settles O45: the checks of each order pass under its hypotheses, and what it then does is its body. -/
theorem managementOrders : Obligations.ManagementOrders := by
  intro s id o u p w capped nowhere quiet
  refine ⟨fun h hl hu ht => execMgTelemetry_latest h hl hu ht, fun h hl hw => execMgPowerCap_sets h hl hw,
    fun h hl hu => execMgCordInfo_records h hl hu, fun h hl h32 hu => execMgLogRead_records h hl h32 hu,
    fun h hl hk hq ha => execMgReset_resets h hl hk hq ha,
    fun h hl => ⟨fun hr => execMgFwActivate_notReady h hl hr, fun hr hq hc => execMgFwActivate_restarts h hl hr hq hc⟩, ?_⟩
  intro h hl alone hoff hlen hpos hmax hfit hrun hopen hfirst hfree hu
  exact execMgFwStage_reads h hl alone hoff hlen hpos hmax hfit hrun hopen hfirst hfree hu

end Sys2Proof.Machine
end

section
/-! The entropy source: rounds, blocks, its fault, and the outputs of its pool (R506 to R512, R515, R516). -/

namespace Sys2Proof.Machine

variable {s t : State} {n : Nat} {b : RawBlock} {blocks : List (List RawBlock)}

/-! ### What a completion leaves of the source -/

@[simp] theorem State.raise_entropy (s : State) (k : Nat) : (s.raise k).entropy = s.entropy := by
  obtain ⟨_, _, _, h⟩ := s.raise_eq k
  rw [h]

theorem State.sendMsix_entropy (s : State) (v : Nat) : (s.sendMsix v).entropy = s.entropy := by
  obtain ⟨_, _, h⟩ := s.sendMsix_eq v
  rw [h]

theorem State.hostStatus_entropy (s : State) (o : Order) (e : Ending) : (s.hostStatus o e).entropy = s.entropy := by
  simp only [State.hostStatus]
  split_ifs
  · exact State.sendMsix_entropy ..
  · rfl
  · rfl

theorem State.mgmtStatus_entropy (s : State) (o : Order) (e : Ending) : (s.mgmtStatus o e).entropy = s.entropy := by
  simp only [State.mgmtStatus]
  split_ifs <;> rfl

theorem State.recordCommand_entropy (s : State) (o : Order) (e : Ending) : (s.recordCommand o e).entropy = s.entropy := by
  simp only [State.recordCommand]
  split_ifs <;> rfl

theorem State.finish_entropy (s : State) (o : Order) (e : Ending) (accept : Nat) : (s.finish o e accept).entropy = s.entropy := by
  have closed (t : State) (a : Arbiter) (m : Mgmt) : State.entropy { t with arbiter := a, mgmt := m } = t.entropy := rfl
  have journalled (a : Nat) (bs : List Byte) : (s.putWhole a bs).entropy = s.entropy := rfl
  rw [State.finish, closed]
  split_ifs <;> simp only [State.mgmtStatus_entropy, State.recordCommand_entropy, State.mgLog_entropy, State.hostStatus_entropy,
    journalled]

theorem State.finishId_entropy (s : State) (id : Nat) (e : Ending) : (s.finishId id e).entropy = s.entropy := by
  rw [State.finishId]
  split
  · exact State.finish_entropy ..
  · rfl

theorem State.failRequests_eq (s : State) (status : Nat) : s.failRequests status =
    State.finishAll { s with entropy := { s.entropy with host := [] } } (s.entropy.host.filterMap EntReq.order) { status := status } := rfl

theorem State.finishAll_entropy (s : State) (ids : List Nat) (e : Ending) : (s.finishAll ids e).entropy = s.entropy :=
  foldl_keeps State.entropy (fun _ _ => State.finishId_entropy ..) ids s

/-! ### The fault and the release (R509, R511, R513) -/

/-- The state right after the source's fault, before the requests that wait complete. -/
def State.faulted (s : State) : State :=
  ({ s with entropy := { s.entropy with state := .fault }, mgmt := { s.mgmt with countFault := s.mgmt.countFault + 1 } }).raise 7

theorem State.faulted_traffic (s : State) : s.faulted.traffic = s.traffic := State.raise_traffic ..

theorem State.faulted_entropy (s : State) : s.faulted.entropy = { s.entropy with state := .fault } := State.raise_entropy ..

/-- The salts and the host requests that wait are gone, and the source is as the fault left it otherwise. -/
theorem State.faultEntropy_entropy (h : s.entropy.state ≠ .fault) : s.faultEntropy.entropy =
    { s.entropy with state := .fault, host := [], rot := s.entropy.rot.filter fun r => r.order.isNone } := by
  have failed : (s.faulted.failRequests 0x30).entropy = { s.entropy with state := .fault, host := [] } := by
    rw [State.failRequests_eq, State.finishAll_entropy, State.faulted_entropy]
  rw [State.faultEntropy, if_neg h]
  refine (State.finishAll_entropy _ _ { status := 0x30 }).trans ?_
  exact congrArg (fun e : Entropy => { e with rot := e.rot.filter fun r => r.order.isNone }) failed

theorem State.faultEntropy_traffic (s : State) : s.faultEntropy.traffic = s.traffic := by
  rw [State.faultEntropy]
  split
  · rfl
  · exact (State.finishAll_traffic _ _ { status := 0x30 }).trans
      ((State.finishAll_traffic _ _ { status := 0x30 }).trans s.faulted_traffic)

theorem State.releaseEntropy_entropy (s : State) : s.releaseEntropy.entropy = { s.entropy with state := .released } := by
  rw [State.releaseEntropy]
  split
  · next h => rw [← h]
  · exact State.raise_entropy ..

theorem State.releaseEntropy_traffic (s : State) : s.releaseEntropy.traffic = s.traffic := by
  rw [State.releaseEntropy]
  split
  · rfl
  · exact State.raise_traffic ..

/-- A step of the source that leaves the traffic leaves slots, cores and messages. -/
theorem State.units_of_traffic (h : t.traffic = s.traffic) : t.slots = s.slots ∧ t.cores = s.cores ∧ t.net = s.net :=
  ⟨congrArg (·.2.1) h, congrArg (·.2.2.1) h, congrArg (·.2.2.2) h⟩

/-! ### Enabled pairs and what a round says of them (R508, R517) -/

theorem State.entropyBad_of_good (h : s.liveBad 7 0 = false) : ¬ s.entropyBad = true := by
  simp [State.entropyBad, h]

theorem State.enabledPairs_eq (s : State) :
    s.enabledPairs = (List.range 4).filter fun n => bitAt (s.liveOr 0x08000C 0xF) n = 1 :=
  List.filter_congr fun n hn => by simp [State.pairEnabled, List.mem_range.mp hn]

theorem State.mem_enabledPairs : n ∈ s.enabledPairs ↔ n < 4 ∧ s.pairEnabled n = true := by
  rw [State.enabledPairs, List.mem_filter, List.mem_range]

/-- Four bits summed by their weights are read back. -/
theorem bitAt_bitsSum (f : Nat → Bool) {n : Nat} (hn : n < 4) :
    bitAt ((List.range 4).foldl (fun a n => a + bitOf (f n) * 2 ^ n) 0) n = bitOf (f n) := by
  have sum : (List.range 4).foldl (fun a n => a + bitOf (f n) * 2 ^ n) 0 =
      0 + bitOf (f 0) * 2 ^ 0 + bitOf (f 1) * 2 ^ 1 + bitOf (f 2) * 2 ^ 2 + bitOf (f 3) * 2 ^ 3 := rfl
  have bit (i : Nat) := bitOf_le_one (f i)
  have := bit 0
  have := bit 1
  have := bit 2
  have := bit 3
  rw [sum, bitAt]
  interval_cases n <;> omega

/-- All enabled pairs pass a round exactly where every block of theirs passes. -/
theorem State.roundOk_all (s : State) (blocks : List (List RawBlock)) :
    (s.enabledPairs.all fun n => bitAt (s.roundOk blocks) n = 1) = true ↔
      ∀ n ∈ s.enabledPairs, ∀ b ∈ (blocks[n]?).getD [], b.passes = true := by
  rw [List.all_eq_true]
  refine forall₂_congr fun n hn => ?_
  obtain ⟨small, enabled⟩ := State.mem_enabledPairs.mp hn
  rw [decide_eq_true_eq, State.roundOk, bitAt_bitsSum _ small, enabled, Bool.true_and, ← List.all_eq_true]
  cases ((blocks[n]?).getD []).all RawBlock.passes <;> decide

/-! ### Start-up rounds (R508, R509) -/

/-- Each enabled pair brings eight blocks of 128 samples. -/
def State.WholeRound (s : State) (blocks : List (List RawBlock)) : Prop :=
  ∀ n ∈ s.enabledPairs, ((blocks[n]?).getD []).length = 8 ∧ ∀ b ∈ (blocks[n]?).getD [], b.samples.length = 128

/-- What a round counts before it is judged. -/
def State.roundCounted (s : State) (blocks : List (List RawBlock)) : Entropy :=
  { s.entropy with rawSamples := s.entropy.rawSamples + 1024 * s.enabledPairs.length, pairsOk := s.roundOk blocks }

/-- The source after a round that failed, before LIMIT is compared. -/
def State.roundFailed (s : State) (blocks : List (List RawBlock)) : State :=
  { s with entropy := { s.roundCounted blocks with
      failsStartup := satInc 0xFFFF s.entropy.failsStartup, consec := satInc 0xFF s.entropy.consec } }

/-- A whole round of a starting source is judged by its pairs. -/
theorem execEntropyStartupRound_whole (hl : s.liveBad 7 0 = false) (hs : s.entropy.state = .startup) (hw : s.WholeRound blocks) :
    execEntropyStartupRound blocks s = .next (if s.enabledPairs.all fun n => bitAt (s.roundOk blocks) n = 1
      then ({ s with entropy := { s.roundCounted blocks with consec := 0, post := true, discards := [] } }).releaseEntropy
      else if s.entropyLimit ≤ satInc 0xFF s.entropy.consec then (s.roundFailed blocks).faultEntropy else s.roundFailed blocks) := by
  have whole : (s.enabledPairs.all fun n => ((blocks[n]?).getD []).length = 8 && ((blocks[n]?).getD []).all RawBlock.whole) = true := by
    simpa [RawBlock.whole, State.WholeRound] using hw
  have taken : ¬ (!(decide (s.entropy.state = .startup) || (decide (s.entropy.state = .fault) && !s.entropy.post)) ||
      !(s.enabledPairs.all fun n => ((blocks[n]?).getD []).length = 8 && ((blocks[n]?).getD []).all RawBlock.whole)) = true := by
    simp [hs, whole]
  exact congrArg _ ((if_neg (State.entropyBad_of_good hl)).trans (if_neg taken))

theorem execEntropyStartupRound_idle (hl : s.liveBad 7 0 = false) (hs : s.entropy.state = .stopped ∨ s.entropy.state = .released) :
    execEntropyStartupRound blocks s = .next s := by
  refine congrArg _ ((if_neg (State.entropyBad_of_good hl)).trans (if_pos ?_))
  rcases hs with hs | hs <;> simp [hs]

theorem State.roundFailed_judged (hs : s.entropy.state = .startup) :
    let t := if s.entropyLimit ≤ satInc 0xFF s.entropy.consec then (s.roundFailed blocks).faultEntropy else s.roundFailed blocks
    t.entropy.failsStartup = satInc 0xFFFF s.entropy.failsStartup ∧ t.entropy.consec = satInc 0xFF s.entropy.consec ∧
      (t.entropy.state = .fault ↔ s.entropyLimit ≤ satInc 0xFF s.entropy.consec) ∧ t.traffic = s.traffic := by
  have starting : (s.roundFailed blocks).entropy.state = .startup := hs
  by_cases reached : s.entropyLimit ≤ satInc 0xFF s.entropy.consec
  · simp only [if_pos reached, State.faultEntropy_entropy (show (s.roundFailed blocks).entropy.state ≠ .fault by simp [starting])]
    exact ⟨rfl, rfl, iff_of_true trivial reached, State.faultEntropy_traffic _⟩
  · simp only [if_neg reached]
    exact ⟨rfl, rfl, iff_of_false (by simp [starting]) reached, rfl⟩

/-! ### Blocks (R506, R507, R510, R515) -/

/-- The module once a block's samples are counted. -/
def State.blockCounted (s : State) : State :=
  { s with entropy := { s.entropy with rawSamples := s.entropy.rawSamples + 128 } }

/-- A whole block of an enabled pair is counted and goes by its health tests. -/
theorem execEntropyBlock_released (hl : s.liveBad 7 0 = false) (hs : s.entropy.state = .released) (hn : n ∈ s.enabledPairs)
    (hb : b.samples.length = 128) :
    execEntropyBlock n b s = .next (if b.passes then s.blockCounted.goodBlock n b else s.blockCounted.badBlock n b) := by
  obtain ⟨small, enabled⟩ := State.mem_enabledPairs.mp hn
  have taken : ¬ (!(decide (s.entropy.state = .released) || (decide (s.entropy.state = .fault) && s.entropy.post)) ||
      !s.pairEnabled n || !b.whole) = true := by
    simp [hs, enabled, RawBlock.whole, hb]
  exact (unit_present small ..).trans (congrArg _ ((if_neg (State.entropyBad_of_good hl)).trans (if_neg taken)))

theorem State.goodBlock_pools (hs : s.entropy.state = .released) :
    let t := s.goodBlock n b
    t.entropy.rawSamples = s.entropy.rawSamples ∧ t.entropy.state = .released ∧
      t.entropy.pool = (if s.entropy.pool.length < 128 then s.entropy.pool ++ [sha256 b.samples] else s.entropy.pool) ∧
      t.entropy.discarded = s.entropy.discarded ∧ t.traffic = s.traffic := by
  have released : State.releaseEntropy { s with entropy := { s.entropy with discards := s.entropy.discards.put n 0 } } =
      { s with entropy := { s.entropy with discards := s.entropy.discards.put n 0 } } := if_pos hs
  simp only [State.goodBlock, released]
  split
  · exact ⟨rfl, hs, rfl, rfl, rfl⟩
  · exact ⟨rfl, hs, rfl, rfl, rfl⟩

/-- The source once a block that failed is discarded and counted, before LIMIT is compared. -/
def State.blockFailed (s : State) (n : Nat) (b : RawBlock) : State :=
  { s with entropy := { s.entropy with
      failsRct := if rctFails b.samples then satInc 0xFF s.entropy.failsRct else s.entropy.failsRct
      failsApt := if aptFails b.samples then satInc 0xFF s.entropy.failsApt else s.entropy.failsApt
      discarded := s.entropy.discarded + 1, discards := s.entropy.discards.put n ((s.entropy.discards.at n).getD 0 + 1) } }

theorem State.badBlock_eq (s : State) (n : Nat) (b : RawBlock) : s.badBlock n b =
    if (s.blockFailed n b).enabledPairs.all fun p => s.entropyLimit ≤ ((s.blockFailed n b).entropy.discards.at p).getD 0
    then (s.blockFailed n b).faultEntropy else s.blockFailed n b := rfl

/-- A block that fails is discarded and counted, whether or not its pair's count makes it a fault. -/
theorem State.badBlock_discards (hs : s.entropy.state = .released) :
    let t := s.badBlock n b
    t.entropy.discarded = s.entropy.discarded + 1 ∧ t.entropy.pool = s.entropy.pool ∧
      t.entropy.discards.at n = some ((s.entropy.discards.at n).getD 0 + 1) ∧ t.traffic = s.traffic := by
  have running : (s.blockFailed n b).entropy.state ≠ .fault := by
    rw [show (s.blockFailed n b).entropy.state = .released from hs]
    decide
  rw [State.badBlock_eq]
  split
  · dsimp only
    rw [State.faultEntropy_entropy running, State.faultEntropy_traffic]
    exact ⟨rfl, rfl, Tbl.at_put_self .., rfl⟩
  · exact ⟨rfl, rfl, Tbl.at_put_self .., rfl⟩

/-! ### The pool (R512) -/

theorem execEntropyServe_empty (hp : s.entropy.pool = []) : execEntropyServe s = .next s := by
  simp only [execEntropyServe, hp]

/-- The module once an output has left the pool. -/
def State.drawn (s : State) (pool : List (List Byte)) : State :=
  { s with entropy := { s.entropy with pool := pool, delivered := s.entropy.delivered + 32 } }

section Serve

variable {out : List Byte} {pool : List (List Byte)} (hl : s.liveBad 7 0 = false) (hp : s.entropy.pool = out :: pool)
  (hs : s.entropy.state = .released)

include hl hp

theorem execEntropyServe_noConsumer (hr : s.entropy.rot = []) (hh : s.entropy.host = []) : execEntropyServe s = .next s := by
  simp only [execEntropyServe, hp, if_neg (State.entropyBad_of_good hl)]
  exact congrArg _ (if_pos (by simp [hr, hh]))

include hs

theorem execEntropyServe_salt {id : Nat} {rest : List EntReq} (hr : s.entropy.rot = .salt id :: rest) :
    execEntropyServe s = .next { s.drawn pool with
      entropy := { (s.drawn pool).entropy with rot := rest }
      rot := { s.rot with signing := s.rot.signing.map fun r => if r.order = id then { r with salt := some out } else r } } := by
  have serves : ¬ (decide (s.entropy.state ≠ .released) || (decide (s.entropy.rot = []) && decide (s.entropy.host = []))) = true := by
    simp [hs, hr]
  simp only [execEntropyServe, hp, if_neg (State.entropyBad_of_good hl), if_neg serves]
  simp only [hr]
  rfl

theorem execEntropyServe_get {id need : Nat} {got : List Byte} {rest : List EntReq} (hr : s.entropy.rot = [])
    (hh : s.entropy.host = .get id need got :: rest) :
    execEntropyServe s = .next ((s.drawn pool).giveBytes id need got out rest) := by
  have serves : ¬ (decide (s.entropy.state ≠ .released) || (decide (s.entropy.rot = []) && decide (s.entropy.host = []))) = true := by
    simp [hs, hh]
  simp only [execEntropyServe, hp, if_neg (State.entropyBad_of_good hl), if_neg serves]
  simp only [State.drawn, hr, hh]

end Serve

theorem State.giveBytes_more {id need : Nat} (h : 32 < need) (got out : List Byte) (rest : List EntReq) :
    s.giveBytes id need got out rest =
      { s with entropy := { s.entropy with host := .get id (need - 32) (got ++ out.take need) :: rest } } := if_pos h

/-- The signing requests of an order have its salt once it is served. -/
theorem salted_signing {l : List SignReq} {id : Nat} {out : List Byte} {q : SignReq}
    (hq : q ∈ l.map fun r => if r.order = id then { r with salt := some out } else r) (ho : q.order = id) : q.salt = some out := by
  obtain ⟨r, -, rfl⟩ := List.mem_map.mp hq
  by_cases same : r.order = id
  · rw [if_pos same]
  · rw [if_neg same] at ho
    exact absurd ho same

/-! ### The obligation -/

/-- Settles O59: a round and a block by what the enabled pairs bring, an output by the first consumer that waits. -/
theorem entropyCommands : Obligations.EntropyCommands := by
  intro s blocks n b hl e ran pairs whole good limit
  have enabled : s.enabledPairs = pairs := s.enabledPairs_eq
  have judged := s.roundOk_all blocks
  rw [enabled] at judged
  refine ⟨fun hs hw => ⟨fun hg => ?_, fun hg => ?_⟩, execEntropyStartupRound_idle hl,
    fun hs hn hb => ⟨fun pass => ?_, fun fail => ?_⟩, execEntropyServe_empty,
    fun out pool hp hs => ⟨fun hr hh => execEntropyServe_noConsumer hl hp hr hh, fun id rest hr => ?_,
      fun id need got rest hr hh more => ?_⟩⟩
  · have round := execEntropyStartupRound_whole hl hs (blocks := blocks) (by rwa [State.WholeRound, enabled])
    rw [enabled, if_pos (judged.mpr hg)] at round
    refine ⟨_, round, ?_, State.units_of_traffic (State.releaseEntropy_traffic _)⟩
    rw [State.releaseEntropy_entropy]
    exact ⟨rfl, rfl, congrArg (fun l : List Nat => e.rawSamples + 1024 * l.length) enabled⟩
  · have round := execEntropyStartupRound_whole hl hs (blocks := blocks) (by rwa [State.WholeRound, enabled])
    rw [enabled, if_neg (mt judged.mp hg)] at round
    obtain ⟨fails, consec, fault, traffic⟩ := State.roundFailed_judged (blocks := blocks) hs
    exact ⟨_, round, ⟨fails, consec, fault⟩, State.units_of_traffic traffic⟩
  · have block := execEntropyBlock_released hl hs (enabled ▸ hn) hb
    rw [if_pos pass] at block
    obtain ⟨raw, released, pooled, discarded, traffic⟩ := State.goodBlock_pools (s := s.blockCounted) (n := n) (b := b) hs
    exact ⟨_, block, ⟨raw, released, pooled, discarded⟩, State.units_of_traffic traffic⟩
  · have block := execEntropyBlock_released hl hs (enabled ▸ hn) hb
    rw [if_neg (by simp [fail])] at block
    obtain ⟨discarded, pooled, counted, traffic⟩ := State.badBlock_discards (s := s.blockCounted) (n := n) (b := b) hs
    exact ⟨_, block, ⟨discarded, pooled, counted⟩, State.units_of_traffic traffic⟩
  · exact ⟨_, execEntropyServe_salt hl hp hs hr, rfl, rfl, rfl, rfl, fun q hq ho => salted_signing hq ho⟩
  · refine ⟨_, execEntropyServe_get hl hp hs hr hh, ?_⟩
    rw [State.giveBytes_more more]
    exact ⟨⟨rfl, rfl, rfl⟩, rfl, rfl, rfl⟩

end Sys2Proof.Machine
end

section
/-! A write of WIN_CTRL through its page that finds a mismatch in the window's live registers (R398, R473, R483, R585). -/

namespace Sys2Proof.Machine

variable {s : State}

/-- The module once a mismatch of live registers stands in its status registers, before it is logged. -/
def State.mismatchNoted (s : State) (domain inst : Nat) : State :=
  { s with regs := { s.regs with
      parityStatus := Nat.lor s.regs.parityStatus (2 ^ domain)
      parityWhere := if bitAt s.regs.parityWhere.toNat 31 = 0 then BitVec.ofNat 32 (2 ^ 31 + domain * 2 ^ 16 + inst)
        else s.regs.parityWhere } }

theorem State.parityReport_eq (s : State) (domain inst : Nat) : s.parityReport domain inst =
    ((s.mismatchNoted domain inst).logError { cls := .contained, code := 0x0008, unitKind := 9, unit := inst, info := domain }).raise 5 :=
  rfl

/-- The first error of a module lies in the first entry of the error log, which begins with its sequence. -/
theorem State.parityReport_firstEntry (h : s.host.errNewest = 0) (domain inst : Nat) :
    Mem.get memBackground (s.parityReport domain inst).mem 0x010004000000 = some 1 := by
  have newest : (s.mismatchNoted domain inst).host.errNewest = 0 := h
  have first := (s.mismatchNoted domain inst).logError_bytes
    { cls := .contained, code := 0x0008, unitKind := 9, unit := inst, info := domain } (k := 0) (by decide)
  rw [newest] at first
  rw [State.parityReport_eq, State.raise_mem]
  exact first

theorem State.checkWindow_firstEntry (hl : s.liveBad 2 0 = true) (hp : s.regs.winParityStop = false) (hn : s.host.errNewest = 0) :
    Mem.get memBackground s.checkWindow.mem 0x010004000000 = some 1 := by
  rw [State.checkWindow, if_pos (by simp [hl, hp])]
  exact State.parityReport_firstEntry (s := { s with regs := { s.regs with winOpen := false, winParityStop := true } }) hn 2 0

theorem State.bar0Write_winCtrl (s : State) (v : Nat) : s.bar0Write 0x03100C v = s.writeReg 0x03100C .value v := rfl

theorem execRegisterWrite_bar0 {offset : Nat} {v : Word} (ha : offset % 4 = 0) (hb : s.barsUp = true) :
    execRegisterWrite .bar0 offset v s = .next (s.bar0Write offset v.toNat) :=
  congrArg _ ((if_neg (not_not_intro ha)).trans (if_pos hb))

/-- While the window's live registers have a mismatch that has not stopped it yet, a write of WIN_CTRL makes the first error's entry. -/
theorem execRegisterWrite_mismatch {v : Word} (hb : s.barsUp = true) (hl : s.liveBad 2 0 = true) (hp : s.regs.winParityStop = false)
    (hn : s.host.errNewest = 0) : ∃ t, execRegisterWrite .bar0 0x03100C v s = .next t ∧
      Mem.get memBackground t.mem 0x010004000000 = some 1 := by
  obtain ⟨writes, touched, file, h⟩ := s.writeReg_winCtrl .value v.toNat
  refine ⟨_, by rw [execRegisterWrite_bar0 rfl hb, State.bar0Write_winCtrl, h], ?_⟩
  exact State.checkWindow_firstEntry
    (s := { s with regs := { s.regs with lockWrites := writes, reservedTouched := touched, file := file } }) hl hp hn

/-- Refutes O46: where the window's live registers have a mismatch, a write of WIN_CTRL meets it and makes an entry in the error log,
so memory changes (R483). -/
theorem not_registerPages : ¬ Obligations.RegisterPages := by
  intro h
  obtain ⟨t, ht, -, -, -, -, memory, -⟩ :=
    h State.windowMismatch 0x03100C .value 0 _ regDesc_winCtrl rfl (by decide) rfl (by decide) (by decide) (by decide)
  obtain ⟨u, hu, logged⟩ := execRegisterWrite_mismatch (s := State.windowMismatch) (v := 0) (by decide) (by decide) rfl rfl
  obtain rfl : u = t := Host.Outcome.next.inj (hu.symm.trans ht)
  rw [memory] at logged
  exact absurd logged (by decide)

end Sys2Proof.Machine
end

section
/-! Strobes of buffered registers: what is refused and recorded, and what is copied (R478, R479, R482). -/

namespace Sys2Proof.Machine

variable {s : State} {d i reason : Nat} {keys : List Nat}

/-! ### Fields of a value that two parts make up -/

theorem bitsAt_lor (a b hi lo : Nat) : bitsAt (Nat.lor a b) hi lo = Nat.lor (bitsAt a hi lo) (bitsAt b hi lo) := by
  change (a ||| b) / 2 ^ lo % 2 ^ (hi + 1 - lo) = (a / 2 ^ lo % 2 ^ (hi + 1 - lo) ||| b / 2 ^ lo % 2 ^ (hi + 1 - lo))
  rw [Nat.or_div_two_pow, Nat.or_mod_two_pow]

theorem bitAt_eq_bitsAt (v n : Nat) : bitAt v n = bitsAt v n n := by
  rw [bitAt, bitsAt, Nat.add_sub_cancel_left, pow_one]

/-- One bit of a value is no part of the fields below it. -/
theorem bitsAt_land_two_pow (v : Nat) {k hi lo : Nat} (h : hi < k) : bitsAt (Nat.land v (2 ^ k)) hi lo = 0 := by
  change (v &&& 2 ^ k) / 2 ^ lo % 2 ^ (hi + 1 - lo) = 0
  rw [Nat.and_two_pow]
  cases v.testBit k with
  | false => simp
  | true =>
    by_cases empty : hi + 1 ≤ lo
    · rw [Nat.sub_eq_zero_of_le empty, pow_zero, Nat.mod_one]
    · have split : 2 ^ k = 2 ^ (k - (hi + 1)) * 2 ^ (hi + 1 - lo) * 2 ^ lo := by
        rw [← pow_add, ← pow_add]
        congr 1
        omega
      rw [Bool.toNat_true, one_mul, split, Nat.mul_div_cancel _ (Nat.two_pow_pos lo), Nat.mul_mod_left]

/-! ### A strobe that is refused (R479, R482) -/

/-- What a refused strobe records of itself. -/
def rejectRecord (reason domain inst : Nat) : Nat := 2 ^ 31 + reason * 2 ^ 24 + domain % 256 * 2 ^ 16 + inst

theorem rejectRecord_fields (hr : reason < 16) (hi : i < 2 ^ 16) : bitAt (rejectRecord reason d i) 31 = 1 ∧
    bitsAt (rejectRecord reason d i) 27 24 = reason ∧ bitsAt (rejectRecord reason d i) 23 16 = d % 256 ∧
    bitsAt (rejectRecord reason d i) 15 0 = i ∧ rejectRecord reason d i < 2 ^ 32 := by
  simp only [bitAt, bitsAt, rejectRecord]
  omega

/-- The record register after a refusal: a record that stands is kept and marked as overrun. -/
def rejectWord (old reason domain inst : Nat) : Nat :=
  if bitAt old 31 = 1 then Nat.lor old (2 ^ 30) else Nat.lor (Nat.land old (2 ^ 30)) (rejectRecord reason domain inst)

/-- A refusal that is recorded and counted, before it is signalled. -/
def State.strobeRefused (s : State) (reason domain inst : Nat) : State :=
  { s with regs := { s.regs with
      reject := BitVec.ofNat 32 (rejectWord s.regs.reject.toNat reason domain inst), rejects := satInc 0xFFFF s.regs.rejects } }

theorem State.rejectStrobe_eq (s : State) (reason domain inst : Nat) :
    s.rejectStrobe reason domain inst = (s.strobeRefused reason domain inst).raise 6 := rfl

theorem rejectWord_free {old : Nat} (h : bitAt old 31 = 0) (reason domain inst : Nat) :
    rejectWord old reason domain inst = Nat.lor (Nat.land old (2 ^ 30)) (rejectRecord reason domain inst) :=
  if_neg (by omega)

theorem State.rejectStrobe_pending (s : State) (reason domain inst : Nat) :
    bitAt (s.rejectStrobe reason domain inst).regs.irqStatus 6 = 1 := by
  rw [State.rejectStrobe_eq]
  exact State.raise_pending ..

/-- Of the registers a refused strobe changes its record, its count and the event's bit alone. -/
theorem State.rejectStrobe_regs (s : State) (reason domain inst : Nat) : ∃ irq, (s.rejectStrobe reason domain inst).regs =
    { (s.strobeRefused reason domain inst).regs with irqStatus := irq } := by
  obtain ⟨irq, p, m, raised⟩ := (s.strobeRefused reason domain inst).raise_eq 6
  rw [State.rejectStrobe_eq, raised]
  exact ⟨irq, rfl⟩

/-- The record of a refusal reads as its reason, its domain and the number in it. -/
theorem rejectWord_fields (w : Nat) (hr : reason < 16) (hi : i < 2 ^ 16) :
    let x := (BitVec.ofNat 32 (Nat.lor (Nat.land w (2 ^ 30)) (rejectRecord reason d i))).toNat
    bitAt x 31 = 1 ∧ bitsAt x 27 24 = reason ∧ bitsAt x 23 16 = d % 256 ∧ bitsAt x 15 0 = i := by
  obtain ⟨valid, why, domain, inst, small⟩ := rejectRecord_fields (d := d) hr hi
  have overflow : Nat.land w (2 ^ 30) < 2 ^ 31 := Nat.lt_of_le_of_lt Nat.and_le_right (by decide)
  have fits : Nat.lor (Nat.land w (2 ^ 30)) (rejectRecord reason d i) < 2 ^ 32 :=
    Nat.or_lt_two_pow (overflow.trans (by decide)) small
  have noValid : bitsAt (Nat.land w (2 ^ 30)) 31 31 = 0 := by
    rw [bitsAt, Nat.div_eq_of_lt overflow, Nat.zero_mod]
  rw [bitAt_eq_bitsAt] at valid
  simp only [BitVec.toNat_ofNat, Nat.mod_eq_of_lt fits, bitAt_eq_bitsAt, bitsAt_lor, bitsAt_land_two_pow w (show 27 < 30 by decide),
    bitsAt_land_two_pow w (show 23 < 30 by decide), bitsAt_land_two_pow w (show 15 < 30 by decide), noValid, valid, why, domain, inst]
  exact ⟨rfl, Nat.zero_or _, Nat.zero_or _, Nat.zero_or _⟩

/-! ### The branches of a strobe -/

theorem execCfgUpdate_barsUp (hb : s.barsUp = true) (v : Word) : execCfgUpdate v s = .next (s.cfgUpdate v.toNat) :=
  congrArg _ (if_pos hb)

section Branches

variable {v : Nat}

theorem State.cfgUpdate_noInstance (hk : domainKeys (bitsAt v 31 16) (v % 2 ^ 16) = none) :
    s.cfgUpdate v = s.rejectStrobe 4 (bitsAt v 31 16 % 256) (v % 2 ^ 16) := by
  simp only [State.cfgUpdate, hk]

variable (hk : domainKeys (bitsAt v 31 16) (v % 2 ^ 16) = some keys)

include hk

theorem State.cfgUpdate_runs (hf : s.functionRuns (bitsAt v 31 16) (v % 2 ^ 16) = true) :
    s.cfgUpdate v = s.rejectStrobe 1 (bitsAt v 31 16) (v % 2 ^ 16) := by
  simp only [State.cfgUpdate, hk, if_pos hf]

theorem State.cfgUpdate_checked (hf : s.functionRuns (bitsAt v 31 16) (v % 2 ^ 16) = false) : s.cfgUpdate v =
    if s.shadowReason (bitsAt v 31 16) (v % 2 ^ 16) ≠ 0
    then s.rejectStrobe (s.shadowReason (bitsAt v 31 16) (v % 2 ^ 16)) (bitsAt v 31 16) (v % 2 ^ 16)
    else (s.copyShadows (bitsAt v 31 16) (v % 2 ^ 16) keys).strobed (bitsAt v 31 16) (v % 2 ^ 16) := by
  simp only [State.cfgUpdate, hk, if_neg (Bool.not_eq_true _ ▸ hf)]

end Branches

theorem State.shadowReason_parity (h : .cfgShadow d i ∈ s.upsets) : s.shadowReason d i = 2 :=
  if_pos (by simpa using h)

theorem State.shadowReason_good (h : .cfgShadow d i ∉ s.upsets) : s.shadowReason d i = if s.shadowsOk d i then 0 else 3 :=
  if_neg (by simpa using h)

/-! ### The copy (R479) -/

/-- A table after one entry for each key of a list: the keys' entries are new, the others stay. -/
theorem Tbl.at_foldl_put {α : Type} (f : Nat → α) (keys : List Nat) (t : Tbl α) (k : Nat) :
    Tbl.at (keys.foldl (fun t k => t.put k (f k)) t) k = if k ∈ keys then some (f k) else t.at k := by
  induction keys generalizing t with
  | nil => simp
  | cons x xs ih =>
    rw [List.foldl_cons, ih, Tbl.at_put]
    by_cases later : k ∈ xs
    · simp [later]
    · by_cases here : x = k
      · simp [here]
      · simp [later, here, Ne.symm here]

theorem State.copyShadows_live (s : State) (d i : Nat) (keys : List Nat) (k : Nat) : (s.copyShadows d i keys).regs.live.at k =
    if k ∈ keys then some (BitVec.ofNat 32 (s.stored k)) else s.regs.live.at k := Tbl.at_foldl_put ..

theorem State.copyShadows_liveReg_mem {k : Nat} (h : k ∈ keys) : (s.copyShadows d i keys).liveReg k = s.stored k % 2 ^ 32 := by
  rw [State.liveReg, State.liveOr, State.copyShadows_live, if_pos h]
  exact BitVec.toNat_ofNat ..

theorem State.copyShadows_liveReg_notMem {k : Nat} (h : k ∉ keys) : (s.copyShadows d i keys).liveReg k = s.liveReg k := by
  simp only [State.liveReg, State.liveOr, State.copyShadows_live, if_neg h]

theorem State.copyShadows_pendingCfg (s : State) (d i : Nat) (keys : List Nat) : (d, i) ∉ (s.copyShadows d i keys).regs.pendingCfg := by
  simp [State.copyShadows]

theorem State.copyShadows_liveBad (s : State) (d i : Nat) (keys : List Nat) : (s.copyShadows d i keys).liveBad d i = false := by
  simp [State.copyShadows, State.liveBad]

/-! ### The obligation -/

/-- Settles O48: each branch of a strobe, with the record that its refusal leaves or the copy that it makes. -/
theorem strobes : Obligations.Strobes := by
  intro s v keys hb d i refused
  have runs := execCfgUpdate_barsUp hb v
  have small : i < 2 ^ 16 := Nat.mod_lt _ (by decide)
  have recorded {reason domain : Nat} (hr : reason < 16) (hd : domain % 256 = d % 256)
      (h : s.cfgUpdate v.toNat = s.rejectStrobe reason domain i) : refused reason := by
    obtain ⟨irq, regs⟩ := s.rejectStrobe_regs reason domain i
    have signalled := s.rejectStrobe_pending reason domain i
    rw [← h] at regs signalled
    refine ⟨s.cfgUpdate v.toNat, runs, ?_⟩
    rw [regs] at signalled ⊢
    refine ⟨rfl, rfl, rfl, rfl, signalled, fun free => ?_⟩
    obtain ⟨valid, why, named, inst⟩ := rejectWord_fields (d := domain) s.regs.reject.toNat hr small
    rw [← rejectWord_free free] at valid why named inst
    exact ⟨valid, why, named.trans hd, inst⟩
  refine ⟨fun hk => recorded (by decide) (Nat.mod_mod ..) (State.cfgUpdate_noInstance hk), fun hk =>
    ⟨fun hf => recorded (by decide) rfl (State.cfgUpdate_runs hk hf), fun hf parity => ?_, fun hf good bad => ?_,
      fun hf good ok => ?_⟩⟩
  · have refuses := State.cfgUpdate_checked hk hf
    rw [State.shadowReason_parity parity] at refuses
    exact recorded (by decide) rfl refuses
  · have refuses := State.cfgUpdate_checked hk hf
    rw [State.shadowReason_good good, bad] at refuses
    exact recorded (by decide) rfl refuses
  · have applies := State.cfgUpdate_checked hk hf
    rw [State.shadowReason_good good, ok] at applies
    exact ⟨runs.trans (congrArg _ applies), fun k hk => State.copyShadows_liveReg_mem hk,
      fun k hk => State.copyShadows_liveReg_notMem hk, s.copyShadows_pendingCfg d i keys, s.copyShadows_liveBad d i keys, rfl⟩

end Sys2Proof.Machine
end

section
/-! The mailbox, the indirect access and the locks of management (R472, R487, R489 to R491, R493, R495, R496). -/

namespace Sys2Proof.Machine

variable {s : State}

/-! ### The end of a capture (R489 to R491) -/

/-- Forming a captured value ends no capture, whatever a check of the copies that it reads sets off. -/
theorem State.capture_mbxGen (s : State) (sel i : Nat) : (s.capture sel i).1.regs.mbxGen = s.regs.mbxGen :=
  (Keeps.refl (steady := True) s).capture.captures trivial

theorem State.captured_value {c : Capture} (h : c.1 = 0) : s.captured c =
    { s with regs := { s.regs with
        mbxBusy := false, mbxValid := true, mbxErr := 0, mbxGen := (s.regs.mbxGen + 1) % 256, mbxData := c.2.map (BitVec.ofNat 32) } } :=
  if_pos h

theorem State.captured_fails {c : Capture} (h : c.1 ≠ 0) :
    s.captured c = { s with regs := { s.regs with mbxBusy := false, mbxErr := c.1 } } := if_neg h

theorem State.capture_unknown (s : State) (i : Nat) : (s.capture 0xFF i).2.1 = 1 := rfl

theorem State.capture_slotOutside {i : Nat} (h : 48 ≤ i) : (s.capture 0x22 i).2.1 = 2 := by
  have outside : ¬ decide (i < 48) = true := by simpa using h
  exact congrArg Prod.fst (if_neg outside)

theorem execMailboxCaptureDone_idle (h : s.regs.mbxBusy = false) : execMailboxCaptureDone s = .next s :=
  congrArg _ (if_pos (congrArg not h))

/-- What MBX_SEL names, captured. -/
def State.mailboxValue (s : State) : State × Capture := s.capture (bitsAt (s.regOr 0x040000 0) 31 24) (s.regOr 0x040000 0 % 2 ^ 24)

theorem execMailboxCaptureDone_busy (h : s.regs.mbxBusy = true) :
    execMailboxCaptureDone s = .next (s.mailboxValue.1.captured s.mailboxValue.2) :=
  congrArg _ (if_neg (by simp [h]))

theorem execMailboxCaptureDone_fails (h : s.regs.mbxBusy = true) (hc : s.mailboxValue.2.1 ≠ 0) :
    ∃ t, execMailboxCaptureDone s = .next t ∧ t.regs.mbxBusy = false ∧ t.regs.mbxErr = s.mailboxValue.2.1 := by
  refine ⟨_, execMailboxCaptureDone_busy h, ?_⟩
  rw [State.captured_fails hc]
  exact ⟨rfl, rfl⟩

/-- A capture that fails for a known reason ends with it in ERR. -/
theorem execMailboxCaptureDone_error (h : s.regs.mbxBusy = true) {err : Nat} (he : err ≠ 0) (hc : s.mailboxValue.2.1 = err) :
    ∃ t, execMailboxCaptureDone s = .next t ∧ t.regs.mbxErr = err := by
  obtain ⟨t, done, -, code⟩ := execMailboxCaptureDone_fails h (hc ▸ he)
  exact ⟨t, done, code.trans hc⟩

/-! ### Indirect accesses (R493, R495) -/

theorem execIndDataRead_barsUp (h : s.barsUp = true) : execIndDataRead s = .next s.indRead := congrArg _ (if_pos h)

theorem execIndDataWrite_barsUp (h : s.barsUp = true) (v : Word) : execIndDataWrite v s = .next (s.indWrite v.toNat) :=
  congrArg _ (if_pos h)

theorem State.indRead_fault {e : Nat} (h : s.indFault = some e) : s.indRead = s.indFail e true := by
  simp only [State.indRead, h]

theorem State.indWrite_fault {e : Nat} (h : s.indFault = some e) (v : Nat) : s.indWrite v = s.indFail e false := by
  simp only [State.indWrite, h]

theorem State.indWrite_done (h : s.indFault = none) (v : Nat) : s.indWrite v = (s.writeReg s.indKey s.writeOp v).indAdvance := by
  simp only [State.indWrite, h]

/-- IND_DATA holds what the named register reads as. -/
def State.indLatched (s : State) : State := { s with regs := { s.regs with indData := BitVec.ofNat 32 (s.readReg s.indKey) } }

/-- With the live copies' parity good, the register is read. -/
theorem State.indRead_done (h : s.indFault = none) (hl : ∀ d i, s.liveBad d i = false) :
    s.indRead = s.indLatched.indAdvance := by
  simp only [State.indRead, h, hl]
  cases regDesc s.indKey with
  | none => rfl
  | some d =>
    obtain ⟨rw, rwl, lock, reset, reserved, _ | live⟩ := d <;> rfl

theorem State.regOr_lt (s : State) (key : Nat) : s.regOr key 0 < 2 ^ 32 := by
  rw [State.regOr]
  split
  · exact BitVec.isLt _
  · decide

theorem State.indAdvance_indData (s : State) : s.indAdvance.regs.indData = s.regs.indData := by
  simp only [State.indAdvance]
  split <;> rfl

theorem State.indAdvance_off (h : bitAt (s.regOr 0x050004 0x200) 0 = 0) : s.indAdvance = s := if_pos h

/-- IND_ADDR goes on by its step inside its class. -/
theorem State.indAdvance_address (h : bitAt (s.regOr 0x050004 0x200) 0 = 1) : s.indAdvance.regOr 0x050000 0 =
    s.regOr 0x050000 0 / 2 ^ 28 * 2 ^ 28 + (s.regOr 0x050000 0 % 2 ^ 28 + 2 ^ bitsAt (s.regOr 0x050004 0x200) 12 8) % 2 ^ 28 := by
  have on : ¬ bitAt (s.regOr 0x050004 0x200) 0 = 0 := by omega
  have small := s.regOr_lt 0x050000
  rw [State.indAdvance, if_neg on, State.regOr, Tbl.at_put_self]
  refine (BitVec.toNat_ofNat ..).trans (Nat.mod_eq_of_lt ?_)
  omega

/-! ### Time-outs (R472, R495) -/

theorem execIndNoAnswer_barsUp (h : s.barsUp = true) (write : Bool) :
    execIndNoAnswer write s = .next (s.indFail (s.indFault.getD 3) (!write)) := congrArg _ (if_pos h)

theorem State.logError_indLastErr (s : State) (e : ErrEntry) :
    (s.logError e).regs.indLastErr = s.regs.indLastErr ∧ (s.logError e).reply = s.reply := by
  obtain ⟨irq, p, m, h⟩ := (s.entered e).raise_eq 4
  rw [s.logError_eq, h]
  exact ⟨rfl, rfl⟩

theorem execSupAccessTimeout_barsUp (h : s.barsUp = true) (write : Bool) : execSupAccessTimeout write s =
    .next (if write then s.contained 0x0015 7 0 else { s.contained 0x0015 7 0 with reply := .data (List.replicate 4 0xFF) }) :=
  congrArg Host.Outcome.next (if_neg (by simp [h]))

theorem execSupAccessTimeout_logged (h : s.barsUp = true) (write : Bool) : ∃ t, execSupAccessTimeout write s = .next t ∧
    t.host.errContained = satInc (2 ^ 32 - 1) s.host.errContained ∧ t.regs.indLastErr = s.regs.indLastErr ∧
    t.reply = if write then s.reply else .data (List.replicate 4 0xFF) := by
  have counted : (s.contained 0x0015 7 0).host.errContained = satInc (2 ^ 32 - 1) s.host.errContained := s.logError_contained rfl
  obtain ⟨last, reply⟩ := s.logError_indLastErr { cls := .contained, code := 0x0015, unitKind := 7, unit := 0 }
  refine ⟨_, execSupAccessTimeout_barsUp h write, ?_⟩
  cases write with
  | true => exact ⟨counted, last, reply⟩
  | false => exact ⟨counted, last, rfl⟩

/-! ### Lock accesses of management (R487, R496) -/

/-- The registers once a lock is free. -/
def State.lockFreed (s : State) (lock : Nat) : State := { s with regs := { s.regs with locks := s.regs.locks.del lock } }

section Locks

variable {lock tag : Nat} (hlock : lock < 32) (ha : s.platform.aux = true)

include hlock ha

theorem execManagementLockAccess_takes (hl : s.regs.locks.at lock = none) : execManagementLockAccess lock tag false s =
    .next { s with regs := { s.regs with locks := s.regs.locks.put lock (3, tag % 256) } } := by
  rw [execManagementLockAccess, unit_present hlock]
  simp [ha, hl]

theorem execManagementLockAccess_taken {l : Nat × Nat} (hl : s.regs.locks.at lock = some l) :
    execManagementLockAccess lock tag false s = .next s := by
  rw [execManagementLockAccess, unit_present hlock]
  simp [ha, hl]

theorem execManagementLockAccess_notHolder {l : Nat × Nat} (hl : s.regs.locks.at lock = some l) (hn : l ≠ (3, tag % 256)) :
    execManagementLockAccess lock tag true s = .next s := by
  rw [execManagementLockAccess, unit_present hlock]
  simp [ha, hl, hn]

theorem execManagementLockAccess_frees (hl : s.regs.locks.at lock = some (3, tag % 256)) :
    ∃ t, execManagementLockAccess lock tag true s = .next t ∧ t.regs.locks = s.regs.locks.del lock ∧
      (16 ≤ lock → bitAt t.regs.irqStatus 9 = 1) := by
  have frees : execManagementLockAccess lock tag true s =
      .next (if 16 ≤ lock then (s.lockFreed lock).raise 9 else s.lockFreed lock) := by
    rw [execManagementLockAccess, unit_present hlock]
    simp [ha, hl, State.lockFreed]
  refine ⟨_, frees, ?_⟩
  by_cases shared : 16 ≤ lock
  · obtain ⟨irq, p, m, raised⟩ := (s.lockFreed lock).raise_eq 9
    rw [if_pos shared]
    refine ⟨?_, fun _ => State.raise_pending _ 9⟩
    rw [raised]
    rfl
  · rw [if_neg shared]
    exact ⟨rfl, fun h => absurd h shared⟩

end Locks

/-! ### The obligation -/

/-- Settles O49: a capture by what its selector gives, an indirect access by its first failing check, a lock by who holds it. -/
theorem mailboxAndIndirect : Obligations.MailboxAndIndirect := by
  intro s v write lock tag sel r done failed
  refine ⟨execMailboxCaptureDone_idle, fun busy => ⟨fun ok => ?_, execMailboxCaptureDone_fails busy, fun unknown => ?_,
      fun slot outside => ?_⟩, fun hb => ⟨fun e he => ?_, fun he hl => ?_, fun he => ?_, ?_, execSupAccessTimeout_logged hb write⟩,
    fun hlock ha => ⟨fun hl => ⟨_, execManagementLockAccess_takes hlock ha hl, rfl⟩, execManagementLockAccess_frees hlock ha,
      fun l hl => ⟨execManagementLockAccess_taken hlock ha hl, execManagementLockAccess_notHolder hlock ha hl⟩⟩⟩
  · refine ⟨_, execMailboxCaptureDone_busy busy, ?_⟩
    rw [State.captured_value (s := s.mailboxValue.1) (c := s.mailboxValue.2) ok]
    exact ⟨rfl, rfl, rfl, congrArg (fun g => (g + 1) % 256) (s.capture_mbxGen _ _), rfl⟩
  · exact execMailboxCaptureDone_error busy (by decide) (by rw [State.mailboxValue, unknown, State.capture_unknown])
  · exact execMailboxCaptureDone_error busy (by decide) (by rw [State.mailboxValue, slot, State.capture_slotOutside outside])
  · refine ⟨⟨_, (execIndDataRead_barsUp hb).trans (congrArg _ (State.indRead_fault he)), ?_⟩,
      ⟨_, (execIndDataWrite_barsUp hb v).trans (congrArg _ (State.indWrite_fault he _)), ?_⟩⟩
    · exact ⟨⟨rfl, rfl, rfl, rfl⟩, rfl⟩
    · exact ⟨⟨rfl, rfl, rfl, rfl⟩, rfl⟩
  · refine ⟨_, (execIndDataRead_barsUp hb).trans (congrArg _ (State.indRead_done he hl)), State.indAdvance_indData _,
      fun off => ?_, fun on => State.indAdvance_address (s := s.indLatched) on⟩
    rw [State.indAdvance_off (s := s.indLatched) off]
    rfl
  · exact (execIndDataWrite_barsUp hb v).trans (congrArg _ (State.indWrite_done he _))
  · refine ⟨_, execIndNoAnswer_barsUp hb write, ⟨rfl, rfl, rfl, rfl⟩, ?_⟩
    cases write <;> rfl

end Sys2Proof.Machine
end
